-- ==== Sys2Proof/Word.lean ====
section
/-!
DEFINITION. The word types of the XD-7262 (R9, R10): a byte, a 32-bit register, a 64-bit quantity and a byte string.
Everything the spec treats as a number rather than as bits (counts, indices, coordinates, exact arithmetic) is a
`Nat` or an `Int` in the other files.
-/

namespace Sys2Proof

/-- One byte. -/
abbrev Byte := BitVec 8

/-- One register of R19. -/
abbrev Word := BitVec 32

/-- A 64-bit quantity of R21. -/
abbrev Dword := BitVec 64

/-- A byte string, first byte first. -/
abbrev Bytes := List Byte

end Sys2Proof
end

