-- ==== Sys2Proof/Syntax.lean ====
section
/-!
DEFINITION. The commands of the block: one constructor of `Instr` per row of spec/opcode_table.json, with the data
that reaches the module from outside as operands. Units and registers are `Fin`, so that an operand names a unit the
module has (R6). An engine number e below 144 is raster engine e, and 144 + n is correction engine n.
-/

namespace Sys2Proof

/-- The two passes of a stripe: the forage pass and the write (R30, R139). -/
inductive Pass where
  | forage
  | write
  deriving DecidableEq, Repr

/-- Why the pager reads a page (R88). -/
inductive FetchClass where
  | demandWrite
  | demandForage
  | listPrefetch
  | indexPrefetch
  deriving DecidableEq, Repr

/-- Where a record stands: the page in which it begins and its offset in that page's content (R80). -/
structure RecPos where
  page : Nat
  off : Nat
  deriving DecidableEq, Repr

/-- What the bellows' code reports of a read (R339): no error, a corrected one, or an uncorrectable one. For a gather
the uncorrectable read names its tile. -/
inductive Ecc where
  | clean
  | corrected (stack : Fin 4)
  | uncorrectable (col seg : Nat)
  deriving DecidableEq, Repr

/-- What the hardware around an engine reports of it (R255, R256, R263): its task exceeds `CMB.TASK_LIMIT`, a part fault of
its instruction memory, local memory or handshakes, or a corrected local-memory error. -/
inductive EngFault where
  | watchdog
  | imemParity
  | localEcc
  | fabric
  | eccCorrected
  deriving DecidableEq, Repr

/-- A report about one engine (R255, R256, R263). -/
structure EngReport where
  eng : Fin 148
  how : EngFault
  deriving DecidableEq, Repr

/-- A command entry as the module reads it (R287): its bytes, and byte 3, TARGET, of the program image that a LOAD_TABLE
entry names, which intake checks (R292); any value with other entries. -/
structure EntryRead where
  bytes : Bytes
  target : Byte
  deriving DecidableEq, Repr

/-- A BAR0 read of `len` bytes from `off` (R19). -/
structure BarRead where
  off : BitVec 24
  len : Nat
  deriving DecidableEq, Repr

/-- How a due refresh is handled (R327): issued, postponed for a waiting class 2 request, or pulled in while idle. -/
inductive RefreshKind where
  | issued
  | postponed
  | pulledIn
  deriving DecidableEq, Repr

/-- One line of a channel that an error concerns: its DRAM address, its subchannel and the class of its request. -/
structure LineRef where
  addr : Nat
  subB : Bool
  cls : Nat
  deriving DecidableEq, Repr

/-- The axis registers that AXIS_CTL_WRITE writes (R190). -/
inductive AxisReg where
  | ctl
  | indexExpect
  | indexPeriod
  | indexTol
  | standstill
  deriving DecidableEq, Repr

/-- Whether an SMBus transaction carries a packet error code and whether it is right (R375). -/
inductive Pec where
  | absent
  | good
  | bad
  deriving DecidableEq, Repr

/-- One sweep of one byte lane at training (R324): the points (v, d) that failed; every other point passed. -/
structure Sweep where
  ch : Fin 16
  lane : Fin 10
  write : Bool
  failed : List (Nat × Nat)
  deriving DecidableEq, Repr

/-- What the outside of the digital logic decides at a start: the training sweeps (lanes not listed pass at every
point), the test signatures of engines that do not give the expected one, how many of the newest journal records are
torn, and the hits of the TDC code-density test. -/
structure Start where
  sweeps : List Sweep
  signatures : List (Fin 148 × Word)
  torn : Nat
  tdcHits : List Nat
  deriving DecidableEq, Repr

/-- What a self-calibration measured: the hits of the 320 TDC taps (R419), or the five reference diodes and the 48
sensor counts (R420). -/
inductive CalResult where
  | tdc (hits : List Nat)
  | sensors (diodes : List Int) (counts : List Nat)
  deriving DecidableEq, Repr

/-- A received Announce message: its transport, 0 Layer 2 and 1 UDP/IPv4, and the fields the best master clock algorithm
compares (R368). -/
structure Announce where
  transport : Nat
  domain : Nat
  sdoId : Nat
  source : Dword
  port : Nat
  priority1 : Nat
  clockClass : Nat
  accuracy : Nat
  variance : Nat
  priority2 : Nat
  grandmaster : Dword
  steps : Nat
  deriving DecidableEq, Repr

/-- A received Sync message, with the error in nanoseconds of the receive stamp that the MAC takes (R368, R369). -/
structure SyncMsg where
  transport : Nat
  domain : Nat
  sdoId : Nat
  source : Dword
  port : Nat
  seq : Nat
  twoStep : Bool
  logInterval : Int
  err : Int
  correction : Int
  deriving DecidableEq, Repr

/-- A received Follow_Up message (R370). -/
structure FollowUp where
  transport : Nat
  domain : Nat
  sdoId : Nat
  source : Dword
  port : Nat
  seq : Nat
  origin : Nat
  correction : Int
  deriving DecidableEq, Repr

/-- A received Delay_Resp message (R370). -/
structure DelayResp where
  transport : Nat
  domain : Nat
  sdoId : Nat
  source : Dword
  port : Nat
  seq : Nat
  receive : Nat
  correction : Int
  logInterval : Int
  deriving DecidableEq, Repr

/-- A BAR4 or configuration access (R351, R353): a write of a register of the MSI-X table by its offset, of the function mask
and enable bits of the MSI-X capability, or of the Completion Timeout Value; a read of a word of BAR4 by its offset. -/
inductive Bar4 where
  | table (off : BitVec 14) (v : Word)
  | control (mask enable : Bool)
  | timeout (v : BitVec 4)
  | read (off : BitVec 14)
  deriving DecidableEq, Repr

/-- The commands of the block, one per row of the table of operations. -/
inductive Instr where
  /-- POWER_ON (R358). VIN rises through 4.5 V and everything but the journal, NOR flash, calibration records and guarded store starts afresh, with measured start, training, self-tests and R313 outcomes. -/
  | powerOn (i : Start)
  /-- READY (R359). READY rises once start or module reset has finished, and the module begins to read command entries. -/
  | ready
  /-- SEATED_CLOSE (R440). SEATED_N stays closed for 5 ms, so VIN counts as reached and AON starts. -/
  | seatedClose
  /-- BULK_CHARGED (R441). The bulk capacitance reaches 95 % of VIN and the main converters start. -/
  | bulkCharged
  /-- REMOVAL (R442). SEATED_N opens for more than 20 µs, and every domain but AON switches off as a loss of VIN. -/
  | removal
  /-- AON_STOP (R442). The hold-up after a removal ends and AON stops. -/
  | aonStop
  /-- VIN_LOW (R415). VIN stays below 4.5 V for more than 20 µs, so WARN is set and event 252 is raised. -/
  | vinLow
  /-- VIN_LOSS (R415). VIN stays below 4.3 V or above 18.9 V for more than 20 µs, and the module switches off as a loss of VIN. -/
  | vinLoss
  /-- GLB_RESET (R359). A write of KEY to GLB.RESET requests a module reset, which first halts and drains any write and journals outcomes. -/
  | glbReset (v : Word)
  /-- MODULE_RESET_PROCEED (R312). Once the drain and the FINAL records are done, the module reset resets every domain but AON and trains memory again. -/
  | moduleResetProceed (i : Start)
  /-- FUNCTION_RESET (R360). A Function Level Reset, PERST#, hot reset or link down resets HIF and stored BAR0 fields, disables the rings and keeps every accepted command running. -/
  | functionReset
  /-- QUAD_RESET (R358). A write of QUAD to HIF.DOMAIN_RESET resets the units of a quadrant die, which halts any write. -/
  | quadReset (v : Word)
  /-- DOMAIN_RESET (R358). A write of DOM_EN to HIF.DOMAIN_RESET resets one allowed domain. -/
  | domainReset (v : Word)
  /-- DOMAIN_POWER_DOWN (R363). Clearing a domain's bit in HIF.PD_CTL is refused or pauses the affected DMA channels ahead of switch-off. -/
  | domainPowerDown (d : Fin 64)
  /-- DOMAIN_OFF (R363). Every affected channel is PAUSED or HALTED_POWER (and a memory group is in self-refresh), so the domain switches off. -/
  | domainOff (d : Fin 64)
  /-- DOMAIN_POWER_UP (R364). Setting a domain's bit in HIF.PD_CTL powers it within 1 ms, and its units resume as R364 states. -/
  | domainPowerUp (d : Fin 64) (i : Start)
  /-- HOST_LINK_UP (R356). The PCIe link comes up at the data link layer. -/
  | hostLinkUp (gen width : Nat)
  /-- HOST_LINK_DOWN (R356). The PCIe link is lost, the host becomes unreachable and a function reset follows. -/
  | hostLinkDown
  /-- REACHABILITY_CHANGE (R356). A change of Bus Master Enable or power state makes the host reachable or unreachable. -/
  | reachabilityChange (bme d0 : Bool)
  /-- HOST_COMPLETION_ERROR (R357). A read of host memory ends in an error and is handled according to its channel. -/
  | hostCompletionError (c : Fin 16)
  /-- TABLE_LOAD_REREAD (R357). Two microseconds after a host completion error, a table load is read again, and a second error gives PART_FAULT. -/
  | tableLoadReread (err : Bool)
  /-- CMD_RING_REREAD (R357). Every 1 ms after a host completion error, the command ring entry is read again. -/
  | cmdRingReread (entry : Option EntryRead)
  /-- BAR2_READ (R352). A BAR2 read is served from module DRAM in class 6, or answered with Unsupported Request. -/
  | bar2Read (off len : Nat)
  /-- BAR2_WRITE (R321). A BAR2 write reaches DRAM, or is dropped while a job is open or out of range. -/
  | bar2Write (off : Nat) (data : Bytes)
  /-- REGISTER_WRITE (R18). A BAR0 write to a register with no behaviour of its own sets fields according to their access codes and range rules. -/
  | registerWrite (off : BitVec 24) (v : Word)
  /-- LATCHING_READ (R21). A read of the low half of a 64-bit quantity latches the high half. A BAR0 read of any register is this command, of any size (R19). -/
  | latchingRead (r : BarRead)
  /-- GUARDED_WRITE_REFUSED (R399). A BAR0 write to an RWG field changes nothing, is counted and raises event 240. -/
  | guardedWriteRefused (off : BitVec 24) (v : Word)
  /-- CMD_TAIL_DOORBELL (R285). A write of JOB.CMD_TAIL hands command entries to the module, or is rejected as INDEX_RANGE. -/
  | cmdTailDoorbell (v : Word)
  /-- CPL_HEAD_WRITE (R286). A write of JOB.CPL_HEAD returns completion entries to the module, or is rejected as INDEX_RANGE. -/
  | cplHeadWrite (v : Word)
  /-- CMD_ENABLE (R284). Setting CMD_ENABLE samples the ring's base and size and zeroes its indices, or records a ring error. -/
  | cmdEnable
  /-- CPL_ENABLE (R284). Setting CPL_ENABLE samples the ring's base and size, zeroes its indices and restarts PHASE at 1. -/
  | cplEnable
  /-- RESTART (R287). A write of RESTART resumes reading a stopped command ring at its head. -/
  | restart
  /-- STOP (R302). A write of JOB.CTL.STOP halts the executing write at the next flash boundary with cause HOST_STOP. -/
  | stop
  /-- COMMAND_ENTRY_READ (R287). The module reads a command entry and compares its SEQ with NEXT_SEQ. -/
  | commandEntryRead (entry : EntryRead)
  /-- CMD_RETRY (R287). Two microseconds after a SEQ mismatch the entry is read again, and is then taken, refused as a duplicate, or stops the ring. -/
  | cmdRetry (entry : EntryRead)
  /-- CPL_POST (R288). Once the completion ring has room, the module writes a completion entry and advances the tail. -/
  | cplPost
  /-- JOB_OPEN (R86). The command opens a job after checking the frame pool and the DRAM regions. -/
  | jobOpen
  /-- JOB_CLOSE (R296). The command makes the job CLOSING, waits for earlier final completions, then frees frames and slots and closes the job. -/
  | jobClose
  /-- LOAD_TABLE_KERNEL (R142). LOAD_TABLE of a kernel table checks it and makes it pending or rejects it. -/
  | loadTableKernel (table : Bytes)
  /-- LOAD_TABLE_FIELD (R143). LOAD_TABLE of a field density table checks it and makes it pending or rejects it. -/
  | loadTableField (table : Bytes)
  /-- LOAD_TABLE_BEAM (R172). LOAD_TABLE of a beam table checks it against layout and plausibility limits and makes it pending. -/
  | loadTableBeam (table : Bytes)
  /-- LOAD_TABLE_MASK (R172). LOAD_TABLE of a dead-beam mask checks it against SUBST_LIMIT and DEAD_MAX and makes it pending. -/
  | loadTableMask (table : Bytes)
  /-- LOAD_TABLE_WEIGHT (R172). LOAD_TABLE of a slot weight table checks it by R167 and makes it pending. -/
  | loadTableWeight (table : Bytes)
  /-- LOAD_TABLE_RASTER_PROGRAM (R249). LOAD_TABLE of a raster engine program decodes every word and makes it pending or rejects it. -/
  | loadTableRasterProgram (table : Bytes)
  /-- LOAD_TABLE_CORRECTION_PROGRAM (R249). LOAD_TABLE of a correction engine program decodes every word and makes it pending or rejects it. -/
  | loadTableCorrectionProgram (table : Bytes)
  /-- LOAD_TABLE_LINK_EQ (R422). LOAD_TABLE of a link equalization set checks it against its limits and makes it pending. -/
  | loadTableLinkEq (table : Bytes)
  /-- BIND_STREAM (R82). The command copies and checks the directory, records the binding digest and replaces any earlier binding. -/
  | bindStream (pages cells : Bytes)
  /-- FORAGE_STRIPE (R139). The command is accepted and claims a forage slot, to render a stripe without exposure. -/
  | forageStripe
  /-- FORAGE_START (R297). A forage begins to execute, checks its binding and domains, takes pending tables into force and starts its sweeps. -/
  | forageStart
  /-- FORAGE_END (R303). A forage pass ends with its signatures, costs, density map and page list stored and its final completion journalled. -/
  | forageEnd
  /-- WRITE_STRIPE (R294). The command is accepted after earlier forages end and its speed plan and page list budgets are checked. -/
  | writeStripe
  /-- RESUME_STRIPE (R315). The command is accepted to expose a halted stripe again from a named frontier. -/
  | resumeStripe
  /-- STRIPE_BOUNDARY (R298). A write leaves the wait queue, takes pending tables into force and runs the boundary checks, journals STRIPE_START, or is refused. -/
  | stripeBoundary
  /-- CALIBRATE_TDC (R419). CALIBRATE target 1 runs a code-density test of the TDC delay line, or waits for or is refused by a write. -/
  | calibrateTdc
  /-- CALIBRATE_SENSORS (R420). CALIBRATE target 2 trims the temperature sensors against each die's reference diode. -/
  | calibrateSensors
  /-- CALIBRATION_END (R417). A self-calibration ends, and its new set takes over or is rejected. -/
  | calibrationEnd (r : CalResult)
  /-- SELF_TEST (R261). The command starts self-tests of the named engines, or refuses them or waits for the write when they cannot be spared. -/
  | selfTest
  /-- SELF_TEST_END (R260). An engine's test ends, and its signature clears or sets the failed mark. -/
  | selfTestEnd (e : Fin 148) (sig : Word)
  /-- FENCE (R293). The command completes OK once every earlier accepted command has its final completion. -/
  | fence
  /-- SET_GUARDED_PROPOSE (R402). SET_GUARDED with SUB 1 checks a signed proposal and opens it with a window. -/
  | setGuardedPropose (block : Bytes)
  /-- SET_GUARDED_APPROVE (R403). SET_GUARDED with SUB 2 carries an approval that applies the open proposal. -/
  | setGuardedApprove (block : Bytes)
  /-- SET_GUARDED_REJECT (R403). SET_GUARDED with SUB 3 carries a rejection that closes the open proposal. -/
  | setGuardedReject (block : Bytes)
  /-- SET_GUARDED_WITHDRAW (R403). SET_GUARDED with SUB 4 withdraws the open proposal under the host principal's signature. -/
  | setGuardedWithdraw (block : Bytes)
  /-- FIRMWARE_WRITE_END (R401). The firmware image has been written, read back and verified, or the command ends with PART_FAULT. -/
  | firmwareWriteEnd (readBack : Bool)
  /-- PROPOSAL_WINDOW_END (R403). A proposal's window expires, and it closes with REFUSED_AUTH code EXPIRED. -/
  | proposalWindowEnd
  /-- DMA_TAIL_DOORBELL (R306). A write of DMA.TAIL hands descriptors to channels 13 to 15. -/
  | dmaTailDoorbell (c : Fin 3) (v : Word)
  /-- DMA_DESCRIPTOR (R306). A channel takes a descriptor, checks alignment and range, and starts the transfer or stops with an error. -/
  | dmaDescriptor (c : Fin 3) (desc : Bytes)
  /-- DMA_TRANSFER_END (R355). A transfer ends, the head advances and event 16 may be raised. -/
  | dmaTransferEnd (c : Fin 3) (data : Bytes)
  /-- DMA_RESTART (R306). A write of DMA.CTL.RESTART resumes a stopped or HALTED_POWER channel at its head. -/
  | dmaRestart (c : Fin 3)
  /-- DMA_PAUSE (R307). Setting or clearing DMA.CTL.PAUSE pauses the channel after its issued reads, or continues it. -/
  | dmaPause (c : Fin 16) (on : Bool)
  /-- DMA_PAUSED (R307). A pausing channel completes its issued reads and enters PAUSED with an exact byte count. -/
  | dmaPaused (c : Fin 16) (bytes : Nat)
  /-- HALTED_POWER (R307). A power-down pause has not drained within 10 ms, so the channel enters HALTED_POWER and its command completes with PART_FAULT. -/
  | haltedPower (c : Fin 16) (bytes : Nat)
  /-- PAGE_FETCH (R88). The pager issues a read of a page image in the demand, list-prefetch or index-prefetch class. -/
  | pageFetch (page : Nat) (cls : FetchClass)
  /-- PAGE_FETCH_DONE (R90). A page image has arrived and is checked, and is made RESIDENT or scheduled for a second read. -/
  | pageFetchDone (page : Nat) (image : Bytes)
  /-- PAGE_RETRY (R90). Two microseconds after a failed check, the page is read again, and a second failure marks it BAD. -/
  | pageRetry (page : Nat) (image : Bytes)
  /-- PAGE_DECODE (R97). A decompressor rechecks a page in its frame and decodes its blocks and tokens, restoring or saving states. -/
  | pageDecode (d : Fin 4) (p : Pass) (page : Nat)
  /-- NOP_RECORD (R63). The expansion unit takes a NOP record. -/
  | nopRecord (p : Pass) (pos : RecPos) (ops : Bytes)
  /-- STREAM_HEADER (R64). The STREAM_HEADER record sets the version, polarity and top cell. -/
  | streamHeader (p : Pass) (pos : RecPos) (ops : Bytes)
  /-- STREAM_END (R65). The STREAM_END record ends the stream and checks the cell count. -/
  | streamEnd (p : Pass) (pos : RecPos) (ops : Bytes)
  /-- CELL_BEGIN (R70). The CELL_BEGIN record opens a cell definition with its declared box. -/
  | cellBegin (p : Pass) (pos : RecPos) (ops : Bytes)
  /-- CELL_END (R69). The CELL_END record defines the cell and checks its depth against the index. -/
  | cellEnd (p : Pass) (pos : RecPos) (ops : Bytes)
  /-- RECT (R67). The RECT record adds a rectangle at its anchor. -/
  | rect (p : Pass) (pos : RecPos) (ops : Bytes)
  /-- RECT_SAME (R75). The RECT_SAME record adds a rectangle of the last RECT's size. -/
  | rectSame (p : Pass) (pos : RecPos) (ops : Bytes)
  /-- TRAP_H (R75). The TRAP_H record adds a horizontal trapezoid. -/
  | trapH (p : Pass) (pos : RecPos) (ops : Bytes)
  /-- TRAP_V (R75). The TRAP_V record adds a vertical trapezoid. -/
  | trapV (p : Pass) (pos : RecPos) (ops : Bytes)
  /-- POLY (R67). The POLY record adds a polygon of coded vertices. -/
  | poly (p : Pass) (pos : RecPos) (ops : Bytes)
  /-- POLY_M (R76). The POLY_M record adds a Manhattan polygon. -/
  | polyM (p : Pass) (pos : RecPos) (ops : Bytes)
  /-- CURVE (R78). The CURVE record adds a boundary of lines and monotone rational quadratic arcs. -/
  | curve (p : Pass) (pos : RecPos) (ops : Bytes)
  /-- SREF (R73). The SREF record places one copy of a defined cell. -/
  | sref (p : Pass) (pos : RecPos) (ops : Bytes)
  /-- AREF (R73). The AREF record places an array of copies of a defined cell. -/
  | aref (p : Pass) (pos : RecPos) (ops : Bytes)
  /-- TILE_LIST_DONE (R109). A tile list has been written in full and is handed to a comb scheduler as a task. -/
  | tileListDone (p : Pass) (col seg : Int)
  /-- TASK_ASSIGN (R253). The dispatcher and comb scheduler hand a waiting task to an idle working engine. -/
  | taskAssign
  /-- TILE_CHECK (R32). The bellows controller reads a finished tile, compares its write signature with the forage signature, and releases it or orders a second render or a halt. -/
  | tileCheck (col seg : Nat) (ecc : Ecc)
  /-- TASK_WATCHDOG (R255). A task is held longer than CMB.TASK_LIMIT, which is fault WATCHDOG of that engine. -/
  | taskWatchdog (r : EngReport)
  /-- ENG_RESET (R259). A write of ENG.CTL.RESET resets an engine and fails its task back. -/
  | engReset (e : Fin 148)
  /-- ENG_OFFLINE (R259). A write of ENG.CTL.OFFLINE keeps the engine idle after its task, or lets it take tasks again. -/
  | engOffline (e : Fin 148) (on : Bool)
  /-- COMB_RESET (R259). A write of CMB.CTL.RESET resets a comb scheduler and its 12 engines. -/
  | combReset (c : Fin 12)
  /-- CE_BLOCK_ASSIGN (R154). The hub assigns a block of level-0 cell rows, or a start-of-pass task, to a correction engine. -/
  | ceBlockAssign (p : Pass)
  /-- HIVE_FILL_INSTALL (R346). A filled bracket raster is compressed, written to the log and installed in its bucket, or abandoned or discarded. -/
  | hiveFillInstall
  /-- HIVE_FLUSH (R347). A write of BEL.HIVE_CTL.FLUSH flushes the hive cache. -/
  | hiveFlush
  /-- NOP (R266). The engine executes the word 0, which does nothing. -/
  | kNop (e : Fin 148)
  /-- ADD (R270). Scalar add. -/
  | kAdd (e : Fin 148) (d a b : Fin 32)
  /-- SUB (R270). Scalar subtract. -/
  | kSub (e : Fin 148) (d a b : Fin 32)
  /-- AND (R270). Scalar bitwise and. -/
  | kAnd (e : Fin 148) (d a b : Fin 32)
  /-- OR (R270). Scalar bitwise or. -/
  | kOr (e : Fin 148) (d a b : Fin 32)
  /-- XOR (R270). Scalar bitwise exclusive or. -/
  | kXor (e : Fin 148) (d a b : Fin 32)
  /-- SHL (R270). Scalar shift left by a register. -/
  | kShl (e : Fin 148) (d a b : Fin 32)
  /-- SHR (R270). Scalar logical right shift by a register. -/
  | kShr (e : Fin 148) (d a b : Fin 32)
  /-- SAR (R270). Scalar arithmetic right shift by a register. -/
  | kSar (e : Fin 148) (d a b : Fin 32)
  /-- MUL (R270). Low 32 bits of a scalar product. -/
  | kMul (e : Fin 148) (d a b : Fin 32)
  /-- MULHU (R270). High 32 bits of an unsigned scalar product. -/
  | kMulhu (e : Fin 148) (d a b : Fin 32)
  /-- SLT (R270). Signed set-less-than. -/
  | kSlt (e : Fin 148) (d a b : Fin 32)
  /-- SLTU (R270). Unsigned set-less-than. -/
  | kSltu (e : Fin 148) (d a b : Fin 32)
  /-- MIN (R270). Signed scalar minimum. -/
  | kMin (e : Fin 148) (d a b : Fin 32)
  /-- MAX (R270). Signed scalar maximum. -/
  | kMax (e : Fin 148) (d a b : Fin 32)
  /-- ADDI (R270). Scalar add of a sign-extended immediate. -/
  | kAddi (e : Fin 148) (d a : Fin 32) (imm : BitVec 16)
  /-- ANDI (R270). Scalar and with a zero-extended immediate. -/
  | kAndi (e : Fin 148) (d a : Fin 32) (imm : BitVec 16)
  /-- ORI (R270). Scalar or with a zero-extended immediate. -/
  | kOri (e : Fin 148) (d a : Fin 32) (imm : BitVec 16)
  /-- XORI (R270). Scalar exclusive or with a zero-extended immediate. -/
  | kXori (e : Fin 148) (d a : Fin 32) (imm : BitVec 16)
  /-- SHLI (R270). Scalar shift left by an immediate. -/
  | kShli (e : Fin 148) (d a n : Fin 32)
  /-- SHRI (R270). Scalar logical right shift by an immediate. -/
  | kShri (e : Fin 148) (d a n : Fin 32)
  /-- SARI (R270). Scalar arithmetic right shift by an immediate. -/
  | kSari (e : Fin 148) (d a n : Fin 32)
  /-- MOVI (R270). Load a sign-extended immediate. -/
  | kMovi (e : Fin 148) (d : Fin 32) (imm : BitVec 16)
  /-- MOVHI (R270). Load an immediate into the high half, keeping the low half. -/
  | kMovhi (e : Fin 148) (d : Fin 32) (imm : BitVec 16)
  /-- SUBI (R270). Scalar subtract of a sign-extended immediate. -/
  | kSubi (e : Fin 148) (d a : Fin 32) (imm : BitVec 16)
  /-- LDW (R272). Load a 4-byte word from local memory. -/
  | kLdw (e : Fin 148) (d a : Fin 32) (imm : BitVec 16)
  /-- STW (R272). Store a 4-byte word to local memory. -/
  | kStw (e : Fin 148) (d a : Fin 32) (imm : BitVec 16)
  /-- LDH (R272). Load a zero-extended 2-byte half-word from local memory. -/
  | kLdh (e : Fin 148) (d a : Fin 32) (imm : BitVec 16)
  /-- STH (R272). Store a 2-byte half-word to local memory. -/
  | kSth (e : Fin 148) (d a : Fin 32) (imm : BitVec 16)
  /-- BEQ (R271). Branch if the two registers are equal. -/
  | kBeq (e : Fin 148) (a b : Fin 32) (off : BitVec 16)
  /-- BNE (R271). Branch if the two registers differ. -/
  | kBne (e : Fin 148) (a b : Fin 32) (off : BitVec 16)
  /-- BLT (R271). Branch if less, signed. -/
  | kBlt (e : Fin 148) (a b : Fin 32) (off : BitVec 16)
  /-- BGE (R271). Branch if greater or equal, signed. -/
  | kBge (e : Fin 148) (a b : Fin 32) (off : BitVec 16)
  /-- BLTU (R271). Branch if less, unsigned. -/
  | kBltu (e : Fin 148) (a b : Fin 32) (off : BitVec 16)
  /-- BGEU (R271). Branch if greater or equal, unsigned. -/
  | kBgeu (e : Fin 148) (a b : Fin 32) (off : BitVec 16)
  /-- JAL (R271). Jump and write the link register. -/
  | kJal (e : Fin 148) (d : Fin 32) (imm : BitVec 16)
  /-- JR (R271). Jump to the word index held in a register. -/
  | kJr (e : Fin 148) (a : Fin 32)
  /-- VLD (R272). Load a vector image into the active lanes. -/
  | kVld (e : Fin 148) (m : Fin 8) (d a : Fin 32) (off : BitVec 13)
  /-- VST (R272). Store the active lanes of a vector. -/
  | kVst (e : Fin 148) (m : Fin 8) (d a : Fin 32) (off : BitVec 13)
  /-- ALD (R272). Load an accumulator image into the active lanes. -/
  | kAld (e : Fin 148) (m d : Fin 8) (a : Fin 32) (off : BitVec 13)
  /-- AST (R272). Store the active lanes of an accumulator. -/
  | kAst (e : Fin 148) (m d : Fin 8) (a : Fin 32) (off : BitVec 13)
  /-- VMOV (R273). Vector move. -/
  | kVmov (e : Fin 148) (m : Fin 8) (d a : Fin 32)
  /-- VADD (R273). Vector add modulo the lane width. -/
  | kVadd (e : Fin 148) (m : Fin 8) (d a b : Fin 32)
  /-- VSUB (R273). Vector subtract modulo the lane width. -/
  | kVsub (e : Fin 148) (m : Fin 8) (d a b : Fin 32)
  /-- VADDS (R273). Saturating vector add. -/
  | kVadds (e : Fin 148) (m : Fin 8) (d a b : Fin 32)
  /-- VSUBS (R273). Saturating vector subtract. -/
  | kVsubs (e : Fin 148) (m : Fin 8) (d a b : Fin 32)
  /-- VMIN (R273). Lane minimum. -/
  | kVmin (e : Fin 148) (m : Fin 8) (d a b : Fin 32)
  /-- VMAX (R273). Lane maximum. -/
  | kVmax (e : Fin 148) (m : Fin 8) (d a b : Fin 32)
  /-- VAND (R273). Lane bitwise and. -/
  | kVand (e : Fin 148) (m : Fin 8) (d a b : Fin 32)
  /-- VOR (R273). Lane bitwise or. -/
  | kVor (e : Fin 148) (m : Fin 8) (d a b : Fin 32)
  /-- VXOR (R273). Lane bitwise exclusive or. -/
  | kVxor (e : Fin 148) (m : Fin 8) (d a b : Fin 32)
  /-- VSHLI (R273). Lane shift left by an immediate. -/
  | kVshli (e : Fin 148) (m : Fin 8) (d a : Fin 32) (n : Fin 24)
  /-- VSHRI (R273). Lane shift right by an immediate. -/
  | kVshri (e : Fin 148) (m : Fin 8) (d a : Fin 32) (n : Fin 24)
  /-- VBC (R273). Broadcast a scalar to the active lanes. -/
  | kVbc (e : Fin 148) (m : Fin 8) (d b : Fin 32)
  /-- VIDX (R273). Write each lane's number into it. -/
  | kVidx (e : Fin 148) (m : Fin 8) (d : Fin 32)
  /-- VGET (R273). Read one vector lane into a scalar register. -/
  | kVget (e : Fin 148) (d a b : Fin 32)
  /-- CLRA (R273). Clear an accumulator. -/
  | kClra (e : Fin 148) (m d : Fin 8)
  /-- AADD (R273). Saturating add of a vector into an accumulator. -/
  | kAadd (e : Fin 148) (m d : Fin 8) (a : Fin 32)
  /-- ASUB (R273). Saturating subtract of a vector from an accumulator. -/
  | kAsub (e : Fin 148) (m d : Fin 8) (a : Fin 32)
  /-- AMAC (R273). Saturating multiply-accumulate of two vectors. -/
  | kAmac (e : Fin 148) (m d : Fin 8) (a b : Fin 32)
  /-- AMACS (R273). Saturating multiply-accumulate of a vector by a signed scalar. -/
  | kAmacs (e : Fin 148) (m d : Fin 8) (a b : Fin 32)
  /-- RSHR (R273). Rounded, saturated right shift from an accumulator to a vector. -/
  | kRshr (e : Fin 148) (m : Fin 8) (d : Fin 32) (a : Fin 8) (n : Fin 32)
  /-- AMOV (R273). Move a vector into an accumulator. -/
  | kAmov (e : Fin 148) (m d : Fin 8) (a : Fin 32)
  /-- AADDA (R273). Saturating add of two accumulators. -/
  | kAadda (e : Fin 148) (m d a b : Fin 8)
  /-- ASHR (R273). Arithmetic right shift of an accumulator. -/
  | kAshr (e : Fin 148) (m d a : Fin 8) (n : Fin 32)
  /-- ABC (R273). Broadcast a signed scalar into an accumulator, saturating. -/
  | kAbc (e : Fin 148) (m d : Fin 8) (b : Fin 32)
  /-- CEQ (R273). Mask of lanes whose vectors are equal. -/
  | kCeq (e : Fin 148) (m d : Fin 8) (a b : Fin 32)
  /-- CLTU (R273). Mask of lanes with a below b, unsigned. -/
  | kCltu (e : Fin 148) (m d : Fin 8) (a b : Fin 32)
  /-- CLEU (R273). Mask of lanes with a at most b, unsigned. -/
  | kCleu (e : Fin 148) (m d : Fin 8) (a b : Fin 32)
  /-- ACLT (R273). Mask of lanes whose accumulators compare less, signed. -/
  | kAclt (e : Fin 148) (m d a b : Fin 8)
  /-- ACEQ (R273). Mask of lanes whose accumulators are equal. -/
  | kAceq (e : Fin 148) (m d a b : Fin 8)
  /-- MAND (R273). Mask and. -/
  | kMand (e : Fin 148) (m d a b : Fin 8)
  /-- MOR (R273). Mask or. -/
  | kMor (e : Fin 148) (m d a b : Fin 8)
  /-- MANDN (R273). Mask and-not. -/
  | kMandn (e : Fin 148) (m d a b : Fin 8)
  /-- MXOR (R273). Mask exclusive or. -/
  | kMxor (e : Fin 148) (m d a b : Fin 8)
  /-- MSAT (R269). Copy the saturation mask into a mask register and clear its active bits. -/
  | kMsat (e : Fin 148) (m d : Fin 8)
  /-- MCOUNT (R273). Count the active lanes that are set in a mask. -/
  | kMcount (e : Fin 148) (m : Fin 8) (d : Fin 32) (a : Fin 8)
  /-- MULSH (R274). Multiply, round-shift and clamp to MAX. -/
  | kMulsh (e : Fin 148) (m : Fin 8) (d a : Fin 32) (b : Fin 8) (sh : Fin 64) (max : BitVec 24)
  /-- LI (R274). Load a 32-bit value held in word 1. -/
  | kLi (e : Fin 148) (d : Fin 32) (value : Word)
  /-- VBCI (R274). Broadcast an immediate value held in word 1. -/
  | kVbci (e : Fin 148) (m : Fin 8) (d : Fin 32) (value : BitVec 24)
  /-- TASK_WAIT (R275). Wait for a task and clear SAT. -/
  | kTaskWait (e : Fin 148)
  /-- TASK_GET (R275). Read a task field. -/
  | kTaskGet (e : Fin 148) (p : Fin 32) (field : Fin 8)
  /-- TASK_DONE (R242). Hand the task back, which applies its counter sums and factors. -/
  | kTaskDone (e : Fin 148)
  /-- IN_ENTRY (R246). Copy the next list entry to local memory, and on a HIVE_OPEN wait for the hive lookup. -/
  | kInEntry (e : Fin 144) (p : Fin 32)
  /-- FACT_LOAD (R241). Load the tile's 16 factors into a register run. -/
  | kFactLoad (e : Fin 144) (p : Fin 17)
  /-- COV_ROW (R242). Read the next row of coverage codes from the coverage store. -/
  | kCovRow (e : Fin 144) (p q : Fin 32)
  /-- OUT_ROW (R242). Send the next row of 256 codes. -/
  | kOutRow (e : Fin 144) (p q : Fin 32)
  /-- HIVE_GET (R277). Add or subtract the next row of the hit bracket rasters. -/
  | kHiveGet (e : Fin 144) (p q : Fin 8)
  /-- HIVE_PUT (R247). Offer a bracket row for hive-cache fill, which is dropped if the buffer is full. -/
  | kHivePut (e : Fin 144) (p q : Fin 8)
  /-- FIP (R276). Form the interpolated factor K for 128 pixels of the current row. -/
  | kFip (e : Fin 144) (p : Fin 8) (q : Fin 17) (half : Bool)
  /-- CNT_ADD (R278). Add a scalar to a counter of the task, applied at TASK.DONE. -/
  | kCntAdd (e : Fin 148) (p : Fin 32) (sel : Fin 3)
  /-- SPAN_CFG (R279). Set the polarity and the top cell's box of the span unit. -/
  | kSpanCfg (e : Fin 144) (p : Fin 28)
  /-- SPAN_ROW (R280). Clear the crossing lists and set the current pixel row. -/
  | kSpanRow (e : Fin 144) (p : Fin 32)
  /-- XE_LINE (R243). Insert the crossings of a straight edge. -/
  | kXeLine (e : Fin 144) (p : Fin 29) (q : Fin 32)
  /-- XE_ARC (R243). Insert the crossings of an arc, or set ARC_BAD. -/
  | kXeArc (e : Fin 144) (p : Fin 26) (q : Fin 32)
  /-- SPAN4 (R279). Resolve the next four scanlines and add each L_k to its column's lane. -/
  | kSpan4 (e : Fin 144) (p q : Fin 8)
  /-- DEN_LD (R281). Load the level-0 densities of a run of cells. -/
  | kDenLd (e : Fin 4) (p : Fin 32) (q : Fin 31)
  /-- FLD_LD (R281). Load field cell densities from the field density table. -/
  | kFldLd (e : Fin 4) (p : Fin 32) (q : Fin 31)
  /-- FAC_ST (R282). Write factors of cells in the window. -/
  | kFacSt (e : Fin 4) (p : Fin 32) (q : Fin 31)
  /-- TAPU (R281). Accumulate a tap along u. -/
  | kTapu (e : Fin 4) (m d : Fin 8) (a : Fin 30) (b : Fin 32) (n : BitVec 6)
  /-- TAPV (R281). Accumulate a tap along v. -/
  | kTapv (e : Fin 4) (m d : Fin 8) (a b : Fin 32)
  /-- REDUCE (R281). Four-cell reduction of step 2 of R147. -/
  | kReduce (e : Fin 4) (m : Fin 8) (d a b : Fin 32) (k : Bool)
  /-- EXPAND (R281). One level of 9-3-3-1 expansion. -/
  | kExpand (e : Fin 4) (m : Fin 8) (d : Fin 32) (a b : Fin 30) (k : Bool)
  /-- KDIV (R281). Rounded, clamped division forming K. -/
  | kKdiv (e : Fin 4) (m : Fin 8) (d : Fin 32) (a : Fin 8) (b c : Fin 32)
  /-- AXIS_EDGE (R185). An active edge on line A or B of an axis updates the count and speed and detects illegal transitions and reversals. -/
  | axisEdge (a : Fin 4) (lineB rising : Bool) (t : Nat) (level once : Bool)
  /-- INDEX_EDGE (R193). An INDEX edge latches count and stamp, is checked against the window, and may re-zero the count or raise a fault. -/
  | indexEdge (a : Fin 4) (rising : Bool)
  /-- STANDSTILL (R191). No edge arrives for STANDSTILL_US, so the speed reading goes stale. -/
  | standstill (a : Fin 4)
  /-- AXIS_COUNT_PRESET (R189). A write of STG.AXIS_COUNT presets the count and sets REFERENCED, or has no effect during a write. -/
  | axisCountPreset (a : Fin 4) (v : Word)
  /-- AXIS_CTL_WRITE (R190). A write of axis settings takes effect at once or at the next stripe boundary. -/
  | axisCtlWrite (a : Fin 4) (r : AxisReg) (v : Word)
  /-- SNAP (R190). A write of STG.SNAP latches the four counts and a time stamp. -/
  | snap
  /-- SLOW_FORCE (R209). A write of SLOW_FORCE asserts STAGE_SLOW_N or releases it. -/
  | slowForce (v : Word)
  /-- SEQ_NOP (R195). The sequencer executes NOP. -/
  | seqNop
  /-- SET_AXES (R195). The sequencer sets the trigger axis and X source. -/
  | setAxes
  /-- SET_INC (R197). The sequencer sets the target increment and trim. -/
  | setInc
  /-- SET_START (R195). The sequencer sets S0, the scan count of flash 0. -/
  | setStart
  /-- SET_XREF (R195). The sequencer sets the X reference count. -/
  | setXref
  /-- ARM (R198). Once the start window, correction start and link are ready, the sequencer checks the stage and asserts EXPOSE_ACTIVE or halts with STAGE_PAST_START. -/
  | arm
  /-- RUN (R195). The sequencer triggers the given number of flashes. -/
  | run
  /-- END (R205). The sequencer ends the stripe and lowers EXPOSE_ACTIVE. -/
  | seqEnd
  /-- FLASH_COMMIT (R200). At the first tick whose prediction reaches the target, the flash is committed, checked and halted or sent with its deflection word and lane frames. -/
  | flashCommit (tau : Nat)
  /-- SLICE_GATHER (R180). A beam map slice forms the slot codes of a flash once flash f − 16 is committed and its tiles are released. -/
  | sliceGather (n : Fin 4) (ecc : Ecc)
  /-- CAPTURE_ARM (R183). A write of ARM to BMU.CAP_CTL arms the capture of one beam over 1 024 flashes. -/
  | captureArm (v : Word)
  /-- TRAIN (R217). A write of TRAIN discards the link state and starts a bring-up of all ports, or is refused during a write. -/
  | train (v : Word)
  /-- BRINGUP_STAGE_LIMIT (R217). A bring-up stage reaches its limit, so lanes are marked absent or the link enters HELD. -/
  | bringupStageLimit
  /-- SPARE (R220). Spares are assigned per port, and the link enters RUNNING or HELD. -/
  | spare
  /-- RETURN_LANE_LOCK (R214). A return lane gains block lock after 64 valid sync headers. -/
  | returnLaneLock (p : Fin 16)
  /-- RETURN_LANE_LOCK_LOSS (R230). A return lane loses block lock, its port stops being counted, and a write halts with LINK_LOST. -/
  | returnLaneLockLoss (p : Fin 16)
  /-- STATUS (R217). A STATUS block reports the outbound lanes the blanker has locked. -/
  | status (p : Fin 16) (lanes : BitVec 24) (stage : Byte)
  /-- CAPS (R218). A CAPS block from the blanker is recorded, and the module chooses and sends RATE or enters HELD. -/
  | caps (p : Fin 16) (caps version : Byte)
  /-- NEGOTIATE_LISTEN_END (R218). Under Profile K, the 1 ms of listening ends and RATE is sent. -/
  | negotiateListenEnd
  /-- ACKNOWLEDGEMENT_FRAME (R229). An acknowledgement frame is checked and taken into A_p, updating the frontier and possibly halting the write or ending the drain. -/
  | acknowledgementFrame (p : Fin 16) (ack detail check : Bytes)
  /-- DRAIN_TIMEOUT (R231). DRAIN_US passes before every counted port has confirmed FINAL, so the drain ends and the frontier stands. -/
  | drainTimeout
  /-- REST (R232). A write of REST, or the end of a drain with AUTO_REST set, sends REST and idles the outbound lanes. -/
  | rest (v : Word)
  /-- WAKE (R233). A write of WAKE, or a stripe boundary finding the link in REST, sends the wake burst. -/
  | wake (v : Word)
  /-- WAKE_LIMIT (R233). Two milliseconds after the burst, unlocked lanes are marked absent and the link enters RUNNING or HELD. -/
  | wakeLimit
  /-- TOOL_REF_LOSS (R449). TOOL_REF is lost, flashes stop and the link enters HELD. -/
  | toolRefLoss
  /-- TOOL_REF_RETURN (R449). TOOL_REF has been within its limits for 10 ms and counts as present again. -/
  | toolRefReturn
  /-- SENSOR_GATE_END (R406). A sensor gate ends, giving readings, validity, substitution and throttle or shutdown decisions. -/
  | sensorGateEnd (counts : List Nat)
  /-- THERMAL_DEMAND_FALL (R410). After 100 ms with every effective reading below 90 °C, the thermal demand falls by one step. -/
  | thermalDemandFall
  /-- POWER_AVERAGE (R410). The 100 ms power average makes the power demand rise or fall. -/
  | powerAverage (p vin iin : Nat)
  /-- THERMAL_RESTART (R413). After 30 s with every valid sensor below 85 °C, the module restarts, or stays latched off after a third shutdown. -/
  | thermalRestart (i : Start)
  /-- REFRESH (R327). A same-bank refresh falls due. -/
  | refresh (c : Fin 16) (bank : Fin 64) (how : RefreshKind)
  /-- REFRESH_RATE_READ (R327). Every 1 ms the controller reads each device's refresh-rate register and sets the refresh interval. -/
  | refreshRateRead (c : Fin 16) (hot : Bool)
  /-- DQS_TRACK (R326). Every 32 ms the DQS oscillators are read and the write delays are moved by at most one step. -/
  | dqsTrack (c : Fin 16) (drift : List Int)
  /-- RAT_CLEAR (R328). Every 32 ms the row-activation tables are cleared and THRESHOLD is sampled. -/
  | ratClear
  /-- ROW_ACTIVATION (R328). A row activation updates its table, and at THRESHOLD a directed refresh is issued. -/
  | rowActivation (c : Fin 16) (bank : Fin 64) (row : Fin 131072)
  /-- PATROL_SCRUB (R332). The patrol scrub reads lines and corrects them, or freezes the channel. -/
  | patrolScrub (c : Fin 16) (corrected : Nat) (bad : Option LineRef)
  /-- WRITE_CRC_ERROR (R330). A device signals a write CRC error, and the write is retried or the channel freezes. -/
  | writeCrcError (c : Fin 16) (line : LineRef) (again : Bool)
  /-- CA_PARITY_ERROR (R330). A command/address parity error freezes the channel. -/
  | caParityError (c : Fin 16) (line : LineRef)
  /-- DRAM_READ_ERROR (R329). A DRAM read is corrected and written back, or is uncorrectable and freezes the channel. -/
  | dramReadError (c : Fin 16) (line : LineRef) (correctable : Bool)
  /-- SR_IDLE_ENTRY (R333). With no job open, IDLE_US passes without a request and the group begins self-refresh entry. -/
  | srIdleEntry (g : Fin 4)
  /-- SR_ENTRY_COMPLETE (R333). Self-refresh entry completes, and a waiting request triggers an automatic exit. -/
  | srEntryComplete (g : Fin 4) (request : Bool)
  /-- SR_EXIT_COMPLETE (R333). Self-refresh exit completes and the waiting requests are served: `extraNs` gives the extra latency of each, in their order. -/
  | srExitComplete (g : Fin 4) (extraNs : List Nat)
  /-- CRC_START (R382). A write of START resets a unit's running value and absorbs the context word. -/
  | crcStart (u : Fin 8) (v : Word)
  /-- CRC_FEED_B (R383). A write of CRC.FEED_B absorbs one byte. -/
  | crcFeedB (u : Fin 8) (v : Word)
  /-- CRC_FEED_H (R383). A write of CRC.FEED_H absorbs two bytes. -/
  | crcFeedH (u : Fin 8) (v : Word)
  /-- CRC_FEED_W (R383). A write of CRC.FEED_W absorbs four bytes. -/
  | crcFeedW (u : Fin 8) (v : Word)
  /-- CRC_STATE_WRITE (R385). A write of CRC.STATE replaces the running value. -/
  | crcStateWrite (u : Fin 8) (v : Word)
  /-- CRC_COMPARE (R386). A write of COMPARE compares RESULT with EXPECT and sets MATCH or MISMATCH. -/
  | crcCompare (u : Fin 8) (v : Word)
  /-- DRAM_GO (R387). A write of DRAM_GO starts absorbing a range of module DRAM. -/
  | dramGo (u : Fin 8) (v : Word)
  /-- DRAM_FEED_END (R388). A DRAM feed ends or is stopped, and compares when AUTO is set. -/
  | dramFeedEnd (u : Fin 8) (absorbed : Nat) (memFail : Bool)
  /-- QUOTE_GO (R396). A write of SEC.QUOTE_CTL.GO requests a signed quote over the host link. -/
  | quoteGo
  /-- QUOTE_DONE (R396). The security block finishes a quote and clears BUSY or sends QUOTE_RESP. -/
  | quoteDone
  /-- EXTEND_GO (R391). A write of SEC.EXTEND_CTL.GO extends M7 with the EXTEND registers. -/
  | extendGo
  /-- CAL_COPY_GO (R416). A write of CAL.COPY_CTL.GO copies a last good set into module DRAM. -/
  | calCopyGo
  /-- QUOTE_REQ (R396). A maintenance QUOTE_REQ datagram queues a quote request. -/
  | quoteReq (tag : Word) (source : Dword) (nonce : Bytes)
  /-- NOTICE_REQ (R403). A NOTICE_REQ datagram is answered with the open proposal's NOTICE. -/
  | noticeReq (tag : Word) (source : Dword)
  /-- DECISION (R403). A DECISION datagram carries an approval or rejection, which is verified and acknowledged. -/
  | decision (tag : Word) (source : Dword) (body : Bytes)
  /-- CERT_REQ (R396). A CERT_REQ datagram is answered with part of the device certificate. -/
  | certReq (tag : Word) (source : Dword) (off : BitVec 16)
  /-- ANNOUNCE (R371). A PTP Announce message feeds master selection. -/
  | announce (m : Announce)
  /-- SYNC (R370). A two-step PTP Sync message is time-stamped, or a one-step Sync is ignored. -/
  | sync (m : SyncMsg)
  /-- FOLLOW_UP (R370). A Follow_Up completes an exchange, and the servo updates offset, delay, RATE and its state. -/
  | followUp (m : FollowUp)
  /-- DELAY_RESP (R370). A Delay_Resp supplies t4 for the path delay. -/
  | delayResp (m : DelayResp)
  /-- DELAY_REQ (R368). The Delay_Req interval expires and a Delay_Req is sent and time-stamped, with an error in nanoseconds. -/
  | delayReq (err : Int)
  /-- ANNOUNCE_TIMEOUT (R371). The Announce receipt timeout passes with no other master, so the servo enters HOLDOVER. -/
  | announceTimeout
  /-- SYNC_TIMEOUT (R371). Eight Sync intervals pass without a Sync, so the servo enters HOLDOVER. -/
  | syncTimeout
  /-- ACCEPT (R371). A write of ACCEPT to TIM.TIME_CMD takes the pending step in SUSPECT. -/
  | accept
  /-- SET (R372). A write of SET to TIM.TIME_CMD loads the module time while the servo is DISABLED. -/
  | timSet
  /-- PTP_CTL_WRITE (R371). A write of TIM.PTP_CTL enables, disables or restarts the servo. -/
  | ptpCtlWrite (v : Word)
  /-- TIME_WRAP (R366). NS64 crosses a multiple of 2^32. -/
  | timeWrap
  /-- ARP_REQUEST (R373). An ARP request for the management address is answered. -/
  | arpRequest (target : Word) (source : Dword)
  /-- ICMP_ECHO (R373). An ICMP echo request to the management address is answered. -/
  | icmpEcho (target : Word) (source : Dword) (payload : Bytes)
  /-- MGMT_LINK_CHANGE (R373). The management port link goes up or down. -/
  | mgmtLinkChange (speed : Fin 3)
  /-- SMB_STATUS (R375). SMBus command 0x01 returns module status. -/
  | smbStatus (pec : Pec)
  /-- SMB_VIN (R375). SMBus command 0x02 returns the input voltage. -/
  | smbVin (pec : Pec)
  /-- SMB_POWER (R375). SMBus command 0x03 returns the input power. -/
  | smbPower (pec : Pec)
  /-- SMB_TEMP_MAX (R375). SMBus command 0x04 returns the hottest valid reading. -/
  | smbTempMax (pec : Pec)
  /-- SMB_RESET_REQ (R375). SMBus command 0x10 with a correct packet error code starts a module reset. -/
  | smbResetReq (v : BitVec 16) (pec : Pec)
  /-- SMB_FRU_READ (R375). SMBus command 0x20 reads FRU data. -/
  | smbFruRead (off : BitVec 16) (len : Nat) (pec : Pec)
  /-- EVT_RING_ENABLE (R426). Setting EVT.RING_CTL.ENABLE samples the event ring and zeroes its indices, or sets ERROR. -/
  | evtRingEnable
  /-- EVT_RING_HEAD_WRITE (R426). A write of EVT.RING_HEAD returns event entries. -/
  | evtRingHeadWrite (v : Word)
  /-- EVT_TEST (R431). A write of EVT.TEST raises a used source with TEST set. -/
  | evtTest (v : Word)
  /-- EVENT_ENTRY_WRITE (R429). A held event entry is written to the ring once there is room and the host is reachable. -/
  | eventEntryWrite
  /-- MSIX_MESSAGE (R430). A vector's MSI-X message is sent after its entries, when the moderation gap ends. -/
  | msixMessage (vec : Fin 64)
  /-- DISCARDED_BLOCK (R216). A return lane receives an invalid sync header or a control block of undefined type or with a non-zero unused byte, which is discarded and counted in CNT_SYNC_ERR. -/
  | discardedBlock (p : Fin 16)
  /-- PERST_DEASSERTED (R358). The host deasserts PERST#, and HIF begins link training within 20 ms. -/
  | perstDeasserted
  /-- BAR4_WRITE (R353). A write to the MSI-X table or its function or per-vector mask, which by the PCI Express rules sends a pending message when a vector is unmasked. -/
  | bar4Write (w : Bar4)
  /-- CAL_COPY_END (R416). A copy of a last good set into module DRAM ends within 10 ms and BUSY in CAL.COPY_CTL clears. -/
  | calCopyEnd
  /-- VIN_RESTORED (R415). VIN rises back to 4.5 V or above after a low spell, and WARN in THM.STATUS clears. -/
  | vinRestored
  /-- BAD_MAINTENANCE_DATAGRAM (R374). A datagram on the maintenance port with a wrong head or length is dropped and counted in SEC.CNT_MAINT_BAD. -/
  | badMaintenanceDatagram  deriving DecidableEq, Repr

end Sys2Proof
end

