-- ==== Sys2Proof/Machine/Bits.lean ====
section
/-!
DEFINITION. Byte-order, bit-field and integer helpers (R9, R10, R12) and the one sparse map every addressed store of
the state uses: a list of (address, value) pairs, addresses strictly rising, no entry equal to what an unlisted
address reads as.
-/

namespace Sys2Proof.Bits

/-- The little-endian value of a byte string (R10). -/
def leNat : Bytes → Nat
  | [] => 0
  | b :: r => b.toNat + 256 * leNat r

/-- `n` as `len` little-endian bytes (R10). -/
def natLe : Nat → Nat → Bytes
  | _, 0 => []
  | n, len + 1 => BitVec.ofNat 8 n :: natLe (n / 256) len

/-- The bytes `off` to `off + len - 1`. -/
def slice (b : Bytes) (off len : Nat) : Bytes := (b.drop off).take len

/-- The little-endian field of `len` bytes at `off`. -/
def field (b : Bytes) (off len : Nat) : Nat := leNat (slice b off len)

/-- Byte `off`, 0 past the end. -/
def byteAt (b : Bytes) (off : Nat) : Nat := (b.getD off 0).toNat

/-- `n` read as a two's complement number of `w` bits (R11). -/
def signed (w n : Nat) : Int :=
  if n % 2 ^ w < 2 ^ (w - 1) then ((n % 2 ^ w : Nat) : Int) else ((n % 2 ^ w : Nat) : Int) - ((2 ^ w : Nat) : Int)

/-- An integer as a two's complement number of `w` bits. -/
def unsigned (w : Nat) (x : Int) : Nat := (x % ((2 ^ w : Nat) : Int)).toNat

/-- A signed little-endian field. -/
def sfield (b : Bytes) (off len : Nat) : Int := signed (8 * len) (field b off len)

/-- Are the bytes `off` to `off + len - 1` all 0 (reserved fields)? -/
def zeros (b : Bytes) (off len : Nat) : Bool := (slice b off len).all (· == 0)

/-- Bits [hi:lo] of `n`. -/
def bits (n hi lo : Nat) : Nat := n / 2 ^ lo % 2 ^ (hi + 1 - lo)

/-- `n` with bits [hi:lo] replaced by `v`. -/
def setBits (n hi lo v : Nat) : Nat :=
  n / 2 ^ (hi + 1) * 2 ^ (hi + 1) + v % 2 ^ (hi + 1 - lo) * 2 ^ lo + n % 2 ^ lo

/-- Bit `k` of `n`. -/
def bit (n k : Nat) : Bool := n / 2 ^ k % 2 == 1

/-- 1 for true. -/
def b2n (b : Bool) : Nat := if b then 1 else 0

/-- The floor of `a / b` (R12). -/
def fdiv (a b : Int) : Int := Int.fdiv a b

/-- The arithmetic right shift of R12, which rounds toward minus infinity. -/
def sar (a : Int) (n : Nat) : Int := Int.fdiv a ((2 ^ n : Nat) : Int)

/-- `a mod b` of R12. -/
def fmod (a b : Int) : Int := Int.fmod a b

/-- `clamp` of R12. -/
def clamp (x lo hi : Int) : Int := if x < lo then lo else if hi < x then hi else x

/-- A saturating count of 32 bits plus `n`. -/
def satAdd (c : Word) (n : Nat) : Word := if c.toNat + n ≥ 4294967295 then 0xFFFFFFFF else BitVec.ofNat 32 (c.toNat + n)

/-- Bytes padded with zeros to a multiple of `m`. -/
def padTo (b : Bytes) (m : Nat) : Bytes := b ++ List.replicate ((m - b.length % m) % m) 0

/-- The least multiple of `m` that is at least `n`. -/
def roundUp (n m : Nat) : Nat := (n + m - 1) / m * m

/-- The first `n` numbers of a list, in pairs packed two codes to three bytes (R128); an odd last code is paired
with 0 (R341). -/
def pack12 : List Nat → Bytes
  | [] => []
  | [a] => [BitVec.ofNat 8 a, BitVec.ofNat 8 (a / 256 % 16), 0]
  | a :: b :: r => BitVec.ofNat 8 a :: BitVec.ofNat 8 (a / 256 % 16 + b % 16 * 16) :: BitVec.ofNat 8 (b / 16) :: pack12 r

end Sys2Proof.Bits

namespace Sys2Proof.Sparse

variable {α : Type} [DecidableEq α]

/-- What a sparse map reads at `k`: the listed value, else the default `d k`. -/
def get (d : Nat → α) : List (Nat × α) → Nat → α
  | [], k => d k
  | (k', v) :: r, k => if k = k' then v else get d r k

/-- A sparse map with `v` at `k`; writing the default removes the entry, so that equal maps are equal lists. -/
def set (d : Nat → α) : List (Nat × α) → Nat → α → List (Nat × α)
  | [], k, v => if v = d k then [] else [(k, v)]
  | (k', v') :: r, k, v =>
    if k < k' then (if v = d k then (k', v') :: r else (k, v) :: (k', v') :: r)
    else if k = k' then (if v = d k then r else (k, v) :: r)
    else (k', v') :: set d r k v

/-- The addresses of `l` rise strictly from above `lo`, and no entry equals its default. -/
def above (d : Nat → α) : Option Nat → List (Nat × α) → Bool
  | _, [] => true
  | lo, (k, v) :: r =>
    (match lo with | none => true | some m => decide (m < k)) && decide (v ≠ d k) && above d (some k) r

/-- The canonical form of a sparse map. -/
def wf (d : Nat → α) (l : List (Nat × α)) : Bool := above d none l

/-- A sparse map with the values `vs` at `k`, `k + 1` and so on. -/
def setRun (d : Nat → α) : List (Nat × α) → Nat → List α → List (Nat × α)
  | l, _, [] => l
  | l, k, v :: vs => setRun d (set d l k v) (k + 1) vs

/-- The `n` values from `k` on. -/
def getRun (d : Nat → α) (l : List (Nat × α)) (k n : Nat) : List α := (List.range n).map (fun i => get d l (k + i))

end Sys2Proof.Sparse
end

