-- ==== Sys2Proof/Config.lean ====
section
/-!
DEFINITION. What an implementation, the factory or the order code fixes and the spec does not give, and the values
the spec leaves open. Every constant here is opaque: no proof can see a value of it. The assumption log names each.
-/

namespace Sys2Proof.Config

/-- Order code: true for XD-7262-B (1 TiB of DDR5), false for XD-7262-A (R4, R5). -/
opaque variantB : Bool

/-- The image bytes of Yunaeth's programs that a firmware image holds and R252 places in force, by target (false raster, true
correction). The spec does not say where in the image they lie. -/
opaque yunaethImage : Bytes → Bool → Bytes

/-- The test signature of R260 held in a firmware image, by engine target (false raster, true correction). -/
opaque testSignature : Bytes → Bool → Word

/-- The SHA-384 of Yunaeth's firmware key that is fused into the hub die (R393). -/
opaque fusedKeyDigest : Bytes

/-- The contents of the NOR flash as shipped: slot A for false, slot B for true (R393). -/
opaque shippedSlot : Bool → Bytes

/-- The Device Serial Number (R391 table, `SEC.SERIAL`). -/
opaque serial : Dword

/-- The MAC address of the FRU data (R373). -/
opaque mac : BitVec 48

/-- The FRU data, 2 048 bytes by offset (R375). -/
opaque fru : Nat → Byte

/-- The device certificate (R396). -/
opaque certificate : Bytes

/-- The public half of the attestation key (R396). -/
opaque attestPub : Bytes

/-- The ECDSA P-384 signature the security block forms over 464 quote bytes (R396); the private half never leaves
the block, so the value is open. -/
opaque attestSign : Bytes → Bytes

/-- Factory trims of the temperature sensors: the count at 25 °C of sensor n (R406, R420). -/
opaque trimN25 : Nat → BitVec 20

/-- Factory trims of the temperature sensors: the slope of sensor n (R406, R420). -/
opaque trimK : Nat → BitVec 12

/-- The link equalization set of a module as shipped, 1 216 bytes (R416, R422). -/
opaque shippedEq : Bytes

/-- The TDC tap widths of a module as shipped, in femtoseconds (R419). -/
opaque shippedTdc : List Nat

/-- How many spilled crossings a spill region of the given bytes holds (R244 gives no format). -/
opaque spillCapacity : Nat → Nat

/-- The bytes the span unit leaves in the spill region for a spilled crossing (R244 gives no format). -/
opaque spillByte : Nat → Nat → Byte

/-- A free value the step reads by its counter: nothing constrains it. -/
opaque freeValue : Nat → Dword

end Sys2Proof.Config
end

