-- ==== Sys2Proof/Machine/Program.lean ====
section
/-!
DEFINITION. The layout of a Kolben program image (R248) and the check of everything but its words (R249).
-/

namespace Sys2Proof.Machine

open Sys2Proof.Bits

/-- WORDS of an image (R248). -/
def progCount (image : Bytes) : Nat := field image 4 2

/-- ENTRY of an image (R248). -/
def progEntry (image : Bytes) : Nat := field image 6 2

/-- INIT_LEN of an image (R248). -/
def progInitLen (image : Bytes) : Nat := field image 8 4

/-- Instruction word `i` of an image (R248). -/
def progWord (image : Bytes) (i : Nat) : Word := BitVec.ofNat 32 (field image (64 + 4 * i) 4)

/-- INIT of an image: the initial data of local memory (R248). -/
def progInit (image : Bytes) : Bytes := slice image (roundUp (64 + 4 * progCount image) 64) (progInitLen image)

/-- The rejection code of R249 for the layout of an image for the given target, without its words. -/
def progLayoutCode (image : Bytes) (target : Nat) : Option Nat :=
  if field image 0 2 ≠ 0x504B || byteAt image 2 ≠ 1 then some 1
  else if byteAt image 3 ≠ target || progCount image < 1 || 2048 < progCount image ||
      progCount image ≤ progEntry image || progInitLen image % 64 ≠ 0 || 65536 < progInitLen image then some 2
  else if image.length ≠ roundUp (64 + 4 * progCount image) 64 + progInitLen image then some 3
  else if !zeros image 12 52 ||
      !zeros image (64 + 4 * progCount image) (roundUp (64 + 4 * progCount image) 64 - (64 + 4 * progCount image))
    then some 4
  else none

end Sys2Proof.Machine
end

