-- ==== Sys2Proof/Machine/RegMap.lean ====
section
/-!
DEFINITION. The stored BAR0 fields (R18 to R22, R455): every register that holds a value a write or an event put there,
with its offset, access codes, reset value, ranges and what each reset keeps. A register whose fields only report a
unit, or live in the unit's own state, is not listed here; Sys2Proof/Machine/Regs.lean reads it from the unit.
-/

namespace Sys2Proof.Machine

/-- A group of `num` registers at `base`, `base + step`, and so on, with the same stored fields. Masks are 32-bit. -/
structure Reg where
  base : Nat
  step : Nat := 4
  num : Nat := 1
  /-- RW bits (R18). -/
  rw : Nat := 0
  /-- RWS bits (R18): kept by function reset and module reset. -/
  rws : Nat := 0
  /-- W1C bits (R18). -/
  w1c : Nat := 0
  /-- Read-only stored bits: counters and records (R22). -/
  record : Nat := 0
  reset : Nat := 0
  /-- Further bits a function reset keeps (R22). -/
  keepF : Nat := 0
  /-- Further bits a module reset keeps (R22). -/
  keepM : Nat := 0
  /-- Ranges of R455: high bit, low bit, least and greatest value. -/
  ranges : List (Nat × Nat × Nat × Nat) := []
  deriving DecidableEq, Repr

namespace RegMap

/-- All 32 bits. -/
def full : Nat := 0xFFFFFFFF

/-- GLB, EVT and JOB (13, 18, 11). -/
def front : List Reg := [
  { base := 0x010000, num := 2, rw := full },
  { base := 0x010008, rw := 0xF, reset := 6 },
  { base := 0x010010, rw := 0x3FFF },
  { base := 0x010018, rws := 0x3FF },
  { base := 0x01001C, record := full },
  { base := 0x010040, num := 8, w1c := full },
  { base := 0x010060, num := 8, rws := full },
  { base := 0x010100, num := 64, rws := 0x3F3F3F3F },
  { base := 0x020000, num := 2, rw := full },
  { base := 0x020008, rw := 0xF, reset := 4 },
  { base := 0x020014, num := 2, rw := full },
  { base := 0x02001C, rw := 0xF, reset := 4 },
  { base := 0x020048, rws := 0x7F, reset := 0x5A, ranges := [(6, 0, 50, 100)] },
  { base := 0x020050, num := 6, record := full },
  { base := 0x020070, num := 6, record := full },
  { base := 0x020094, rw := 0x3FFFF, keepF := 0x3FFFF },
  { base := 0x0200A0, num := 3, record := full },
  { base := 0x030D08, step := 0x100, num := 3, rw := full },
  { base := 0x030D0C, step := 0x100, num := 3, rw := full },
  { base := 0x030D10, step := 0x100, num := 3, rw := 0xF, reset := 1 }]

/-- INT, CMB and the engine windows (03, 04, 09). -/
def render : List Reg := [
  { base := 0x040000, rw := 0x3FF, reset := 0x40 },
  { base := 0x040004, rw := 0xFFFFF, reset := 0x8000 },
  { base := 0x040008, rw := 0xFFF3, reset := 0x2083 },
  { base := 0x040020, num := 9, record := full },
  { base := 0x040044, record := 0xFF },
  { base := 0x040048, num := 3, record := full },
  { base := 0x050008, step := 0x1000, num := 12, record := full },
  { base := 0x05000C, step := 0x1000, num := 12, record := full },
  { base := 0x050010, step := 0x1000, num := 12, record := full },
  { base := 0x050014, step := 0x1000, num := 12, record := full },
  { base := 0x050018, step := 0x1000, num := 12, record := full },
  { base := 0x05C000, num := 6, record := full },
  { base := 0x05C018, record := 0x800000FF },
  { base := 0x05C020, rws := 0xFF, reset := 0x8C, ranges := [(7, 0, 0, 144)] },
  { base := 0x05C024, rws := 0x1FFFF, reset := 0x2710, ranges := [(16, 0, 100, 100000)] },
  { base := 0x05C034, record := 0xFF },
  { base := 0x080004, step := 0x400, num := 144, rw := 2 },
  { base := 0x080008, step := 0x400, num := 144, w1c := 0x80000000, record := 0x07FF01FF },
  { base := 0x08000C, step := 0x400, num := 144, record := full },
  { base := 0x080010, step := 0x400, num := 144, record := full },
  { base := 0x080014, step := 0x400, num := 144, rw := full, reset := 0x04002C00 },
  { base := 0x080018, step := 0x400, num := 144, record := full },
  { base := 0x080020, step := 0x400, num := 144, record := full },
  { base := 0x080024, step := 0x400, num := 144, record := full },
  { base := 0x080028, step := 0x400, num := 144, record := full },
  { base := 0x08002C, step := 0x400, num := 144, record := full },
  { base := 0x080030, step := 0x400, num := 144, record := full },
  { base := 0x0B1004, step := 0x400, num := 4, rw := 2 },
  { base := 0x0B1008, step := 0x400, num := 4, w1c := 0x80000000, record := 0x07FF01FF },
  { base := 0x0B100C, step := 0x400, num := 4, record := full },
  { base := 0x0B1010, step := 0x400, num := 4, record := full },
  { base := 0x0B1014, step := 0x400, num := 4, rw := full, reset := 0x04002C00 },
  { base := 0x0B1018, step := 0x400, num := 4, record := full },
  { base := 0x0B1020, step := 0x400, num := 4, record := full },
  { base := 0x0B1024, step := 0x400, num := 4, record := full },
  { base := 0x0B1028, step := 0x400, num := 4, record := full },
  { base := 0x0B102C, step := 0x400, num := 4, record := full },
  { base := 0x0B1030, step := 0x400, num := 4, record := full }]

/-- PEC, BMU, STG and BLK (05, 06, 07, 08, 19). -/
def beam : List Reg := [
  { base := 0x0B000C, record := 0xFF },
  { base := 0x0B0020, num := 6, record := full },
  { base := 0x0C0000, rw := 1, reset := 1 },
  { base := 0x0C0018, record := 0xFF },
  { base := 0x0C0020, rw := 0x3FFFF },
  { base := 0x0C0024, rw := full },
  { base := 0x0C0028, rw := 0xFFFF },
  { base := 0x0C002C, record := 0x7FF },
  { base := 0x0C0030, record := 0x8003FFFF },
  { base := 0x0C0034, num := 3, record := full },
  { base := 0x0C0104, step := 0x4000, num := 4, record := full },
  { base := 0x0C0108, step := 0x4000, num := 4, record := full },
  { base := 0x0C010C, step := 0x4000, num := 4, record := full },
  { base := 0x0C0110, step := 0x4000, num := 4, record := full },
  { base := 0x0C0114, step := 0x4000, num := 4, record := full },
  { base := 0x0D0000, step := 0x40, num := 4, rws := 0x00FF037F, reset := 0x00080001 },
  { base := 0x0D0008, step := 0x40, num := 4, w1c := 0xF0 },
  { base := 0x0D0010, step := 0x40, num := 4, rws := full },
  { base := 0x0D0014, step := 0x40, num := 4, rws := full },
  { base := 0x0D0018, step := 0x40, num := 4, rws := 0xFFFF, reset := 4 },
  { base := 0x0D001C, step := 0x40, num := 4, record := full },
  { base := 0x0D0020, step := 0x40, num := 4, record := full },
  { base := 0x0D0024, step := 0x40, num := 4, rws := 0xFFFFF, reset := 0x2710, ranges := [(19, 0, 1, 1000000)] },
  { base := 0x0D0028, step := 0x40, num := 4, record := full },
  { base := 0x0D002C, step := 0x40, num := 4, record := full },
  { base := 0x0D0030, step := 0x40, num := 4, record := full },
  { base := 0x0D0034, step := 0x40, num := 4, record := full },
  { base := 0x0D0104, record := full },
  { base := 0x0D0108, rws := 0xFFFF, reset := 0x100 },
  { base := 0x0D010C, rw := 0x1FFF, reset := 0x320, ranges := [(12, 0, 625, 5000)] },
  { base := 0x0D0110, rw := 1 },
  { base := 0x0D0140, num := 3, record := full },
  { base := 0x0D014C, record := 0x3FF },
  { base := 0x0D0150, record := 0x3FFF },
  { base := 0x0D0154, w1c := 0x80000000, record := 0xFFFF, keepF := 0xFFFF },
  { base := 0x0D0400, num := 128, rws := full },
  { base := 0x0E0008, step := 0x40, num := 288, record := full },
  { base := 0x0E000C, step := 0x40, num := 288, record := full },
  { base := 0x0E0010, step := 0x40, num := 288, record := full },
  { base := 0x0E0014, step := 0x40, num := 288, record := full },
  { base := 0x0E8000, rws := 0x003FF038, reset := 0x00190028 },
  { base := 0x0E8008, rws := 0xFFFF07FF, reset := 0x00640040, ranges := [(31, 16, 10, 10000), (10, 0, 16, 1024)] },
  { base := 0x0E800C, record := 0x01FF00FF },
  { base := 0x0E8054, record := 0xFF0F, keepF := 0xFF0F },
  { base := 0x0E8058, num := 5, record := full }]

/-- MEM, BEL, CRC, TIM, SEC, THM, CAL and HIF (12 to 17). -/
def service : List Reg := [
  { base := 0x100004, step := 0x1000, num := 16, record := 0xF10F, keepF := full },
  { base := 0x100008, step := 0x1000, num := 16, record := full, keepF := full },
  { base := 0x10000C, step := 0x1000, num := 16, record := full, keepF := full },
  { base := 0x100010, step := 0x1000, num := 16, record := full },
  { base := 0x100014, step := 0x1000, num := 16, record := full },
  { base := 0x100018, step := 0x1000, num := 16, record := full },
  { base := 0x10001C, step := 0x1000, num := 16, record := full },
  { base := 0x100020, step := 0x1000, num := 16, record := full },
  { base := 0x100024, step := 0x1000, num := 16, record := full },
  { base := 0x100028, step := 0x1000, num := 16, record := full },
  { base := 0x10002C, step := 0x1000, num := 16, record := full },
  { base := 0x100800, rw := 0x07FF07FF, reset := 0x00200001 },
  { base := 0x100804, rw := 0x07FF07FF, reset := 0x00100021 },
  { base := 0x100808, rw := 0x07FF07FF, reset := 0x00020031 },
  { base := 0x10080C, rw := 0x07FF07FF, reset := 0x00040033 },
  { base := 0x100810, rw := 0x07FF07FF, reset := 0x00000061 },
  { base := 0x100814, rws := 0x3FFF, reset := 0x800, ranges := [(13, 0, 1536, 8192)] },
  { base := 0x100818, rws := 0xFFFFF },
  { base := 0x10081C, rws := 0xFF, reset := 0xC },
  { base := 0x100824, num := 2, record := full },
  { base := 0x110000, rw := 0xFFFF, reset := 0x2010 },
  { base := 0x110020, rws := 0x00FF1F03, reset := 0x00621603, ranges := [(23, 16, 1, 255), (12, 8, 16, 26)] },
  { base := 0x110030, num := 11, record := full },
  { base := 0x120000, step := 0x100, num := 8, rw := 0x8B, reset := 8 },
  { base := 0x120008, step := 0x100, num := 8, rw := full },
  { base := 0x12000C, step := 0x100, num := 8, rw := full },
  { base := 0x120010, step := 0x100, num := 8, rw := full, reset := 0x82F63B78 },
  { base := 0x12001C, step := 0x100, num := 8, rw := full },
  { base := 0x120038, step := 0x100, num := 8, rw := full },
  { base := 0x12003C, step := 0x100, num := 8, rw := full },
  { base := 0x120040, step := 0x100, num := 8, rw := 0x7FFFFFFF, reset := 0x40 },
  { base := 0x120800, record := full },
  { base := 0x130008, num := 2, rw := full },
  { base := 0x130018, rws := 0xFFFFFE03, reset := 0x64200000,
    ranges := [(31, 24, 1, 255), (23, 17, 1, 64), (16, 9, 0, 127)] },
  { base := 0x130030, rws := full, reset := 0x006401F4, ranges := [(31, 16, 1, 65535), (15, 0, 1, 65535)] },
  { base := 0x130034, rws := full, reset := 0x04000040 },
  { base := 0x130038, rws := full },
  { base := 0x13003C, rws := full, reset := 0x00E800A8 },
  { base := 0x130040, rws := full, reset := 0x00600040 },
  { base := 0x13004C, rws := 0xFFFF0001, reset := 0x02020000 },
  { base := 0x130050, num := 2, rws := full },
  { base := 0x130060, num := 6, record := full, keepF := full, keepM := full },
  { base := 0x140040, num := 8, rw := full },
  { base := 0x140080, num := 12, rw := full },
  { base := 0x1400C0, num := 5, record := full },
  { base := 0x150304, rws := 0x01FF0003, reset := 0x01A40000, ranges := [(24, 16, 250, 420)] },
  { base := 0x150320, num := 4, record := full, keepF := full, keepM := full },
  { base := 0x160100, rw := 7 },
  { base := 0x160104, num := 2, rw := full },
  { base := 0x160110, record := full, keepF := full, keepM := full },
  { base := 0x170004, rw := 0x3FF },
  { base := 0x17001C, w1c := 0x80000000, record := 0x3F },
  { base := 0x170020, num := 4, record := full }]

/-- Every stored register. -/
def all : List Reg := front ++ render ++ beam ++ service

/-- Does the group hold the register at `off`? -/
def holds (r : Reg) (off : Nat) : Bool :=
  r.base ≤ off && (off - r.base) % r.step == 0 && (off - r.base) / r.step < r.num

/-- The group of the register at `off`. -/
def find (off : Nat) : Option Reg := all.find? (fun r => holds r off)

/-- Is event source `n` used (R424 and the catalogue of 18_events_and_faults)? -/
def usedSource (n : Nat) : Bool :=
  n ≤ 23 || (32 ≤ n && n ≤ 42) || (64 ≤ n && n ≤ 77) || (88 ≤ n && n ≤ 90) || (96 ≤ n && n ≤ 112) ||
  (128 ≤ n && n ≤ 140) || (160 ≤ n && n ≤ 177) || (192 ≤ n && n ≤ 201) || (208 ≤ n && n ≤ 211) ||
  (216 ≤ n && n ≤ 220) || (224 ≤ n && n ≤ 255)

/-- The used sources of `EVT.ENABLEi` and `EVT.PENDINGi`. -/
def usedMask (i : Nat) : Nat :=
  ((List.range 32).map (fun k => if usedSource (32 * i + k) then 2 ^ k else 0)).sum

/-- Yunaeth's default sequencer program, two registers to a word (table of 07_stage_lock). -/
def defaultProg : List Nat :=
  [0x00000000, 0x01000000, 0x00333333, 0x02000005, 0x00000001, 0x03000000, 0x00000003, 0x04000000,
   0x00000000, 0x05000000, 0x00000002, 0x06000000, 0x00000000, 0x07000000]

/-- The reset value of the stored bits at `off` (R22). -/
def resetNat (off : Nat) : Nat :=
  if 0x010060 ≤ off && off < 0x010080 then usedMask ((off - 0x010060) / 4)
  else if 0x010100 ≤ off && off < 0x010200 then (off - 0x010100) / 4 * 0x01010101
  else if 0x0D0400 ≤ off && off < 0x0D0600 then defaultProg.getD ((off - 0x0D0400) / 4) 0
  else match find off with
    | some r => r.reset
    | none => 0

/-- The default of the sparse register file. -/
def reset (off : Nat) : Word := BitVec.ofNat 32 (resetNat off)

/-- One field of a write judged by its range (R455): outside it, the field keeps its old value. -/
def ranged (old : Nat) : Nat → List (Nat × Nat × Nat × Nat) → Nat
  | new, [] => new
  | new, (hi, lo, least, most) :: rs =>
    let x := Bits.bits new hi lo
    ranged old (if x < least || most < x then Bits.setBits new hi lo (Bits.bits old hi lo) else new) rs

/-- The bits of `EVT.ENABLEi` and `EVT.PENDINGi` that exist (R424); all bits elsewhere. -/
def exist (off : Nat) : Nat :=
  if 0x010040 ≤ off && off < 0x010060 then usedMask ((off - 0x010040) / 4)
  else if 0x010060 ≤ off && off < 0x010080 then usedMask ((off - 0x010060) / 4)
  else full

/-- The stored value a BAR0 write of `v` leaves at a register (R18, R455). -/
def written (r : Reg) (off : Nat) (old v : Word) : Word :=
  let set := BitVec.ofNat 32 (r.rw ||| r.rws) &&& BitVec.ofNat 32 (exist off)
  let new := (old &&& ~~~set) ||| (v &&& set)
  let kept := BitVec.ofNat 32 (ranged old.toNat new.toNat r.ranges)
  kept &&& ~~~(v &&& BitVec.ofNat 32 r.w1c)

/-- What a function reset (R22, R360) leaves at a register. -/
def afterFunction (off : Nat) (old : Word) : Word :=
  match find off with
  | none => old
  | some r =>
    let keep := BitVec.ofNat 32 (r.rws ||| r.keepF)
    (old &&& keep) ||| (reset off &&& ~~~keep)

/-- What a module reset (R22, R358) leaves at a register; the EVT block returns to its reset values whole (R432). -/
def afterModule (off : Nat) (old : Word) : Word :=
  if 0x010000 ≤ off ∧ off < 0x020000 then reset off
  else match find off with
  | none => old
  | some r =>
    let keep := BitVec.ofNat 32 (r.rws ||| r.keepM)
    (old &&& keep) ||| (reset off &&& ~~~keep)

end RegMap

end Sys2Proof.Machine
end

