-- ==== Sys2Proof/Machine/State.lean ====
section
/-!
DEFINITION. The state of the block as plain data, its reasons to stop and its reset. Each field's docstring names the
rule and section file of spec/ that gives it and its reset value; INVENTORY.md lists the same. The register file `regs`
holds every stored BAR0 field, counter and last-event record at its BAR0 offset (R18, R22); a register whose fields
only report a unit is computed from the unit's own fields in Sys2Proof/Machine/Regs.lean.
-/

namespace Sys2Proof.Machine

/-- Why a command ends in a fault. -/
inductive Fault where
  /-- An operand does not have the form the spec gives the structure it carries (a command entry that is not 64 bytes,
  a descriptor that is not 32 bytes, ...): no bus or ring of the spec can deliver it. Raised by the commands that carry
  bytes. Safe: the model stops where no hardware run exists. -/
  | illFormed
  deriving DecidableEq, Repr

/-- Why a command has no meaning. -/
inductive Refusal where
  /-- The command's row has not been given a meaning. Safe: the model stops. -/
  | notModelled (mnemonic : String)
  deriving DecidableEq, Repr

/-! ### Outputs: what the module sends -/

/-- What leaves the module, in the order sent. -/
inductive Output where
  | cplEntry (addr : Nat) (bytes : Bytes)
  | evtEntry (addr : Nat) (bytes : Bytes)
  | msix (addr : Nat) (data : Word)
  | readReply (bytes : Bytes)
  | unsupported
  | toHost (addr : Nat) (bytes : Bytes)
  | pageRead (addr len : Nat) (cls : Nat)
  /-- A deflection word with its flash instant and whether CYCLE_SYNC rises with DEFL_STROBE (R206). -/
  | defl (word : Word) (instant : Nat) (cycleSync : Bool)
  /-- A setup word, marked by a pulse of CYCLE_SYNC while DEFL_STROBE stays low (R207). -/
  | setupWord (word : Word)
  | doseFrame (window : Nat) (flash : Nat) (startTick : Nat) (bytes : Bytes)
  | control (window : Nat) (bytes : Bytes)
  /-- At least `least` IDLE blocks on a lane; IDLE fills a lane on which nothing else is sent (R224). -/
  | idle (window : Nat) (least : Nat)
  | wakeBurst (window : Nat)
  | datagram (port : Nat) (dest : Dword) (bytes : Bytes)
  /-- A Delay_Req by a transport: 0 Layer 2, 1 UDP/IPv4 (R368). -/
  | ptpDelayReq (transport : Nat) (seq : Nat)
  | arpReply (dest : Dword)
  | echoReply (dest : Dword) (payload : Bytes)
  | smbReply (bytes : Bytes)
  | directedRefresh (ch bank row : Nat)
  | refresh (ch bank : Nat)
  deriving DecidableEq, Repr

/-! ### Power, domains and the host attachment -/

/-- Supply, start and reset (R358 to R364, R415, R440 to R442; 13_host_attachment, 19_electrical_and_mechanical). -/
structure Power where
  /-- VIN lies in the range in which the module runs (R415; 17; reset true: DESIGN CHOICE true, log 2). -/
  vin : Bool
  /-- SEATED_N has been closed for 5 ms (R440; 19; reset true: DESIGN CHOICE true, log 2). -/
  seated : Bool
  /-- A removal has happened and AON has not stopped yet (R442; 19; reset false). -/
  removing : Bool
  /-- AON runs (R441; 19; reset true: DESIGN CHOICE true, log 2). -/
  aon : Bool
  /-- The main converters run (R441; 19; reset true: DESIGN CHOICE true, log 2). -/
  main : Bool
  /-- Steps 2 to 6 of the start are done, so READY may rise (R358, R359; 13; reset false). -/
  started : Bool
  /-- `GLB.STATUS.READY` (R359; 13; reset 0). -/
  ready : Bool
  /-- `GLB.STATUS.RESETTING` (R359; 13; reset 1). -/
  resetting : Bool
  /-- A module reset has been requested and R312 runs (R312; 11; reset false). -/
  resetPending : Bool
  /-- `GLB.LAST_RESET.KIND` (R358; 13; reset 1, power-on). -/
  lastKind : Nat
  /-- `GLB.LAST_RESET.DETAIL` (R358; 13; reset 0). -/
  lastDetail : Nat
  /-- Domains powered, bit k for domain k: `HIF.PD_STATUS` (R362, R363; 13; reset 0x0000_FFFF_00FF_FF3F). -/
  on : Dword
  /-- Domains asked for, bit k for domain k: `HIF.PD_CTL` (R362; 13; reset 0x0000_FFFF_00FF_FF3F). -/
  want : Dword
  /-- Thermal shutdown holds the module off (R412; 17; reset false). -/
  shutdown : Bool
  /-- The start under way follows a thermal shutdown (R413; 17; reset false). -/
  thermalStart : Bool
  deriving DecidableEq, Repr

/-- One MSI-X vector: its table entry and pending bit (R353; 13). -/
structure MsixVec where
  /-- Message address (R353; 13; reset PRESUMED 0, log 3). -/
  addr : Nat
  /-- Message data (R353; 13; reset PRESUMED 0, log 3). -/
  data : Word
  /-- Per-vector mask (R353; 13; reset PRESUMED true, log 3). -/
  mask : Bool
  /-- Bit of the pending bit array (R353; 13; reset PRESUMED false, log 3). -/
  pend : Bool
  deriving DecidableEq, Repr

/-- The host attachment (13_host_attachment). -/
structure Hif where
  /-- The data link layer is up (R356; 13; reset 0). -/
  linkUp : Bool
  /-- Bus Master Enable (R356; 13; reset 0). -/
  bme : Bool
  /-- The function is in D0 (R356; 13; reset true: DESIGN CHOICE true, log 3). -/
  d0 : Bool
  /-- PERST# has been deasserted (R358; 13; reset false: DESIGN CHOICE false, log 3). -/
  perstOff : Bool
  /-- Lanes in use: `HIF.LINK_STATUS.WIDTH` (R349; 13; reset 0). -/
  width : Nat
  /-- Generation in use: `HIF.LINK_STATUS.GEN` (R349; 13; reset 0). -/
  speed : Nat
  /-- Generation tag of HIF: `HGEN` (R39; 01; reset 0). -/
  gen : BitVec 4
  /-- MSI-X table and pending bits (R353; 13; reset as `MsixVec`). -/
  msix : Vector MsixVec 64
  /-- MSI-X function mask (R353; 13; reset PRESUMED false, log 3). -/
  funcMask : Bool
  /-- MSI-X enable (R353; 13; reset PRESUMED false, log 3). -/
  msixOn : Bool
  /-- Completion Timeout Value of Device Control 2 (R351; 13; reset 0, the range up to 50 ms: PRESUMED 0, log 3). -/
  timeout : BitVec 4
  deriving DecidableEq, Repr

/-! ### Events -/

/-- An event entry formed and not yet written (R429; 18). -/
structure HeldEvent where
  id : Nat
  source : Nat
  test : Bool
  stamp : Word
  info : Nat
  cseq : Nat
  deriving DecidableEq, Repr

/-- A message owed to a vector for the raises of one instant: it follows the entries of the given ids (R430; 18). -/
structure DueMessage where
  vec : Nat
  instant : Nat
  after : List Nat
  deriving DecidableEq, Repr

/-- The event controller (18_events_and_faults). Its PENDING, ENABLE, VEC_MAP and MOD bits are in `regs`. -/
structure Evt where
  /-- Ring enabled: `EVT.RING_CTL.ENABLE` (R426; 18; reset 0). -/
  enabled : Bool
  /-- `EVT.RING_CTL.ERROR` (R426; 18; reset 0). -/
  error : Nat
  /-- Base sampled at the enable (R426; 18; reset 0: DESIGN CHOICE 0, log 4). -/
  base : Nat
  /-- LOG2 sampled at the enable (R426; 18; reset 6: DESIGN CHOICE 6, log 4). -/
  log2 : Nat
  /-- `EVT.RING_TAIL` (R426; 18; reset 0). -/
  tail : Nat
  /-- PHASE of the present lap (R426; 18; reset true: DESIGN CHOICE true, log 4). -/
  phase : Bool
  /-- Entries formed and not yet written, oldest first, at most 256 (R429; 18; reset empty). -/
  held : List HeldEvent
  /-- Occurrences dropped since the previous entry written (R429; 18; reset 0). -/
  lostSince : Nat
  /-- ESEQ the next entry takes (R428; 18; reset 1). -/
  eseq : Dword
  /-- Identity of the next entry formed, the model's own order of raises (R428; 18; reset 0: DESIGN CHOICE 0, log 4). -/
  nextId : Nat
  /-- Messages owed (R430; 18; reset empty). -/
  due : List DueMessage
  /-- When each vector last sent a message (R430; 18; reset none). -/
  lastSent : Vector (Option Nat) 64
  deriving DecidableEq, Repr

/-! ### Journal, commands and completions -/

/-- A journal record; CHECK is formed from the other fields (table of 11_jobs_and_exposure_accounting, R308, R311). -/
structure JRec where
  rseq : Nat
  kind : Nat
  opcode : Nat
  status : Nat
  cause : Nat
  stamp : Word
  cseq : Nat
  detail : Word
  body : Bytes
  deriving DecidableEq, Repr

/-- The operands of a stripe command (R291, table of 11_jobs_and_exposure_accounting). -/
structure Stripe where
  stripe : Nat
  pass : Nat
  dir : Nat
  plan : Nat
  x : Int
  y : Int
  segs : Nat
  s0 : Int
  xref : Int
  named : Option Nat
  deriving DecidableEq, Repr

/-- How far an accepted command has come (R293; 11). -/
inductive Phase where
  | queued
  | started
  | waiting
  | running
  deriving DecidableEq, Repr

/-- An accepted command without its final completion (R290, R293; 11). -/
structure Live where
  seq : Nat
  entry : Bytes
  phase : Phase
  deriving DecidableEq, Repr

/-- A completion entry before it is posted (R288, R298; 11). -/
structure Cpl where
  seq : Nat
  status : Nat
  opcode : Nat
  dup : Bool
  doubt : Bool
  cause : Nat
  code : Nat
  source : Nat
  extra : Nat
  frontier : Nat
  lastSent : Nat
  arg0 : Nat
  arg1 : Nat
  jidx : Nat
  stamp : Word
  final : Bool
  deriving DecidableEq, Repr

/-- The digests a forage pass records (R85, R145, R251). -/
structure Digests where
  bind : Word
  pages : Nat
  cells : Nat
  kernel : Word
  field : Word
  progRe : Word
  progCe : Word
  deriving DecidableEq, Repr

/-- A forage slot (R303; 11). -/
structure Slot where
  stripe : Nat
  pass : Nat
  /-- Sequence number of the accepted forage that has claimed it; 0 when none. -/
  claim : Nat
  /-- It holds results of a forage that completed with OK. -/
  held : Bool
  /-- The results are not invalidated (R31, R82, R108). -/
  valid : Bool
  dig : Digests
  /-- Tile signatures by (segment, column) (R130). -/
  sigs : List ((Nat × Nat) × Word)
  /-- Issue slots by segment (R304). -/
  slots : List (Nat × Nat)
  /-- The density map: ρ by level-0 cell (u, v) (R140). -/
  density : List ((Int × Int) × Nat)
  /-- The page list (R95, R303). -/
  pages : List Nat
  segs : Nat
  corrected : Bool
  deriving DecidableEq, Repr

/-- A halt cause that has reached the sequencer (R301): the code, its ARG0 and ARG1, and the axis for
`STG.HALT_INFO`. `at` is the named flash, or none for the next flash boundary (R25). -/
structure Cause where
  code : Nat
  flash : Option Nat
  arg0 : Nat
  arg1 : Nat
  axis : Nat
  /-- The status of the completion: 0x0A, 0x09 for a page that failed twice (R91), or that of a stream fault or a list
  overflow (R80, R106), whose code and source DETAIL carries. -/
  status : Nat
  dcode : Nat := 0
  dsource : Nat := 0
  /-- The tick from which the cause stands at the sequencer, where it does not at once (R204). -/
  tick : Option Nat := none
  deriving DecidableEq, Repr

/-- The write states of `JOB.STATE` (table of 11). -/
inductive WState where
  | boundary
  | fill
  | arming
  | running
  | draining
  deriving DecidableEq, Repr

/-- The executing WRITE_STRIPE or RESUME_STRIPE: its settings sampled at the stripe boundary and its account. -/
structure Write where
  seq : Nat
  resume : Bool
  f : Stripe
  st : WState
  /-- First rendered segment (R316, R337). -/
  sFirst : Nat
  /-- Next flash to commit (R200). -/
  next : Nat
  /-- Flash instant of the flash before, in ticks (R201). -/
  lastInstant : Nat
  /-- Highest CEILING journalled (R309). -/
  ceiling : Nat
  /-- Causes pending (R301). -/
  causes : List Cause
  /-- How the write ends, once the halt or the last flash has been reached; status and code 0 for its own end. -/
  ending : Option Cause
  /-- Settings sampled at the stripe boundary (R24). -/
  fireDelay : Nat
  ackLag : Nat
  drainUs : Nat
  clampHalt : Bool
  armGuard : Nat
  low : Nat
  high : Nat
  digs : Digests
  beamDig : Word
  maskDig : Word
  weightDig : Word
  /-- Program bank of the command, per target (R250). -/
  bankRe : Bool
  bankCe : Bool
  /-- Sources whose first raise of this command has happened (R134, R156, R184, R235). -/
  firsts : List Nat
  /-- The correction engines have completed the start of the pass (R155). -/
  ceReady : Bool
  /-- ARM has executed (R198, R338). -/
  armed : Bool
  /-- Tiles whose task has faulted twice and that are never rendered: column and segment (R34, R257). -/
  never : List (Nat × Nat)
  deriving DecidableEq, Repr

/-- The executing FORAGE_STRIPE. -/
structure Forage where
  seq : Nat
  f : Stripe
  slot : Nat
  dig : Digests
  bankRe : Bool
  bankCe : Bool
  firsts : List Nat
  corrected : Bool
  /-- The correction tables in force when it began (R144). -/
  kernel : Option Bytes
  field : Option Bytes
  /-- A failure that ends the command at FORAGE_END: status, code, source, extra, ARG0, ARG1. -/
  fail : Option (Nat × Nat × Nat × Nat × Nat × Nat)
  deriving DecidableEq, Repr

/-- A self-test request still under way (R260, R261; 09). -/
structure TestReq where
  seq : Nat
  todo : List Nat
  failed : List Nat
  /-- It waited for the executing write to end: the next stripe boundary waits for it. -/
  wait : Bool
  deriving DecidableEq, Repr

/-- Rings, jobs and accounting (11_jobs_and_exposure_accounting). -/
structure Job where
  /-- Identifier of the open job (R290; 11; reset 0). -/
  id : Nat
  /-- `JOB.STATE.JOB`: 0 CLOSED, 1 OPEN, 2 CLOSING (R296; 11; reset 0, from an empty journal). -/
  st : Nat
  /-- FORAGE_SLOTS of the open job (R303; 11; reset 0). -/
  slotMax : Nat
  /-- `JOB.NEXT_SEQ`; 0 accepts any non-zero SEQ (R287; 11; reset 0, from an empty journal). -/
  nextSeq : Nat
  /-- Command ring enabled (R284; 11; reset 0). -/
  cmdOn : Bool
  /-- Completion ring enabled (R284; 11; reset 0). -/
  cplOn : Bool
  /-- Sampled base and LOG2 of the command ring (R284; 11; reset 0 and 4: DESIGN CHOICE 0 and 4, log 4). -/
  cmdBase : Nat
  cmdLog : Nat
  /-- Sampled base and LOG2 of the completion ring (R284; 11; reset 0 and 4: DESIGN CHOICE 0 and 4, log 4). -/
  cplBase : Nat
  cplLog : Nat
  /-- Ring indices `JOB.CMD_HEAD`, `CMD_TAIL`, `CPL_HEAD`, `CPL_TAIL` (R284 to R286; 11; reset 0). -/
  cmdHead : Nat
  cmdTail : Nat
  cplHead : Nat
  cplTail : Nat
  /-- PHASE of the completion ring (R288; 11; reset true: DESIGN CHOICE true, log 4). -/
  phase : Bool
  /-- The command ring has stopped on an entry (R287; 11; reset 0). -/
  stopped : Bool
  /-- `JOB.RING_STATUS.ERROR` (R284, R286, R287; 11; reset 0). -/
  error : Nat
  /-- The module waits for completion ring space (R288; 11; reset 0). -/
  cplFull : Bool
  /-- The entry at the head failed its SEQ check and is to be read again (R287; 11; reset false). -/
  retry : Bool
  /-- The last read of the entry at the head ended in a host completion error (R357; 13; reset false). -/
  hostErr : Bool
  /-- The stripe command whose intake waits or whose budgets are being checked (R294; 11; reset none). -/
  atIntake : Option Live
  /-- Accepted commands without a final completion, in SEQ order (R290, R293; 11; reset empty). -/
  live : List Live
  /-- Completions not yet posted, oldest first (R288; 11; reset empty). -/
  cplQ : List Cpl
  /-- A JOURNAL_ERASE proposal holds the ring (R400; 16; reset false). -/
  eraseHold : Bool
  /-- The executing write (R293; 11; reset none). -/
  write : Option Write
  /-- The executing forage (R293; 11; reset none). -/
  forage : Option Forage
  /-- Forage slots (R303; 11; reset empty). -/
  slots : List Slot
  /-- Frontier of the executing or last write: `JOB.FRONTIER` (R310; 11; reset none). -/
  frontier : Option Nat
  /-- FINAL of `JOB.FRONTIER_HI` (R310; 11; reset 0). -/
  frontierFinal : Bool
  /-- Self-test requests (R261; 09; reset empty). -/
  tests : List TestReq
  /-- A table load had a host completion error: its command and whether it has been read again (R357; 13; reset none). -/
  loadErr : Option Nat
  deriving DecidableEq, Repr

/-! ### DMA channels -/

/-- One DMA channel (11_jobs_and_exposure_accounting). -/
structure Chan where
  /-- `DMA.CTL.ENABLE` of channels 13 to 15 (11; reset 0). -/
  on : Bool
  /-- `DMA.CTL.PAUSE` (R307; 11; reset 0). -/
  pause : Bool
  /-- `DMA.STATUS.STATE` (R306, R307; 11; reset 0). -/
  st : Nat
  /-- `DMA.STATUS.ERROR` (R306; 11; reset 0). -/
  err : Nat
  /-- Sampled ring base and LOG2 (11; reset 0 and 1: DESIGN CHOICE 0 and 1, log 4). -/
  base : Nat
  log2 : Nat
  /-- `DMA.TAIL` and `DMA.HEAD` (R306; 11; reset 0). -/
  tail : Nat
  head : Nat
  /-- `DMA.BYTES` (R307; 11; reset 0). -/
  bytes : Nat
  /-- `DMA.CUR_HOST` (R307; 11; reset 0). -/
  cur : Nat
  /-- The descriptor being moved: host address, device address, length, TO_HOST, EVENT (11; reset none). -/
  desc : Option (Nat × Nat × Nat × Bool × Bool)
  /-- The page being read, on channels 3 to 10 (R88; 03; reset none). -/
  page : Option Nat
  /-- The pause comes from a power-down request (R307, R363; 11; reset false). -/
  byPower : Bool
  /-- The command that owns the transfer; 0 for none (R307; 11; reset 0). -/
  owner : Nat
  deriving DecidableEq, Repr

/-! ### Intake -/

/-- A box in DBU (R70). -/
structure Box where
  x0 : Int
  y0 : Int
  x1 : Int
  y1 : Int
  deriving DecidableEq, Repr

/-- A page table entry (R83). -/
structure PageEnt where
  addr : Nat
  len : Nat
  restart : Bool
  last : Bool
  deriving DecidableEq, Repr

/-- A cell index entry (R83). -/
structure CellEnt where
  id : Nat
  depth : Nat
  beginPage : Nat
  beginOff : Nat
  count : Nat
  endPage : Nat
  box : Box
  deriving DecidableEq, Repr

/-- The stream binding (R82 to R85; 03). -/
structure Binding where
  digest : Word
  pages : List PageEnt
  cells : List CellEnt
  deriving DecidableEq, Repr

/-- Frame states of R87; a frame not listed is FREE. -/
inductive FrameSt where
  | fetching
  | resident
  | state
  | directory
  deriving DecidableEq, Repr

/-- A frame that is not FREE (R86, R87; 03). -/
structure Frame where
  idx : Nat
  st : FrameSt
  /-- The page, or for a saved state its PAGE_SEQ. -/
  page : Nat
  /-- Order of its last use, for R94. -/
  used : Nat
  /-- The first check failed and the second read is due (R90). -/
  retry : Bool
  cls : FetchClass
  /-- The pass whose command reads the page (R90, R91). -/
  pass : Pass
  /-- The sequence number of that command (R91). -/
  seq : Nat
  deriving DecidableEq, Repr

/-- What a run holds of the records it has decoded, for the fields of a saved state (R59). -/
structure Scan where
  /-- The cell being defined, by its identifier; none outside every cell (IN_CELL, OPEN_CELL). -/
  cell : Option Nat
  /-- The current point (CUR_X, CUR_Y; R67). -/
  cur : Int × Int
  /-- Width and height of the last RECT of the open cell; 0 if none (LAST_W, LAST_H). -/
  lastW : Nat
  lastH : Nat
  /-- Records completed since the start of the stream (RECORDS); none where the run does not know them. -/
  records : Option Nat
  /-- The bytes of the record that goes on past the last page decoded (RECORD_CARRY is their number). -/
  tail : Bytes
  deriving DecidableEq, Repr

/-- A run of a decompressor (R97; 03). -/
structure Run where
  pass : Pass
  chainStart : Nat
  /-- The next page to decode. -/
  next : Nat
  /-- The content of the page before `next`, which is the history of R57 and R59; empty at the start of a chain. -/
  content : Bytes
  /-- The content of the page before that, as far as this run has decoded it. -/
  before : Bytes
  /-- The page whose frame the decompressor holds: that frame is PINNED (R93). -/
  pin : Option Nat
  /-- The records decoded up to the end of the page before `next` (R59). -/
  scan : Scan
  deriving DecidableEq, Repr

/-- A decompressor (03_intake_and_paging). -/
structure Dec where
  /-- `INT.DEC_STATE.STATE` (03; reset 0). -/
  st : Nat
  /-- Generation tag (R39; 01; reset 0). -/
  gen : BitVec 4
  /-- The run held (R97; 03; reset none). -/
  run : Option Run
  /-- A run whose saved state is still to be written, and whether it waits for want of a frame (R94, R98; 03; reset none). -/
  saving : Option (Run × Bool)
  deriving DecidableEq, Repr

/-- A placement that the expansion unit enters (R71 to R73, R101). -/
structure Placement where
  cell : CellEnt
  orient : Nat
  tx : Int
  ty : Int
  /-- The tile in whose list the placement is bracketed (R105). -/
  bracket : Option (Int × Int)
  deriving DecidableEq, Repr

/-- An open cell on the expansion unit's stack (R67, R75, R101, R457). -/
structure OpenCell where
  at_ : Placement
  cur : Int × Int
  lastW : Nat
  lastH : Nat
  /-- Records from CELL_BEGIN on. -/
  count : Nat
  /-- Depth formed so far by R74. -/
  depth : Nat
  /-- Where its next record begins. -/
  next : RecPos
  /-- Copies of the AREF still to enter after this one, in order (R102). -/
  rest : List Placement
  /-- The cell was entered by a placement, so that its contents are listed; not set for a definition that the unit meets
  behind the top cell (R63, R101). -/
  placed : Bool
  /-- The cell stands in the cell index (R84). -/
  indexed : Bool
  deriving DecidableEq, Repr

/-- One segment of a CURVE entry (R104). -/
structure Seg where
  arc : Bool
  w : Nat
  cx : Int
  cy : Int
  ex : Int
  ey : Int
  deriving DecidableEq, Repr

/-- One entry of a tile list (R104). -/
inductive LEntry where
  | rect (b : Box)
  | poly (pts : List (Int × Int))
  | curve (first : Int × Int) (segs : List Seg)
  | hiveOpen (cell phaseX phaseY orient : Nat) (ox oy : Int) (box : Box)
  | hiveClose
  deriving DecidableEq, Repr

/-- A tile list being written or handed over (R104, R109). -/
structure TList where
  pass : Pass
  col : Int
  seg : Int
  entries : List LEntry
  done : Bool
  /-- The 64 KiB units of LIST in which a list handed over stands, in order (R322). -/
  units : List Nat
  deriving DecidableEq, Repr

/-- What a page header tells the walk (R51): content length, RECORD_OFFSET, RESTART and LAST. -/
structure PageHead where
  page : Nat
  len : Nat
  recOff : Nat
  restart : Bool
  last : Bool
  deriving DecidableEq, Repr

/-- The expansion unit's walk for one pass (03_intake_and_paging). -/
structure Exp where
  /-- STREAM_HEADER has been taken (R64; reset false). -/
  header : Bool
  /-- NEGATIVE (R64; reset false). -/
  negative : Bool
  /-- TOP (R64; reset 0). -/
  top : Nat
  /-- STREAM_END has been taken (R65; reset false). -/
  ended : Bool
  /-- The CELL_END of the top cell has been taken (R65, R69; reset false). -/
  topDone : Bool
  /-- Where the next record outside every cell begins (R65; reset page 0, offset 0). -/
  next : RecPos
  /-- Placements waiting to be entered, first copy first (R101, R102; reset empty). -/
  enter : List Placement
  /-- Open cells, innermost first (R101; reset empty). -/
  stack : List OpenCell
  /-- Lists being written (R102, R104; reset empty). -/
  lists : List TList
  /-- Tiles whose list has been handed over, by column and segment (R109; reset empty). -/
  handed : List (Int × Int)
  /-- Placed boxes that a BAD page keeps the write from expanding (R91; reset empty). -/
  blocked : List Box
  /-- Pages the pass has decoded, in order of their first decoding, for the page list (R303; reset empty). -/
  pages : List PageHead
  /-- Identifiers of the cells defined behind the top cell that the cell index does not hold (R65, R69; reset empty). -/
  extra : List Nat
  deriving DecidableEq, Repr

/-- The intake (03_intake_and_paging). -/
structure Intake where
  /-- Pool base in bytes, sampled at JOB_OPEN (R86; 03; reset 0: DESIGN CHOICE 0, log 4). -/
  poolBase : Nat
  /-- Frames in the pool, sampled at JOB_OPEN; 0 while no job is open (R86; 03; reset 0). -/
  poolFrames : Nat
  /-- Frames that are not FREE (R87; 03; reset empty). -/
  frames : List Frame
  /-- The binding (R82; 03; reset none). -/
  bind : Option Binding
  /-- Order of uses, for the least recent of R94 (03; reset 0). -/
  clock : Nat
  /-- Pages marked BAD, with the pass whose command marked them (R90, R91; 03; reset empty). -/
  bad : List (Pass × Nat)
  /-- Decompressors (03; reset idle). -/
  dec : Vector Dec 4
  /-- Walk of the forage pass (03; reset empty). -/
  expF : Exp
  /-- Walk of the write (03; reset empty). -/
  expW : Exp
  /-- `INT.CTL` as sampled when the pass began (03; reset 0x0000_2083). -/
  ctlF : Word
  ctlW : Word
  /-- Generation tag of the expansion unit (R109; 03; reset 0). -/
  expGen : BitVec 4
  deriving DecidableEq, Repr

/-! ### Engines, combs, tasks -/

/-- A task (R253, tables of 09_kolben_engines). -/
structure Task where
  pass : Pass
  /-- 1 COVER, 2 DOSE_FROM_STORE, 3 RENDER_DOSE, 4 SELF_TEST for a raster engine; 1 start, 2 block for a correction
  engine. -/
  mode : Nat
  col : Int
  seg : Int
  margin : Bool
  second : Bool
  /-- Engines the task must avoid (R33, R256). -/
  avoid : List Nat
  /-- The task faults it has had: code and engine (R257). -/
  faulted : List (Nat × Nat)
  deriving DecidableEq, Repr

/-- One crossing held by the span unit: scanline, position, direction and tag (R243). -/
structure Crossing where
  k : Nat
  x : Int
  up : Bool
  tag : Nat
  deriving DecidableEq, Repr

/-- The span unit (R243, R279; 09, 10). -/
structure Span where
  /-- Crossings of the current row, oldest first (R243; reset empty). -/
  xs : List Crossing
  /-- Current pixel row, none before the first SPAN.ROW of a task (R279; reset none). -/
  row : Option Int
  /-- SPAN4 executed since SPAN.ROW (R279; reset 0). -/
  count : Nat
  /-- Polarity set by SPAN.CFG (R280; reset false). -/
  negative : Bool
  /-- Box set by SPAN.CFG (R279; reset all 0: DESIGN CHOICE 0, log 5). -/
  box : Box
  /-- ARC_BAD of the current row (R280; reset false). -/
  arcBad : Bool
  deriving DecidableEq, Repr

/-- A hit bracket of a task: the raster and where its corner lies in the tile (R246, R346). -/
structure Hit where
  row0 : Int
  col0 : Int
  rows : List (List Nat)
  deriving DecidableEq, Repr

/-- A fill in progress (R247, R277, R346). -/
structure Fill where
  key : Bytes
  hash : Word
  row0 : Int
  col0 : Int
  width : Nat
  height : Nat
  xOff : Int
  yOff : Int
  rows : List (List Nat)
  put : Nat
  dropped : Bool
  cls : Pass
  deriving DecidableEq, Repr

/-- What an engine holds while it holds a task (R242, R275 to R278). -/
structure Held where
  task : Task
  /-- Entries of the list still to deliver (R246). -/
  entries : List LEntry
  entryCount : Nat
  /-- Rows sent, oldest first (R242). -/
  rows : List (List Nat)
  /-- Rows read from the coverage store (R242). -/
  covRow : Nat
  /-- The codes the coverage store holds for the tile. -/
  cover : List (List Nat)
  factors : List Nat
  factLoaded : Bool
  getRow : Nat
  hits : List Hit
  fill : Option Fill
  /-- Hive entries the task read: their bucket, way and way bytes without FLAGS (R131). -/
  used : List (Nat × Nat × Bytes)
  /-- Sums of CNT.ADD by sel, and reads outside the field table (R138, R278). -/
  sums : List Nat
  fieldOut : Nat
  /-- Factors written, newest first (R282). -/
  facs : List ((Int × Int) × Nat)
  /-- Issue slots taken (R283, R304). -/
  slots : Nat
  bank : Bool
  negative : Bool
  dir : Bool
  col0 : Int
  row0 : Int
  spillLen : Nat
  spillBase : Nat
  spilled : Nat
  deriving DecidableEq, Repr

/-- One Kolben engine (09_kolben_engines). Vector lanes are a raster engine's 128 lanes of 12 bits or a correction
engine's 64 lanes of 24 bits; accumulator lanes 24 or 48 bits. -/
structure Engine where
  /-- V0 to V31; a lane not listed is 0 (R236; 09; reset 0). -/
  v : Vector (List Nat) 32
  /-- A0 to A7 (R236; 09; reset 0). -/
  a : Vector (List Int) 8
  /-- M1 to M7; M0 reads as all ones (R236; 09; reset 0). -/
  m : Vector (List Bool) 8
  /-- G1 to G31; G0 reads as 0 (R236; 09; reset 0). -/
  g : Vector Word 32
  /-- SAT (R269; 10; reset 0: DESIGN CHOICE 0, log 5). -/
  sat : List Bool
  /-- Program counter (R236; 09; reset the entry word). -/
  pc : Nat
  /-- Local memory (R236; 09; reset 0, then the initial data of the program). -/
  lmem : List Host.Cell
  /-- Span unit (R243; 09; reset empty). -/
  span : Span
  /-- The task held (R253; 09; reset none). -/
  held : Option Held
  /-- TASK.WAIT is waiting (R275; 10; reset false). -/
  waiting : Bool
  /-- The scheduler has assigned a task that TASK.WAIT has not yet taken (R253; 09; reset none). -/
  assigned : Option Task
  /-- Failed mark (R258; 09; reset false). -/
  failed : Bool
  /-- A part fault since the last passing self-test or module reset (R258; 09; reset false). -/
  hadPart : Bool
  /-- In self-test (R260; 09; reset false). -/
  testing : Bool
  /-- Generation tag (R39; 01; reset 0). -/
  gen : BitVec 4
  deriving DecidableEq, Repr

/-- The programs of one target (R250; 09). -/
structure ProgSet where
  /-- Image of the program in force (R252; 09; reset Yunaeth's). -/
  cur : Bytes
  /-- Bank that holds it (R250; 09; reset false: DESIGN CHOICE false, log 5). -/
  bank : Bool
  /-- Image in the other bank (R250; 09; reset none). -/
  other : Option Bytes
  /-- Image of the pending program (R250; 09; reset none). -/
  pend : Option Bytes
  deriving DecidableEq, Repr

/-- Schedulers, dispatcher and the stores between them (09, 05, 12). -/
structure Comb where
  /-- Generation tag of each comb scheduler (R39; 01; reset 0). -/
  gen : Vector (BitVec 4) 12
  /-- Tasks waiting for an engine, in order of arrival (R253; 09; reset empty). -/
  tasks : List Task
  /-- Consecutive grants of the dispatcher that passed over a waiting class 4 task (R43; 01; reset 0). -/
  passed : Nat
  /-- Lists handed over and not freed (R322; 12; reset empty). -/
  lists : List TList
  /-- Factor store: pass, (u, v), K (R154; 05; reset empty). -/
  factors : List ((Pass × Int × Int) × Nat)
  /-- Coverage store of the executing forage, by (column, segment): where a compressed raster lies in COVER, and its length
  (R139; 05; reset empty). -/
  cover : List ((Int × Int) × Nat × Nat)
  /-- Next block of the correction dispatcher by pass: none before the start of pass (R154; 05; reset none). -/
  ceNextF : Option Nat
  ceNextW : Option Nat
  /-- The start of pass is complete, by pass (R155; 05; reset false). -/
  ceReadyF : Bool
  ceReadyW : Bool
  /-- Blocks failed back and to be assigned again (R154; 05; reset empty). -/
  ceAgain : List Task
  /-- Rows of hive fills that wait for installation (R346; 12; reset empty). -/
  fills : List Fill
  /-- `CMB.WORKING.RE` sampled at the last stripe boundary (R254; 09; reset 144). -/
  working : Nat
  /-- Programs of raster and correction engines (R250; 09; reset Yunaeth's). -/
  re : ProgSet
  ce : ProgSet
  deriving DecidableEq, Repr

/-! ### Correction and beam map tables -/

/-- A table in force and a table pending (R144, R173). -/
structure TableSlot where
  /-- In force (reset none). -/
  cur : Option Bytes
  /-- Pending (reset none). -/
  pend : Option Bytes
  deriving DecidableEq, Repr

/-- Correction tables and engine states (05_proximity_correction). -/
structure Pec where
  /-- Kernel table (R144; 05; reset none). -/
  kernel : TableSlot
  /-- Field density table (R144; 05; reset none). -/
  field : TableSlot
  deriving DecidableEq, Repr

/-- The codes a slice holds for one flash: beam within the slice, slot code (R180; 06). -/
structure SliceCodes where
  flash : Nat
  codes : List Nat
  /-- A high clamp lies in this flash (R165). -/
  high : Bool
  deriving DecidableEq, Repr

/-- A beam map slice (06_beam_map_and_passes). -/
structure Slice where
  /-- Generation tag (R39; 01; reset 0). -/
  gen : BitVec 4
  /-- Next flash to gather (R180; 06; reset 0). -/
  next : Nat
  /-- Codes formed and not yet sent (R180; 06; reset empty). -/
  codes : List SliceCodes
  deriving DecidableEq, Repr

/-- One capture record (R183; 06). -/
structure CapRec where
  flash : Nat
  d : Nat
  blank : Bool
  s : Nat
  high : Bool
  low : Bool
  deriving DecidableEq, Repr

/-- The beam map (06_beam_map_and_passes). -/
structure Bmu where
  /-- Beam table (R173; 06; reset none). -/
  beam : TableSlot
  /-- Dead-beam mask (R173; 06; reset none). -/
  mask : TableSlot
  /-- Slot weight table (R173; 06; reset none). -/
  weight : TableSlot
  slices : Vector Slice 4
  /-- `BMU.CAP_CTL.ARM` (R183; 06; reset 0). -/
  armed : Bool
  /-- Beam and first flash of the capture (R183; 06; reset 0). -/
  capBeam : Nat
  capFlash : Nat
  /-- The write the capture belongs to; 0 for the next (R183; 06; reset 0). -/
  capOwner : Nat
  /-- Records of the running or last capture (R183; 06; reset empty). -/
  capRecs : List CapRec
  /-- Capture buffers by slice, 8 192 bytes each (R183; 06; reset DESIGN CHOICE 0, log 6). -/
  capBuf : List Host.Cell
  /-- The last clamp recorded: flash, beam, high (R164; 06; reset none). -/
  lastClamp : Option (Nat × Nat × Bool)
  deriving DecidableEq, Repr

/-! ### Stage and flash -/

/-- A counted edge: the count after it, its time stamp, its sense and its number since the restart (R191); an edge counted
while time stamps do not run has the number 0 (R192, R449). -/
structure Edge where
  count : Word
  t : Nat
  up : Bool
  n : Nat
  deriving DecidableEq, Repr

/-- One stage axis (07_stage_lock). -/
structure Axis where
  /-- `STG.AXIS_COUNT` (R185; 07; reset 0). -/
  count : Word
  /-- REFERENCED (R189; 07; reset 0). -/
  referenced : Bool
  /-- VALID (R191; 07; reset 0). -/
  valid : Bool
  /-- STALE (R191; 07; reset 1). -/
  stale : Bool
  /-- DIR: true when the latest edge counted down (R191; 07; reset 0). -/
  down : Bool
  /-- `STG.AXIS_SPEED` (R191; 07; reset 0). -/
  speed : Word
  /-- Counted edges, newest first (R191, R200; 07; reset empty). -/
  edges : List Edge
  /-- Standstill: the next edge restarts the timing (R191; 07; reset true). -/
  still : Bool
  /-- Settings in force (R190; 07; reset as the registers: 0x0008_0001, 0, 0, 4, 10 000). -/
  ctl : Word
  expect : Word
  period : Word
  tol : Word
  timeout : Word
  deriving DecidableEq, Repr

/-- The flash sequencer and the outputs (07_stage_lock). -/
structure Seq where
  /-- `STG.SEQ_STATUS.STATE` (07; reset 0). -/
  st : Nat
  /-- `STG.SEQ_STATUS.PC` (07; reset 0). -/
  pc : Nat
  /-- Generation tag (R39; 01; reset 0). -/
  gen : BitVec 4
  /-- Program sampled at the stripe boundary, 64 words (R195; 07; reset empty). -/
  prog : List Dword
  /-- Parameters `STG.PARAM0` to `PARAM3` (R195; 07; reset 0). -/
  params : Vector Word 4
  /-- Trigger axis: 0 Y, 2 U (R195; 07; reset 0: DESIGN CHOICE 0, log 7). -/
  trig : Fin 4
  /-- X source axis, none for SEL 2 (R195; 07; reset some 1: DESIGN CHOICE 1, log 7). -/
  xsrc : Option (Fin 4)
  /-- INC and TRIM (R197; 07; reset 0: DESIGN CHOICE 0, log 7). -/
  inc : Nat
  trim : Nat
  /-- S0 and the X reference (R195; 07; reset 0: DESIGN CHOICE 0, log 7). -/
  s0 : Int
  xref : Int
  /-- Flashes left of the RUN being executed (R195; 07; reset 0). -/
  left : Nat
  /-- Target T(f) of the next flash (R197; 07; reset 0). -/
  target : Nat
  /-- PLAN sampled at the stripe boundary (R203; 07; reset 0x320). -/
  plan : Nat
  /-- Index of the last committed flash (R205; 07; reset 0). -/
  flash : Nat
  /-- The tick from which the targets of flash 0 are judged: that at which the latest edge before ARM is usable (R198, R200;
  07; reset 0: DESIGN CHOICE 0, log 7). -/
  since : Nat
  /-- `STG.LAST_WORD` (R206; 07; reset 0x8000_0000). -/
  lastWord : Word
  /-- DEFL_D: the word or setup word presented last (R206, R207; 07; reset 0x8000_0000: DESIGN CHOICE, log 7). -/
  deflD : Word
  /-- EXPOSE_ACTIVE (R210; 07; reset 0). -/
  expose : Bool
  /-- STAGE_SLOW_N asserted (R209; 07; reset 0). -/
  slow : Bool
  /-- TOOL_REF present (R449; 19; reset 0). -/
  ref : Bool
  deriving DecidableEq, Repr

/-! ### Blanker link -/

/-- One physical lane (08_blanker_link). -/
structure Lane where
  /-- ABSENT (R217; 08; reset 0). -/
  absent : Bool
  /-- LOCK (R214; 08; reset 0). -/
  lock : Bool
  /-- An outbound lane has been reported locked in this stage (R217; 08; reset false). -/
  reported : Bool
  deriving DecidableEq, Repr

/-- One port's acknowledgements (R229 to R231; 08). -/
structure PortAck where
  /-- A_p: none, or the highest EXEC accepted; `some none` stands for EXEC 0xFFFF_FFFF_FFFF (R230; 08; reset none). -/
  a : Option Nat
  /-- FINAL accepted: the EXEC it carried, 2^48 − 1 for none executed (R231; 08; reset none). -/
  final : Option Nat
  deriving DecidableEq, Repr

/-- The blanker link (08_blanker_link). -/
structure Blk where
  /-- `BLK.CORE_STATE.STATE` (08; reset 0 DOWN). -/
  st : Nat
  /-- Bring-up or wake has come to SPARE (R217, R233; 08; reset false). -/
  atSpare : Bool
  /-- A wake rather than a bring-up (R233; 08; reset false). -/
  waking : Bool
  lanes : Vector Lane 288
  /-- Spare map: the data lane each port's spare carries (R220; 08; reset none). -/
  spare : Vector (Option Nat) 16
  /-- Framing that runs: 0 none, 1 current, 2 Profile K (08; reset 0). -/
  profRun : Nat
  /-- Rate that runs: 0 none, 1 3.125, 2 10.3125, 3 26.5625 (08; reset 0). -/
  rateRun : Nat
  /-- PROFILE and RATE_MAX sampled at TRAIN (R218; 08; reset 0 and 1: DESIGN CHOICE, log 8). -/
  profile : Bool
  rateMax : Bool
  /-- CAPS received in this NEGOTIATE stage, by port (R218; 08; reset none). -/
  caps : Vector (Option Byte) 16
  /-- Generation tag of the link core (R39; 01; reset 0). -/
  gen : BitVec 4
  /-- Generation of each port (R39, R234; 08; reset 0). -/
  portGen : Vector (BitVec 4) 16
  /-- At 26.5625 Gbit/s, ticks modulo 33 by which the block boundaries' grid is shifted (R215; 08; reset 0: DESIGN CHOICE 0,
  log 92). -/
  phase : Nat
  ports : Vector PortAck 16
  /-- Link frontier (R230; 08; reset none). -/
  frontier : Option Nat
  /-- FINAL and UNSURE of `BLK.FRONTIER_HI` (R230, R231; 08; reset 0). -/
  final : Bool
  unsure : Bool
  /-- Last flash whose frames were sent (08; reset none). -/
  lastSent : Option Nat
  /-- Equalization set in use (R417, R422; 17; reset the last good set). -/
  eq : Bytes
  deriving DecidableEq, Repr

/-! ### Memory, bellows, hive cache -/

/-- One byte lane's training result: v*, E'(v*), C(v*) (R324; 12). -/
structure Eye where
  vref : Nat
  width : Nat
  centre : Nat
  deriving DecidableEq, Repr

/-- One DDR5 channel (12_memory). -/
structure MemCh where
  /-- `MEM.CH_STATE.STATE` (12; reset 1 training). -/
  st : Nat
  /-- FAIL_LANE (R325; 12; reset 0xF). -/
  failLane : Nat
  /-- REFRESH_2X (R327; 12; reset 0). -/
  twice : Bool
  /-- Generation tag (R39; 01; reset 0). -/
  gen : BitVec 4
  /-- EYE_RD and EYE_WR (R324; 12; reset 0). -/
  rd : Vector Eye 10
  wr : Vector Eye 10
  /-- Row-activation tables by bank: row and count, entry 0 first (R328; 12; reset empty). -/
  rat : List (Nat × List (Nat × Nat))
  /-- THRESHOLD taken at the last clearing (R328; 12; reset 0x800). -/
  threshold : Nat
  /-- Refreshes postponed (positive) or pulled in (negative) by bank (R327; 12; reset empty). -/
  debt : List (Nat × Int)
  /-- When event 194 was last raised (R329; 12; reset none). -/
  corrAt : Option Nat
  deriving DecidableEq, Repr

/-- Self-refresh of one memory group (R333; 12). -/
inductive GroupSt where
  | ready
  | entering
  | asleep
  | exiting
  deriving DecidableEq, Repr

/-- The regions sampled at JOB_OPEN, in GiB (R319; 12). -/
structure Regions where
  list : Nat × Nat
  cover : Nat × Nat
  factor : Nat × Nat
  forage : Nat × Nat
  hive : Nat × Nat
  deriving DecidableEq, Repr

/-- Module DRAM controllers (12_memory). -/
structure Mem where
  ch : Vector MemCh 16
  groups : Vector GroupSt 4
  /-- The channels of the requests that wait for the group's exit, oldest first (R333; 12; reset none). -/
  waits : Vector (List Nat) 4
  /-- Regions sampled at JOB_OPEN (R319; 12; reset 0: DESIGN CHOICE 0, log 4). -/
  regions : Regions
  deriving DecidableEq, Repr

/-- A tile in the bellows (R32, R335; 12). -/
structure BTile where
  col : Nat
  seg : Nat
  /-- Engine that rendered it; it is a second render when `second`. -/
  engine : Nat
  second : Bool
  released : Bool
  /-- Never to be released (R34). -/
  never : Bool
  rows : List (List Nat)
  /-- Hive entries the render read (R131). -/
  used : List (Nat × Nat × Bytes)
  deriving DecidableEq, Repr

/-- The bellows (12_memory). -/
structure Bel where
  /-- Tiles held (R335; 12; reset empty). -/
  tiles : List BTile
  /-- Retired slots by stack (R339; 12; reset 0). -/
  retired : Vector Nat 4
  /-- Generation tag by stack (R39; 01; reset 0). -/
  gen : Vector (BitVec 4) 4
  deriving DecidableEq, Repr

/-- The hive cache; its index and payload log are bytes of module DRAM (R344; 12). -/
structure Hive where
  /-- ENABLE sampled at JOB_OPEN (R345; 12; reset 0: DESIGN CHOICE false, log 4). -/
  on : Bool
  /-- BUCKET_LOG2 in force (R347; 12; reset 0x16). -/
  log2 : Nat
  /-- First DRAM address of HIVE and its length in bytes (R319; 12; reset 0: DESIGN CHOICE 0, log 4). -/
  base : Nat
  size : Nat
  /-- Log pointer, bytes from the end of the index (R346; 12; reset 0). -/
  ptr : Nat
  /-- Entries of the log: offset, length, bucket, way (R347; 12; reset empty). -/
  log : List (Nat × Nat × Nat × Nat)
  deriving DecidableEq, Repr

/-! ### Check-value units -/

/-- One general check-value unit (15_check_values). -/
structure CrcUnit where
  /-- Polynomial sampled at START (R382; 15; reset 0x82F6_3B78). -/
  poly : Word
  /-- Running value `CRC.STATE` (R385; 15; reset 0xFFFF_FFFF). -/
  run : Word
  /-- `CRC.COUNT` (R383; 15; reset 0). -/
  count : Dword
  /-- BUSY (R387; 15; reset 0). -/
  busy : Bool
  /-- Address and bytes left of the running DRAM feed (R387; 15; reset 0). -/
  src : Nat
  left : Nat
  matched : Bool
  mismatched : Bool
  feedErr : Bool
  code : Nat
  deriving DecidableEq, Repr

/-! ### Time, security, heat, calibration -/

/-- The time unit and servo (14_time_and_management_port). -/
structure Tim where
  /-- NS64 (R366; 14; reset 0). -/
  ns : Dword
  /-- The part of a nanosecond that NS64 has counted towards, in units of 1/256 ppb (R366; 14; reset 0). -/
  frac : Nat
  /-- Nanoseconds since AON started, which no step moves (R402, R414; 16; reset 0). -/
  up : Nat
  /-- RATE (R366, R370; 14; reset 0). -/
  rate : Int
  /-- acc of R370 (14; reset 0). -/
  acc : Int
  /-- `TIM.PTP_STATUS.STATE` (R371; 14; reset 0). -/
  st : Nat
  /-- Generation tag (14; reset 0). -/
  gen : BitVec 4
  /-- Latest o, PENDING_STEP and STEP_LAST (R370, R371; 14; reset 0). -/
  offset : Int
  pendStep : Int
  stepLast : Int
  /-- Raw path delays of the filter, newest first (R370; 14; reset empty). -/
  ds : List Int
  /-- d̄ (R370; 14; reset 0). -/
  dbar : Int
  /-- Announce messages of qualified masters (R368; 14; reset empty). -/
  heard : List Announce
  /-- The selected master (R371; 14; reset none). -/
  master : Option Announce
  /-- Sync awaiting its Follow_Up: sequence, t2, correction (R370; 14; reset none). -/
  sync : Option (Nat × Int × Int)
  /-- Delay_Req awaiting its Delay_Resp: sequence, t3 (R370; 14; reset none). -/
  req : Option (Nat × Int)
  /-- q less ASYM of the latest completed delay exchange (R370; 14; reset none). -/
  q : Option Int
  /-- Sequence number of the next Delay_Req (R368; 14; reset 0: DESIGN CHOICE 0, log 9). -/
  reqSeq : Nat
  /-- Exchanges since ACQUIRING began, newest first: d and o (R371; 14; reset empty). -/
  acq : List (Int × Int)
  /-- Consecutive Syncs with a large offset, newest first: o, d, m (R371; 14; reset empty). -/
  large : List (Int × Int × Int)
  /-- d̄ held before the first of them (R371; 14; reset 0). -/
  dbarHeld : Int
  /-- The path delays of that d̄, newest first (R370, R371; 14; reset empty). -/
  dsHeld : List Int
  /-- Consecutive Syncs with |o| below LOCK_NS, and in SUSPECT those within both bounds (R371; 14; reset 0). -/
  goodRun : Nat
  /-- Mean d of the three Syncs that led to SUSPECT (R371; 14; reset 0). -/
  suspectD : Int
  /-- Management port speed (R373; 14; reset 0). -/
  speed : Nat
  deriving DecidableEq, Repr

/-- An open proposal (R402; 16). -/
structure Proposal where
  seq : Nat
  stmt : Bytes
  sig : Bytes
  value : Bytes
  /-- `Tim.up` at the opening, and its window in seconds. -/
  opened : Nat
  window : Nat
  /-- An approved FIRMWARE_WRITE is being written (R401). -/
  writing : Bool
  deriving DecidableEq, Repr

/-- A quote request: of the host link, or of the management port with the tag and address of its reply (R396; 16). -/
structure QuoteReq where
  host : Bool
  tag : Word
  source : Dword
  nonce : Bytes
  deriving DecidableEq, Repr

/-- The security block (16_trust_and_guarded_settings). -/
structure Sec where
  /-- Measurement registers (R391; 16; reset 48 zero bytes each). -/
  m : Vector Bytes 8
  /-- `SEC.MEASURE_GEN` (R392; 16; reset 0). -/
  mgen : Word
  /-- NOR slots A and B (R393; 16; reset as shipped). -/
  norA : Bytes
  norB : Bytes
  /-- RUNNING, FALLBACK, RECOVERY (R393, R394; 16; reset false: DESIGN CHOICE, log 2). -/
  running : Bool
  fallback : Bool
  recovery : Bool
  /-- RUN_SVN (R393; 16; reset 0: DESIGN CHOICE 0, log 2). -/
  runSvn : Nat
  /-- MIN_SVN (R395; 16; reset 0: DESIGN CHOICE 0 as shipped, log 10). -/
  minSvn : Nat
  /-- Guard counter (R402; 16; reset 0: DESIGN CHOICE 0 as shipped, log 10). -/
  gcount : Nat
  /-- `SEC.SERIAL`, the Device Serial Number, which nothing changes (R391 table; 16; reset `Config.serial`). -/
  serial : Dword
  /-- Principals' keys, empty when not enrolled (R397; 16; reset empty as shipped). -/
  hostKey : Bytes
  maintKey : Bytes
  /-- `BMU.GUARD.SUBST_LIMIT` (R398; 06; reset 2). -/
  substLimit : Nat
  /-- ROUTE and WINDOW_S (R398; 16; reset 0 and 300). -/
  route : Nat
  window : Nat
  /-- ACTIVE (R398; 16; reset 0, slot A). -/
  active : Bool
  /-- The open proposal (R402; 16; reset none). -/
  prop : Option Proposal
  /-- Quote requests in order of arrival, the first being taken (R396; 16; reset empty). -/
  quotes : List QuoteReq
  /-- The quote taken last through GO (R396; 16; reset zeros). -/
  quote : Bytes
  deriving DecidableEq, Repr

/-- One temperature sensor (17_heat_power_calibration). -/
structure Sensor where
  /-- Count of the last gate (R406; 17; reset 0). -/
  n : Nat
  /-- Own reading in 1/16 °C (R406; 17; reset 0). -/
  own : Int
  /-- Effective reading, VALID and SUBST (R407; 17; reset 0). -/
  t : Int
  valid : Bool
  subst : Bool
  /-- Plausible at the last judgement (R407; 17; reset false). -/
  plaus : Bool
  /-- Judged at least once since the start (R407; 17; reset false). -/
  judged : Bool
  /-- Below 105 °C since it last reached 110 °C (R423; 17; reset true). -/
  cool : Bool
  /-- Trims N25 and K (R406; 17; reset the last good set). -/
  n25 : Nat
  k : Nat
  deriving DecidableEq, Repr

/-- Heat and power (17_heat_power_calibration). -/
structure Thm where
  sensors : Vector Sensor 48
  /-- Thermal and power demand and the step in force (R408; 17; reset 0). -/
  thermal : Nat
  power : Nat
  step : Nat
  /-- Time since the thermal demand last rose, in units of 0.1 ns; none when it never rose (R408; 17; reset none). -/
  sinceRise : Option Nat
  /-- HOLD and WARN (R409, R415; 17; reset 0). -/
  hold : Bool
  warn : Bool
  /-- HOT and HOT_SENSOR (R408; 17; reset 0). -/
  hot : Int
  hotSensor : Nat
  /-- The hottest valid reading at the last gate, which SMBus shows; none when no sensor is valid (R375, R421; 14; reset
  none). -/
  tempMax : Option Int
  /-- VIN, IIN and P (R415; 17; reset 0). -/
  vin : Nat
  iin : Nat
  p : Nat
  /-- Sensor and reading of the last shutdown (R412; 17; reset 0). -/
  shutSensor : Nat
  shutT : Int
  /-- When the shutdowns of the last 3 600 s came (R414; 17; reset empty). -/
  shutdowns : List Nat
  /-- LATCHED_OFF (R414; 17; reset 0). -/
  latched : Bool
  deriving DecidableEq, Repr

/-- The record of one calibrated quantity (R416, R417; 17). -/
structure CalRec where
  /-- Count, stamp and last good set (R416; 17; reset 0, 0 and as shipped: DESIGN CHOICE, log 10). -/
  count : Word
  stamp : Word
  good : Bytes
  /-- LAST_REJECT (R417; 17; reset 0). -/
  reject : Nat
  deriving DecidableEq, Repr

/-- Calibration bookkeeping (17_heat_power_calibration). -/
structure Cal where
  recs : Vector CalRec 5
  /-- Plausibility limits in force, 64 bytes (R418; 17; reset the table of 17). -/
  limits : Bytes
  /-- Limits approved and not yet in force (R418; 17; reset none). -/
  newLimits : Option Bytes
  /-- Sensor trims that wait for a stripe boundary (R416; 17; reset none). -/
  trims : Option (List Nat)
  /-- Link equalization set that waits (R416; 17; reset none). -/
  eq : Option Bytes
  /-- Self-calibration of target 1 and 2 running: the command's sequence number, 0 for a start's own (R419, R420; 17; reset none). -/
  tdcRun : Option Nat
  sensRun : Option Nat
  /-- CALIBRATE target 1 that waits for the write to end (R419; 17; reset none). -/
  tdcWait : Option Nat
  /-- The copy that runs: its DRAM address and bytes (R416; 17; reset none). -/
  copy : Option (Nat × Bytes)
  deriving DecidableEq, Repr

/-! ### The state -/

/-- The whole machine. -/
structure State where
  /-- Commands waiting, first in, first out (the model's own; reset empty). -/
  pending : List Instr
  /-- Counter of the free values (the model's own; reset DESIGN CHOICE 0, log 1). -/
  free : Nat
  /-- What the module has sent, newest first (the model's own record; reset empty). -/
  out : List Output
  /-- Stored BAR0 registers that differ from their reset values, by offset (R18, R22; 00; reset empty). -/
  regs : List (Nat × Word)
  /-- Latched high halves of 64-bit quantities, by offset of the high half (R21; 00; reset empty). -/
  latch : List (Nat × Word)
  /-- Module DRAM (R318; 12; reset empty, a byte not listed reads 0: DESIGN CHOICE 0, log 6). -/
  dram : List Host.Cell
  /-- The journal, newest record first (R308, R311; 11; reset empty: DESIGN CHOICE, log 10). -/
  journal : List JRec
  power : Power
  hif : Hif
  evt : Evt
  job : Job
  dma : Vector Chan 16
  intake : Intake
  eng : Vector Engine 148
  comb : Comb
  pec : Pec
  bmu : Bmu
  axes : Vector Axis 4
  seq : Seq
  blk : Blk
  mem : Mem
  bel : Bel
  hive : Hive
  crc : Vector CrcUnit 8
  tim : Tim
  sec : Sec
  thm : Thm
  cal : Cal
  deriving DecidableEq, Repr

/-! ### Reset -/

/-- An engine as its reset leaves it (R236): registers and local memory 0, then the initial data of the program. -/
def Engine.fresh (image : Bytes) : Engine :=
  { v := Vector.replicate 32 [], a := Vector.replicate 8 [], m := Vector.replicate 8 [], g := Vector.replicate 32 0,
    sat := [], pc := progEntry image, lmem := Sparse.setRun (fun _ => (0 : Byte)) [] 0 (progInit image),
    span := { xs := [], row := none, count := 0, negative := false, box := ⟨0, 0, 0, 0⟩, arcBad := false },
    held := none, waiting := false, assigned := none, failed := false, hadPart := false, testing := false, gen := 0 }

/-- A walk of the expansion unit before STREAM_HEADER. -/
def Exp.start : Exp :=
  { header := false, negative := false, top := 0, ended := false, topDone := false, next := ⟨0, 0⟩, enter := [],
    stack := [], lists := [], handed := [], blocked := [], pages := [], extra := [] }

/-- The plausibility limits as shipped (table of 17_heat_power_calibration, reset column). -/
def Cal.shippedLimits : Bytes :=
  Bits.natLe 0x00014C43 4 ++ Bits.natLe 26214 2 ++ Bits.natLe 39322 2 ++ [0xE0, 0x1F] ++ Bits.natLe 1638 2 ++
  Bits.natLe 2621 4 ++ Bits.natLe 12000 2 ++ Bits.natLe 40000 2 ++ Bits.natLe 12500 2 ++ [0, 0] ++
  Bits.natLe 150000 4 ++ Bits.natLe 270000 4 ++ Bits.natLe 200 2 ++ Bits.natLe 450 2 ++ Bits.natLe 48 2 ++
  [15, 31, 32, 63, 31] ++ List.replicate 21 0

/-- The sensors with the given trims and no reading yet. -/
def Sensor.start (n25 k : Nat) : Sensor :=
  { n := 0, own := 0, t := 0, valid := false, subst := false, plaus := false, judged := false, cool := true,
    n25 := n25, k := k }

/-- The domains powered at start: `HIF.PD_CTL` (R362). -/
def Power.resetDomains : Dword := 0x0000FFFF00FFFF3F

/-- The machine at power-on, before its start has run (R358, R22). -/
def State.reset : State :=
  { pending := [], free := 0, out := [], regs := [], latch := [], dram := [], journal := [],
    power :=
      { vin := true, seated := true, removing := false, aon := true, main := true, started := false, ready := false,
        resetting := true, resetPending := false, lastKind := 1, lastDetail := 0, on := Power.resetDomains,
        want := Power.resetDomains, shutdown := false, thermalStart := false },
    hif :=
      { linkUp := false, bme := false, d0 := true, perstOff := false, width := 0, speed := 0, gen := 0,
        msix := Vector.replicate 64 { addr := 0, data := 0, mask := true, pend := false },
        funcMask := false, msixOn := false, timeout := 0 },
    evt :=
      { enabled := false, error := 0, base := 0, log2 := 6, tail := 0, phase := true, held := [], lostSince := 0,
        eseq := 1, nextId := 0, due := [], lastSent := Vector.replicate 64 none },
    job :=
      { id := 0, st := 0, slotMax := 0, nextSeq := 0, cmdOn := false, cplOn := false, cmdBase := 0, cmdLog := 4,
        cplBase := 0, cplLog := 4, cmdHead := 0, cmdTail := 0, cplHead := 0, cplTail := 0, phase := true,
        stopped := false, error := 0, cplFull := false, retry := false, hostErr := false, atIntake := none, live := [],
        cplQ := [], eraseHold := false, write := none, forage := none, slots := [], frontier := none,
        frontierFinal := false, tests := [], loadErr := none },
    dma := Vector.replicate 16
      { on := false, pause := false, st := 0, err := 0, base := 0, log2 := 1, tail := 0, head := 0, bytes := 0,
        cur := 0, desc := none, page := none, byPower := false, owner := 0 },
    intake :=
      { poolBase := 0, poolFrames := 0, frames := [], bind := none, clock := 0, bad := [],
        dec := Vector.replicate 4 { st := 0, gen := 0, run := none, saving := none },
        expF := Exp.start, expW := Exp.start, ctlF := 0x2083, ctlW := 0x2083, expGen := 0 },
    eng := Vector.ofFn (fun e : Fin 148 => Engine.fresh (Config.yunaethImage (Config.shippedSlot false) (decide (144 ≤ e.val)))),
    comb :=
      { gen := Vector.replicate 12 0, tasks := [], passed := 0, lists := [], factors := [], cover := [], ceNextF := none,
        ceNextW := none, ceReadyF := false, ceReadyW := false, ceAgain := [], fills := [], working := 144,
        re := { cur := Config.yunaethImage (Config.shippedSlot false) false, bank := false, other := none, pend := none },
        ce := { cur := Config.yunaethImage (Config.shippedSlot false) true, bank := false, other := none, pend := none } },
    pec := { kernel := { cur := none, pend := none }, field := { cur := none, pend := none } },
    bmu :=
      { beam := { cur := none, pend := none }, mask := { cur := none, pend := none },
        weight := { cur := none, pend := none },
        slices := Vector.replicate 4 { gen := 0, next := 0, codes := [] },
        armed := false, capBeam := 0, capFlash := 0, capOwner := 0, capRecs := [], capBuf := [], lastClamp := none },
    axes := Vector.replicate 4
      { count := 0, referenced := false, valid := false, stale := true, down := false, speed := 0, edges := [],
        still := true, ctl := 0x00080001, expect := 0, period := 0, tol := 4, timeout := 0x2710 },
    seq :=
      { st := 0, pc := 0, gen := 0, prog := [], params := Vector.replicate 4 0, trig := 0, xsrc := some 1, inc := 0,
        trim := 0, s0 := 0, xref := 0, left := 0, target := 0, plan := 0x320, flash := 0, since := 0, lastWord := 0x80000000,
        deflD := 0x80000000,
        expose := false, slow := false, ref := false },
    blk :=
      { st := 0, atSpare := false, waking := false,
        lanes := Vector.replicate 288 { absent := false, lock := false, reported := false },
        spare := Vector.replicate 16 none, profRun := 0, rateRun := 0, profile := false, rateMax := true,
        caps := Vector.replicate 16 none, gen := 0, portGen := Vector.replicate 16 0, phase := 0, ports := Vector.replicate 16 { a := none, final := none },
        frontier := none, final := false, unsure := false, lastSent := none, eq := Config.shippedEq },
    mem :=
      { ch := Vector.replicate 16
          { st := 1, failLane := 0xF, twice := false, gen := 0,
            rd := Vector.replicate 10 { vref := 0, width := 0, centre := 0 },
            wr := Vector.replicate 10 { vref := 0, width := 0, centre := 0 },
            rat := [], threshold := 0x800, debt := [], corrAt := none },
        groups := Vector.replicate 4 .ready, waits := Vector.replicate 4 [],
        regions := { list := (0, 0), cover := (0, 0), factor := (0, 0), forage := (0, 0), hive := (0, 0) } },
    bel := { tiles := [], retired := Vector.replicate 4 0, gen := Vector.replicate 4 0 },
    hive := { on := false, log2 := 0x16, base := 0, size := 0, ptr := 0, log := [] },
    crc := Vector.replicate 8
      { poly := 0x82F63B78, run := 0xFFFFFFFF, count := 0, busy := false, src := 0, left := 0, matched := false,
        mismatched := false, feedErr := false, code := 0 },
    tim :=
      { ns := 0, frac := 0, up := 0, rate := 0, acc := 0, st := 0, gen := 0, offset := 0, pendStep := 0, stepLast := 0, ds := [],
        dbar := 0, heard := [], master := none, sync := none, req := none, q := none, reqSeq := 0, acq := [],
        large := [], dbarHeld := 0, dsHeld := [], goodRun := 0, suspectD := 0, speed := 0 },
    sec :=
      { m := Vector.replicate 8 (List.replicate 48 0), mgen := 0, norA := Config.shippedSlot false,
        norB := Config.shippedSlot true, running := false, fallback := false, recovery := false, runSvn := 0,
        minSvn := 0, gcount := 0, serial := Config.serial, hostKey := [], maintKey := [], substLimit := 2, route := 0,
        window := 300, active := false, prop := none, quotes := [],
        quote := List.replicate 560 0 },
    thm :=
      { sensors := Vector.ofFn
          (fun n : Fin 48 => Sensor.start (Config.trimN25 n.val).toNat (Config.trimK n.val).toNat),
        thermal := 0, power := 0, step := 0, sinceRise := none, hold := false, warn := false, hot := 0, hotSensor := 0,
        tempMax := none, vin := 0, iin := 0, p := 0, shutSensor := 0, shutT := 0, shutdowns := [], latched := false },
    cal :=
      { recs := Vector.ofFn (fun q : Fin 5 =>
          { count := 0, stamp := 0,
            good := if q.val = 2 then Config.shippedTdc.flatMap (Bits.natLe · 4)
              else if q.val = 3 then (List.range 48).flatMap
                (fun n => Bits.natLe (Config.trimN25 n).toNat 4 ++ Bits.natLe (Config.trimK n).toNat 4)
              else if q.val = 4 then Config.shippedEq else [],
            reject := 0 }),
        limits := Cal.shippedLimits, newLimits := none, trims := none, eq := none, tdcRun := none, sensRun := none,
        tdcWait := none, copy := none } }

end Sys2Proof.Machine
end

