-- ==== Sys2Proof/Machine/Ops.lean ====
section
/-!
DEFINITION. The operations every family of commands shares: the register file, module DRAM, outputs, free values,
raising events (R424, R429, R430), the journal (R308, R311) and completions (R288, R290, R299).
-/

namespace Sys2Proof.Machine

open Sys2Proof.Bits

/-! ### Vectors, the register file, DRAM -/

/-- Entry `i` of a vector changed by `f`; nothing past the end. -/
def upd {α : Type} {n : Nat} (v : Vector α n) (i : Nat) (f : α → α) : Vector α n :=
  if h : i < n then v.set i (f v[i]) h else v

/-- The stored value of the register at `off` (R18). -/
def reg (s : State) (off : Nat) : Word := Sparse.get RegMap.reset s.regs off

/-- The stored value as a number. -/
def regN (s : State) (off : Nat) : Nat := (reg s off).toNat

/-- Bits [hi:lo] of a stored register. -/
def regBits (s : State) (off hi lo : Nat) : Nat := bits (regN s off) hi lo

/-- A 64-bit value stored in two registers (R21). -/
def reg64 (s : State) (off : Nat) : Nat := regN s off + 4294967296 * regN s (off + 4)

/-- The register at `off` stores `v`. -/
def setReg (off : Nat) (v : Word) (s : State) : State := { s with regs := Sparse.set RegMap.reset s.regs off v }

/-- As `setReg`, of a number. -/
def setRegN (off v : Nat) (s : State) : State := setReg off (BitVec.ofNat 32 v) s

/-- Two registers store the halves of a 64-bit value. -/
def setReg64 (off v : Nat) (s : State) : State := setRegN (off + 4) (v / 4294967296) (setRegN off v s)

/-- Bits [hi:lo] of a stored register set to `v`. -/
def setRegBits (off hi lo v : Nat) (s : State) : State := setRegN off (setBits (regN s off) hi lo v) s

/-- A saturating counter plus `n`. -/
def count (off n : Nat) (s : State) : State := setReg off (satAdd (reg s off) n) s

/-- A stored register as a BAR0 write of `v` leaves it (R18, R455). -/
def writeStored (off : Nat) (v : Word) (s : State) : State :=
  match RegMap.find off with
  | some r => setReg off (RegMap.written r off (reg s off) v) s
  | none => s

/-- What DRAM reads at an address nothing has written (R321: undefined after power-on; DESIGN CHOICE 0, log 6). -/
def dramDefault (_ : Nat) : Byte := 0

/-- Bytes of installed DRAM (R4). -/
def dramSize : Nat := if Config.variantB then 2 ^ 40 else 2 ^ 39

/-- The DRAM byte at `a`. -/
def dramByte (s : State) (a : Nat) : Byte := Sparse.get dramDefault s.dram a

/-- `n` DRAM bytes from `a`. -/
def dramRead (s : State) (a n : Nat) : Bytes := Sparse.getRun dramDefault s.dram a n

/-- DRAM with the bytes `b` from `a`. -/
def dramWrite (a : Nat) (b : Bytes) (s : State) : State := { s with dram := Sparse.setRun dramDefault s.dram a b }

/-- The module sends `o`. -/
def send (o : Output) (s : State) : State := { s with out := o :: s.out }

/-- The next free value (log 1). -/
def freeNow (s : State) : Dword := Config.freeValue s.free

/-- The free values advance. -/
def freeNext (s : State) : State := { s with free := s.free + 1 }

/-- The 32-bit time stamp (R15). -/
def stamp (s : State) : Word := BitVec.ofNat 32 s.tim.ns.toNat

/-- NS64 as a number. -/
def now (s : State) : Nat := s.tim.ns.toNat

/-- Does DMA channel `c` move data: it is neither pausing, paused, stopped nor halted for power (R306, R307)? -/
def chanRuns (s : State) (c : Fin 16) : Bool := decide ((s.dma[c]).st < 2)

/-! ### Events -/

/-- The host is reachable (R356). -/
def reachable (s : State) : Bool := s.hif.linkUp && s.hif.bme && s.hif.d0

/-- Is the source enabled (R424)? -/
def evtEnabled (s : State) (src : Nat) : Bool := bit (regN s (0x010060 + 4 * (src / 32))) (src % 32)

/-- The vector of a source (R430). -/
def evtVector (s : State) (src : Nat) : Nat := regBits s (0x010100 + 4 * (src / 4)) (8 * (src % 4) + 5) (8 * (src % 4))

/-- The PENDING bit of a source is set (R424). -/
def setPendingBit (src : Nat) (s : State) : State :=
  setReg (0x010040 + 4 * (src / 32)) (reg s (0x010040 + 4 * (src / 32)) ||| BitVec.ofNat 32 (2 ^ (src % 32))) s

/-- A message owed to a vector, one for each instant, after the last of that instant's entries (R430). -/
def oweMessage (vec after : Nat) (s : State) : State :=
  let here (d : DueMessage) : Bool := d.vec == vec && d.instant == now s
  let ids := (s.evt.due.filter here).flatMap (·.after)
  { s with evt := { s.evt with
      due := s.evt.due.filter (fun d => !here d) ++ [{ vec := vec, instant := now s, after := ids ++ [after] }] } }

/-- An entry is formed for an enabled source (R429), or counted as lost, or nothing while the ring is disabled. -/
def formEntry (src info cseq : Nat) (test : Bool) (s : State) : State :=
  if !s.evt.enabled then oweMessage (evtVector s src) 0 s
  else if s.evt.held.length < 256 then
    let h : HeldEvent := { id := s.evt.nextId + 1, source := src, test := test, stamp := stamp s, info := info, cseq := cseq }
    oweMessage (evtVector s src) h.id
      { s with evt := { s.evt with held := s.evt.held ++ [h], nextId := h.id } }
  else
    count 0x01001C 1 { s with evt := { s.evt with lostSince := s.evt.lostSince + 1 } }

/-- A raise of a source, with TEST for R431. An unused source is never raised (R424). -/
def raiseAs (test : Bool) (src info cseq : Nat) (s : State) : State :=
  if RegMap.usedSource src then
    let s1 := setPendingBit src s
    if evtEnabled s src then formEntry src info cseq test s1 else s1
  else s

/-- A unit raises a source. -/
def raise (src info cseq : Nat) (s : State) : State := raiseAs false src info cseq s

/-! ### DMA channels -/

/-- A channel changed. -/
def updChan (c : Nat) (f : Chan → Chan) (s : State) : State := { s with dma := upd s.dma c f }

/-- A channel stops with an error and event 13 (R306). -/
def dmaStop (c : Fin 16) (code : Nat) (s : State) : State :=
  raise 13 c.val 0 (updChan c.val (fun x => { x with st := 4, err := code }) s)

/-- Pager reads into frames that are gone are abandoned, and their channels are free (R107). -/
def dropReads (s : State) : State :=
  { s with dma := s.dma.map (fun x : Chan =>
      match x.page with
      | some p =>
        if s.intake.frames.any (fun f => f.st == .fetching && f.page == p) then x
        else { x with page := none, st := if x.st = 1 then 0 else x.st }
      | none => x) }

/-- A decompressor with no run and nothing to save. -/
def idleDec (d : Dec) : Dec := { d with st := 0, run := none, saving := none }

/-- A decompressor gives up its run, with a state to save for it (R98). -/
def stopDec (d : Dec) : Dec :=
  match d.run with
  | some r =>
    if r.content.isEmpty then { d with st := if d.saving.isSome then 3 else 0, run := none }
    else { d with st := 3, run := none, saving := some (r, false) }
  | none => d

/-- The runs of a pass stop with its command (R98). -/
def stopRuns (p : Pass) (s : State) : State :=
  { s with intake := { s.intake with dec := s.intake.dec.map (fun d : Dec =>
      match d.run with
      | some r => if r.pass == p then stopDec d else d
      | none => d) } }

/-- The channel that carries the structures a command names: 11, or 12 while 11 does not move data (R292). -/
def tableChan (s : State) : Fin 16 := if chanRuns s 11 then 11 else 12

/-! ### BAR0 writes -/

/-- What a BAR0 write of the GLB, HIF or JOB block does: nothing while HIF has no power. -/
def hifWrite (f : State → State) (s : State) : State := if bit s.power.on.toNat 1 then f s else s

/-- What a BAR0 write of any other block does: nothing while RESETTING is set either (R359). -/
def barWrite (f : State → State) (s : State) : State := if s.power.resetting then s else hifWrite f s

/-! ### Log export (R374) -/

/-- With EXPORT set, a journal record (kind 1) or an event entry (kind 2) is sent as one datagram while the management
link is up. -/
def exportLog (kind : Nat) (b : Bytes) (s : State) : State :=
  if regBits s 0x13004C 0 0 = 1 ∧ s.tim.speed ≠ 0 then
    send (.datagram (regBits s 0x13004C 31 16) (BitVec.ofNat 64 (regN s 0x130054)) (natLe kind 8 ++ b)) s
  else s

/-! ### The journal -/

/-- The first 60 bytes of a record. -/
def JRec.head (r : JRec) : Bytes :=
  natLe r.rseq 8 ++ natLe r.kind 1 ++ natLe r.opcode 1 ++ natLe r.status 1 ++ natLe r.cause 1 ++
  natLe r.stamp.toNat 4 ++ natLe r.cseq 8 ++ natLe r.detail.toNat 4 ++ padTo (slice r.body 0 32) 32

/-- A record's 64 bytes, CHECK last (table of 11). -/
def JRec.bytes (r : JRec) : Bytes := r.head ++ natLe (Check.crc32c r.rseq r.head).toNat 4

/-- Records in the journal ring. -/
def journalRing : Nat := 262144

/-- RSEQ of the next record: one more than the newest, 0 when there is none (DEDUCED, log 12). -/
def nextRseq (s : State) : Nat :=
  match s.journal with
  | [] => 0
  | r :: _ => r.rseq + 1

/-- Has the command of an INTAKE record no FINAL record yet? -/
def unfinished (s : State) (seq : Nat) : Bool :=
  s.job.live.any (·.seq == seq) || (match s.job.atIntake with | some l => l.seq == seq | none => false)

/-- One record added; the oldest leaves a full ring. -/
def journalPut (r : JRec) (s : State) : State :=
  let n : JRec := { r with rseq := nextRseq s }
  exportLog 1 n.bytes { s with journal := n :: s.journal.take (journalRing - 1) }

/-- The record that the ring overwrites next, if it is the INTAKE record of an unfinished command (R311). -/
def journalVictim (s : State) : Option JRec :=
  if s.journal.length < journalRing then none
  else s.journal.getLast?.filter (fun r => r.kind == 1 && unfinished s r.cseq)

/-- Before the ring overwrites the INTAKE record of an unfinished command, a copy of it is written (R311): at most `n`
copies, since the record behind a copied one may be of that kind too. -/
def journalCopies : Nat → State → State
  | 0, s => s
  | n + 1, s =>
    match journalVictim s with
    | some r =>
      journalCopies n
        (raise 17 0 0 (journalPut { r with body := slice r.body 0 28 ++ natLe (setBits (field r.body 28 4) 1 1 1) 4 } s))
    | none => s

/-- As many copies as there are unfinished commands suffice. -/
def journalCopy (s : State) : State := journalCopies (s.job.live.length + 1) s

/-- A record is journalled (R308, R311). -/
def journalAdd (kind opcode status cause cseq detail : Nat) (body : Bytes) (s : State) : State :=
  let r : JRec :=
    { rseq := 0, kind := kind, opcode := opcode, status := status, cause := cause, stamp := stamp s, cseq := cseq,
      detail := BitVec.ofNat 32 detail, body := padTo body 32 }
  journalPut r (journalCopy s)

/-- Index of the newest record (R311). -/
def newestIdx (s : State) : Nat :=
  match s.journal with
  | [] => 0
  | r :: _ => r.rseq % journalRing

/-- The record at an index of the ring, newest first. -/
def journalAt (s : State) (idx : Nat) : Option JRec := s.journal.find? (fun r => r.rseq % journalRing == idx)

/-! ### Completions -/

/-- DETAIL of a completion (table of 11). -/
def detailOf (code source extra : Nat) : Nat := code % 256 + 256 * (source % 256) + 65536 * (extra % 65536)

/-- FRONTIER of a completion: bits [47:0] frontier, 63 NONE, 62 FINAL, 61 UNSURE. -/
def frontierField (f : Option Nat) (final unsure : Bool) : Nat :=
  (match f with | some n => n % 2 ^ 48 | none => 2 ^ 63) + b2n final * 2 ^ 62 + b2n unsure * 2 ^ 61

/-- LAST_SENT of a completion: bits [47:0], bit 63 NONE. -/
def lastSentField (f : Option Nat) : Nat := match f with | some n => n % 2 ^ 48 | none => 2 ^ 63

/-- A completion arises: it is posted later while the ring is enabled and the host reachable, else only journalled
(R289, R356). -/
def complete (c : Cpl) (s : State) : State :=
  if s.job.cplOn && reachable s then
    { s with job := { s.job with cplQ := s.job.cplQ ++ [{ c with stamp := stamp s }] } }
  else s

/-- How a command ends. FRONTIER and LAST_SENT are NONE for a command that is no write (log 23). -/
structure End where
  status : Nat
  cause : Nat := 0
  code : Nat := 0
  source : Nat := 0
  extra : Nat := 0
  frontier : Nat := 9223372036854775808
  lastSent : Nat := 9223372036854775808
  arg0 : Nat := 0
  arg1 : Nat := 0
  doubt : Bool := false
  stripe : Nat := 0
  deriving DecidableEq, Repr

/-- A completion entry of the command `seq` with the ending `e`. -/
def cplOf (seq opcode jidx : Nat) (final : Bool) (e : End) : Cpl :=
  { seq := seq, status := e.status, opcode := opcode, dup := false, doubt := e.doubt, cause := e.cause, code := e.code,
    source := e.source, extra := e.extra, frontier := e.frontier, lastSent := e.lastSent, arg0 := e.arg0, arg1 := e.arg1,
    jidx := jidx, stamp := 0, final := final }

/-- Refused by a class budget: event 12 and the class counter (R305, R317). -/
def budgetNote (e : End) (cls : Nat) (seq : Nat) (s : State) : State :=
  if e.status == 3 then raise 12 0 seq (count (0x020070 + 4 * (cls - 1)) 1 s) else s

/-- Opcode of a live command, 0 when it is not live. -/
def opcodeOf (s : State) (seq : Nat) : Nat :=
  match s.job.live.find? (·.seq == seq) with
  | some l => byteAt l.entry 8
  | none => 0

/-- The final completion of an accepted command: its FINAL record (R308), then its completion, and it is no longer
live. -/
def finish (seq : Nat) (e : End) (s : State) : State :=
  let op := opcodeOf s seq
  let body := natLe e.frontier 8 ++ natLe e.lastSent 8 ++ natLe e.arg0 8 ++ natLe e.stripe 4 ++ natLe (b2n e.doubt) 4
  let s1 := journalAdd 2 op e.status e.cause seq (detailOf e.code e.source e.extra) body s
  let s2 := { s1 with job := { s1.job with live := s1.job.live.filter (fun l => l.seq != seq) } }
  complete (cplOf seq op (newestIdx s1) true e) s2

/-- Ends with REFUSED_STATE and a refusal reason (R298). -/
def refusedState (reason : Nat) : End := { status := 4, code := reason, source := 8 }

/-- Ends with MALFORMED and a code of a source. -/
def malformed (code source : Nat) : End := { status := 6, code := code, source := source }

/-- A live command moves to a phase. -/
def setPhase (seq : Nat) (p : Phase) (s : State) : State :=
  { s with job := { s.job with live := s.job.live.map (fun l => if l.seq == seq then { l with phase := p } else l) } }

/-- The first live command that has not started (R293). -/
def nextQueued (s : State) : Option Live := s.job.live.find? (fun l => l.phase == .queued)

/-! ### The TDC calibration (R192, R419) -/

/-- A code-density test begins for the command `q`, 0 for a start's own: stage timing holds with STALE set. -/
def startTdc (q : Nat) (s : State) : State :=
  { s with
    cal := { s.cal with tdcWait := none, tdcRun := some q },
    axes := s.axes.map (fun x : Axis => { x with stale := true }) }

/-! ### Domains (table of 13) -/

/-- The firmware image that runs (R393). -/
def runningImage (s : State) : Bytes := if s.sec.running then s.sec.norB else s.sec.norA

/-- Is power domain `d` on? -/
def powered (s : State) (d : Nat) : Bool := bit s.power.on.toNat d

end Sys2Proof.Machine
end

