-- ==== Sys2Proof/Machine/EngineBase.lean ====
section
/-!
DEFINITION. What the schedulers do to an engine from outside: its reset, the hand-back of its task, its failed mark and
when it is working (R39, R253, R254, R258, R259; 09_kolben_engines).
-/

namespace Sys2Proof.Machine

open Sys2Proof.Bits

/-- Is engine `e` a raster engine? -/
def isRaster (e : Fin 148) : Bool := decide (e.val < 144)

/-- First offset of an engine's window (09). -/
def engBase (e : Fin 148) : Nat :=
  if e.val < 144 then 0x080000 + 0x400 * e.val else 0x0B1000 + 0x400 * (e.val - 144)

/-- INFO of an engine's events (R427). -/
def engInfo (e : Fin 148) : Nat := if e.val < 144 then e.val else 256 + (e.val - 144)

/-- Offset of a counter in the window of the comb of raster engine `e`. -/
def combCnt (e : Fin 148) (off : Nat) : Nat := 0x050000 + 0x1000 * (e.val / 12) + off

/-- One engine changed. -/
def updEng (e : Fin 148) (f : Engine → Engine) (s : State) : State := { s with eng := upd s.eng e.val f }

/-- The image in force for an engine's target. -/
def engImage (s : State) (e : Fin 148) : Bytes := if e.val < 144 then s.comb.re.cur else s.comb.ce.cur

/-- An engine after its reset: registers and local memory as R236, generation advanced; the marks stay (R39, R259). -/
def engCleared (image : Bytes) (x : Engine) : Engine :=
  { Engine.fresh image with failed := x.failed, hadPart := x.hadPart, testing := x.testing, gen := x.gen + 1 }

/-- The task an engine holds or has been assigned. -/
def engTask (x : Engine) : Option Task :=
  match x.held with
  | some h => some h.task
  | none => x.assigned

/-- Sequence number of the command of a pass; 0 when none executes. -/
def passSeq (s : State) (p : Pass) : Nat :=
  match p with
  | .forage => (match s.job.forage with | some f => f.seq | none => 0)
  | .write => (match s.job.write with | some w => w.seq | none => 0)

/-- A task goes back to its scheduler to be assigned again (R39, R133, R154), and is counted. -/
def taskBack (e : Fin 148) (t : Task) (s : State) : State :=
  if e.val < 144 then
    count (combCnt e 0x0C) 1 { s with comb := { s.comb with tasks := s.comb.tasks ++ [t] } }
  else raise 100 (e.val - 144) (passSeq s t.pass)
    (count 0x0B0034 1 { s with comb := { s.comb with ceAgain := s.comb.ceAgain ++ [t] } })

/-- An engine is reset; a task it holds is failed back, with `mark` applied to it (R256, R259). -/
def engResetWith (mark : Task → Task) (e : Fin 148) (s : State) : State :=
  let s1 := updEng e (engCleared (engImage s e)) s
  match engTask (s.eng[e]) with
  | some t => taskBack e (mark t) s1
  | none => s1

/-- An engine is reset (R259). -/
def engReset (e : Fin 148) (s : State) : State := engResetWith id e s

/-- Is the OFFLINE bit of an engine set (R259)? -/
def engOffline (s : State) (e : Fin 148) : Bool := bit (regN s (engBase e + 4)) 1

/-- Is the power domain of an engine on: its comb's, or DOSE for a correction engine (R154, R364)? -/
def engPowered (s : State) (e : Fin 148) : Bool :=
  if e.val < 144 then powered s (8 + e.val / 12) else powered s 4

/-- Is an engine working (R254)? -/
def engWorking (s : State) (e : Fin 148) : Bool :=
  !engOffline s e && !(s.eng[e]).failed && !(s.eng[e]).testing && engPowered s e

/-- All engines. -/
def engines : List (Fin 148) := List.finRange 148

/-- The raster engines. -/
def rasterEngines : List (Fin 148) := engines.filter isRaster

/-- Working raster engines (R254). -/
def workingRaster (s : State) : Nat := (rasterEngines.filter (engWorking s)).length

/-- Working correction engines. -/
def workingCorrection (s : State) : Nat := ((engines.filter (fun e => !isRaster e)).filter (engWorking s)).length

/-- Raster engines of comb `c`. -/
def combEngines (c : Nat) : List (Fin 148) := rasterEngines.filter (fun e => e.val / 12 == c)

/-- Is no engine of a comb working? -/
def combEmpty (s : State) (c : Nat) : Bool := (combEngines c).all (fun e => !engWorking s e)

/-- Event 77 when a comb has just lost its last working engine (R258). -/
def combCheck (before : State) (e : Fin 148) (s : State) : State :=
  if e.val < 144 && combEmpty s (e.val / 12) && !combEmpty before (e.val / 12) then
    raise 77 (512 + e.val / 12) 0 s
  else s

/-- An engine is marked failed: event 66 (R258). -/
def engFail (e : Fin 148) (s : State) : State :=
  combCheck s e (raise 66 (engInfo e) 0 (updEng e (fun x => { x with failed := true }) s))

/-- An engine's self-test begins: the engine is reset before it (R260). -/
def testBegin (s : State) (e : Fin 148) : State :=
  combCheck s e (updEng e (fun x => { x with testing := true }) (engReset e s))

/-- The engines named by numbers, those that exist. -/
def engList (l : List Nat) : List (Fin 148) := l.filterMap (fun n => if h : n < 148 then some ⟨n, h⟩ else none)

/-- The self-tests that waited for the write to end begin (R261); the next stripe boundary waits until they end. -/
def waitingTests (s : State) : State :=
  let due := (s.job.tests.filter (·.wait)).flatMap (fun t => engList t.todo)
  (due.filter (fun e => !(s.eng[e]).testing)).eraseDups.foldl testBegin s

/-- An engine drops its task without handing it back: the command has ended (DESIGN CHOICE, log 14). -/
def engDrop (p : Pass) (image : Bytes) (x : Engine) : Engine :=
  match engTask x with
  | some t => if t.pass == p then { engCleared image x with gen := x.gen } else x
  | none => x

/-- The tasks, lists and factors of a pass are dropped when its command ends (log 14). -/
def dropPass (p : Pass) (s : State) : State :=
  let c := s.comb
  { s with
    eng := Vector.ofFn (fun e : Fin 148 => engDrop p (engImage s e) (s.eng[e])),
    comb :=
      { c with
        tasks := c.tasks.filter (fun t => t.pass != p), lists := c.lists.filter (fun t => t.pass != p),
        factors := c.factors.filter (fun f => f.1.1 != p), ceAgain := c.ceAgain.filter (fun t => t.pass != p),
        fills := c.fills.filter (fun f => f.cls != p),
        cover := if p == .forage then [] else c.cover,
        ceNextF := if p == .forage then none else c.ceNextF, ceNextW := if p == .write then none else c.ceNextW,
        ceReadyF := if p == .forage then false else c.ceReadyF,
        ceReadyW := if p == .write then false else c.ceReadyW } }

end Sys2Proof.Machine
end

