-- ==== Sys2Proof/Machine/Throttle.lean ====
section
/-!
DEFINITION. The throttle: the demands, the target and the step in force (17_heat_power_calibration, R408 to R411).
-/

namespace Sys2Proof.Machine

open Sys2Proof.Bits

/-- The target: the highest of the thermal demand, the power demand and the floor. -/
def throttleTarget (s : State) : Nat := max (max s.thm.thermal s.thm.power) (regBits s 0x150304 1 0)

/-- The step in force rises by one: counted, event 247 (R410). -/
def stepRise (s : State) : State :=
  raise 247 0 0 (count 0x150320 1 { s with thm := { s.thm with step := s.thm.step + 1 } })

/-- The step in force rises to the target, one step at a time; `n` bounds the rises. -/
def stepUp : Nat → State → State
  | 0, s => s
  | n + 1, s => if s.thm.step < throttleTarget s then stepUp n (stepRise s) else s

/-- The step in force falls to a target below it (R410). -/
def stepDown (s : State) : State :=
  if throttleTarget s < s.thm.step then raise 247 0 0 { s with thm := { s.thm with step := throttleTarget s } } else s

/-- The step in force follows the target: up at once, down at once while no write executes (R410). -/
def throttle (s : State) : State := if s.job.write.isSome then stepUp 3 s else stepDown (stepUp 3 s)

end Sys2Proof.Machine
end

