-- ==== Sys2Proof/Machine/Halt.lean ====
section
/-!
DEFINITION. The account of a write: the link frontier and the drain (R229 to R232; 08_blanker_link), halting at a flash
boundary (R25, R205, R301) and the end of a write (R300, R303, R310, R312; 11_jobs_and_exposure_accounting).
-/

namespace Sys2Proof.Machine

open Sys2Proof.Bits

/-! ### Lanes and ports -/

/-- Window index of physical lane `j` of port `p` (R212). -/
def laneOf (p j : Nat) : Nat := 18 * p + j

/-- A lane's state; an unlisted one is absent. -/
def lane (s : State) (w : Nat) : Lane := s.blk.lanes.toList.getD w { absent := true, lock := false, reported := false }

/-- One lane changed. -/
def updLane (w : Nat) (f : Lane → Lane) (s : State) : State :=
  { s with blk := { s.blk with lanes := upd s.blk.lanes w f } }

/-- The data lane that the spare of port `p` carries (R220). -/
def spareOf (s : State) (p : Nat) : Option Nat := s.blk.spare.toList.getD p none

/-- Physical lanes of port `p` that carry a data lane, with the logical lane each carries (R212, R220). -/
def carriers (s : State) (p : Nat) : List (Nat × Nat) :=
  ((List.range 16).filter (fun j => !(lane s (laneOf p j)).absent)).map (fun j => (laneOf p j, 16 * p + j)) ++
  (match spareOf s p with
    | some j => if (lane s (laneOf p 16)).absent then [] else [(laneOf p 16, 16 * p + j)]
    | none => [])

/-- All sixteen ports. -/
def ports : List Nat := List.range 16

/-- The outbound lanes of port `p` that are not absent: its data lanes and its spare (R212). -/
def outbound (s : State) (p : Nat) : List Nat :=
  ((List.range 17).map (laneOf p)).filter (fun w => !(lane s w).absent)

/-- Do the lanes run: RUNNING or DRAINING, or HELD while a drain under way is still served (R231, R234; log 15)? -/
def linkRuns (s : State) : Bool :=
  s.blk.st == 5 || s.blk.st == 8 ||
  (s.blk.st == 9 && (match s.job.write with | some w => w.st == .draining | none => false))

/-- Is port `p` counted (R230)? -/
def counted (s : State) (p : Nat) : Bool :=
  linkRuns s && !(carriers s p).isEmpty && (lane s (laneOf p 17)).lock && !(lane s (laneOf p 17)).absent

/-- Acknowledgements of port `p`. -/
def portAck (s : State) (p : Nat) : PortAck := s.blk.ports.toList.getD p { a := none, final := none }

/-- The least of a list of acknowledged flashes, where none counts below every flash (R230). -/
def leastAck : List (Option Nat) → Option Nat
  | [] => none
  | [a] => a
  | a :: r =>
    match a, leastAck r with
    | some x, some y => some (min x y)
    | _, _ => none

/-- The greater of two frontiers, where NONE counts below every flash (R310). -/
def maxFrontier (a b : Option Nat) : Option Nat :=
  match a, b with
  | some x, some y => some (max x y)
  | some x, none => some x
  | none, b => b

/-- Sequence number of the executing write, 0 when none executes. -/
def wseq (s : State) : Nat := match s.job.write with | some w => w.seq | none => 0

/-- The executing write changed. -/
def setWrite (f : Write → Write) (s : State) : State := { s with job := { s.job with write := s.job.write.map f } }

/-- Does a write execute that has not reached its halt or last flash? -/
def writeLive (s : State) : Bool := match s.job.write with | some w => w.ending.isNone | none => false

/-! ### Tiles held -/

/-- The tile of a column and segment. -/
def tileAt (s : State) (col seg : Nat) : Option BTile := s.bel.tiles.find? (fun t => t.col == col && t.seg == seg)

/-- Is a tile released (R32)? -/
def tileReleased (s : State) (col seg : Nat) : Bool :=
  match tileAt s col seg with | some t => t.released | none => false

/-- Is every tile of a segment released? -/
def segReleased (s : State) (seg : Nat) : Bool := (List.range 40).all (fun c => tileReleased s c seg)

/-- The tiles of one list changed. -/
def updTile (col seg : Nat) (f : BTile → BTile) (s : State) : State :=
  { s with bel := { s.bel with tiles := s.bel.tiles.map (fun t => if t.col == col && t.seg == seg then f t else t) } }

/-- Slots a stack can hold (R335). -/
def stackCapacity (retired : Nat) : Nat := 1360 - 10 * (retired - 5)

/-- The stack of a column (R335). -/
def stackOf (col : Nat) : Nat := col / 10

/-- Has the start window been released (R337)? -/
def windowReady (s : State) : Bool :=
  match s.job.write with
  | some w =>
    (List.range 50).all (fun i => let seg := w.sFirst + i; decide (w.f.segs ≤ seg) || segReleased s seg)
  | none => false

/-! ### Lead and STAGE_SLOW_N -/

/-- The gather front of the cycle of flash `f` (R338). -/
def gatherFront (f : Nat) : Nat := (20 * (128 * (f / 400) + 255) + 19) / 256

/-- Consecutive released segments from `seg` on, at most `n`. -/
def leadFrom (s : State) : Nat → Nat → Nat
  | _, 0 => 0
  | seg, n + 1 => if segReleased s seg then leadFrom s (seg + 1) n + 1 else 0

/-- The lead (R338); 0 when no write runs. -/
def lead (s : State) : Nat :=
  match s.job.write with
  | some w => leadFrom s (gatherFront w.next + 1) 86
  | none => 0

/-- Is STAGE_SLOW_N following the lead: from ARM until the write ends (R338)? -/
def leadWatched (s : State) : Bool := match s.job.write with | some w => w.armed | none => false

/-- Is SLOW_FORCE set? -/
def slowForced (s : State) : Bool := bit (regN s 0x0D0110) 0

/-- STAGE_SLOW_N follows the lead and SLOW_FORCE, with its events (R209, R338). -/
def slowCheck (s : State) : State :=
  let low := match s.job.write with | some w => leadWatched s && decide (lead s < w.low) | none => false
  let high := match s.job.write with | some w => !leadWatched s || decide (w.high < lead s) | none => true
  if !s.seq.slow && (slowForced s || low) then
    raise 137 0 (wseq s) { s with seq := { s.seq with slow := true } }
  else if s.seq.slow && high && !slowForced s then
    raise 138 0 (wseq s) { s with seq := { s.seq with slow := false } }
  else s

/-! ### Frontiers -/

/-- The stripe's frontier: the larger of the named and the link frontier (R310). -/
def stripeFrontier (s : State) : Option Nat :=
  match s.job.write with
  | some w => maxFrontier w.f.named s.blk.frontier
  | none => s.job.frontier

/-- From the stripe boundary to the end of the drain, the link frontier and `JOB.FRONTIER` follow the counted ports (R230,
R231, R310); event 176 when none is counted. -/
def refreshFrontier (s : State) : State :=
  if s.job.write.isNone then s
  else match ports.filter (counted s) with
  | [] =>
    if s.blk.unsure then s else raise 176 0 (wseq s) { s with blk := { s.blk with unsure := true } }
  | ps =>
    let s1 := { s with blk := { s.blk with unsure := false, frontier := leastAck (ps.map (fun p => (portAck s p).a)) } }
    { s1 with job := { s1.job with frontier := stripeFrontier s1 } }

/-! ### The end of a write -/

/-- The intake leaves the write: its runs stop, its lists are gone and its BAD marks end (R91, R98). -/
def endWalk (s : State) : State :=
  let s1 := stopRuns .write s
  { s1 with intake := { s1.intake with expW := Exp.start, bad := s1.intake.bad.filter (fun b => b.1 != .write) } }

/-- A capture that belongs to the write ends (R183). -/
def captureEnd (seq : Nat) (s : State) : State :=
  if s.bmu.armed && s.bmu.capOwner == seq then
    raise 111 (s.bmu.capBeam / 65536) seq
      (setRegN 0x0C002C s.bmu.capRecs.length { s with bmu := { s.bmu with armed := false, capOwner := 0 } })
  else s

/-- What the end of a write leaves of the units that served it (log 14). -/
def writeCleared (seq : Nat) (s : State) : State :=
  let s1 := captureEnd seq (endWalk (dropPass .write s))
  { s1 with
    bel := { s1.bel with tiles := [] },
    bmu := { s1.bmu with slices := s1.bmu.slices.map (fun x => { x with next := 0, codes := [] }) },
    seq := { s1.seq with st := if s1.seq.st = 1 then 0 else s1.seq.st },
    job := { s1.job with write := none } }

/-- What a halt leaves at once of the rendering of the write: its tasks, its second renders among them, its walk and its
bellows slots (R132, R183, R205, R336; log 14). -/
def haltCleared (seq : Nat) (s : State) : State :=
  let s1 := captureEnd seq (endWalk (dropPass .write s))
  { s1 with bel := { s1.bel with tiles := [] } }

/-- The end of a write that has exposed all its flashes. -/
def ownEnd : Cause := { code := 0, flash := none, arg0 := 0, arg1 := 0, axis := 0, status := 0 }

/-- How the write ends, with its account (R300, R310). -/
def writeEnd (s : State) (w : Write) (e : Cause) : End :=
  let fr := maxFrontier w.f.named s.blk.frontier
  let above := match s.blk.lastSent, fr with
    | some l, some f => decide (f < l)
    | some _, none => true
    | none, _ => false
  { status := e.status, cause := e.code, code := e.dcode, source := e.dsource, arg0 := e.arg0, arg1 := e.arg1,
    frontier := frontierField fr s.blk.final s.blk.unsure, lastSent := lastSentField s.blk.lastSent,
    doubt := !s.blk.final && above, stripe := w.f.stripe }

/-- A slot is freed when its stripe has been written (R303). -/
def freeSlot (f : Stripe) (s : State) : State :=
  { s with job := { s.job with slots := s.job.slots.filter (fun x => !(x.stripe == f.stripe && x.pass == f.pass)) } }

/-- A CALIBRATE of the TDC that waited for the write starts (R419). -/
def waitingTdc (s : State) : State :=
  match s.cal.tdcWait with
  | some q => startTdc q s
  | none => s

/-! ### Module reset: the outcomes (R312) -/

/-- How an accepted command that does not execute a write ends with a reset; a stripe command names its stripe. -/
def abortEnd (b : Bytes) (cause : Nat) : End :=
  let op := byteAt b 8
  let e : End := { status := 0xB, cause := cause }
  if op = 6 || op = 7 then
    let n := field b 48 8
    { e with stripe := field b 16 4 % 1048576, frontier := if op = 7 then frontierField (if bit n 63 then none else some n) false false else e.frontier }
  else if op = 5 then { e with stripe := field b 16 4 % 1048576 } else e

/-- Every accepted command without a FINAL record ends with ABORTED_RESET (R312 step 4): an open proposal closes (R404), a
forage leaves no results (R35). A calibration or a transfer that runs on has no command any more. -/
def abortLive (s : State) : State :=
  let s1 := s.job.live.foldl (fun t l => finish l.seq (abortEnd l.entry 0x13) t) s
  let s2 := match s.sec.prop with
    | some p => raise 243 (field p.stmt 4 2) p.seq { s1 with sec := { s1.sec with prop := none } }
    | none => s1
  let s3 := dropPass .forage s2
  { s3 with
    job := { s3.job with
      forage := none, atIntake := none, tests := [], loadErr := none, eraseHold := false,
      slots := (s3.job.slots.filter (·.held)).map (fun x : Slot => { x with claim := 0 }) },
    cal := { s3.cal with
      tdcWait := none, tdcRun := s3.cal.tdcRun.map (fun _ => 0), sensRun := s3.cal.sensRun.map (fun _ => 0) },
    dma := s3.dma.map (fun x : Chan => { x with owner := 0 }) }

/-- The write ends once its drain has ended: its account, its final completion, the throttle's fall that its execution held
back (R410), and what waited for it; under a module
reset the other commands then end too (R312). -/
def endWrite (s : State) : State :=
  match s.job.write with
  | none => s
  | some w =>
    let e := w.ending.getD ownEnd
    let s0 := { s with job := { s.job with frontier := stripeFrontier s, frontierFinal := s.blk.final } }
    let s1 := budgetNote (writeEnd s w e) 2 w.seq (finish w.seq (writeEnd s w e) s0)
    let s2 := if e.status == 0 then raise 9 0 w.seq (freeSlot w.f s1) else s1
    let s3 := stepDown (slowCheck (writeCleared w.seq s2))
    if s3.power.resetPending then abortLive s3 else waitingTdc (waitingTests s3)

/-! ### The drain -/

/-- The STRIPE_END block (table of 08): last flash sent, complete or halt. Under Profile K the index is big-endian. -/
def stripeEndBlock (s : State) (halted : Bool) : Bytes :=
  let idx := natLe (match s.blk.lastSent with | some f => f | none => 0xFFFFFFFFFFFF) 6
  0xE7 :: ((if s.blk.profRun == 2 then idx.reverse else idx) ++ [if halted then 1 else 0])

/-- A control block leaves on every lane that carries a data lane. -/
def sendAll (b : Bytes) (s : State) : State :=
  (ports.flatMap (fun p => (carriers s p).map (·.1))).foldl (fun t w => send (.control w b) t) s

/-- At least `n` IDLE blocks on every lane that carries a data lane (R224). -/
def idleAll (n : Nat) (s : State) : State :=
  (ports.flatMap (fun p => (carriers s p).map (·.1))).foldl (fun t w => send (.idle w n) t) s

/-- STRIPE_END on every running lane, with two IDLE blocks between it and a frame (R224, R231). -/
def sendStripeEnd (halted : Bool) (s : State) : State :=
  sendAll (stripeEndBlock s halted) (if s.blk.lastSent.isSome then idleAll 2 s else s)

/-- The drain begins: STRIPE_END on every running lane (R231). A write that halts while the link wakes has no running lane
yet; its STRIPE_END goes out when the wake ends. -/
def beginDrain (halted : Bool) (s : State) : State :=
  let s1 := if linkRuns s then sendStripeEnd halted s else s
  let s2 := setWrite (fun w => { w with st := .draining }) s1
  if s2.blk.st == 5 then { s2 with blk := { s2.blk with st := 8 } } else s2

/-- The link enters REST: REST on each outbound lane, then electrical idle (R232). -/
def enterRest (s : State) : State :=
  let s1 := (ports.flatMap (outbound s)).foldl (fun t w => send (.control w (0xA5 :: List.replicate 7 0)) t) s
  raise 171 0 (wseq s) { s1 with blk := { s1.blk with st := 6 } }

/-- The drain ends, with FINAL from every counted port or by its limit (R231, R232). -/
def endDrain (final : Bool) (s : State) : State :=
  let s1 := { s with blk := { s.blk with final := final } }
  let s2 := if final then raise 169 0 (wseq s) s1 else count 0x0E8060 1 (raise 170 0 (wseq s) s1)
  let s3 :=
    if s2.blk.st == 8 then
      (if bit (regN s2 0x0E8000) 5 then enterRest s2 else { s2 with blk := { s2.blk with st := 5 } })
    else s2
  endWrite s3

/-- The link is HELD, its bring-up or wake over. -/
def linkHeld (s : State) : State := { s with blk := { s.blk with st := 9, atSpare := false, waking := false } }

/-- Is a drain under way? -/
def draining (s : State) : Bool := match s.job.write with | some w => w.st == .draining | none => false

/-- Has every counted port sent FINAL, and is there one? -/
def allFinal (s : State) : Bool :=
  let ps := ports.filter (counted s)
  !ps.isEmpty && ps.all (fun p => (portAck s p).final.isSome)

/-- The drain ends if every counted port has sent FINAL. -/
def drainCheck (s : State) : State := if draining s && allFinal s then endDrain true s else s

/-! ### Halting -/

/-- Code of `STG.HALT_INFO` for a halt cause (R205). -/
def haltInfoCode (cause : Nat) : Nat :=
  match cause with
  | 7 => 1
  | 8 => 2
  | 9 => 3
  | 10 => 4
  | 11 => 5
  | 12 => 6
  | _ => 7

/-- The causes that have reached the boundary of the first flash not committed; one that waits for its tick has not. -/
def dueCauses (w : Write) : List Cause :=
  w.causes.filter (fun c => c.tick.isNone && (match c.flash with | none => true | some f => decide (f ≤ w.next)))

/-- The lowest cause code of a list (R301). -/
def lowestCause : List Cause → Option Cause
  | [] => none
  | c :: r =>
    match lowestCause r with
    | none => some c
    | some b => if b.code < c.code then some b else some c

/-- The write halts with a cause at the flash boundary now reached (R25, R205, R301). -/
def haltNow (c : Cause) (s : State) : State :=
  let q := wseq s
  let s1 := setWrite (fun w => { w with ending := some c }) s
  let k := haltInfoCode c.code
  let s2 := setRegN 0x0D014C (k + 256 * (if k == 7 then 0 else c.axis)) s1
  let s3 := { s2 with seq := { s2.seq with st := 4, expose := false, left := 0 } }
  let s4 := raise 10 0 q s3
  let s5 := if c.code == 4 then raise 107 0 q s4 else s4
  slowCheck (refreshFrontier (beginDrain true (haltCleared q (raise 135 0 q s5))))

/-- The write halts if a cause has reached the next flash boundary. -/
def haltCheck (s : State) : State :=
  match s.job.write with
  | none => s
  | some w =>
    if w.ending.isSome then s
    else match lowestCause (dueCauses w) with
      | some c => drainCheck (haltNow c s)
      | none => s

/-- Has a cause that waits for a tick come to it by `tau`? -/
def tickCome (tau : Nat) (c : Cause) : Bool := match c.tick with | some k => decide (k ≤ tau) | none => false

/-- The causes whose tick has come by `tau` stand at the sequencer (R204). -/
def causesBy (tau : Nat) (s : State) : State :=
  setWrite (fun w => { w with causes := w.causes.map (fun c => if tickCome tau c then { c with tick := none } else c) }) s

/-- Time comes to tick `tau`: a write halts with a cause that waited for a tick up to it (R204; log 55). -/
def ticksTo (tau : Nat) (s : State) : State :=
  match s.job.write with
  | some w => if w.causes.any (tickCome tau) then haltCheck (causesBy tau s) else s
  | none => s

/-- A cause reaches the sequencer (R25, R301). -/
def addCause (c : Cause) (s : State) : State :=
  if writeLive s then haltCheck (setWrite (fun w => { w with causes := w.causes ++ [c] }) s) else s

/-- A cause without arguments, at the next flash boundary. -/
def plainCause (code : Nat) : Cause := { code := code, flash := none, arg0 := 0, arg1 := 0, axis := 0, status := 0xA }

/-- An event raised at its first occurrence in the executing command of a pass. -/
def raiseFirst (p : Pass) (src info : Nat) (s : State) : State :=
  match p with
  | .write =>
    match s.job.write with
    | some w =>
      if w.firsts.contains src then s
      else raise src info w.seq (setWrite (fun w => { w with firsts := src :: w.firsts }) s)
    | none => s
  | .forage =>
    match s.job.forage with
    | some f =>
      if f.firsts.contains src then s
      else raise src info f.seq
        { s with job := { s.job with forage := some { f with firsts := src :: f.firsts } } }
    | none => s

/-- `BLK.HALT_INFO` of a link cause. -/
def linkInfo (cause window : Nat) (s : State) : State := setRegN 0x0E800C (cause + 65536 * window) s

/-- A cause of the blanker link while a write executes: `BLK.HALT_INFO`, its event and the halt (R231 table). -/
def linkCause (cause event window code : Nat) (s : State) : State :=
  if writeLive s then addCause (plainCause code) (raise event window (wseq s) (linkInfo cause window s)) else s

/-- Does the drain of a write run that has committed its last flash? -/
def drainsComplete (s : State) : Bool :=
  match s.job.write with
  | some w => w.st == .draining && (match w.ending with | some e => e.status == 0 | none => false)
  | none => false

/-- What an acknowledgement reports (R230, R231 table). After the last flash no flash boundary is left: the write then ends
halted with the cause (DEDUCED, log 102). In the drain of a halt the write keeps its cause. -/
def ackCause (cause event window code : Nat) (s : State) : State :=
  if drainsComplete s then
    raise 10 0 (wseq s) (raise event window (wseq s)
      (setWrite (fun w => { w with ending := some (plainCause code) }) (linkInfo cause window s)))
  else if writeLive s then linkCause cause event window code s
  else raiseFirst .write event window s

end Sys2Proof.Machine
end

