-- ==== Sys2Proof/Machine/Memory.lean ====
section
/-!
DEFINITION. The DDR5 channels (12_memory): the address map (R318), training (R323 to R326), refresh and row activations
(R327, R328), errors, the freeze and the patrol scrub (R329 to R332), and self-refresh (R333).
-/

namespace Sys2Proof.Machine

open Sys2Proof.Bits

/-! ### The address map (R318) -/

/-- The channel of a DRAM address. -/
def dramChannel (a : Nat) : Nat := (a / 256 % 16) ^^^ (a / 1048576 % 16)

/-- The channel address of a DRAM address. -/
def channelAddr (a : Nat) : Nat := a / 4096 * 256 + a % 256

/-- The fields of a channel address: byte within the row, bank group, bank, row and rank. -/
def channelFields (x : Nat) : Nat × Nat × Nat × Nat × Nat :=
  (bits x 12 0, bits x 15 13, bits x 17 16, bits x 34 18, bits x 35 35)

/-- First offset of a channel's window. -/
def memBase (c : Nat) : Nat := 0x100000 + 0x1000 * c

/-- A channel changed. -/
def updMem (c : Fin 16) (f : MemCh → MemCh) (s : State) : State := { s with mem := { s.mem with ch := upd s.mem.ch c.val f } }

/-- Every channel of a memory group changed. -/
def updGroupCh (g : Fin 4) (f : MemCh → MemCh) (s : State) : State :=
  { s with mem := { s.mem with ch := Vector.ofFn (fun c : Fin 16 => if c.val / 4 = g.val then f (s.mem.ch[c]) else s.mem.ch[c]) } }

/-- A memory group's self-refresh state set. -/
def setGroup (g : Fin 4) (x : GroupSt) (s : State) : State := { s with mem := { s.mem with groups := s.mem.groups.set g x } }

/-- Is the domain of a channel on? -/
def chPowered (s : State) (c : Fin 16) : Bool := powered s (20 + c.val / 4)

/-- Does a channel serve requests: ready and powered? -/
def chReady (s : State) (c : Fin 16) : Bool := chPowered s c && (s.mem.ch[c]).st == 2

/-- Does a memory group take requests: its domain is on and no power-down of it has begun (R333, R363)? -/
def groupOpen (s : State) (g : Nat) : Bool := powered s (20 + g) && bit s.power.want.toNat (20 + g)

/-- The channels of the granules that a range of `n` bytes touches; 32 consecutive granules reach every channel (R318). -/
def rangeChannels (a n : Nat) : List (Fin 16) :=
  if n = 0 then []
  else ((List.range (min 32 ((a + n - 1) / 256 - a / 256 + 1))).map
    (fun i => Fin.ofNat 16 (dramChannel (a / 256 * 256 + 256 * i)))).eraseDups

/-- Does every channel that a range of DRAM touches take requests: in installed DRAM, its group open, and neither frozen,
failed nor training? -/
def rangeServed (s : State) (a n : Nat) : Bool :=
  decide (a + n ≤ dramSize) && (rangeChannels a n).all (fun c =>
    groupOpen s (c.val / 4) &&
      ((s.mem.ch[c]).st == 2 || (decide (3 ≤ (s.mem.ch[c]).st) && decide ((s.mem.ch[c]).st ≤ 5))))

/-! ### Training (R323 to R325) -/

/-- The longest run of passing delays at a voltage, from delay `d` on: the best run so far and the run now open, each as its
length and first delay; the first of equal runs stays (R324). -/
def longestRun (bad : List Nat) : Nat → Nat → Nat × Nat → Nat × Nat → Nat × Nat
  | 0, _, best, run => if best.1 < run.1 then run else best
  | n + 1, d, best, run =>
    if bad.contains d then longestRun bad n (d + 1) (if best.1 < run.1 then run else best) (0, d + 1)
    else longestRun bad n (d + 1) best (run.1 + 1, run.2)

/-- E(v) and the first delay of its run (R324 step 1), from the points that failed. -/
def eyeRun (failed : List (Nat × Nat)) (v : Nat) : Nat × Nat :=
  longestRun ((failed.filter (fun p => p.1 == v)).map (·.2)) 128 0 (0, 0) (0, 0)

/-- E′(v) (R324 step 2). -/
def eyeLeast (failed : List (Nat × Nat)) (v : Nat) : Nat :=
  let e (w : Nat) : Nat := (eyeRun failed w).1
  let lo := if v = 0 then e v else min (e (v - 1)) (e v)
  if v = 15 then lo else min lo (e (v + 1))

/-- Distance of a voltage point from 7.5, doubled. -/
def fromMiddle (v : Nat) : Nat := if 15 ≤ 2 * v then 2 * v - 15 else 15 - 2 * v

/-- The better of two voltage points: larger E′, then nearer 7.5, then the one already held, which is lower (R324 step 3). -/
def betterPoint (failed : List (Nat × Nat)) (a b : Nat) : Nat :=
  if eyeLeast failed a < eyeLeast failed b then b
  else if eyeLeast failed b < eyeLeast failed a then a
  else if fromMiddle b < fromMiddle a then b else a

/-- The result of a sweep (R324). -/
def eyeOf (failed : List (Nat × Nat)) : Eye :=
  let v := (List.range 16).foldl (betterPoint failed) 0
  let r := eyeRun failed v
  { vref := v, width := eyeLeast failed v, centre := r.2 + (r.1 - 1) / 2 }

/-- The points that failed in the sweep of a lane; a lane not listed passes at every point. -/
def sweepFailed (l : List Sweep) (c : Fin 16) (lane : Fin 10) (write : Bool) : List (Nat × Nat) :=
  match l.find? (fun x => x.ch == c && x.lane == lane && x.write == write) with
  | some x => x.failed
  | none => []

/-- A channel after training (R324, R325). -/
def trained (l : List Sweep) (c : Fin 16) (x : MemCh) : MemCh :=
  let rd := Vector.ofFn (fun n : Fin 10 => eyeOf (sweepFailed l c n false))
  let wr := Vector.ofFn (fun n : Fin 10 => eyeOf (sweepFailed l c n true))
  let bad := (List.finRange 10).find? (fun n => decide ((rd[n]).width < 20) || decide ((wr[n]).width < 20))
  { x with
    rd := rd, wr := wr, st := if bad.isSome then 7 else 2, failLane := match bad with | some n => n.val | none => 0xF,
    rat := [], debt := [] }

/-- The DRAM bytes of the training area (R319, R323). -/
def trainingArea : Nat := 16777216

/-- Channels train (R323, R325): event 193 for each that fails, 192 when every channel is ready. The training area is
overwritten with data the spec does not give: it reads as memory that nothing has written (log 6). -/
def trainChannels (which : Fin 16 → Bool) (l : List Sweep) (s : State) : State :=
  let s1 := { s with
    dram := s.dram.filter (fun e => decide (trainingArea ≤ e.1)),
    mem := { s.mem with ch := Vector.ofFn (fun c : Fin 16 => if which c then trained l c (s.mem.ch[c]) else s.mem.ch[c]) } }
  let s2 := ((List.finRange 16).filter (fun c => which c && (s1.mem.ch[c]).st == 7)).foldl (fun t c => raise 193 c.val 0 t) s1
  if s2.mem.ch.toList.all (fun c => c.st == 2) then raise 192 0 0 s2 else s2

/-! ### Tracking, refresh and row activations (R326 to R328) -/

/-- A write delay moved by at most one step (R326). -/
def trackEye (d : Int) (e : Eye) : Eye :=
  { e with centre := if 0 < d then min 127 (e.centre + 1) else if d < 0 then e.centre - 1 else e.centre }

/-- DQS_TRACK: `drift` gives, by lane, the direction in which the oscillator count asks the write delay to move (R326). -/
def dqsTrack (c : Fin 16) (drift : List Int) (s : State) : State :=
  if chReady s c then
    updMem c (fun x => { x with wr := Vector.ofFn (fun n : Fin 10 => trackEye (drift.getD n.val 0) (x.wr[n])) }) s
  else s

/-- Refreshes a bank owes: postponed less pulled in. -/
def bankDebt (x : MemCh) (bank : Nat) : Int := match x.debt.find? (fun e => e.1 == bank) with | some e => e.2 | none => 0

/-- A bank's debt set; a bank that owes nothing is not listed. -/
def setDebt (bank : Nat) (v : Int) (x : MemCh) : MemCh :=
  let rest := x.debt.filter (fun e => e.1 != bank)
  { x with debt := if v = 0 then rest else (bank, v) :: rest }

/-- Does a channel refresh its banks: ready or frozen (R327, R331)? -/
def refreshes (s : State) (c : Fin 16) : Bool := chPowered s c && ((s.mem.ch[c]).st == 2 || (s.mem.ch[c]).st == 6)

/-- A same-bank refresh (R327): issued when it falls due, postponed while fewer than four are, or pulled in while fewer than
four are. -/
def refreshBank (c : Fin 16) (bank : Nat) (how : RefreshKind) (s : State) : State :=
  let d := bankDebt (s.mem.ch[c]) bank
  if !refreshes s c then s
  else match how with
    | .issued => send (.refresh c.val bank) s
    | .postponed => if d < 4 then updMem c (setDebt bank (d + 1)) s else send (.refresh c.val bank) s
    | .pulledIn => if -4 < d then send (.refresh c.val bank) (updMem c (setDebt bank (d - 1)) s) else s

/-- The refresh-rate registers are read (R327); a frozen channel issues refreshes only (R331). -/
def refreshRate (c : Fin 16) (hot : Bool) (s : State) : State :=
  if chReady s c && (s.mem.ch[c]).twice != hot then raise 196 c.val 0 (updMem c (fun x => { x with twice := hot }) s) else s

/-- The row-activation table of a bank (R328). -/
def bankRat (x : MemCh) (bank : Nat) : List (Nat × Nat) :=
  match x.rat.find? (fun e => e.1 == bank) with | some e => e.2 | none => []

/-- A bank's row-activation table set. -/
def setRat (bank : Nat) (t : List (Nat × Nat)) (x : MemCh) : MemCh :=
  { x with rat := (bank, t) :: x.rat.filter (fun e => e.1 != bank) }

/-- The least count of a table. -/
def leastCount (t : List (Nat × Nat)) : Nat := ((t.map (·.2)).min?).getD 0

/-- The first entry with a count replaced by a row (R328). -/
def replaceAt (n row : Nat) : List (Nat × Nat) → List (Nat × Nat)
  | [] => []
  | e :: r => if e.2 = n then (row, n + 1) :: r else e :: replaceAt n row r

/-- A table after an activation of a row (R328). -/
def activated (row : Nat) (t : List (Nat × Nat)) : List (Nat × Nat) :=
  if t.any (fun e => e.1 == row) then t.map (fun e => if e.1 == row then (row, e.2 + 1) else e)
  else if t.length < 512 then t ++ [(row, 1)]
  else replaceAt (leastCount t) row t

/-- The count of a row in a table. -/
def rowCount (row : Nat) (t : List (Nat × Nat)) : Nat := match t.find? (fun e => e.1 == row) with | some e => e.2 | none => 0

/-- A row activation (R328). -/
def rowActivation (c : Fin 16) (bank row : Nat) (s : State) : State :=
  if !chReady s c then s
  else
    let t := activated row (bankRat (s.mem.ch[c]) bank)
    if rowCount row t < (s.mem.ch[c]).threshold then updMem c (setRat bank t) s
    else
      count (memBase c.val + 0x1C) 1 (send (.directedRefresh c.val bank row)
        (updMem c (setRat bank (t.map (fun e => if e.1 == row then (row, 0) else e))) s))

/-- All row-activation tables are cleared and THRESHOLD is taken (R328). -/
def ratClear (s : State) : State :=
  { s with mem := { s.mem with ch := s.mem.ch.map (fun x : MemCh =>
    { x with rat := [], threshold := regBits s 0x100814 13 0 }) } }

/-! ### Errors and the freeze (R329 to R332) -/

/-- An executing forage meets a failure that ends it. -/
def forageHit (e : Nat × Nat × Nat × Nat × Nat × Nat) (s : State) : State :=
  { s with job := { s.job with forage := s.job.forage.map (fun f : Forage => { f with fail := f.fail.or (some e) }) } }

/-- A channel freezes (R331): its record, event 195 and the effect on executing commands. -/
def freeze (c : Fin 16) (kind cls : Nat) (line : LineRef) (s : State) : State :=
  let a := line.addr / 64 * 64
  let s1 := setReg64 (memBase c.val + 8) a
    (setRegN (memBase c.val + 4) (kind + 256 * b2n line.subB + 4096 * (cls % 16)) (updMem c (fun x => { x with st := 6 }) s))
  addCause (plainCause 0x11) (forageHit (0xC, 0, 0, 0, a, c.val) (raise 195 c.val 0 s1))

/-- Does an error concern a line of a channel that works? -/
def lineHere (s : State) (c : Fin 16) (line : LineRef) : Bool := chReady s c && dramChannel line.addr == c.val

/-- Has a second passed since event 194 was last raised (R329)? -/
def corrDue (x : MemCh) (up : Nat) : Bool := match x.corrAt with | none => true | some t => decide (t + 1000000000 ≤ up)

/-- A DRAM read in error (R329, R330). -/
def readError (c : Fin 16) (line : LineRef) (correctable : Bool) (s : State) : State :=
  if !lineHere s c line then s
  else if !correctable then freeze c 1 line.cls line s
  else
    let s1 := count (memBase c.val + 0x10) 1 s
    if corrDue (s.mem.ch[c]) s.tim.up then raise 194 c.val 0 (updMem c (fun x => { x with corrAt := some s.tim.up }) s1) else s1

/-- A write CRC error, with whether the retry has one too (R330). -/
def writeCrc (c : Fin 16) (line : LineRef) (again : Bool) (s : State) : State :=
  if !lineHere s c line then s
  else
    let s1 := count (memBase c.val + 0x18) 1 s
    if again then freeze c 3 line.cls line s1 else s1

/-- A command/address parity error (R330). -/
def caParity (c : Fin 16) (line : LineRef) (s : State) : State := if lineHere s c line then freeze c 2 line.cls line s else s

/-- The patrol scrub has read lines (R332). -/
def patrol (c : Fin 16) (corrected : Nat) (bad : Option LineRef) (s : State) : State :=
  if !chReady s c || regBits s 0x10081C 7 0 = 0 then s
  else
    let s1 := count (memBase c.val + 0x14) corrected s
    match bad with
    | some l => if dramChannel l.addr == c.val then freeze c 4 0 l s1 else s1
    | none => s1

/-! ### Self-refresh (R333) -/

/-- A channel state changed where it is another. -/
def chMoves (src dst : Nat) (x : MemCh) : MemCh := if x.st = src then { x with st := dst } else x

/-- A group leaves for self-refresh. -/
def groupEnters (g : Fin 4) (s : State) : State := updGroupCh g (chMoves 2 3) (setGroup g .entering s)

/-- An idle group begins to enter self-refresh while no job is open (R333). -/
def srIdle (g : Fin 4) (s : State) : State :=
  if s.job.st = 0 && regBits s 0x100818 19 0 ≠ 0 && powered s (20 + g.val) && s.mem.groups[g] == .ready then groupEnters g s
  else s

/-- A request on a channel waits for its group to leave self-refresh, and is counted (R333). -/
def groupWait (g : Fin 4) (c : Nat) (s : State) : State :=
  count (memBase c + 0x24) 1 { s with mem := { s.mem with waits := s.mem.waits.set g (s.mem.waits[g] ++ [c]) } }

/-- A group in self-refresh begins to leave it for a request on a channel (R333). -/
def groupWakes (g : Fin 4) (c : Nat) (s : State) : State :=
  groupWait g c (updGroupCh g (chMoves 4 5) (setGroup g .exiting s))

/-- Entry is complete (R333): a request that came after the commit point triggers the exit. Which channel it was for is
open. -/
def srEntered (g : Fin 4) (request : Bool) (s : State) : State :=
  if s.mem.groups[g] != .entering then s
  else
    let s1 := raise 197 (16 + g.val) 0 (updGroupCh g (chMoves 3 4) (setGroup g .asleep s))
    if request then freeNext (groupWakes g (4 * g.val + (freeNow s).toNat % 4) s1) else s1

/-- The extra latencies of requests that waited, each added to the counter of its channel (R333). -/
def addWaits : List (Nat × Nat) → State → State
  | [], s => s
  | (c, ns) :: r, s => addWaits r (count (memBase c + 0x28) ns s)

/-- Exit is complete (R333): `extra` gives the extra latency of each request that waited, in order. -/
def srExited (g : Fin 4) (extra : List Nat) (s : State) : State :=
  if s.mem.groups[g] != .exiting then s
  else
    let s1 := raise 198 (16 + g.val) 0 (updGroupCh g (chMoves 5 2) (setGroup g .ready s))
    addWaits ((s.mem.waits[g]).zip extra) { s1 with mem := { s1.mem with waits := s1.mem.waits.set g [] } }

/-- A request reaches a group through a channel (R333): it cancels an entry, or wakes a group that is asleep. -/
def memRequest (c : Fin 16) (s : State) : State :=
  let g : Fin 4 := ⟨c.val / 4, by omega⟩
  match s.mem.groups[g] with
  | .entering =>
    raise 199 c.val 0 (count (memBase c.val + 0x20) 1 (updGroupCh g (chMoves 3 2) (setGroup g .ready s)))
  | .asleep => if groupOpen s g.val then groupWakes g c.val s else s
  | .exiting => groupWait g c.val s
  | .ready => s

/-- A request for a DRAM address. -/
def addrRequest (a : Nat) (s : State) : State := memRequest (Fin.ofNat 16 (dramChannel a)) s

/-- Requests for the granules of a range of `n` bytes, one on each channel it touches (R318). -/
def rangeRequest (a n : Nat) (s : State) : State := (rangeChannels a n).foldl (fun t c => memRequest c t) s

/-- Requests that reach every group. -/
def allRequests (s : State) : State := [0, 4, 8, 12].foldl (fun t c => memRequest (Fin.ofNat 16 c) t) s

/-! ### The commands -/

/-- REFRESH (R327). -/
def execRefresh (c : Fin 16) (bank : Fin 64) (how : RefreshKind) (s : State) : Host.Outcome State Fault Refusal :=
  .next (refreshBank c bank.val how s)

/-- REFRESH_RATE_READ (R327). -/
def execRefreshRateRead (c : Fin 16) (hot : Bool) (s : State) : Host.Outcome State Fault Refusal := .next (refreshRate c hot s)

/-- DQS_TRACK (R326). -/
def execDqsTrack (c : Fin 16) (drift : List Int) (s : State) : Host.Outcome State Fault Refusal := .next (dqsTrack c drift s)

/-- RAT_CLEAR (R328). -/
def execRatClear (s : State) : Host.Outcome State Fault Refusal := .next (ratClear s)

/-- ROW_ACTIVATION (R328). -/
def execRowActivation (c : Fin 16) (bank : Fin 64) (row : Fin 131072) (s : State) : Host.Outcome State Fault Refusal :=
  .next (rowActivation c bank.val row.val s)

/-- PATROL_SCRUB (R332). -/
def execPatrolScrub (c : Fin 16) (corrected : Nat) (bad : Option LineRef) (s : State) : Host.Outcome State Fault Refusal :=
  .next (patrol c corrected bad s)

/-- WRITE_CRC_ERROR (R330). -/
def execWriteCrcError (c : Fin 16) (line : LineRef) (again : Bool) (s : State) : Host.Outcome State Fault Refusal :=
  .next (writeCrc c line again s)

/-- CA_PARITY_ERROR (R330). -/
def execCaParityError (c : Fin 16) (line : LineRef) (s : State) : Host.Outcome State Fault Refusal := .next (caParity c line s)

/-- DRAM_READ_ERROR (R329). -/
def execDramReadError (c : Fin 16) (line : LineRef) (correctable : Bool) (s : State) : Host.Outcome State Fault Refusal :=
  .next (readError c line correctable s)

/-- SR_IDLE_ENTRY (R333). -/
def execSrIdleEntry (g : Fin 4) (s : State) : Host.Outcome State Fault Refusal := .next (srIdle g s)

/-- SR_ENTRY_COMPLETE (R333). -/
def execSrEntryComplete (g : Fin 4) (request : Bool) (s : State) : Host.Outcome State Fault Refusal :=
  .next (srEntered g request s)

/-- SR_EXIT_COMPLETE (R333). -/
def execSrExitComplete (g : Fin 4) (extraNs : List Nat) (s : State) : Host.Outcome State Fault Refusal := .next (srExited g extraNs s)

end Sys2Proof.Machine
end

