-- ==== Sys2Proof/Machine/CrcUnits.lean ====
section
/-!
DEFINITION. The general check-value units (15_check_values, R382 to R389).
-/

namespace Sys2Proof.Machine

open Sys2Proof.Bits

/-- First offset of the window of unit `u` (R381 ff.). -/
def crcBase (u : Fin 8) : Nat := 0x120000 + 0x100 * u.val

/-- One unit changed. -/
def updCrc (u : Fin 8) (f : CrcUnit → CrcUnit) (s : State) : State := { s with crc := upd s.crc u.val f }

/-- A feed error: the first one stays until FEED_ERR is cleared, and every one raises event 245 (R388). -/
def crcError (u : Fin 8) (code : Nat) (s : State) : State :=
  raise 245 u.val 0 (updCrc u (fun c => if c.feedErr then c else { c with feedErr := true, code := code }) s)

/-- The polynomial that POLY_SEL names (R378, R382); none for 3. -/
def crcPoly (s : State) (u : Fin 8) : Option Word :=
  match regBits s (crcBase u) 1 0 with
  | 0 => some Check.poly32c
  | 1 => some 0xEDB88320
  | 2 => some (reg s (crcBase u + 0x10))
  | _ => none

/-- START (R382, R388). -/
def crcStart (u : Fin 8) (s : State) : State :=
  if (s.crc[u]).busy then crcError u 4 s
  else match crcPoly s u with
    | none => crcError u 3 s
    | some p =>
      let run := Check.start p (bit (regN s (crcBase u)) 3) (reg64 s (crcBase u + 8))
      updCrc u (fun c => { c with poly := p, run := run, count := 0, matched := false, mismatched := false }) s

/-- Absorbs data bytes and counts them (R383). -/
def crcAbsorb (u : Fin 8) (b : Bytes) (s : State) : State :=
  updCrc u (fun c => { c with run := Check.absorbAll c.poly c.run b, count := c.count + BitVec.ofNat 64 b.length }) s

/-- A write of a feed register of `n` bytes (R383, R388). -/
def crcFeed (u : Fin 8) (n : Nat) (v : Word) (s : State) : State :=
  if (s.crc[u]).busy then crcError u 4 s
  else if v.toNat / 2 ^ (8 * n) ≠ 0 then crcError u 1 s
  else crcAbsorb u (natLe v.toNat n) s

/-- A comparison of a running value with EXPECT (R386). -/
def crcCompareRun (u : Fin 8) (run : Word) (s : State) : State :=
  if run ^^^ 0xFFFFFFFF = reg s (crcBase u + 0x1C) then
    updCrc u (fun c => { c with matched := true, mismatched := false }) s
  else
    raise 244 u.val 0 (count 0x120800 1 (updCrc u (fun c => { c with matched := false, mismatched := true }) s))

/-- The running value while a DRAM feed runs: some prefix of the range has been absorbed, which one is open (R388). -/
def crcMoment (u : Fin 8) (s : State) : Word :=
  let c := s.crc[u]
  Check.absorbAll c.poly c.run (dramRead s c.src ((freeNow s).toNat % (c.left + 1)))

/-- COMPARE (R386, R388). -/
def crcCompare (u : Fin 8) (s : State) : State :=
  if (s.crc[u]).busy then freeNext (crcCompareRun u (crcMoment u s) s)
  else crcCompareRun u (s.crc[u]).run s

/-- DRAM_GO (R387, R388). -/
def crcGo (u : Fin 8) (s : State) : State :=
  let src := reg64 s (crcBase u + 0x38)
  let len := regN s (crcBase u + 0x40)
  if (s.crc[u]).busy then crcError u 4 s
  else if src % 64 ≠ 0 || len % 64 ≠ 0 || len < 64 || 2 ^ 30 < len || dramSize < src + len then crcError u 2 s
  else updCrc u (fun c => { c with busy := true, src := src, left := len }) (rangeRequest src len s)

/-- A write of `CRC.CTL`: the RW fields, then START, DRAM_GO and COMPARE where their bits are set, in that order
(DESIGN CHOICE, log 13). -/
def crcCtl (u : Fin 8) (v : Word) (s : State) : State :=
  let s1 := writeStored (crcBase u) v s
  let s2 := if bit v.toNat 4 then crcStart u s1 else s1
  let s3 := if bit v.toNat 6 then crcGo u s2 else s2
  if bit v.toNat 5 then crcCompare u s3 else s3

/-- A write of `CRC.STATE` (R385, R388). -/
def crcSetState (u : Fin 8) (v : Word) (s : State) : State :=
  if (s.crc[u]).busy then crcError u 4 s else updCrc u (fun c => { c with run := v }) s

/-- A write of `CRC.FLAGS`: FEED_ERR is W1C (R388). -/
def crcClear (u : Fin 8) (v : Word) (s : State) : State :=
  if bit v.toNat 3 then updCrc u (fun c => { c with feedErr := false, code := 0 }) s else s

/-- The end of a DRAM feed after `n` bytes (R386 to R388). -/
def crcFeedEnd (u : Fin 8) (n : Nat) (fail : Bool) (s : State) : State :=
  let c := s.crc[u]
  let done := if fail then min n c.left else c.left
  let s1 := updCrc u (fun c => { c with busy := false, left := 0 }) (crcAbsorb u (dramRead s c.src done) s)
  if fail then crcError u 5 s1
  else if bit (regN s (crcBase u)) 7 then crcCompareRun u (s1.crc[u]).run s1 else s1

/-- CRC_START (R382). -/
def execCrcStart (u : Fin 8) (v : Word) (s : State) : Host.Outcome State Fault Refusal :=
  .next (barWrite (crcCtl u (v ||| 0x10)) s)

/-- CRC_FEED_B (R383). -/
def execCrcFeedB (u : Fin 8) (v : Word) (s : State) : Host.Outcome State Fault Refusal :=
  .next (barWrite (crcFeed u 1 v) s)

/-- CRC_FEED_H (R383). -/
def execCrcFeedH (u : Fin 8) (v : Word) (s : State) : Host.Outcome State Fault Refusal :=
  .next (barWrite (crcFeed u 2 v) s)

/-- CRC_FEED_W (R383). -/
def execCrcFeedW (u : Fin 8) (v : Word) (s : State) : Host.Outcome State Fault Refusal :=
  .next (barWrite (crcFeed u 4 v) s)

/-- CRC_STATE_WRITE (R385). -/
def execCrcStateWrite (u : Fin 8) (v : Word) (s : State) : Host.Outcome State Fault Refusal :=
  .next (barWrite (crcSetState u v) s)

/-- CRC_COMPARE (R386). -/
def execCrcCompare (u : Fin 8) (v : Word) (s : State) : Host.Outcome State Fault Refusal :=
  .next (barWrite (crcCtl u (v ||| 0x20)) s)

/-- DRAM_GO (R387). -/
def execDramGo (u : Fin 8) (v : Word) (s : State) : Host.Outcome State Fault Refusal :=
  .next (barWrite (crcCtl u (v ||| 0x40)) s)

/-- DRAM_FEED_END (R388); nothing while no feed runs. -/
def execDramFeedEnd (u : Fin 8) (n : Nat) (fail : Bool) (s : State) : Host.Outcome State Fault Refusal :=
  .next (if (s.crc[u]).busy then crcFeedEnd u n fail s else s)

end Sys2Proof.Machine
end

