-- ==== Sys2Proof/Machine/Events.lean ====
section
/-!
DEFINITION. The event ring, test raises and MSI-X messages (18_events_and_faults, R424 to R432; R353).
-/

namespace Sys2Proof.Machine

open Sys2Proof.Bits

/-- Entries of the event ring. -/
def evtSize (s : State) : Nat := 2 ^ s.evt.log2

/-- `EVT.RING_HEAD`. -/
def evtHead (s : State) : Nat := regBits s 0x010010 13 0

/-- The event ring is full (R426). -/
def evtFull (s : State) : Bool := s.evt.enabled && (s.evt.tail + 1) % evtSize s == evtHead s % evtSize s

/-- The ring is enabled with its base and size sampled, or ERROR is set (R426). -/
def evtEnable (s : State) : State :=
  let base := reg64 s 0x010000
  let log := regBits s 0x010008 3 0
  if s.evt.enabled then s
  else if base % 64 ≠ 0 then { s with evt := { s.evt with error := 1 } }
  else if log < 6 || 14 < log then { s with evt := { s.evt with error := 2 } }
  else
    setRegN 0x010010 0
      { s with evt := { s.evt with enabled := true, error := 0, base := base, log2 := log, tail := 0, phase := true } }

/-- The ring is disabled: entries held are discarded and not counted (R429). -/
def evtDisable (s : State) : State :=
  { s with evt := { s.evt with enabled := false, held := [], lostSince := 0 } }

/-- Does an entry wait for the completion of the command it names (R428)? -/
def evtWaits (s : State) (h : HeldEvent) : Bool :=
  (h.source == 6 || h.source == 7 || h.source == 9 || h.source == 11 || h.source == 12) &&
  s.job.cplQ.any (fun c => c.seq == h.cseq)

/-- The least source of a list, the first of equals. -/
def leastSource : List HeldEvent → Option HeldEvent
  | [] => none
  | h :: r =>
    match leastSource r with
    | none => some h
    | some b => if b.source < h.source then some b else some h

/-- The entry written next: in order of raise, entries of one instant in source order (R428). -/
def nextEntry (s : State) : Option HeldEvent :=
  match s.evt.held.filter (fun h => !evtWaits s h) with
  | [] => none
  | h :: r => leastSource (h :: r.takeWhile (fun x => x.stamp == h.stamp))

/-- The 32 bytes of an entry (table of 18). -/
def evtEntryBytes (s : State) (h : HeldEvent) : Bytes :=
  natLe h.source 2 ++ natLe (b2n s.evt.phase + 2 * b2n (decide (0 < s.evt.lostSince)) + 4 * b2n h.test) 1 ++ [0] ++
  natLe h.stamp.toNat 4 ++ natLe (min s.evt.lostSince 4294967295) 4 ++ natLe h.info 4 ++ natLe h.cseq 8 ++
  natLe s.evt.eseq.toNat 8

/-- One held entry is written at the tail, which advances (R426, R428). -/
def writeEntry (h : HeldEvent) (s : State) : State :=
  let t := (s.evt.tail + 1) % evtSize s
  let b := evtEntryBytes s h
  let s1 := exportLog 2 b (send (.evtEntry (s.evt.base + 32 * s.evt.tail) b) s)
  { s1 with evt := { s1.evt with
      held := s1.evt.held.filter (fun x => x.id != h.id), tail := t,
      phase := if t = 0 then !s1.evt.phase else s1.evt.phase, eseq := s1.evt.eseq + 1, lostSince := 0 } }

/-- Can an entry be written now (R429)? Channel 2 carries the event ring (table of 11; log 21). -/
def entryCanGo (s : State) : Bool := s.evt.enabled && !evtFull s && reachable s && chanRuns s 2

/-- One held entry is written, if there is one and it can go. -/
def writeNextEntry (s : State) : State :=
  if entryCanGo s then
    match nextEntry s with
    | some h => writeEntry h s
    | none => s
  else s

/-- Are all the entries of a message written? -/
def entriesOut (s : State) (d : DueMessage) : Bool := !s.evt.held.any (fun h => d.after.contains h.id)

/-- The messages of a vector whose entries are written. -/
def readyMessages (s : State) (vec : Nat) : List DueMessage := s.evt.due.filter (fun d => d.vec == vec && entriesOut s d)

/-- Has the moderation gap of a vector ended (R430)? -/
def gapOver (s : State) (vec : Fin 64) : Bool :=
  match s.evt.lastSent[vec] with
  | none => true
  | some t => decide (t + 1000 * regBits s 0x010018 9 0 ≤ s.tim.up)

/-- A message leaves, or its bit of the pending bit array is set while it is masked (R353, R430). -/
def emitMessage (vec : Fin 64) (s : State) : State :=
  let v := s.hif.msix[vec]
  if !s.hif.msixOn then s
  else if s.hif.funcMask || v.mask then
    { s with hif := { s.hif with msix := upd s.hif.msix vec.val (fun v => { v with pend := true }) } }
  else
    let s1 := send (.msix v.addr v.data) s
    { s1 with evt := { s1.evt with lastSent := upd s1.evt.lastSent vec.val (fun _ => some s1.tim.up) } }

/-- A vector's message that is due is sent (R430). -/
def sendMessage (vec : Fin 64) (s : State) : State :=
  match readyMessages s vec.val with
  | [] => s
  | d :: _ =>
    if !reachable s || !gapOver s vec then s
    else
      let gone (x : DueMessage) : Bool :=
        if regBits s 0x010018 9 0 = 0 then x == d
        else x.vec == vec.val && entriesOut s x
      emitMessage vec { s with evt := { s.evt with due := s.evt.due.filter (fun x => !gone x) } }

/-- EVT_RING_ENABLE (R426). -/
def execEvtRingEnable (s : State) : Host.Outcome State Fault Refusal := .next (barWrite (evtEnable) s)

/-- EVT_RING_HEAD_WRITE (R426). -/
def execEvtRingHeadWrite (v : Word) (s : State) : Host.Outcome State Fault Refusal :=
  .next (barWrite (writeStored 0x010010 v) s)

/-- EVT_TEST (R431). -/
def execEvtTest (v : Word) (s : State) : Host.Outcome State Fault Refusal :=
  .next (barWrite (raiseAs true (bits v.toNat 7 0) 0 0) s)

/-- EVENT_ENTRY_WRITE (R429). -/
def execEventEntryWrite (s : State) : Host.Outcome State Fault Refusal := .next (writeNextEntry s)

/-- MSIX_MESSAGE (R430). -/
def execMsixMessage (vec : Fin 64) (s : State) : Host.Outcome State Fault Refusal := .next (sendMessage vec s)

end Sys2Proof.Machine
end

