-- ==== Sys2Proof/Machine/Link.lean ====
section
/-!
DEFINITION. The blanker link: bring-up, sparing, acknowledgements, rest and wake (08_blanker_link, R212 to R234).
-/

namespace Sys2Proof.Machine

open Sys2Proof.Bits

/-- First offset of a lane's window. -/
def laneBase (w : Nat) : Nat := 0x0E0000 + 0x40 * w

/-- A lane is marked absent: event 162 at that moment (R220). -/
def markAbsent (w : Nat) (s : State) : State :=
  if (lane s w).absent then s
  else raise 162 w (wseq s) (updLane w (fun l => { l with absent := true, lock := false }) s)

/-- Several lanes are marked absent, in order. -/
def markAll (ws : List Nat) (s : State) : State := ws.foldl (fun t w => markAbsent w t) s

/-- All 18 lanes of a port. -/
def portLanes (p : Nat) : List Nat := (List.range 18).map (laneOf p)

/-- Is the LPORT domain of port `p` on? -/
def portOn (s : State) (p : Nat) : Bool := powered s (32 + p)

/-- Is port `p` not absent: its return lane is not marked absent (R217)? -/
def portPresent (s : State) (p : Nat) : Bool := !(lane s (laneOf p 17)).absent

/-- Ports that are not absent. -/
def presentPorts (s : State) : List Nat := ports.filter (portPresent s)

/-- Has every return lane of the ports not absent block lock? -/
def allReturnsLocked (s : State) : Bool := (presentPorts s).all (fun p => (lane s (laneOf p 17)).lock)

/-- Is every outbound lane of every port not absent reported locked (R217)? -/
def allReported (s : State) : Bool := (presentPorts s).all (fun p => (outbound s p).all (fun w => (lane s w).lock))

/-- The link enters HELD with an event (R217 to R220, R233). -/
def enterHeld (event : Nat) (s : State) : State :=
  raise event 0 (wseq s) (linkHeld s)

/-- Negotiation fails: event 174, and the link is HELD (R217 to R219). -/
def negFail (s : State) : State := enterHeld 161 (raise 174 0 (wseq s) s)

/-- The block that carries RATE (table of 08). -/
def rateBlock (rate framing : Nat) : Bytes := [0x66, BitVec.ofNat 8 rate, BitVec.ofNat 8 framing, 0, 0, 0, 0, 0]

/-- A block goes out on every outbound lane of the ports not absent. -/
def sendOutbound (b : Bytes) (s : State) : State :=
  ((presentPorts s).flatMap (outbound s)).foldl (fun t w => send (.control w b) t) s

/-- A TRAIN block of a stage on outbound lane `w` (table of 08); its sequence count is open (log 104). -/
def trainBlock (stage w count : Nat) : Bytes :=
  [0x33, BitVec.ofNat 8 stage, BitVec.ofNat 8 (w / 18), BitVec.ofNat 8 (w % 18)] ++ natLe count 4

/-- The TRAIN blocks of a stage on every outbound lane (R217). -/
def sendTrain (stage : Nat) (s : State) : State :=
  freeNext (((presentPorts s).flatMap (outbound s)).foldl
    (fun t w => send (.control w (trainBlock stage w (freeNow s).toNat)) t) s)

/-- The module's CAPS: both rates, both framings, protocol version 1 (R218; table of 08). -/
def ownCaps : Bytes := [0x55, 0x0F, 0x01, 0, 0, 0, 0, 0]

/-- NEGOTIATE begins; under the current framing the module sends CAPS (R218). -/
def enterNegotiate (s : State) : State :=
  let s1 := { s with blk := { s.blk with st := 3, caps := Vector.replicate 16 none } }
  if s.blk.profile then s1 else sendOutbound ownCaps s1

/-- A stage begins in which the blanker reports the outbound lanes anew. -/
def clearLocks (returns : Bool) (s : State) : State :=
  { s with blk := { s.blk with
      lanes := Vector.ofFn (fun w : Fin 288 =>
        let l := s.blk.lanes[w]
        if w.val % 18 == 17 && !returns then l else { l with lock := false, reported := false }) } }

/-- RATE is sent and STEP begins (R217, R218). The grid of the block boundaries takes its phase to the reference ticks
(R215; log 92). -/
def sendRate (rate framing : Nat) (s : State) : State :=
  let s1 := sendOutbound (rateBlock rate framing) s
  let s2 := { s1 with blk :=
    { s1.blk with st := 4, rateRun := rate + 1, profRun := framing, phase := (freeNow s).toNat % 33 } }
  clearLocks true (sendTrain 2 (freeNext s2))

/-- The module's choice once every port not absent has answered with CAPS (R218). -/
def chooseRate (s : State) : State :=
  let all := (presentPorts s).foldl
    (fun n p => n &&& (match s.blk.caps.toList.getD p none with | some c => c.toNat | none => 0)) 0xFF
  if bit all 2 && bit all 1 && s.blk.rateMax then sendRate 2 1 s
  else if bit all 2 && bit all 0 then sendRate 1 1 s
  else negFail s

/-- A stage whose end condition holds ends (R217). -/
def advanceStage (s : State) : State :=
  if s.blk.st == 1 && allReturnsLocked s then { s with blk := { s.blk with st := 2 } }
  else if s.blk.st == 2 && allReported s then enterNegotiate s
  else if (s.blk.st == 4 || s.blk.st == 7) && allReturnsLocked s && allReported s then
    { s with blk := { s.blk with atSpare := true } }
  else s

/-- Up to two stages end at once, when what they wait for already holds. -/
def advance (s : State) : State := advanceStage (advanceStage s)

/-- The pending link equalization set takes over (R217, R233, R417); bookkeeping of quantity 4. -/
def takeEq (s : State) : State :=
  match s.cal.eq with
  | none => s
  | some b =>
    let s1 := { s with blk := { s.blk with eq := b } }
    let r (x : CalRec) : CalRec := { x with count := satAdd x.count 1, stamp := stamp s, good := b }
    raise 253 4 0 { s1 with cal := { s1.cal with eq := none, recs := upd s1.cal.recs 4 r } }

/-- A bring-up begins (R217): the link state, the sparing and the absent marks are discarded. -/
def bringUp (s : State) : State :=
  let s1 := setRegN 0x0E8054 0 (count 0x0E8058 1 s)
  let s2 := { s1 with blk := { s1.blk with
      st := 1, atSpare := false, waking := false,
      lanes := Vector.replicate 288 { absent := false, lock := false, reported := false },
      spare := Vector.replicate 16 none, profRun := 0, rateRun := 1,
      profile := bit (regN s1 0x0E8000) 4, rateMax := bit (regN s1 0x0E8000) 3,
      caps := Vector.replicate 16 none } }
  let s3 := takeEq s2
  advance (sendTrain 1 (markAll ((ports.filter (fun p => !portOn s3 p)).flatMap portLanes) s3))

/-- TRAIN (R217): refused while a write executes. -/
def train (s : State) : State :=
  if s.job.write.isSome then raise 177 0 (wseq s) s else bringUp s

/-- A lane reaches a stage limit: it is absent, and the failure is counted (R217). -/
def stageFail (w : Nat) (s : State) : State := markAbsent w (count (laneBase w + 0x10) 1 s)

/-- Lanes of the ports not absent that are not reported locked, or all lanes of a port whose return lane has no lock. -/
def missing (s : State) : List Nat :=
  (presentPorts s).flatMap (fun p =>
    if (lane s (laneOf p 17)).lock then (outbound s p).filter (fun w => !(lane s w).lock)
    else (outbound s p) ++ [laneOf p 17])

/-- A bring-up stage reaches its limit (R217). -/
def stageLimit (s : State) : State :=
  match s.blk.st with
  | 1 =>
    let ps := (presentPorts s).filter (fun p => !(lane s (laneOf p 17)).lock)
    let s1 := (ps.flatMap portLanes).foldl (fun t w => stageFail w t) s
    advanceStage { s1 with blk := { s1.blk with st := 2 } }
  | 2 =>
    let s1 := (missing s).foldl (fun t w => stageFail w t) s
    enterNegotiate s1
  | 3 => if s.blk.profile then s else negFail s
  | 4 =>
    let s1 := (missing s).foldl (fun t w => stageFail w t) s
    { s1 with blk := { s1.blk with atSpare := true } }
  | _ => s

/-- The data lanes of port `p` that are absent. -/
def absentData (s : State) (p : Nat) : List Nat := (List.range 16).filter (fun j => (lane s (laneOf p j)).absent)

/-- What SPARE assigns to a port: `some none` an idle spare, `some (some j)` the spare carries lane j, `none` HELD
(R220). -/
def spareChoice (s : State) (p : Nat) : Option (Option Nat) :=
  if !portPresent s p then none
  else match absentData s p with
    | [] => some none
    | [j] => if (lane s (laneOf p 16)).absent then none else some (some j)
    | _ => none

/-- The spare map of R220. -/
def spareMap (s : State) : Vector (Option Nat) 16 := Vector.ofFn (fun p : Fin 16 => (spareChoice s p.val).join)

/-- The lowest window index marked absent (R221). -/
def lowestAbsent (s : State) : Option Nat := (List.range 288).find? (fun w => (lane s w).absent)

/-- `BLK.HALT_INFO` of a refusal at the boundary or a wake (R221, R233). -/
def refusedInfo (s : State) : State := setRegN 0x0E800C (5 + 65536 * (lowestAbsent s).getD 0x1FF) s

/-- EXTRA of a refusal for the link (R221, R298). -/
def linkExtra (s : State) : Nat := (lowestAbsent s).getD 0xFFFF

/-- A write that waited for a wake ends with REFUSED_STATE (R233, R298). -/
def wakeRefused (s : State) : State :=
  match s.job.write with
  | none => s
  | some w =>
    let s1 := refusedInfo s
    let e : End :=
      { refusedState 0x0D with
        extra := linkExtra s, frontier := frontierField w.f.named false false, lastSent := lastSentField none,
        stripe := w.f.stripe }
    let s2 := finish w.seq e (raise 11 0 w.seq s1)
    waitingTdc (waitingTests (writeCleared w.seq s2))

/-- Spares are assigned, and the link enters RUNNING or HELD (R220, R233). -/
def assignSpares (s : State) : State :=
  let new := ports.filter (fun p => ((spareChoice s p).join).isSome && spareOf s p != (spareChoice s p).join)
  let ok := ports.all (fun p => (spareChoice s p).isSome)
  let s1 := { s with blk := { s.blk with spare := spareMap s } }
  let s2 := new.foldl (fun t p => raise 163 (laneOf p 16) (wseq t) (count 0x0E805C 1 t)) s1
  if ok then
    let s3 := raise (if s2.blk.waking then 172 else 160) 0 (wseq s2)
      { s2 with blk := { s2.blk with st := 5, atSpare := false, waking := false } }
    if draining s3 then drainCheck (refreshFrontier (beginDrain true s3)) else refreshFrontier s3
  else if s2.blk.waking then
    let s3 := enterHeld 173 s2
    if writeLive s3 then wakeRefused s3 else s3
  else enterHeld 161 s2

/-- A return lane gains block lock (R214, R217). -/
def returnLock (p : Fin 16) (s : State) : State :=
  let w := laneOf p.val 17
  if (lane s w).absent || !portOn s p.val then s
  else
    let s1 := updLane w (fun l => { l with lock := true }) s
    if linkRuns s1 then refreshFrontier s1 else advance s1

/-- A return lane of a counted port is lost, or its LPORT domain loses power (R231 table). -/
def lostLink (w : Nat) (s : State) : State :=
  if writeLive s then linkCause 2 165 w 0x0E s else raise 165 w (wseq s) s

/-- A return lane loses block lock (R230, R231 table; not counted in REST, R232). -/
def returnLoss (p : Fin 16) (s : State) : State :=
  let w := laneOf p.val 17
  if !(lane s w).lock then s
  else
    let s1 := updLane w (fun l => { l with lock := false }) s
    let s2 := if s.blk.st == 6 then s1 else count (laneBase w + 0x0C) 1 s1
    if counted s p.val then drainCheck (refreshFrontier (lostLink w s2)) else s2

/-- Discarded blocks or invalid sync headers on a return lane (R216). -/
def discards (p : Fin 16) (n : Nat) (s : State) : State := count (laneBase (laneOf p.val 17) + 8) n s

/-- A discarded block or invalid sync header on a return lane (R216). -/
def discarded (p : Fin 16) (s : State) : State := discards p 1 s

/-- STATUS: the outbound lanes the blanker has locked (R217). -/
def statusBlock (p : Fin 16) (lanes : BitVec 24) (stage : Byte) (s : State) : State :=
  let want := if s.blk.st == 1 || s.blk.st == 2 then 1 else 2
  if stage.toNat ≠ want || !(lane s (laneOf p.val 17)).lock then s
  else
    let one (t : State) (j : Nat) : State :=
      let w := laneOf p.val j
      let was := (lane t w).lock
      let is := bit lanes.toNat j
      let t1 := updLane w (fun l => { l with lock := is, reported := l.reported || is }) t
      if was && !is && t.blk.st != 6 then count (laneBase w + 0x0C) 1 t1 else t1
    let s1 := ((List.range 17).filter (fun j => !(lane s (laneOf p.val j)).absent)).foldl one s
    advance s1

/-- CAPS of the blanker (R218, R219). -/
def capsBlock (p : Fin 16) (caps version : Byte) (s : State) : State :=
  let s1 := setRegN 0x0E8054 (256 * version.toNat + caps.toNat % 16) s
  if s1.blk.st ≠ 3 || (lane s1 (laneOf p.val 17)).absent then s1
  else
    let s2 := { s1 with blk := { s1.blk with caps := upd s1.blk.caps p.val (fun _ => some caps) } }
    if s2.blk.profile then
      (if bit caps.toNat 0 && bit caps.toNat 3 then s2 else negFail s2)
    else if (presentPorts s2).all (fun q => (s2.blk.caps.toList.getD q none).isSome) then chooseRate s2
    else s2

/-- Under Profile K the listening ends and RATE is sent (R218). -/
def listenEnd (s : State) : State := if s.blk.st == 3 && s.blk.profile then sendRate 1 2 s else s

/-! ### Acknowledgements -/

/-- A multi-byte field of a control block: little-endian, big-endian under Profile K (R216, R227). -/
def blockField (s : State) (b : Bytes) (off len : Nat) : Nat :=
  if s.blk.profRun == 2 then leNat (slice b off len).reverse else field b off len

/-- Bytes of a control block that its type uses, byte 0 included (table of 08); none for an undefined type. -/
def blockUses (type : Nat) : Option Nat :=
  match type with
  | 0x1E => some 1
  | 0x33 => some 8
  | 0x4B => some 5
  | 0x55 => some 3
  | 0x66 => some 3
  | 0xD2 => some 8
  | 0xD4 => some 7
  | 0xE1 => some 5
  | 0xE7 => some 8
  | 0xA5 => some 1
  | 0xB4 => some 8
  | 0xB8 => some 5
  | _ => none

/-- Is a control block discarded: of an undefined type, or with a non-zero byte that its type leaves unused (R216)? -/
def blockBad (b : Bytes) : Bool := match blockUses (byteAt b 0) with | some n => !zeros b n (8 - n) | none => true

/-- Are the three blocks those of an acknowledgement frame (R229)? -/
def ackForm (ack detail check : Bytes) : Bool :=
  byteAt ack 0 == 0xB4 && byteAt detail 0 == 0xB8 && byteAt check 0 == 0xE1

/-- EXEC as a frontier: none for 0xFFFF_FFFF_FFFF (R228). -/
def execOf (n : Nat) : Option Nat := if n == 0xFFFFFFFFFFFF then none else some n

/-- Is `a` below `b`, where none counts below every flash? -/
def ackBelow (a b : Option Nat) : Bool :=
  match a, b with
  | some x, some y => decide (x < y)
  | none, some _ => true
  | _, none => false

/-- An accepted EXEC that runs ahead of the frames sent, or differs from a FINAL (R230). -/
def ackBad (s : State) (p : Nat) (n : Nat) : Bool :=
  ackBelow s.blk.lastSent (execOf n) ||
  (match (portAck s p).final with | some f => f != n | none => false)

/-- The lanes a frame reports as failed are counted, one by one. -/
def countReports (p : Nat) (map : Nat) (s : State) : State :=
  ((List.range 17).filter (bit map)).foldl (fun t j => count (laneBase (laneOf p j) + 0x14) 1 t) s

/-- An acknowledgement frame that passes its check (R229 to R231). -/
def ackTaken (p : Nat) (n flags map : Nat) (s : State) : State :=
  let a := portAck s p
  if ackBelow (execOf n) a.a then count 0x0E8064 1 s
  else if ackBad s p n then ackCause 3 167 (laneOf p 17) 0x0F s
  else
    let upd1 (x : PortAck) : PortAck := { a := execOf n, final := if bit flags 1 then some n else x.final }
    let s1 := countReports p map { s with blk := { s.blk with ports := upd s.blk.ports p upd1 } }
    let s2 := refreshFrontier s1
    let w := match (List.range 17).find? (bit map) with | some j => laneOf p j | none => laneOf p 17
    let s3 := if bit flags 0 || bit flags 2 then ackCause 1 164 w 0x0D s2 else s2
    drainCheck s3

/-- Does a return lane receive acknowledgement frames: it has block lock, and a bring-up has ended (R217, R229)? -/
def ackHeard (s : State) (p : Fin 16) : Bool :=
  let l := lane s (laneOf p.val 17)
  l.lock && !l.absent && decide (5 ≤ s.blk.st)

/-- An acknowledgement frame (R216, R229). -/
def ackFrame (p : Fin 16) (ack detail check : Bytes) (s : State) : State :=
  let bad := ([ack, detail, check].filter blockBad).length
  if !ackHeard s p then s
  else if bad ≠ 0 then discards p bad s
  else if !ackForm ack detail check then s
  else
    let n := blockField s ack 1 6
    let value := Check.crc32c (n + (256 + p.val) * 2 ^ 48) (ack.drop 1 ++ detail.drop 1)
    if blockField s check 1 4 ≠ value.toNat then
      let s1 := count (laneBase (laneOf p.val 17) + 0x14) 1 s
      raiseFirst .write 166 (laneOf p.val 17) s1
    else ackTaken p.val n (byteAt ack 7) (blockField s detail 1 3) s

/-- The drain reaches its limit (R231). -/
def drainLimit (s : State) : State := if draining s then endDrain false s else s

/-! ### Rest and wake -/

/-- A write of REST (R232). -/
def restNow (s : State) : State :=
  if s.blk.st == 5 && s.job.write.isNone then enterRest s else s

/-- A wake begins: the burst, then IDLE, on every outbound lane (R233). -/
def beginWake (s : State) : State :=
  let s1 := (ports.flatMap (outbound s)).foldl (fun t w => send (.idle w 1) (send (.wakeBurst w) t)) s
  clearLocks false { s1 with blk := { s1.blk with st := 7, waking := true, atSpare := false } }

/-- A write of WAKE while the link is in REST (R233). -/
def wakeNow (s : State) : State := if s.blk.st == 6 then beginWake s else s

/-- A stripe boundary finds the link in REST, or RUNNING with a pending equalization set (R233). -/
def wakeAtBoundary (s : State) : State :=
  if s.blk.st == 6 then beginWake (takeEq s)
  else if s.blk.st == 5 && s.cal.eq.isSome then beginWake (takeEq (enterRest s))
  else s

/-- Two milliseconds after the burst (R233). -/
def wakeEnd (s : State) : State :=
  if s.blk.st == 7 && !s.blk.atSpare then
    let s1 := (missing s).foldl (fun t w => stageFail w t) s
    { s1 with blk := { s1.blk with atSpare := true } }
  else s

/-- A write of `BLK.CORE_CTL`: its fields, then WAKE, REST and TRAIN where their bits are set (log 13). A refused
TRAIN leaves everything unchanged (R217). -/
def coreCtl (v : Word) (s : State) : State :=
  if bit v.toNat 0 && s.job.write.isSome then train s
  else
    let s1 := writeStored 0x0E8000 v s
    let s2 := if bit v.toNat 2 then wakeNow s1 else s1
    let s3 := if bit v.toNat 1 then restNow s2 else s2
    if bit v.toNat 0 then train s3 else s3

/-- An LPORT domain is reset: its lanes are absent, the generations of the port and the link core advance, a write halts, and
the link is HELD (R234, R41). -/
def portReset (p : Nat) (s : State) : State :=
  let s1 := raise 175 (laneOf p 0) (wseq s)
    { s with blk := { s.blk with gen := s.blk.gen + 1, portGen := upd s.blk.portGen p (· + 1) } }
  drainCheck (refreshFrontier (linkHeld (addCause (plainCause 3) (markAll (portLanes p) s1))))

/-- An LPORT domain loses power: its lanes are absent and a write halts (R362, R231 table); the link is HELD, since not
every port runs (DESIGN CHOICE, log 15). -/
def portOff (p : Nat) (s : State) : State :=
  let s1 := lostLink (laneOf p 17) (markAll (portLanes p) s)
  drainCheck (refreshFrontier (if s1.blk.st == 0 then s1 else linkHeld s1))

/-! ### The commands -/

/-- TRAIN (R217). -/
def execTrain (v : Word) (s : State) : Host.Outcome State Fault Refusal := .next (barWrite (coreCtl (v ||| 1)) s)

/-- BRINGUP_STAGE_LIMIT (R217). -/
def execBringupStageLimit (s : State) : Host.Outcome State Fault Refusal :=
  .next (if s.blk.atSpare then s else stageLimit s)

/-- SPARE (R220). -/
def execSpare (s : State) : Host.Outcome State Fault Refusal := .next (if s.blk.atSpare then assignSpares s else s)

/-- RETURN_LANE_LOCK (R214). -/
def execReturnLaneLock (p : Fin 16) (s : State) : Host.Outcome State Fault Refusal := .next (returnLock p s)

/-- RETURN_LANE_LOCK_LOSS (R230). -/
def execReturnLaneLockLoss (p : Fin 16) (s : State) : Host.Outcome State Fault Refusal := .next (returnLoss p s)

/-- STATUS (R217); it concerns a bring-up or a wake. -/
def execStatus (p : Fin 16) (lanes : BitVec 24) (stage : Byte) (s : State) : Host.Outcome State Fault Refusal :=
  .next (statusBlock p lanes stage s)

/-- CAPS (R218). -/
def execCaps (p : Fin 16) (caps version : Byte) (s : State) : Host.Outcome State Fault Refusal :=
  .next (capsBlock p caps version s)

/-- NEGOTIATE_LISTEN_END (R218). -/
def execNegotiateListenEnd (s : State) : Host.Outcome State Fault Refusal := .next (listenEnd s)

/-- ACKNOWLEDGEMENT_FRAME (R229); its three blocks have eight bytes each. -/
def execAcknowledgementFrame (p : Fin 16) (ack detail check : Bytes) (s : State) : Host.Outcome State Fault Refusal :=
  if ack.length == 8 && detail.length == 8 && check.length == 8 then .next (ackFrame p ack detail check s)
  else .fault .illFormed

/-- DRAIN_TIMEOUT (R231). -/
def execDrainTimeout (s : State) : Host.Outcome State Fault Refusal := .next (drainLimit s)

/-- REST (R232). -/
def execRest (v : Word) (s : State) : Host.Outcome State Fault Refusal := .next (barWrite (coreCtl (v ||| 2)) s)

/-- WAKE (R233). -/
def execWake (v : Word) (s : State) : Host.Outcome State Fault Refusal := .next (barWrite (coreCtl (v ||| 4)) s)

/-- WAKE_LIMIT (R233). -/
def execWakeLimit (s : State) : Host.Outcome State Fault Refusal := .next (wakeEnd s)

/-- DISCARDED_BLOCK (R216). -/
def execDiscardedBlock (p : Fin 16) (s : State) : Host.Outcome State Fault Refusal := .next (discarded p s)

end Sys2Proof.Machine
end

