-- ==== Sys2Proof/Machine/Rings.lean ====
section
/-!
DEFINITION. The command ring and the completion ring: enabling, doorbells, posting (R284 to R289; 11), and STOP (R302).
-/

namespace Sys2Proof.Machine

open Sys2Proof.Bits

/-- The job state changed. -/
def updJob (f : Job → Job) (s : State) : State := { s with job := f s.job }

/-- The error of a ring's base and LOG2 (R284): 0 none, 1 base misaligned, 2 LOG2 out of range. -/
def ringError (base log : Nat) : Nat := if base % 64 ≠ 0 then 1 else if log < 4 || 12 < log then 2 else 0

/-- The command ring is enabled with base and size sampled and its indices 0 (R284); an enable bit already set stays as
it is (log 22). -/
def cmdRingOn (s : State) : State :=
  let base := reg64 s 0x020000
  let log := regBits s 0x020008 3 0
  if s.job.cmdOn then s
  else if ringError base log ≠ 0 then updJob (fun j => { j with error := ringError base log }) s
  else updJob (fun j => { j with
    cmdOn := true, cmdBase := base, cmdLog := log, cmdHead := 0, cmdTail := 0, stopped := false, retry := false,
    hostErr := false, error := 0 }) s

/-- The completion ring is enabled, its PHASE 1 (R284, R288, R289). -/
def cplRingOn (s : State) : State :=
  let base := reg64 s 0x020014
  let log := regBits s 0x02001C 3 0
  if s.job.cplOn then s
  else if ringError base log ≠ 0 then updJob (fun j => { j with error := ringError base log }) s
  else updJob (fun j => { j with
    cplOn := true, cplBase := base, cplLog := log, cplHead := 0, cplTail := 0, phase := true, cplFull := false,
    cplQ := [], error := 0 }) s

/-- The command ring is disabled. -/
def cmdRingOff (s : State) : State := updJob (fun j => { j with cmdOn := false, retry := false, hostErr := false }) s

/-- The completion ring is disabled: what it has not posted stays in the journal only (R289). -/
def cplRingOff (s : State) : State := updJob (fun j => { j with cplOn := false, cplFull := false, cplQ := [] }) s

/-- RESTART resumes a stopped command ring at its head (R287). -/
def ringRestart (s : State) : State :=
  if s.job.stopped then
    updJob (fun j => { j with stopped := false, retry := false, error := if j.error = 3 then 0 else j.error }) s
  else s

/-- A write of `JOB.RING_CTL`: the two enable bits, then RESTART (log 13). -/
def ringCtl (v : Word) (s : State) : State :=
  let s1 := if bit v.toNat 0 then cmdRingOn s else cmdRingOff s
  let s2 := if bit v.toNat 1 then cplRingOn s1 else cplRingOff s1
  if bit v.toNat 2 then ringRestart s2 else s2

/-- Entries of the command ring; while it is disabled, by `JOB.CMD_SIZE` (log 22). -/
def cmdSize (s : State) : Nat := 2 ^ (if s.job.cmdOn then s.job.cmdLog else regBits s 0x020008 3 0)

/-- Entries of the completion ring; while it is disabled, by `JOB.CPL_SIZE` (log 22). -/
def cplSize (s : State) : Nat := 2 ^ (if s.job.cplOn then s.job.cplLog else regBits s 0x02001C 3 0)

/-- A ring index write out of range: ERROR 4 and event 23 (R286). -/
def indexRange (s : State) : State := raise 23 0 0 (updJob (fun j => { j with error := 4 }) s)

/-- The doorbell of the command ring (R285, R286). -/
def cmdDoorbell (v : Word) (s : State) : State :=
  let i := bits v.toNat 11 0
  if cmdSize s ≤ i then indexRange s else updJob (fun j => { j with cmdTail := i }) s

/-- A write of `JOB.CPL_HEAD` (R286). -/
def cplReturn (v : Word) (s : State) : State :=
  let i := bits v.toNat 11 0
  let n := cplSize s
  if n ≤ i || (s.job.cplTail + n - s.job.cplHead) % n < (i + n - s.job.cplHead) % n then indexRange s
  else updJob (fun j => { j with cplHead := i }) s

/-- Is the completion ring full (R288)? -/
def cplIsFull (s : State) : Bool := (s.job.cplTail + 1) % cplSize s == s.job.cplHead

/-- The 64 bytes of a completion entry (table of 11). -/
def cplBytes (phase : Bool) (c : Cpl) : Bytes :=
  natLe c.seq 8 ++ natLe c.status 1 ++ natLe c.opcode 1 ++ natLe (b2n phase + 2 * b2n c.dup + 4 * b2n c.doubt) 1 ++
  natLe c.cause 1 ++ natLe (detailOf c.code c.source c.extra) 4 ++ natLe c.frontier 8 ++ natLe c.lastSent 8 ++
  natLe c.arg0 8 ++ natLe c.arg1 8 ++ natLe c.jidx 4 ++ natLe c.stamp.toNat 4 ++ natLe 0 8

/-- A completion is written at the tail, which advances, and event 0 is raised (R288). -/
def postCpl (c : Cpl) (s : State) : State :=
  let t := (s.job.cplTail + 1) % cplSize s
  let s1 := send (.cplEntry (s.job.cplBase + 64 * s.job.cplTail) (cplBytes s.job.phase c)) s
  raise 0 0 c.seq (updJob (fun j => { j with
    cplTail := t, phase := if t = 0 then !j.phase else j.phase, cplQ := j.cplQ.tail, cplFull := false }) s1)

/-- The oldest completion is posted, or waits for space with event 5 (R288). Channel 1 carries the completion ring
(log 21). -/
def postNext (s : State) : State :=
  match s.job.cplQ with
  | [] => s
  | c :: _ =>
    if !s.job.cplOn || !reachable s || !chanRuns s 1 then s
    else if cplIsFull s then
      (if s.job.cplFull then s else raise 5 0 0 (updJob (fun j => { j with cplFull := true }) s))
    else postCpl c s

/-- CMD_ENABLE (R284). -/
def execCmdEnable (s : State) : Host.Outcome State Fault Refusal := .next (hifWrite (cmdRingOn) s)

/-- CPL_ENABLE (R284). -/
def execCplEnable (s : State) : Host.Outcome State Fault Refusal := .next (hifWrite (cplRingOn) s)

/-- RESTART (R287). -/
def execRestart (s : State) : Host.Outcome State Fault Refusal := .next (hifWrite (ringRestart) s)

/-- CMD_TAIL_DOORBELL (R285). -/
def execCmdTailDoorbell (v : Word) (s : State) : Host.Outcome State Fault Refusal :=
  .next (hifWrite (cmdDoorbell v) s)

/-- CPL_HEAD_WRITE (R286). -/
def execCplHeadWrite (v : Word) (s : State) : Host.Outcome State Fault Refusal := .next (hifWrite (cplReturn v) s)

/-- CPL_POST (R288). -/
def execCplPost (s : State) : Host.Outcome State Fault Refusal := .next (postNext s)

/-- STOP (R302): the executing write halts with HOST_STOP. -/
def execStop (s : State) : Host.Outcome State Fault Refusal := .next (hifWrite (addCause (plainCause 0x12)) s)

end Sys2Proof.Machine
end

