-- ==== Sys2Proof/Machine/Bellows.lean ====
section
/-!
DEFINITION. The bellows: which flash gathers which pixel (R157 to R161), the tile check and release (R32 to R34, R129 to
R132), the lead and STAGE_SLOW_N (R209, R335 to R339), and the gather of a slice (R162 to R168, R180, R181, R183).
-/

namespace Sys2Proof.Machine

open Sys2Proof.Bits

/-! ### Geometry -/

/-- The tile identifier (R112). -/
def tileId (pass : Nat) (col seg : Int) (stripe : Nat) : Nat :=
  pass % 2 * 2 ^ 52 + unsigned 8 col * 2 ^ 44 + unsigned 24 seg * 2 ^ 20 + stripe % 2 ^ 20

/-- Pixel rows of a stripe of `segs` segments: R_TOT (R159). -/
def rowsOf (segs : Nat) : Nat := 256 * segs

/-- Flashes of a stripe of `segs` segments: F_STRIPE (R160). -/
def flashesOf (segs : Nat) : Nat := 400 * (((rowsOf segs - 1) / 20) / 128 + 4)

/-- Depth of beam row `r` (R158). -/
def depthOf (dir r : Nat) : Nat := if dir = 0 then r else 511 - r

/-- Stripe-local pixel row under beam row `r` at flash `f`; none when the beam is blank (R158, R159). -/
def pixelRow (dir segs f r : Nat) : Option Nat :=
  let q := depthOf dir r + 128 * (f / 400)
  let sy := f % 400 / 20
  if q < 384 then none
  else
    let py := 20 * (q - 384) + (if dir = 0 then sy else 19 - sy)
    if py < rowsOf segs then some py else none

/-- Stripe-local pixel column under beam column `c` at flash `f` (R158). -/
def pixelCol (f c : Nat) : Nat := 20 * c + f % 20

/-- Tile-local row of stripe-local row `py` (R111, R158). -/
def tileRow (dir py : Nat) : Nat := if dir = 0 then py % 256 else 255 - py % 256

/-- The flashes from `py`'s four gathers at the least sub-position, above a frontier: the first one (R161, R181). -/
def gatherFrom (dir : Nat) (above : Option Nat) (py k : Nat) : Option Nat :=
  let sy := if dir = 0 then py % 20 else 19 - py % 20
  let c := 400 * (py / 20 / 128 + k) + 20 * sy
  match above with
  | none => some c
  | some f => if c + 19 ≤ f then none else some (max c (f + 1))

/-- The first flash above the named frontier that gathers from segment `seg` (R33, R257, R161). -/
def firstGather (dir : Nat) (above : Option Nat) (seg : Nat) : Nat :=
  let all := (List.range 256).flatMap
    (fun i => (List.range 4).filterMap (fun k => gatherFrom dir above (256 * seg + i) k))
  match all with
  | [] => 0
  | a :: r => r.foldl min a

/-- Last flash that gathers from segment `seg` (R336). -/
def lastGather (seg : Nat) : Nat := 400 * ((256 * seg + 255) / 20 / 128 + 4) - 1

/-- First rendered segment of a resume (R316); 0 for NONE. -/
def firstSegment (named : Option Nat) : Nat :=
  match named with
  | none => 0
  | some f => 20 * (128 * ((f + 1) / 400) - 384) / 256

/-! ### The hive cache's ways -/

/-- Address of a way of a bucket (R344). -/
def wayAddr (s : State) (bucket way : Nat) : Nat := s.hive.base + 64 * bucket + 16 * way

/-- FLAGS of a way. -/
def wayFlags (s : State) (bucket way : Nat) : Nat := (dramByte s (wayAddr s bucket way + 10)).toNat

/-- A way's VALID bit is cleared and its payload leaves the log. -/
def wayClear (bucket way : Nat) (s : State) : State :=
  let s1 := dramWrite (wayAddr s bucket way + 10) [BitVec.ofNat 8 (wayFlags s bucket way / 2 * 2)] s
  { s1 with hive := { s1.hive with log := s1.hive.log.filter (fun e => !(e.2.2.1 == bucket && e.2.2.2 == way)) } }

/-- An entry leaves the cache, counted (R347). -/
def hiveEvict (bucket way : Nat) (s : State) : State := count 0x110048 1 (wayClear bucket way s)

/-- The way of an entry without its FLAGS (R344). -/
def wayHead (s : State) (bucket way : Nat) : Bytes := dramRead s (wayAddr s bucket way) 10

/-- A suspect entry leaves the cache, if its way still holds it (R131, R347). -/
def hiveSuspect (s : State) (b : Nat × Nat × Bytes) : State :=
  if bit (wayFlags s b.1 b.2.1) 0 && wayHead s b.1 b.2.1 == b.2.2 then
    raise 217 0 (wseq s) (count 0x110050 1 (hiveEvict b.1 b.2.1 s))
  else s

/-! ### The tile check -/

/-- A correctable bellows error (R339). -/
def eccNote (ecc : Ecc) (s : State) : State :=
  match ecc with
  | .corrected k => raise 208 k.val 0 (count 0x110030 1 s)
  | _ => s

/-- A slot is retired after an uncorrectable error (R339). -/
def retireSlot (stack : Nat) (s : State) : State :=
  let s1 := count 0x110038 1 (count 0x110034 1 s)
  raise 210 stack 0 (raise 209 stack 0 { s1 with bel := { s1.bel with retired := upd s1.bel.retired stack (· + 1) } })

/-- The packed bytes of a tile's rows (R128). -/
def tileBytes (rows : List (List Nat)) : Bytes := rows.flatMap pack12

/-- The forage signature of a tile of a stripe and pass (R130). -/
def forageSig (s : State) (f : Stripe) (col seg : Nat) : Option Word :=
  match s.job.slots.find? (fun x => x.stripe == f.stripe && x.pass == f.pass) with
  | some x => (x.sigs.find? (fun e => e.1 == (seg, col))).map (·.2)
  | none => none

/-- A tile passes its check (R32); its list is freed (R322). -/
def releaseTile (col seg : Nat) (s : State) : State :=
  let s1 := updTile col seg (fun t => { t with released := true }) s
  let mine (l : TList) : Bool := l.pass == .write && l.col == (col : Int) && l.seg == (seg : Int)
  slowCheck { s1 with comb := { s1.comb with lists := s1.comb.lists.filter (fun l => !mine l) } }

/-- The record of a mismatch (registers of 04). -/
def mismatchRecord (id engine : Nat) (second : Bool) (s : State) : State :=
  setRegN 0x05C018 (engine + b2n second * 2 ^ 31) (setReg64 0x05C010 id s)

/-- The flash before which the write halts for a tile of a segment that will never be released: the first that would
gather from it (R33, R91, R257), or at once when ARM waits for that tile (R34, R337). -/
def neverFlash (s : State) (w : Write) (seg : Nat) : Option Nat :=
  if s.seq.st = 1 && decide (seg ≤ w.sFirst + 49) then none else some (firstGather w.f.dir w.f.named seg)

/-- A tile fails its check (R33, R131): a second render is ordered, or the write halts before the first flash that
would gather from it. -/
def failTile (w : Write) (t : BTile) (s : State) : State :=
  let id := tileId w.f.pass t.col t.seg w.f.stripe
  let s1 := mismatchRecord id t.engine t.second s
  if t.second then
    let s2 := raise 89 t.engine w.seq (count 0x05C004 1 s1)
    addCause { code := 2, flash := neverFlash s w t.seg, arg0 := id, arg1 := t.engine, axis := 0, status := 0xA }
      (updTile t.col t.seg (fun t => { t with never := true }) s2)
  else
    let s2 := raise 88 t.engine w.seq (count 0x05C000 1 s1)
    let s3 := t.used.foldl hiveSuspect s2
    let task : Task :=
      { pass := .write, mode := 3, col := t.col, seg := t.seg, margin := false, second := true, avoid := [t.engine],
        faulted := [] }
    { s3 with
      bel := { s3.bel with tiles := s3.bel.tiles.filter (fun x => !(x.col == t.col && x.seg == t.seg)) },
      comb := { s3.comb with tasks := s3.comb.tasks ++ [task] } }

/-- The check of a finished tile (R32); an uncorrectable error counts as a first mismatch (R339). -/
def tileCheck (col seg : Nat) (ecc : Ecc) (s : State) : State :=
  match s.job.write, tileAt s col seg with
  | some w, some t =>
    if t.released || t.never then s
    else
      let s1 := eccNote ecc s
      match ecc with
      | .uncorrectable .. => failTile w { t with second := false } (retireSlot (stackOf col) s1)
      | _ =>
        let sig := Check.crc32c (tileId w.f.pass col seg w.f.stripe) (tileBytes t.rows)
        if forageSig s w.f col seg = some sig then releaseTile col seg s1 else failTile w t s1
  | _, _ => s

/-- TILE_CHECK (R32). -/
def execTileCheck (col seg : Nat) (ecc : Ecc) (s : State) : Host.Outcome State Fault Refusal :=
  .next (tileCheck col seg ecc s)

/-! ### From dose to slot code -/

/-- Is a beam dead in the mask in force (R170)? -/
def beamDead (s : State) (b : Nat) : Bool :=
  match s.bmu.mask.cur with
  | some m => bit (byteAt m (64 + b / 8)) (b % 8)
  | none => false

/-- The live mask of a beam's group (R166). -/
def liveMask (s : State) (b : Nat) : Nat :=
  let k := b / 512 % 128
  ((List.range 4).map (fun n => if beamDead s ((128 * n + k) * 512 + b % 512) then 0 else 2 ^ n)).sum

/-- Bits set in a live mask. -/
def liveCount (m : Nat) : Nat := ((List.range 4).map (fun n => b2n (bit m n))).sum

/-- W of a beam (R166, R167). -/
def beamWeight (s : State) (b : Nat) : Nat :=
  if beamDead s b then 0
  else
    let m := liveMask s b
    match s.bmu.weight.cur with
    | some t => field t (64 + 8 * m + 2 * (b / 65536)) 2
    | none => (2 * 32768 + liveCount m) / (2 * liveCount m)

/-- g of a beam (R169). -/
def beamGain (s : State) (b : Nat) : Nat :=
  match s.bmu.beam.cur with | some t => field t (64 + 4 * b) 2 | none => 0

/-- o of a beam (R169). -/
def beamOffset (s : State) (b : Nat) : Int :=
  match s.bmu.beam.cur with | some t => sfield t (66 + 4 * b) 1 | none => 0

/-- S′ of R163. -/
def slotPrime (d w g : Nat) : Nat := (d * w * g + 134217728) / 268435456

/-- The slot code, and whether it is a low or a high clamp (R164). -/
def slotCode (d w g : Nat) (o : Int) : Nat × Bool × Bool :=
  let p := slotPrime d w g
  if p = 0 then (0, false, false)
  else
    let v := (p : Int) + o
    ((clamp v 0 4095).toNat, decide (v < 0), decide (4095 < v))

/-- What one beam of a slice yields at a flash: code, low, high, D, blank, W other than 8 192. -/
structure BeamOut where
  code : Nat
  low : Bool
  high : Bool
  d : Nat
  blank : Bool
  subst : Bool
  deriving DecidableEq, Repr

/-- The dose code gathered at a stripe-local position (R158). -/
def doseAt (s : State) (dir px py : Nat) : Nat :=
  match tileAt s (px / 256) (py / 256) with
  | some t => (t.rows.getD (tileRow dir py) []).getD (px % 256) 0
  | none => 0

/-- One beam at one flash (R158, R159, R163 to R166, R181). -/
def beamOut (s : State) (w : Write) (f b : Nat) : BeamOut :=
  let blanked := match w.f.named with | some n => decide (f ≤ n) | none => false
  match (if blanked then none else pixelRow w.f.dir w.f.segs f (b / 512)) with
  | none => { code := 0, low := false, high := false, d := 0, blank := true, subst := false }
  | some py =>
    if beamDead s b then { code := 0, low := false, high := false, d := 0, blank := false, subst := false }
    else
      let d := doseAt s w.f.dir (pixelCol f (b % 512)) py
      let wt := beamWeight s b
      let c := slotCode d wt (beamGain s b) (beamOffset s b)
      { code := c.1, low := c.2.1, high := c.2.2, d := d, blank := false, subst := wt ≠ 8192 }

/-- The segments a slice gathers from at a flash (R158, R162). -/
def sliceSegs (w : Write) (n f : Nat) : List Nat :=
  ((List.range 128).filterMap (fun r => (pixelRow w.f.dir w.f.segs f (128 * n + r)).map (· / 256))).eraseDups

/-- Are the tiles that a slice gathers from at a flash released (R180)? -/
def sliceReady (s : State) (w : Write) (n f : Nat) : Bool :=
  (match w.f.named with | some k => decide (f ≤ k) | none => false) || (sliceSegs w n f).all (segReleased s)

/-- First offset of a slice's window. -/
def sliceBase (n : Nat) : Nat := 0x0C0000 + 0x4000 * n

/-- A clamp is recorded when none later in flash and beam order has been (R164). -/
def clampRecord (f b : Nat) (high : Bool) (s : State) : State :=
  let newer := match s.bmu.lastClamp with
    | none => true
    | some (f0, b0, _) => decide (f0 < f) || (f0 == f && decide (b0 ≤ b))
  if newer then
    setReg64 0x0C0034 f (setRegN 0x0C0030 (b + b2n high * 2 ^ 31)
      { s with bmu := { s.bmu with lastClamp := some (f, b, high) } })
  else s

/-- The clamps of one slice at one flash are counted and recorded (R164), in ascending beam index. -/
def clampNotes (n f : Nat) (outs : List BeamOut) (s : State) : State :=
  let highs := (outs.filter (·.high)).length
  let lows := (outs.filter (·.low)).length
  let s1 := count (sliceBase n + 0x10C) (outs.filter (·.subst)).length
    (count (sliceBase n + 0x108) lows (count (sliceBase n + 0x104) highs s))
  let last := (outs.zipIdx.filter (fun x => x.1.low || x.1.high)).getLast?
  match last with
  | some (o, i) => raiseFirst .write 106 0 (clampRecord f (65536 * n + i) o.high s1)
  | none => s1

/-- A capture record is taken (R183), and the capture ends when its buffer is full. -/
def captureNote (n f : Nat) (outs : List BeamOut) (s : State) : State :=
  let b := s.bmu
  if b.armed && b.capOwner == wseq s && b.capBeam / 65536 == n && decide (b.capFlash ≤ f) then
    match outs[b.capBeam % 65536]? with
    | none => s
    | some o =>
      let i := b.capRecs.length
      let bytes := natLe f 4 ++ natLe (o.d + b2n o.blank * 32768) 2 ++
        natLe (o.code + b2n o.high * 32768 + b2n o.low * 16384) 2
      let r : CapRec := { flash := f, d := o.d, blank := o.blank, s := o.code, high := o.high, low := o.low }
      let s1 := { s with bmu := { b with
        capRecs := b.capRecs ++ [r], capBuf := Sparse.setRun dramDefault b.capBuf (8192 * n + 8 * i) bytes } }
      if i + 1 = 1024 then captureEnd (wseq s) s1 else s1
  else s

/-- Slots whose last gather every slice has completed are freed (R336). -/
def freeTiles (s : State) : State :=
  let least := (s.bmu.slices.toList.map (·.next)).foldl min (s.bmu.slices[0]).next
  { s with bel := { s.bel with tiles := s.bel.tiles.filter (fun t => decide (least ≤ lastGather t.seg)) } }

/-- The codes of one slice for its next flash (R162 to R168). -/
def gather (n : Fin 4) (w : Write) (s : State) : State :=
  let f := (s.bmu.slices[n]).next
  let outs := (List.range 65536).map (fun i => beamOut s w f (65536 * n.val + i))
  let high := outs.any (·.high)
  let c : SliceCodes := { flash := f, codes := outs.map (·.code), high := high }
  let s1 := { s with bmu := { s.bmu with slices := upd s.bmu.slices n.val (fun x => { x with next := f + 1, codes := x.codes ++ [c] }) } }
  let s2 := captureNote n.val f outs (clampNotes n.val f outs s1)
  let s3 := freeTiles s2
  if high && w.clampHalt then
    addCause { code := 4, flash := some f, arg0 := 0, arg1 := 0, axis := 0, status := 0xA } s3
  else s3

/-- Has the gather of slice `n` for flash `f` met an uncorrectable error (R339)? -/
def gatherFailed (w : Write) (n f : Nat) : Bool :=
  w.causes.any (fun c => c.code == 0x11 && c.flash == some f && c.axis == n)

/-- A slice gathers its next flash, at most 16 ahead of the sequencer and from released tiles only (R180). -/
def sliceGather (n : Fin 4) (ecc : Ecc) (s : State) : State :=
  match s.job.write with
  | none => s
  | some w =>
    let f := (s.bmu.slices[n]).next
    if w.ending.isSome || flashesOf w.f.segs ≤ f || w.next + 16 ≤ f || !sliceReady s w n.val f || gatherFailed w n.val f then s
    else
      let s1 := eccNote ecc s
      match ecc with
      | .uncorrectable col _ =>
        addCause { code := 0x11, flash := some f, arg0 := 0, arg1 := 0, axis := n.val, status := 0xA }
          (retireSlot (stackOf col) s1)
      | _ => gather n w s1

/-- SLICE_GATHER (R180). -/
def execSliceGather (n : Fin 4) (ecc : Ecc) (s : State) : Host.Outcome State Fault Refusal := .next (sliceGather n ecc s)

/-- A write of `BMU.CAP_CTL` (R183): with ARM, a capture is armed for the executing or the next write. A write without ARM
drops a running capture with no event and no record count, and a second one with ARM begins it anew (DESIGN CHOICE, log
114). -/
def capCtl (v : Word) (s : State) : State :=
  let s1 := writeStored 0x0C0020 v s
  if bit v.toNat 31 then
    { s1 with bmu := { s1.bmu with
        armed := true, capBeam := regBits s1 0x0C0020 17 0, capFlash := regN s1 0x0C0024 + 2 ^ 32 * regBits s1 0x0C0028 15 0,
        capOwner := wseq s1, capRecs := [] } }
  else { s1 with bmu := { s1.bmu with armed := false } }

/-- CAPTURE_ARM (R183). -/
def execCaptureArm (v : Word) (s : State) : Host.Outcome State Fault Refusal :=
  .next (barWrite (capCtl (v ||| 0x80000000)) s)

/-- SLOW_FORCE (R209). -/
def execSlowForce (v : Word) (s : State) : Host.Outcome State Fault Refusal :=
  .next (barWrite (fun s => slowCheck (writeStored 0x0D0110 v s)) s)

end Sys2Proof.Machine
end

