-- ==== Sys2Proof/Machine/Kolben.lean ====
section
/-!
DEFINITION. What every Kolben instruction shares (R236 to R240, R256 to R258, R264 to R269; 09_kolben_engines,
10_kolben_instructions): registers, local memory, the advance of the program counter and engine faults; and the scalar,
control and local-memory instructions of R270 to R272. An instruction reaches an engine as a command with its operands;
which word the engine would fetch is not compared with it (DESIGN CHOICE, log 17).
-/

namespace Sys2Proof.Machine

open Sys2Proof.Bits

/-! ### Engine state -/

/-- Lanes of an engine: N (10). -/
def laneCount (e : Fin 148) : Nat := if e.val < 144 then 128 else 64

/-- Bytes of local memory (10). -/
def localSize (e : Fin 148) : Nat := if e.val < 144 then 196608 else 262144

/-- A raster engine as an engine. -/
def reEng (e : Fin 144) : Fin 148 := ⟨e.val, by omega⟩

/-- A correction engine as an engine. -/
def ceEng (e : Fin 4) : Fin 148 := ⟨144 + e.val, by omega⟩

/-- Scalar register `r`; G0 reads as 0 (R236). -/
def getG (x : Engine) (r : Fin 32) : Word := if r.val = 0 then 0 else x.g[r]

/-- Scalar register `r` written; a write of G0 is ignored (R236). -/
def setG (r : Fin 32) (v : Word) (x : Engine) : Engine := if r.val = 0 then x else { x with g := x.g.set r v }

/-- Scalar register numbered `n`, as a run reads it. -/
def getGn (x : Engine) (n : Nat) : Word := if h : n < 32 then getG x ⟨n, h⟩ else 0

/-- Scalar register numbered `n` written. -/
def setGn (n : Nat) (v : Word) (x : Engine) : Engine := if h : n < 32 then setG ⟨n, h⟩ v x else x

/-- A run of scalar registers written from `n` on (R265). -/
def setRunG : Nat → List Word → Engine → Engine
  | _, [], x => x
  | n, v :: r, x => setRunG (n + 1) r (setGn n v x)

/-- Bit `l` of mask register `m`; M0 reads as all ones (R236). -/
def maskBit (x : Engine) (m : Fin 8) (l : Nat) : Bool := m.val == 0 || (x.m[m]).getD l false

/-- Lane `l` of vector register `r`. -/
def lane0 (x : Engine) (r : Fin 32) (l : Nat) : Nat := (x.v[r]).getD l 0

/-- Lane `l` of vector register number `n`, as a row group reads it. -/
def laneN (x : Engine) (n l : Nat) : Nat := if h : n < 32 then lane0 x ⟨n, h⟩ l else 0

/-- Lane `l` of accumulator `r`. -/
def accLane (x : Engine) (r : Fin 8) (l : Nat) : Int := (x.a[r]).getD l 0

/-! ### Faults -/

/-- Stripe fields of the command of a pass, while it renders: a write renders nothing after its halt or last flash (R132,
R205). -/
def passStripe (s : State) (p : Pass) : Option Stripe :=
  match p with
  | .forage => s.job.forage.map (·.f)
  | .write => (s.job.write.filter (fun w => w.ending.isNone)).map (·.f)

/-- Task fields 0 and 1 as one value: the tile identifier, or the segment of a block (table of 09). -/
def taskName (s : State) (e : Fin 148) (t : Task) : Nat :=
  if e.val < 144 then
    match passStripe s t.pass with
    | some f => tileId f.pass t.col t.seg f.stripe
    | none => 0
  else unsigned 32 t.seg

/-- The fault registers of an engine (R256); with no task held the tile is open. -/
def faultRecord (e : Fin 148) (task : Bool) (code : Nat) (s : State) : State :=
  let x := s.eng[e]
  let tile := match engTask x with | some t => taskName s e t | none => (freeNow s).toNat
  freeNext (setReg64 (engBase e + 0x0C) tile
    (setRegN (engBase e + 8) (2 ^ 31 + x.pc % 2048 * 65536 + b2n task * 256 + code) s))

/-- The task fault that ends its command (R257): a forage is MALFORMED, a write halts before the first flash that would
gather from the tile. -/
def commandFault (e : Fin 148) (t : Task) (code : Nat) (s : State) : State :=
  match t.pass with
  | .forage =>
    match s.job.forage with
    | some f => { s with job := { s.job with forage := some { f with
        fail := f.fail.or (some (6, code, 6, 0, taskName s e t, engInfo e)) } } }
    | none => s
  | .write =>
    match s.job.write with
    | some w => addCause { code := 6, flash := neverFlash s w t.seg.toNat, arg0 := taskName s e t,
                           arg1 := engInfo e, axis := 0, status := 0xA }
                  (setWrite (fun w => { w with never := (t.col.toNat, t.seg.toNat) :: w.never }) s)
    | none => s

/-- Has a task already had this task fault on another engine (R257)? -/
def faultedBefore (e : Fin 148) (code : Nat) (t : Task) : Bool :=
  t.faulted.any (fun f => f.1 == code && f.2 != e.val)

/-- A task as it is assigned again after a fault (R256, R257). -/
def faultMark (e : Fin 148) (task : Bool) (code : Nat) (t : Task) : Task :=
  { t with avoid := e.val :: t.avoid, faulted := if task then (code, e.val) :: t.faulted else t.faulted }

/-- An engine whose task is dropped by its reset. -/
def dropTask (x : Engine) : Engine := { x with held := none, assigned := none }

/-- A part fault is marked, or marks the engine failed (R258). -/
def partMark (e : Fin 148) (s : State) : State :=
  if (s.eng[e]).hadPart then engFail e s else updEng e (fun x => { x with hadPart := true }) s

/-- An engine stops on a fault (R256 to R258). -/
def engFault (e : Fin 148) (task : Bool) (code : Nat) (s : State) : State :=
  let t := engTask (s.eng[e])
  let seq := match t with | some k => passSeq s k.pass | none => 0
  let s1 := raise (if task then 65 else 64) (engInfo e) seq (faultRecord e task code s)
  let s2 := count (engBase e + (if task then 0x28 else 0x24)) 1 s1
  let s3 := if task then s2 else partMark e s2
  match t with
  | some k =>
    if task && faultedBefore e code k then engReset e (updEng e dropTask (commandFault e k code s3))
    else engResetWith (faultMark e task code) e s3
  | none => engReset e s3

/-! ### Executing -/

/-- May an engine execute: powered, not in self-test (its test program is fixed, R260) and not waiting for a task? -/
def kGo (s : State) (e : Fin 148) : Bool := engPowered s e && !(s.eng[e]).testing && !(s.eng[e]).waiting

/-- The image an engine runs: that of its task's bank (R250). -/
def engProg (s : State) (e : Fin 148) : Bytes :=
  let p := if e.val < 144 then s.comb.re else s.comb.ce
  match (s.eng[e]).held with
  | some h => if h.bank = p.bank then p.cur else p.other.getD p.cur
  | none => p.cur

/-- Is the instruction word a 64-bit instruction's first (R264)? -/
def isLong (w : Word) : Bool := decide (0x30 ≤ bits w.toNat 31 26)

/-- The words of an image that are word 1 of a 64-bit instruction, from word `i` on (R267). -/
def secondWords (image : Bytes) : Nat → Nat → List Nat
  | _, 0 => []
  | i, n + 1 =>
    if isLong (progWord image i) then
      (match n with
        | 0 => [i + 1]
        | n + 1 => (i + 1) :: secondWords image (i + 2) n)
    else secondWords image (i + 1) n

/-- Issue slots are charged to the task held (R283, R304). -/
def charge (n : Nat) (x : Engine) : Engine :=
  { x with held := x.held.map (fun h => { h with slots := h.slots + n }) }

/-- The program counter advances by `len` past an instruction of `slots` issue slots, or faults (R267). -/
def kNext (e : Fin 148) (len slots : Nat) (x : Engine) (s : State) : State :=
  if progCount (engProg s e) ≤ (s.eng[e]).pc + len then engFault e true 9 s
  else updEng e (fun _ => charge slots { x with pc := (s.eng[e]).pc + len }) s

/-- A taken branch or jump (R267). -/
def kJump (e : Fin 148) (target : Int) (x : Engine) (s : State) : State :=
  let image := engProg s e
  if target < 0 || (progCount image : Int) ≤ target || (secondWords image 0 (progCount image)).contains target.toNat then
    engFault e true 9 s
  else updEng e (fun _ => charge 1 { x with pc := target.toNat }) s

/-- An instruction that changes only its engine. -/
def kPlain (e : Fin 148) (len slots : Nat) (f : Engine → Engine) (s : State) : State :=
  if kGo s e then kNext e len slots (f (s.eng[e])) s else s

/-- An instruction that is defined only where `ok` holds; elsewhere the word is undefined (R266). -/
def kDefined (ok : Bool) (e : Fin 148) (run : State → State) (s : State) : State :=
  if kGo s e then (if ok then run s else engFault e false 0x10 s) else s

/-- A scalar result. -/
def kScalar (e : Fin 148) (d : Fin 32) (f : Engine → Word) (s : State) : Host.Outcome State Fault Refusal :=
  .next (kPlain e 1 1 (fun x => setG d (f x) x) s)

/-- A conditional branch of format B (R271). -/
def kBranch (e : Fin 148) (off : BitVec 16) (c : Engine → Bool) (s : State) : Host.Outcome State Fault Refusal :=
  .next (if kGo s e then
    (if c (s.eng[e]) then kJump e (((s.eng[e]).pc : Int) + 1 + off.toInt) (s.eng[e]) s else kNext e 1 1 (s.eng[e]) s)
    else s)

/-! ### Local memory -/

/-- The byte of local memory at an address. -/
def localByte (x : Engine) (a : Nat) : Byte := Sparse.get (fun _ => (0 : Byte)) x.lmem a

/-- `n` bytes of local memory. -/
def localRead (x : Engine) (a n : Nat) : Bytes := Sparse.getRun (fun _ => (0 : Byte)) x.lmem a n

/-- Local memory written. -/
def localWrite (a : Nat) (b : Bytes) (x : Engine) : Engine :=
  { x with lmem := Sparse.setRun (fun _ => (0 : Byte)) x.lmem a b }

/-- The check of an access of `len` bytes aligned to `al` (R272): the fault code, if any. -/
def localFault (size : Nat) (a : Int) (al len : Nat) : Option Nat :=
  if a % (al : Int) ≠ 0 then some 2
  else if a < 0 || (size : Int) < a + len then some 1
  else none

/-- An address: unsigned base plus signed offset, with no wrap (R272). -/
def localAddr (x : Engine) (a : Fin 32) (off : Int) : Int := ((getG x a).toNat : Int) + off

/-- An access to local memory: its fault, or its effect at the address. -/
def kLocal (e : Fin 148) (a : Fin 32) (off : Int) (al len : Nat) (f : Nat → Engine → Engine) (s : State) :
    Host.Outcome State Fault Refusal :=
  .next (if kGo s e then
    (match localFault (localSize e) (localAddr (s.eng[e]) a off) al len with
      | some c => engFault e true c s
      | none => kNext e 1 1 (f (localAddr (s.eng[e]) a off).toNat (s.eng[e])) s)
    else s)

/-! ### Scalar instructions (R270) -/

/-- NOP (R266). -/
def execKNop (e : Fin 148) (s : State) : Host.Outcome State Fault Refusal := .next (kPlain e 1 1 id s)

/-- ADD (R270). -/
def execKAdd (e : Fin 148) (d a b : Fin 32) (s : State) : Host.Outcome State Fault Refusal :=
  kScalar e d (fun x => getG x a + getG x b) s

/-- SUB (R270). -/
def execKSub (e : Fin 148) (d a b : Fin 32) (s : State) : Host.Outcome State Fault Refusal :=
  kScalar e d (fun x => getG x a - getG x b) s

/-- AND (R270). -/
def execKAnd (e : Fin 148) (d a b : Fin 32) (s : State) : Host.Outcome State Fault Refusal :=
  kScalar e d (fun x => getG x a &&& getG x b) s

/-- OR (R270). -/
def execKOr (e : Fin 148) (d a b : Fin 32) (s : State) : Host.Outcome State Fault Refusal :=
  kScalar e d (fun x => getG x a ||| getG x b) s

/-- XOR (R270). -/
def execKXor (e : Fin 148) (d a b : Fin 32) (s : State) : Host.Outcome State Fault Refusal :=
  kScalar e d (fun x => getG x a ^^^ getG x b) s

/-- SHL (R270). -/
def execKShl (e : Fin 148) (d a b : Fin 32) (s : State) : Host.Outcome State Fault Refusal :=
  kScalar e d (fun x => getG x a <<< ((getG x b).toNat % 32)) s

/-- SHR (R270). -/
def execKShr (e : Fin 148) (d a b : Fin 32) (s : State) : Host.Outcome State Fault Refusal :=
  kScalar e d (fun x => getG x a >>> ((getG x b).toNat % 32)) s

/-- SAR (R270). -/
def execKSar (e : Fin 148) (d a b : Fin 32) (s : State) : Host.Outcome State Fault Refusal :=
  kScalar e d (fun x => (getG x a).sshiftRight ((getG x b).toNat % 32)) s

/-- MUL (R270). -/
def execKMul (e : Fin 148) (d a b : Fin 32) (s : State) : Host.Outcome State Fault Refusal :=
  kScalar e d (fun x => getG x a * getG x b) s

/-- MULHU (R270). -/
def execKMulhu (e : Fin 148) (d a b : Fin 32) (s : State) : Host.Outcome State Fault Refusal :=
  kScalar e d (fun x => BitVec.ofNat 32 ((getG x a).toNat * (getG x b).toNat / 4294967296)) s

/-- SLT (R270). -/
def execKSlt (e : Fin 148) (d a b : Fin 32) (s : State) : Host.Outcome State Fault Refusal :=
  kScalar e d (fun x => if (getG x a).toInt < (getG x b).toInt then 1 else 0) s

/-- SLTU (R270). -/
def execKSltu (e : Fin 148) (d a b : Fin 32) (s : State) : Host.Outcome State Fault Refusal :=
  kScalar e d (fun x => if (getG x a).toNat < (getG x b).toNat then 1 else 0) s

/-- MIN (R270). -/
def execKMin (e : Fin 148) (d a b : Fin 32) (s : State) : Host.Outcome State Fault Refusal :=
  kScalar e d (fun x => if (getG x a).toInt < (getG x b).toInt then getG x a else getG x b) s

/-- MAX (R270). -/
def execKMax (e : Fin 148) (d a b : Fin 32) (s : State) : Host.Outcome State Fault Refusal :=
  kScalar e d (fun x => if (getG x a).toInt < (getG x b).toInt then getG x b else getG x a) s

/-- ADDI (R270). -/
def execKAddi (e : Fin 148) (d a : Fin 32) (imm : BitVec 16) (s : State) : Host.Outcome State Fault Refusal :=
  kScalar e d (fun x => getG x a + imm.signExtend 32) s

/-- ANDI (R270). -/
def execKAndi (e : Fin 148) (d a : Fin 32) (imm : BitVec 16) (s : State) : Host.Outcome State Fault Refusal :=
  kScalar e d (fun x => getG x a &&& imm.setWidth 32) s

/-- ORI (R270). -/
def execKOri (e : Fin 148) (d a : Fin 32) (imm : BitVec 16) (s : State) : Host.Outcome State Fault Refusal :=
  kScalar e d (fun x => getG x a ||| imm.setWidth 32) s

/-- XORI (R270). -/
def execKXori (e : Fin 148) (d a : Fin 32) (imm : BitVec 16) (s : State) : Host.Outcome State Fault Refusal :=
  kScalar e d (fun x => getG x a ^^^ imm.setWidth 32) s

/-- SHLI (R270). -/
def execKShli (e : Fin 148) (d a n : Fin 32) (s : State) : Host.Outcome State Fault Refusal :=
  kScalar e d (fun x => getG x a <<< n.val) s

/-- SHRI (R270). -/
def execKShri (e : Fin 148) (d a n : Fin 32) (s : State) : Host.Outcome State Fault Refusal :=
  kScalar e d (fun x => getG x a >>> n.val) s

/-- SARI (R270). -/
def execKSari (e : Fin 148) (d a n : Fin 32) (s : State) : Host.Outcome State Fault Refusal :=
  kScalar e d (fun x => (getG x a).sshiftRight n.val) s

/-- MOVI (R270). -/
def execKMovi (e : Fin 148) (d : Fin 32) (imm : BitVec 16) (s : State) : Host.Outcome State Fault Refusal :=
  kScalar e d (fun _ => imm.signExtend 32) s

/-- MOVHI (R270). -/
def execKMovhi (e : Fin 148) (d : Fin 32) (imm : BitVec 16) (s : State) : Host.Outcome State Fault Refusal :=
  kScalar e d (fun x => BitVec.ofNat 32 (imm.toNat * 65536 + (getG x d).toNat % 65536)) s

/-- SUBI (R270). -/
def execKSubi (e : Fin 148) (d a : Fin 32) (imm : BitVec 16) (s : State) : Host.Outcome State Fault Refusal :=
  kScalar e d (fun x => getG x a - imm.signExtend 32) s

/-! ### Local-memory instructions of format I (R270, R272) -/

/-- LDW (R272). -/
def execKLdw (e : Fin 148) (d a : Fin 32) (imm : BitVec 16) (s : State) : Host.Outcome State Fault Refusal :=
  kLocal e a imm.toInt 4 4 (fun p x => setG d (BitVec.ofNat 32 (leNat (localRead x p 4))) x) s

/-- STW (R272). -/
def execKStw (e : Fin 148) (d a : Fin 32) (imm : BitVec 16) (s : State) : Host.Outcome State Fault Refusal :=
  kLocal e a imm.toInt 4 4 (fun p x => localWrite p (natLe (getG x d).toNat 4) x) s

/-- LDH (R272). -/
def execKLdh (e : Fin 148) (d a : Fin 32) (imm : BitVec 16) (s : State) : Host.Outcome State Fault Refusal :=
  kLocal e a imm.toInt 2 2 (fun p x => setG d (BitVec.ofNat 32 (leNat (localRead x p 2))) x) s

/-- STH (R272). -/
def execKSth (e : Fin 148) (d a : Fin 32) (imm : BitVec 16) (s : State) : Host.Outcome State Fault Refusal :=
  kLocal e a imm.toInt 2 2 (fun p x => localWrite p (natLe (getG x d).toNat 2) x) s

/-! ### Branches and jumps (R271) -/

/-- BEQ (R271). -/
def execKBeq (e : Fin 148) (a b : Fin 32) (off : BitVec 16) (s : State) : Host.Outcome State Fault Refusal :=
  kBranch e off (fun x => getG x a == getG x b) s

/-- BNE (R271). -/
def execKBne (e : Fin 148) (a b : Fin 32) (off : BitVec 16) (s : State) : Host.Outcome State Fault Refusal :=
  kBranch e off (fun x => getG x a != getG x b) s

/-- BLT (R271). -/
def execKBlt (e : Fin 148) (a b : Fin 32) (off : BitVec 16) (s : State) : Host.Outcome State Fault Refusal :=
  kBranch e off (fun x => decide ((getG x a).toInt < (getG x b).toInt)) s

/-- BGE (R271). -/
def execKBge (e : Fin 148) (a b : Fin 32) (off : BitVec 16) (s : State) : Host.Outcome State Fault Refusal :=
  kBranch e off (fun x => decide ((getG x b).toInt ≤ (getG x a).toInt)) s

/-- BLTU (R271). -/
def execKBltu (e : Fin 148) (a b : Fin 32) (off : BitVec 16) (s : State) : Host.Outcome State Fault Refusal :=
  kBranch e off (fun x => decide ((getG x a).toNat < (getG x b).toNat)) s

/-- BGEU (R271). -/
def execKBgeu (e : Fin 148) (a b : Fin 32) (off : BitVec 16) (s : State) : Host.Outcome State Fault Refusal :=
  kBranch e off (fun x => decide ((getG x b).toNat ≤ (getG x a).toNat)) s

/-- JAL (R271). -/
def execKJal (e : Fin 148) (d : Fin 32) (imm : BitVec 16) (s : State) : Host.Outcome State Fault Refusal :=
  .next (if kGo s e then
    kJump e (((s.eng[e]).pc : Int) + 1 + imm.toInt) (setG d (BitVec.ofNat 32 ((s.eng[e]).pc + 1)) (s.eng[e])) s
    else s)

/-- JR (R271). -/
def execKJr (e : Fin 148) (a : Fin 32) (s : State) : Host.Outcome State Fault Refusal :=
  .next (if kGo s e then kJump e ((getG (s.eng[e]) a).toNat : Int) (s.eng[e]) s else s)

end Sys2Proof.Machine
end

