-- ==== Sys2Proof/WellFormed.lean ====
section
/-!
DEFINITION. Which commands are well formed: operands that only the outside could get wrong (byte strings of a fixed
length) and the operand constraints of R266 and the tables of 10_kolben_instructions.
-/

namespace Sys2Proof

/-- Bits of a vector lane of engine `e`: 12 in a raster engine, 24 in a correction engine (09_kolben_engines). -/
def laneBits (e : Fin 148) : Nat := if e.val < 144 then 12 else 24

/-- The measurements of a start are points and hits that exist (R324, R419). -/
def startWf (i : Start) : Bool :=
  i.sweeps.all (fun w => w.failed.all (fun p => decide (p.1 < 16) && decide (p.2 < 128))) &&
  i.tdcHits.length == 320

/-- A command is well formed. -/
def Instr.wf : Instr → Bool
  | .powerOn i => startWf i
  | .moduleResetProceed i => startWf i
  | .domainPowerUp _ i => startWf i
  | .hostLinkUp gen width => (gen == 3 || gen == 4 || gen == 5) && (width == 4 || width == 8 || width == 16)
  | .cmdRingReread entry => match entry with | none => true | some b => b.bytes.length == 64
  | .commandEntryRead entry => entry.bytes.length == 64
  | .cmdRetry entry => entry.bytes.length == 64
  | .dmaDescriptor _ desc => desc.length == 32
  | .dmaTransferEnd _ data => data.length % 64 == 0
  | .kVshli e _ _ _ n => decide (n.val < laneBits e)
  | .kVshri e _ _ _ n => decide (n.val < laneBits e)
  | .kMulsh e _ _ _ _ _ max => decide (max.toNat < 2 ^ laneBits e)
  | .kVbci e _ _ value => decide (value.toNat < 2 ^ laneBits e)
  | .kCovRow _ p q => p != q
  | .kHiveGet _ p q => p != q
  | .kCntAdd e _ sel => if e.val < 144 then sel.val == 0 else sel.val != 0
  | .kSpan4 _ p q => p != q
  | .kTapu _ _ _ _ _ n => decide (-16 ≤ n.toInt) && decide (n.toInt ≤ 16)
  | .acknowledgementFrame _ ack detail check => ack.length == 8 && detail.length == 8 && check.length == 8
  | .sensorGateEnd counts => counts.length == 48 && counts.all (· < 1048576)
  | .thermalRestart i => startWf i
  | .dqsTrack _ drift => drift.length == 10
  | .quoteReq _ _ nonce => nonce.length == 32
  | .ready | .seatedClose | .bulkCharged | .removal | .aonStop | .vinLow | .vinLoss | .glbReset ..
  | .functionReset | .quadReset .. | .domainReset .. | .domainPowerDown .. | .domainOff .. | .hostLinkDown
  | .reachabilityChange .. | .hostCompletionError .. | .tableLoadReread .. | .bar2Read .. | .bar2Write ..
  | .registerWrite .. | .latchingRead .. | .guardedWriteRefused .. | .cmdTailDoorbell .. | .cplHeadWrite ..
  | .cmdEnable | .cplEnable | .restart | .stop | .cplPost | .jobOpen | .jobClose | .loadTableKernel ..
  | .loadTableField .. | .loadTableBeam .. | .loadTableMask .. | .loadTableWeight ..
  | .loadTableRasterProgram .. | .loadTableCorrectionProgram .. | .loadTableLinkEq .. | .bindStream ..
  | .forageStripe | .forageStart | .forageEnd | .writeStripe | .resumeStripe | .stripeBoundary | .calibrateTdc
  | .calibrateSensors | .calibrationEnd .. | .selfTest | .selfTestEnd .. | .fence | .setGuardedPropose ..
  | .setGuardedApprove .. | .setGuardedReject .. | .setGuardedWithdraw .. | .firmwareWriteEnd ..
  | .proposalWindowEnd | .dmaTailDoorbell .. | .dmaRestart .. | .dmaPause .. | .dmaPaused .. | .haltedPower ..
  | .pageFetch .. | .pageFetchDone .. | .pageRetry .. | .pageDecode .. | .nopRecord .. | .streamHeader ..
  | .streamEnd .. | .cellBegin .. | .cellEnd .. | .rect .. | .rectSame .. | .trapH .. | .trapV .. | .poly ..
  | .polyM .. | .curve .. | .sref .. | .aref .. | .tileListDone .. | .taskAssign | .tileCheck ..
  | .taskWatchdog .. | .engReset .. | .engOffline .. | .combReset .. | .ceBlockAssign .. | .hiveFillInstall
  | .hiveFlush | .kNop .. | .kAdd .. | .kSub .. | .kAnd .. | .kOr .. | .kXor .. | .kShl .. | .kShr ..
  | .kSar .. | .kMul .. | .kMulhu .. | .kSlt .. | .kSltu .. | .kMin .. | .kMax .. | .kAddi .. | .kAndi ..
  | .kOri .. | .kXori .. | .kShli .. | .kShri .. | .kSari .. | .kMovi .. | .kMovhi .. | .kSubi .. | .kLdw ..
  | .kStw .. | .kLdh .. | .kSth .. | .kBeq .. | .kBne .. | .kBlt .. | .kBge .. | .kBltu .. | .kBgeu ..
  | .kJal .. | .kJr .. | .kVld .. | .kVst .. | .kAld .. | .kAst .. | .kVmov .. | .kVadd .. | .kVsub ..
  | .kVadds .. | .kVsubs .. | .kVmin .. | .kVmax .. | .kVand .. | .kVor .. | .kVxor .. | .kVbc .. | .kVidx ..
  | .kVget .. | .kClra .. | .kAadd .. | .kAsub .. | .kAmac .. | .kAmacs .. | .kRshr .. | .kAmov .. | .kAadda ..
  | .kAshr .. | .kAbc .. | .kCeq .. | .kCltu .. | .kCleu .. | .kAclt .. | .kAceq .. | .kMand .. | .kMor ..
  | .kMandn .. | .kMxor .. | .kMsat .. | .kMcount .. | .kLi .. | .kTaskWait .. | .kTaskGet .. | .kTaskDone ..
  | .kInEntry .. | .kFactLoad .. | .kOutRow .. | .kHivePut .. | .kFip .. | .kSpanCfg .. | .kSpanRow ..
  | .kXeLine .. | .kXeArc .. | .kDenLd .. | .kFldLd .. | .kFacSt .. | .kTapv .. | .kReduce .. | .kExpand ..
  | .kKdiv .. | .axisEdge .. | .indexEdge .. | .standstill .. | .axisCountPreset .. | .axisCtlWrite .. | .snap
  | .slowForce .. | .seqNop | .setAxes | .setInc | .setStart | .setXref | .arm | .run | .seqEnd
  | .flashCommit .. | .sliceGather .. | .captureArm .. | .train .. | .bringupStageLimit | .spare
  | .returnLaneLock .. | .returnLaneLockLoss .. | .status .. | .caps .. | .negotiateListenEnd | .drainTimeout
  | .rest .. | .wake .. | .wakeLimit | .toolRefLoss | .toolRefReturn | .thermalDemandFall | .powerAverage ..
  | .refresh .. | .refreshRateRead .. | .ratClear | .rowActivation .. | .patrolScrub .. | .writeCrcError ..
  | .caParityError .. | .dramReadError .. | .srIdleEntry .. | .srEntryComplete .. | .srExitComplete ..
  | .crcStart .. | .crcFeedB .. | .crcFeedH .. | .crcFeedW .. | .crcStateWrite .. | .crcCompare .. | .dramGo ..
  | .dramFeedEnd .. | .quoteGo | .quoteDone | .extendGo | .calCopyGo | .noticeReq .. | .decision ..
  | .certReq .. | .announce .. | .sync .. | .followUp .. | .delayResp .. | .delayReq .. | .announceTimeout
  | .syncTimeout | .accept | .timSet | .ptpCtlWrite .. | .timeWrap | .arpRequest .. | .icmpEcho ..
  | .mgmtLinkChange .. | .smbStatus .. | .smbVin .. | .smbPower .. | .smbTempMax .. | .smbResetReq ..
  | .smbFruRead .. | .evtRingEnable | .evtRingHeadWrite .. | .evtTest .. | .eventEntryWrite | .msixMessage ..
  | .discardedBlock .. | .perstDeasserted | .bar4Write .. | .calCopyEnd | .vinRestored
  | .badMaintenanceDatagram => true

end Sys2Proof
end

