-- ==== Sys2Proof/Machine/KolbenLane.lean ====
section
/-!
DEFINITION. The Kolben instructions on lanes: vector, accumulator and mask instructions (R273), vector loads and stores
(R239, R272), MULSH, LI and VBCI (R274), and the correction extension (R281).
-/

namespace Sys2Proof.Machine

open Sys2Proof.Bits

/-! ### Lane arithmetic (R268, R269) -/

/-- rs of R268: x / 2^n rounded to the nearest integer, ties upward. -/
def rs (x : Int) (n : Nat) : Int := if n = 0 then x else sar (x + ((2 ^ (n - 1) : Nat) : Int)) n

/-- Bits of an accumulator lane: W. -/
def accBits (e : Fin 148) : Nat := 2 * laneBits e

/-- satA (R268). -/
def satA (e : Fin 148) (x : Int) : Int :=
  clamp x (-((2 ^ (accBits e - 1) : Nat) : Int)) (((2 ^ (accBits e - 1) : Nat) : Int) - 1)

/-- satV (R268). -/
def satV (e : Fin 148) (x : Int) : Int := clamp x 0 (((2 ^ laneBits e : Nat) : Int) - 1)

/-- SAT of the active lanes where `bad` holds (R269). -/
def satMark (e : Fin 148) (m : Fin 8) (bad : Nat → Bool) (x : Engine) : Engine :=
  { x with sat := (List.range (laneCount e)).map (fun l => x.sat.getD l false || (maskBit x m l && bad l)) }

/-- The active lanes of a vector take `f`, the others keep their values (R237). -/
def setV (e : Fin 148) (m : Fin 8) (d : Fin 32) (f : Nat → Nat) (x : Engine) : Engine :=
  { x with v := x.v.set d ((List.range (laneCount e)).map (fun l => if maskBit x m l then f l else lane0 x d l)) }

/-- The active lanes of an accumulator take `f` (R237). -/
def setA (e : Fin 148) (m d : Fin 8) (f : Nat → Int) (x : Engine) : Engine :=
  { x with a := x.a.set d ((List.range (laneCount e)).map (fun l => if maskBit x m l then f l else accLane x d l)) }

/-- The active bits of a mask register take `f`; a write of M0 is ignored (R236, R237). -/
def setM (e : Fin 148) (m d : Fin 8) (f : Nat → Bool) (x : Engine) : Engine :=
  if d.val = 0 then x
  else { x with m := x.m.set d ((List.range (laneCount e)).map (fun l => if maskBit x m l then f l else (x.m[d]).getD l false)) }

/-- A vector result without SAT. -/
def kVec (e : Fin 148) (m : Fin 8) (d : Fin 32) (f : Engine → Nat → Nat) (s : State) : Host.Outcome State Fault Refusal :=
  .next (kPlain e 1 1 (fun x => setV e m d (f x) x) s)

/-- A vector result that satV clamps, with SAT. -/
def kVecSat (e : Fin 148) (m : Fin 8) (d : Fin 32) (f : Engine → Nat → Int) (s : State) :
    Host.Outcome State Fault Refusal :=
  .next (kPlain e 1 1 (fun x =>
    satMark e m (fun l => satV e (f x l) != f x l) (setV e m d (fun l => (satV e (f x l)).toNat) x)) s)

/-- An accumulator result that satA clamps, with SAT. -/
def kAccSat (e : Fin 148) (m d : Fin 8) (f : Engine → Nat → Int) (s : State) : Host.Outcome State Fault Refusal :=
  .next (kPlain e 1 1 (fun x =>
    satMark e m (fun l => satA e (f x l) != f x l) (setA e m d (fun l => satA e (f x l)) x)) s)

/-- An accumulator result without SAT. -/
def kAcc (e : Fin 148) (m d : Fin 8) (f : Engine → Nat → Int) (s : State) : Host.Outcome State Fault Refusal :=
  .next (kPlain e 1 1 (fun x => setA e m d (f x) x) s)

/-- A mask result. -/
def kMask (e : Fin 148) (m d : Fin 8) (f : Engine → Nat → Bool) (s : State) : Host.Outcome State Fault Refusal :=
  .next (kPlain e 1 1 (fun x => setM e m d (f x) x) s)

/-! ### Vector instructions (R273) -/

/-- VMOV (R273). -/
def execKVmov (e : Fin 148) (m : Fin 8) (d a : Fin 32) (s : State) : Host.Outcome State Fault Refusal :=
  kVec e m d (fun x l => lane0 x a l) s

/-- VADD (R273). -/
def execKVadd (e : Fin 148) (m : Fin 8) (d a b : Fin 32) (s : State) : Host.Outcome State Fault Refusal :=
  kVec e m d (fun x l => (lane0 x a l + lane0 x b l) % 2 ^ laneBits e) s

/-- VSUB (R273). -/
def execKVsub (e : Fin 148) (m : Fin 8) (d a b : Fin 32) (s : State) : Host.Outcome State Fault Refusal :=
  kVec e m d (fun x l => unsigned (laneBits e) ((lane0 x a l : Int) - lane0 x b l)) s

/-- VADDS (R273). -/
def execKVadds (e : Fin 148) (m : Fin 8) (d a b : Fin 32) (s : State) : Host.Outcome State Fault Refusal :=
  kVecSat e m d (fun x l => (lane0 x a l : Int) + lane0 x b l) s

/-- VSUBS (R273). -/
def execKVsubs (e : Fin 148) (m : Fin 8) (d a b : Fin 32) (s : State) : Host.Outcome State Fault Refusal :=
  kVecSat e m d (fun x l => (lane0 x a l : Int) - lane0 x b l) s

/-- VMIN (R273). -/
def execKVmin (e : Fin 148) (m : Fin 8) (d a b : Fin 32) (s : State) : Host.Outcome State Fault Refusal :=
  kVec e m d (fun x l => min (lane0 x a l) (lane0 x b l)) s

/-- VMAX (R273). -/
def execKVmax (e : Fin 148) (m : Fin 8) (d a b : Fin 32) (s : State) : Host.Outcome State Fault Refusal :=
  kVec e m d (fun x l => max (lane0 x a l) (lane0 x b l)) s

/-- VAND (R273). -/
def execKVand (e : Fin 148) (m : Fin 8) (d a b : Fin 32) (s : State) : Host.Outcome State Fault Refusal :=
  kVec e m d (fun x l => lane0 x a l &&& lane0 x b l) s

/-- VOR (R273). -/
def execKVor (e : Fin 148) (m : Fin 8) (d a b : Fin 32) (s : State) : Host.Outcome State Fault Refusal :=
  kVec e m d (fun x l => lane0 x a l ||| lane0 x b l) s

/-- VXOR (R273). -/
def execKVxor (e : Fin 148) (m : Fin 8) (d a b : Fin 32) (s : State) : Host.Outcome State Fault Refusal :=
  kVec e m d (fun x l => lane0 x a l ^^^ lane0 x b l) s

/-- VSHLI (R273); a shift of the lane width or more is an undefined word (R266). -/
def execKVshli (e : Fin 148) (m : Fin 8) (d a : Fin 32) (n : Fin 24) (s : State) : Host.Outcome State Fault Refusal :=
  .next (kDefined (decide (n.val < laneBits e)) e
    (kPlain e 1 1 (fun x => setV e m d (fun l => lane0 x a l * 2 ^ n.val % 2 ^ laneBits e) x)) s)

/-- VSHRI (R273); a shift of the lane width or more is an undefined word (R266). -/
def execKVshri (e : Fin 148) (m : Fin 8) (d a : Fin 32) (n : Fin 24) (s : State) : Host.Outcome State Fault Refusal :=
  .next (kDefined (decide (n.val < laneBits e)) e
    (kPlain e 1 1 (fun x => setV e m d (fun l => lane0 x a l / 2 ^ n.val) x)) s)

/-- VBC (R273). -/
def execKVbc (e : Fin 148) (m : Fin 8) (d b : Fin 32) (s : State) : Host.Outcome State Fault Refusal :=
  kVec e m d (fun x _ => (getG x b).toNat % 2 ^ laneBits e) s

/-- VIDX (R273). -/
def execKVidx (e : Fin 148) (m : Fin 8) (d : Fin 32) (s : State) : Host.Outcome State Fault Refusal :=
  kVec e m d (fun _ l => l) s

/-- VGET (R273). -/
def execKVget (e : Fin 148) (d a b : Fin 32) (s : State) : Host.Outcome State Fault Refusal :=
  kScalar e d (fun x => BitVec.ofNat 32 (lane0 x a ((getG x b).toNat % laneCount e))) s

/-! ### Accumulator instructions (R273) -/

/-- CLRA (R273). -/
def execKClra (e : Fin 148) (m d : Fin 8) (s : State) : Host.Outcome State Fault Refusal := kAcc e m d (fun _ _ => 0) s

/-- AADD (R273). -/
def execKAadd (e : Fin 148) (m d : Fin 8) (a : Fin 32) (s : State) : Host.Outcome State Fault Refusal :=
  kAccSat e m d (fun x l => accLane x d l + lane0 x a l) s

/-- ASUB (R273). -/
def execKAsub (e : Fin 148) (m d : Fin 8) (a : Fin 32) (s : State) : Host.Outcome State Fault Refusal :=
  kAccSat e m d (fun x l => accLane x d l - lane0 x a l) s

/-- AMAC (R273). -/
def execKAmac (e : Fin 148) (m d : Fin 8) (a b : Fin 32) (s : State) : Host.Outcome State Fault Refusal :=
  kAccSat e m d (fun x l => accLane x d l + (lane0 x a l : Int) * lane0 x b l) s

/-- AMACS (R273). -/
def execKAmacs (e : Fin 148) (m d : Fin 8) (a b : Fin 32) (s : State) : Host.Outcome State Fault Refusal :=
  kAccSat e m d (fun x l => accLane x d l + lane0 x a l * (getG x b).toInt) s

/-- RSHR (R273). -/
def execKRshr (e : Fin 148) (m : Fin 8) (d : Fin 32) (a : Fin 8) (n : Fin 32) (s : State) :
    Host.Outcome State Fault Refusal := kVecSat e m d (fun x l => rs (accLane x a l) n.val) s

/-- AMOV (R273). -/
def execKAmov (e : Fin 148) (m d : Fin 8) (a : Fin 32) (s : State) : Host.Outcome State Fault Refusal :=
  kAcc e m d (fun x l => lane0 x a l) s

/-- AADDA (R273). -/
def execKAadda (e : Fin 148) (m d a b : Fin 8) (s : State) : Host.Outcome State Fault Refusal :=
  kAccSat e m d (fun x l => accLane x a l + accLane x b l) s

/-- ASHR (R273). -/
def execKAshr (e : Fin 148) (m d a : Fin 8) (n : Fin 32) (s : State) : Host.Outcome State Fault Refusal :=
  kAcc e m d (fun x l => sar (accLane x a l) n.val) s

/-- ABC (R273). -/
def execKAbc (e : Fin 148) (m d : Fin 8) (b : Fin 32) (s : State) : Host.Outcome State Fault Refusal :=
  kAccSat e m d (fun x _ => (getG x b).toInt) s

/-! ### Mask instructions (R273, R269) -/

/-- CEQ (R273). -/
def execKCeq (e : Fin 148) (m d : Fin 8) (a b : Fin 32) (s : State) : Host.Outcome State Fault Refusal :=
  kMask e m d (fun x l => lane0 x a l == lane0 x b l) s

/-- CLTU (R273). -/
def execKCltu (e : Fin 148) (m d : Fin 8) (a b : Fin 32) (s : State) : Host.Outcome State Fault Refusal :=
  kMask e m d (fun x l => decide (lane0 x a l < lane0 x b l)) s

/-- CLEU (R273). -/
def execKCleu (e : Fin 148) (m d : Fin 8) (a b : Fin 32) (s : State) : Host.Outcome State Fault Refusal :=
  kMask e m d (fun x l => decide (lane0 x a l ≤ lane0 x b l)) s

/-- ACLT (R273). -/
def execKAclt (e : Fin 148) (m d a b : Fin 8) (s : State) : Host.Outcome State Fault Refusal :=
  kMask e m d (fun x l => decide (accLane x a l < accLane x b l)) s

/-- ACEQ (R273). -/
def execKAceq (e : Fin 148) (m d a b : Fin 8) (s : State) : Host.Outcome State Fault Refusal :=
  kMask e m d (fun x l => accLane x a l == accLane x b l) s

/-- MAND (R273). -/
def execKMand (e : Fin 148) (m d a b : Fin 8) (s : State) : Host.Outcome State Fault Refusal :=
  kMask e m d (fun x l => maskBit x a l && maskBit x b l) s

/-- MOR (R273). -/
def execKMor (e : Fin 148) (m d a b : Fin 8) (s : State) : Host.Outcome State Fault Refusal :=
  kMask e m d (fun x l => maskBit x a l || maskBit x b l) s

/-- MANDN (R273). -/
def execKMandn (e : Fin 148) (m d a b : Fin 8) (s : State) : Host.Outcome State Fault Refusal :=
  kMask e m d (fun x l => maskBit x a l && !maskBit x b l) s

/-- MXOR (R273). -/
def execKMxor (e : Fin 148) (m d a b : Fin 8) (s : State) : Host.Outcome State Fault Refusal :=
  kMask e m d (fun x l => maskBit x a l != maskBit x b l) s

/-- SAT with its active bits cleared (R269). -/
def satTaken (e : Fin 148) (m : Fin 8) (x : Engine) : List Bool :=
  (List.range (laneCount e)).map (fun l => x.sat.getD l false && !maskBit x m l)

/-- MSAT (R269, R273). -/
def execKMsat (e : Fin 148) (m d : Fin 8) (s : State) : Host.Outcome State Fault Refusal :=
  .next (kPlain e 1 1 (fun x => { setM e m d (fun l => x.sat.getD l false) x with sat := satTaken e m x }) s)

/-- MCOUNT (R273). -/
def execKMcount (e : Fin 148) (m : Fin 8) (d : Fin 32) (a : Fin 8) (s : State) : Host.Outcome State Fault Refusal :=
  kScalar e d (fun x => BitVec.ofNat 32
    ((List.range (laneCount e)).filter (fun l => maskBit x m l && maskBit x a l)).length) s

/-! ### Vector and accumulator images (R239, R272) -/

/-- The codes packed two to three bytes (R128). -/
def unpack12 : Bytes → List Nat
  | b0 :: b1 :: b2 :: r => (b0.toNat + b1.toNat % 16 * 256) :: (b1.toNat / 16 + b2.toNat * 16) :: unpack12 r
  | _ => []

/-- Bytes in groups of `n`, `k` groups, as little-endian numbers. -/
def groups (n : Nat) : Nat → Bytes → List Nat
  | 0, _ => []
  | k + 1, b => leNat (b.take n) :: groups n k (b.drop n)

/-- Lanes of a vector image (R239). -/
def vecLanes (e : Fin 148) (b : Bytes) : List Nat := if e.val < 144 then unpack12 b else groups 3 64 b

/-- A vector image (R239). -/
def vecImage (e : Fin 148) (l : List Nat) : Bytes := if e.val < 144 then pack12 l else l.flatMap (natLe · 3)

/-- Lanes of an accumulator image (R239). -/
def accLanes (e : Fin 148) (b : Bytes) : List Int :=
  if e.val < 144 then (groups 3 128 b).map (signed 24) else (groups 6 64 b).map (signed 48)

/-- An accumulator image (R239). -/
def accImage (e : Fin 148) (l : List Int) : Bytes :=
  if e.val < 144 then l.flatMap (fun x => natLe (unsigned 24 x) 3) else l.flatMap (fun x => natLe (unsigned 48 x) 6)

/-- VLD (R272). -/
def execKVld (e : Fin 148) (m : Fin 8) (d a : Fin 32) (off : BitVec 13) (s : State) : Host.Outcome State Fault Refusal :=
  kLocal e a (64 * off.toInt) 64 192 (fun p x =>
    let img := vecLanes e (localRead x p 192)
    setV e m d (fun l => img.getD l 0) x) s

/-- VST (R272): inactive lanes leave memory unchanged. -/
def execKVst (e : Fin 148) (m : Fin 8) (d a : Fin 32) (off : BitVec 13) (s : State) : Host.Outcome State Fault Refusal :=
  kLocal e a (64 * off.toInt) 64 192 (fun p x =>
    let img := vecLanes e (localRead x p 192)
    localWrite p (vecImage e ((List.range (laneCount e)).map
      (fun l => if maskBit x m l then lane0 x d l else img.getD l 0))) x) s

/-- ALD (R272). -/
def execKAld (e : Fin 148) (m d : Fin 8) (a : Fin 32) (off : BitVec 13) (s : State) : Host.Outcome State Fault Refusal :=
  kLocal e a (64 * off.toInt) 64 384 (fun p x =>
    let img := accLanes e (localRead x p 384)
    setA e m d (fun l => img.getD l 0) x) s

/-- AST (R272). -/
def execKAst (e : Fin 148) (m d : Fin 8) (a : Fin 32) (off : BitVec 13) (s : State) : Host.Outcome State Fault Refusal :=
  kLocal e a (64 * off.toInt) 64 384 (fun p x =>
    let img := accLanes e (localRead x p 384)
    localWrite p (accImage e ((List.range (laneCount e)).map
      (fun l => if maskBit x m l then accLane x d l else img.getD l 0))) x) s

/-! ### 64-bit instructions (R274) -/

/-- MULSH (R274); a MAX above the lane's range is an undefined word (R266). -/
def execKMulsh (e : Fin 148) (m : Fin 8) (d a : Fin 32) (b : Fin 8) (sh : Fin 64) (max : BitVec 24) (s : State) :
    Host.Outcome State Fault Refusal :=
  .next (kDefined (decide (max.toNat < 2 ^ laneBits e)) e (kPlain e 2 1 (fun x =>
    let f (l : Nat) : Int := rs (lane0 x a l * accLane x b l) sh.val
    satMark e m (fun l => clamp (f l) 0 max.toNat != f l) (setV e m d (fun l => (clamp (f l) 0 max.toNat).toNat) x))) s)

/-- LI (R274). -/
def execKLi (e : Fin 148) (d : Fin 32) (value : Word) (s : State) : Host.Outcome State Fault Refusal :=
  .next (kPlain e 2 1 (fun x => setG d value x) s)

/-- VBCI (R274); a value above the lane's range is an undefined word (R266). -/
def execKVbci (e : Fin 148) (m : Fin 8) (d : Fin 32) (value : BitVec 24) (s : State) : Host.Outcome State Fault Refusal :=
  .next (kDefined (decide (value.toNat < 2 ^ laneBits e)) e (kPlain e 2 1 (fun x => setV e m d (fun _ => value.toNat) x)) s)

/-! ### The correction extension (R281) -/

/-- Entry `i` of the row group that begins at vector register `a` (10). -/
def groupAt (x : Engine) (a : Nat) (i : Nat) : Nat := laneN x (a + i / 64) (i % 64)

/-- TAPU (R281); an n outside −16 to 16 is an undefined word (R266). -/
def execKTapu (e : Fin 4) (m d : Fin 8) (a : Fin 30) (b : Fin 32) (n : BitVec 6) (s : State) :
    Host.Outcome State Fault Refusal :=
  let q := ceEng e
  .next (kDefined (decide (-16 ≤ n.toInt) && decide (n.toInt ≤ 16)) q (kPlain q 1 1 (fun x =>
    let f (l : Nat) : Int :=
      accLane x d l + ((getG x b).toNat % 65536 : Nat) * groupAt x a.val (64 + (l : Int) + n.toInt).toNat
    satMark q m (fun l => satA q (f l) != f l) (setA q m d (fun l => satA q (f l)) x))) s)

/-- TAPV (R281). -/
def execKTapv (e : Fin 4) (m d : Fin 8) (a b : Fin 32) (s : State) : Host.Outcome State Fault Refusal :=
  kAccSat (ceEng e) m d (fun x l => accLane x d l + ((getG x b).toNat % 65536 : Nat) * lane0 x a l) s

/-- REDUCE (R281). -/
def execKReduce (e : Fin 4) (m : Fin 8) (d a b : Fin 32) (k : Bool) (s : State) : Host.Outcome State Fault Refusal :=
  kVec (ceEng e) m d (fun x l =>
    let lo := if k then 32 else 0
    let j := 2 * (l - lo)
    if lo ≤ l && l < lo + 32 then (lane0 x a j + lane0 x a (j + 1) + lane0 x b j + lane0 x b (j + 1) + 2) / 4
    else lane0 x d l) s

/-- EXPAND (R281). -/
def execKExpand (e : Fin 4) (m : Fin 8) (d : Fin 32) (a b : Fin 30) (k : Bool) (s : State) :
    Host.Outcome State Fault Refusal :=
  kVec (ceEng e) m d (fun x l =>
    let i := 64 + (if k then 32 else 0) + l / 2
    let j := if l % 2 = 1 then i + 1 else i - 1
    (9 * groupAt x a.val i + 3 * groupAt x a.val j + 3 * groupAt x b.val i + groupAt x b.val j + 8) / 16) s

/-- q of KDIV, and its clamp (R281, R151). -/
def kdiv (d : Int) (t lo hi : Nat) : Nat × Bool :=
  if d ≤ 0 then (hi, true)
  else
    let q := (t * 16384 + d.toNat / 2) / d.toNat
    (min (max q lo) hi, decide (q < lo) || decide (hi < q))

/-- KDIV (R281). -/
def execKKdiv (e : Fin 4) (m : Fin 8) (d : Fin 32) (a : Fin 8) (b c : Fin 32) (s : State) :
    Host.Outcome State Fault Refusal :=
  let q := ceEng e
  .next (kPlain q 1 4 (fun x =>
    let f (l : Nat) : Nat × Bool := kdiv (accLane x a l) (getG x b).toNat ((getG x c).toNat % 65536) ((getG x c).toNat / 65536)
    satMark q m (fun l => (f l).2) (setV q m d (fun l => (f l).1) x)) s)

end Sys2Proof.Machine
end

