-- ==== Sys2Proof/Machine/Hive.lean ====
section
/-!
DEFINITION. Compressed rasters (R340 to R343) and the hive cache: its key, lookup, installation, evictions and flush
(R118, R344 to R347; 12_memory).
-/

namespace Sys2Proof.Machine

open Sys2Proof.Bits

/-! ### Rows -/

/-- Run of samples equal to the one above, at most 64 (R342). -/
def runUp (l : List (Nat × Nat)) : Nat := ((l.take 64).takeWhile (fun p => p.1 == p.2)).length

/-- Run of equal samples, at most 64 (R342). -/
def runSame (l : List (Nat × Nat)) : Nat :=
  match l with
  | [] => 0
  | p :: _ => ((l.take 64).takeWhile (fun q => q.2 == p.2)).length

/-- Is the difference of a sample from the one above in −128 to 127? -/
def nearUp (p : Nat × Nat) : Bool := decide (-128 ≤ (p.2 : Int) - p.1) && decide ((p.2 : Int) - p.1 ≤ 127)

/-- Run of samples near the one above, at most 64 (R342). -/
def runNear (l : List (Nat × Nat)) : Nat := ((l.take 64).takeWhile nearUp).length

/-- Does rule 1 or 2 of R342 apply? -/
def copyRule (l : List (Nat × Nat)) : Bool := decide (2 ≤ runUp l) || decide (3 ≤ runSame l)

/-- Does rule 1, 2 or 3 of R342 apply? -/
def anyRule (l : List (Nat × Nat)) : Bool := copyRule l || decide (4 ≤ runNear l)

/-- How far one may go from here, at most `n`, before `p` applies. -/
def goUntil (p : List (Nat × Nat) → Bool) : Nat → List (Nat × Nat) → Nat
  | 0, _ => 0
  | n + 1, l => if p l then 0 else goUntil p n l.tail + 1

/-- The token byte of a kind and a length (R341). -/
def tokenByte (kind len : Nat) : Byte := BitVec.ofNat 8 (64 * kind + (len - 1))

/-- The tokens of a row given as pairs of the sample above and the sample, `w` bytes to a value (R342). -/
def rowTokens (w : Nat) : Nat → List (Nat × Nat) → Bytes
  | 0, _ => []
  | _, [] => []
  | n + 1, p :: r =>
    let l := p :: r
    if 2 ≤ runUp l then tokenByte 0 (runUp l) :: rowTokens w n (l.drop (runUp l))
    else if 3 ≤ runSame l then (tokenByte 1 (runSame l) :: natLe p.2 w) ++ rowTokens w n (l.drop (runSame l))
    else if 4 ≤ runNear l then
      let len := 1 + goUntil copyRule (runNear l - 1) r
      (tokenByte 3 len :: (l.take len).map (fun q => BitVec.ofInt 8 ((q.2 : Int) - q.1))) ++ rowTokens w n (l.drop len)
    else
      let len := 1 + goUntil anyRule (min 63 r.length) r
      (tokenByte 2 len :: (l.take len).flatMap (fun q => natLe q.2 w)) ++ rowTokens w n (l.drop len)

/-- A row uncompressed (R341). -/
def rawRow (w : Nat) (row : List Nat) : Bytes := if w = 2 then pack12 row else row.flatMap (natLe · 3)

/-- A row as stored: whether RAW, and its bytes (R342). -/
def encodeRow (w : Nat) (above row : List Nat) : Bool × Bytes :=
  let t := rowTokens w row.length (above.zip row)
  if (rawRow w row).length ≤ t.length then (true, rawRow w row) else (false, t)

/-- All rows as stored, given the row above the first. -/
def encodeRows (w : Nat) : List Nat → List (List Nat) → List (Bool × Bytes)
  | _, [] => []
  | above, row :: r => encodeRow w above row :: encodeRows w row r

/-- A compressed raster (R340). KIND 1 holds 12-bit samples, 2 holds 22-bit samples. -/
def compress (kind width : Nat) (xOff yOff : Int) (id : Nat) (key : Bytes) (ctx : Nat) (rows : List (List Nat)) : Bytes :=
  let stored := encodeRows (kind + 1) (List.replicate width 0) rows
  let table := padTo (stored.flatMap (fun x => natLe (x.2.length + (if x.1 then 32768 else 0)) 2)) 64
  let body := padTo (stored.flatMap (·.2)) 64
  let len := 64 + table.length + body.length
  let head := natLe 0x5243 2 ++ [1, BitVec.ofNat 8 kind] ++ natLe width 2 ++ natLe rows.length 2 ++ natLe len 4 ++
    natLe (unsigned 16 xOff) 2 ++ natLe (unsigned 16 yOff) 2 ++ natLe id 8 ++ slice (key ++ List.replicate 12 0) 0 12 ++
    List.replicate 24 0
  head ++ natLe (Check.crc32c ctx (head ++ table ++ body)).toNat 4 ++ table ++ body

/-- A raw row read, if it has its length. -/
def readRaw (w width : Nat) (b : Bytes) : Option (List Nat) :=
  if w = 2 then
    (if b.length = (width + 1) / 2 * 3 then some ((unpack12 b).take width) else none)
  else if b.length = 3 * width then some (groups 3 width b) else none

/-- The samples of a row's tokens, `n` samples still due, with at most `fuel` tokens (R341). -/
def readTokens (w : Nat) : Nat → Nat → List Nat → Bytes → Option (List Nat)
  | 0, n, _, b => if n = 0 ∧ b = [] then some [] else none
  | fuel + 1, n, above, b =>
    match b with
    | [] => if n = 0 then some [] else none
    | t :: r =>
      let len := t.toNat % 64 + 1
      if n < len then none
      else
        let part : Option (List Nat × Bytes) :=
          match t.toNat / 64 with
          | 0 => some (above.take len, r)
          | 1 => if r.length < w then none else some (List.replicate len (leNat (r.take w)), r.drop w)
          | 2 => if r.length < len * w then none else some (groups w len r, r.drop (len * w))
          | _ =>
            if r.length < len then none
            else
              let vals := (above.zip (r.take len)).map (fun p => (p.1 : Int) + p.2.toInt)
              if vals.all (fun v => decide (0 ≤ v)) then some (vals.map Int.toNat, r.drop len) else none
        match part with
        | none => none
        | some (vs, rest) => (readTokens w fuel (n - len) (above.drop len) rest).map (fun more => vs ++ more)

/-- The rows of a compressed raster, given the row table's entries from this row on (R341). -/
def readRows (w width : Nat) : List Nat → List Nat → Bytes → Option (List (List Nat))
  | _, [], _ => some []
  | above, t :: ts, b =>
    let len := t % 32768
    let here := b.take len
    let row := if t / 32768 = 1 then readRaw w width here else readTokens w width width above here
    match row with
    | none => none
    | some vs =>
      if here.length = len ∧ vs.all (fun v => decide (v < 2 ^ (if w = 2 then 12 else 22))) then
        (readRows w width vs ts (b.drop len)).map (fun more => vs :: more)
      else none

/-- The rows of a compressed raster of a kind, if its CHECK passes and its rows keep R341 (R343). -/
def decompress (kind ctx : Nat) (b : Bytes) : Option (List (List Nat)) :=
  let width := field b 4 2
  let height := field b 6 2
  let table := slice b 64 (2 * height)
  if field b 0 2 ≠ 0x5243 || byteAt b 2 ≠ 1 || byteAt b 3 ≠ kind || field b 8 4 ≠ b.length ||
      field b 60 4 ≠ (Check.crc32c ctx (slice b 0 60 ++ b.drop 64)).toNat then none
  else readRows (kind + 1) width (List.replicate width 0) (groups 2 height table) (b.drop (64 + roundUp (2 * height) 64))

/-! ### The cache -/

/-- The key of a bracket (R344). -/
def hiveKey (s : State) (cell phaseX phaseY orient : Nat) : Bytes :=
  let dig := match s.intake.bind with | some b => b.digest.toNat | none => 0
  natLe dig 4 ++ natLe cell 4 ++ natLe orient 1 ++ natLe phaseX 1 ++ natLe phaseY 1 ++ [0]

/-- HASH of a key (R344). -/
def hiveHash (key : Bytes) : Word := Check.crc32c 0 key

/-- The bucket of a hash (R345). -/
def hiveBucket (s : State) (h : Word) : Nat := h.toNat % 2 ^ s.hive.log2

/-- Bytes of the index (R344). -/
def indexSize (s : State) : Nat := 64 * 2 ^ s.hive.log2

/-- Bytes of the payload log. -/
def logSize (s : State) : Nat := s.hive.size - indexSize s

/-- `n` bytes of the payload log from offset `p`, which wraps (R344). -/
def logRead (s : State) (p n : Nat) : Bytes :=
  (List.range n).map (fun i => dramByte s (s.hive.base + indexSize s + (p + i) % logSize s))

/-- Bytes written to the payload log from offset `p` on. -/
def logWrite : Nat → Bytes → State → State
  | _, [], s => s
  | p, b :: r, s => logWrite (p + 1) r (dramWrite (s.hive.base + indexSize s + p % logSize s) [b] s)

/-- One way of a bucket: HASH, PTR, LEN and FLAGS (R344). -/
def wayBytes (s : State) (bucket way : Nat) : Bytes := dramRead s (wayAddr s bucket way) 16

/-- Is a way valid, and does its HASH match? -/
def wayMatches (s : State) (bucket : Nat) (h : Word) (way : Nat) : Bool :=
  let b := wayBytes s bucket way
  bit (byteAt b 10) 0 && field b 0 4 == h.toNat

/-- The raster a way holds for a key, when its KEY and CHECK hold (R345). -/
def wayRaster (s : State) (bucket way : Nat) (key : Bytes) (h : Word) : Option (Bytes × List (List Nat)) :=
  let b := wayBytes s bucket way
  let entry := logRead s (256 * field b 4 4) (64 * field b 8 2)
  if slice entry 24 12 = key then (decompress 2 h.toNat entry).map (fun rows => (entry, rows)) else none

/-- Is a fill of a key in progress in any comb (R345)? -/
def filling (s : State) (key : Bytes) : Bool :=
  s.comb.fills.any (fun f => f.key == key) ||
  s.eng.any (fun x => match x.held with
    | some h => (match h.fill with | some f => f.key == key && !f.dropped && decide (f.put < 256) | none => false)
    | none => false)

/-- A fetched entry that fails its KEY or CHECK is invalidated (R345, R347). -/
def hiveBad (bucket : Nat) (s : State) (way : Nat) : State :=
  raise 216 0 0 (count 0x11004C 1 (hiveEvict bucket way s))

/-- HIT is set in a way. -/
def setHit (bucket way : Nat) (s : State) : State :=
  let f := wayFlags s bucket way
  dramWrite (wayAddr s bucket way + 10) [BitVec.ofNat 8 (if bit f 1 then f else f + 2)] s

/-- What a lookup reports (R345). -/
inductive HiveAnswer where
  | plain
  | fill
  | hit (bucket way : Nat) (entry : Bytes) (rows : List (List Nat))
  deriving DecidableEq, Repr

/-- The lookup of a bracket, with a hive input or without (R345). With the cache out of use the lookup is counted and
finds nothing (DEDUCED, log 19). -/
def hiveLookup (key : Bytes) (input second : Bool) (s : State) : State × HiveAnswer :=
  if !s.hive.on then (count 0x11003C 1 s, .plain)
  else
    let h := hiveHash key
    let bucket := hiveBucket s h
    let ways := (List.range 4).filter (wayMatches s bucket h)
    let s1 := count 0x11003C 1 s
    let s2 := (ways.filter (fun w => (wayRaster s bucket w key h).isNone)).foldl (hiveBad bucket) s1
    let good := ways.filterMap (fun w => (wayRaster s bucket w key h).map (fun r => (w, r)))
    match good with
    | (w, entry, rows) :: _ =>
      if second || !input then (s2, .plain) else (count 0x110040 1 (setHit bucket w s2), .hit bucket w entry rows)
    | [] =>
      if bit (regN s 0x110020) 1 && !filling s key && !second then (s2, .fill) else (s2, .plain)

/-- The geometry of a bracket's raster: lowest pixel column and row, width and height (R346). -/
def boxPixels (b : Box) : Int × Int × Nat × Nat :=
  let x0 := fdiv b.x0 32
  let y0 := fdiv b.y0 32
  (x0, y0, (fdiv (b.x1 - 1) 32 - x0 + 1).toNat, (fdiv (b.y1 - 1) 32 - y0 + 1).toNat)

/-- The entries of the log that overlap `n` bytes from offset `p` (R347). -/
def logOverlaps (s : State) (p n : Nat) (e : Nat × Nat × Nat × Nat) : Bool :=
  let l := logSize s
  decide ((e.1 + l - p % l) % l < n) || decide ((p % l + l - e.1) % l < e.2.1)

/-- The way a fill is installed in: an invalid one, then one with HIT clear, then the lowest (R346). -/
def wayFor (s : State) (bucket : Nat) : Nat :=
  match (List.range 4).find? (fun w => !bit (wayFlags s bucket w) 0) with
  | some w => w
  | none => ((List.range 4).find? (fun w => !bit (wayFlags s bucket w) 1)).getD 0

/-- A filled raster is written to the log, which invalidates the entries it overlaps, and is then installed in a way of its
bucket (R346, R347). -/
def installFill (f : Fill) (entry : Bytes) (s : State) : State :=
  let p := s.hive.ptr
  let s1 := (s.hive.log.filter (logOverlaps s p entry.length)).foldl (fun t e => hiveEvict e.2.2.1 e.2.2.2 t) s
  let s2 := logWrite p entry s1
  let bucket := hiveBucket s2 f.hash
  let way := wayFor s2 bucket
  let s3 := if bit (wayFlags s2 bucket way) 0 then hiveEvict bucket way s2 else s2
  let w := natLe f.hash.toNat 4 ++ natLe (p / 256) 4 ++ natLe (entry.length / 64) 2 ++ [1] ++ List.replicate 5 0
  let s4 := dramWrite (wayAddr s3 bucket way) w s3
  count 0x110044 1 { s4 with hive := { s4.hive with
    ptr := roundUp (p + entry.length) 256 % logSize s4, log := s4.hive.log ++ [(p, entry.length, bucket, way)] } }

/-- Has a key been installed (R346)? -/
def hiveHas (s : State) (key : Bytes) : Bool :=
  let h := hiveHash key
  (List.range 4).any (fun w => wayMatches s (hiveBucket s h) h w && (wayRaster s (hiveBucket s h) w key h).isSome)

/-- The oldest completed fill is installed, abandoned or discarded (R346). -/
def fillInstall (s : State) : State :=
  match s.comb.fills with
  | [] => s
  | f :: r =>
    let s1 := { s with comb := { s.comb with fills := r } }
    let entry := compress 2 f.width f.xOff f.yOff 0 f.key f.hash.toNat f.rows
    if !s.hive.on || regBits s 0x110020 23 16 * 1024 < entry.length || logSize s < entry.length || hiveHas s1 f.key then s1
    else installFill f entry s1

/-- HIVE_FILL_INSTALL (R346). -/
def execHiveFillInstall (s : State) : Host.Outcome State Fault Refusal := .next (fillInstall s)

/-- The addresses of the FLAGS bytes of the index that memory lists; an unlisted byte reads 0. -/
def flagAddrs (s : State) : List Nat :=
  (s.dram.map (·.1)).filter (fun a =>
    decide (s.hive.base ≤ a) && decide (a < s.hive.base + indexSize s) && (a - s.hive.base) % 16 == 10)

/-- The whole cache is flushed: no way stays valid and the log is empty (R347). -/
def hiveFlush (s : State) : State :=
  let clear (t : State) (a : Nat) : State := dramWrite a [BitVec.ofNat 8 ((dramByte t a).toNat / 2 * 2)] t
  let s1 := (flagAddrs s).foldl clear s
  raise 218 0 0 { s1 with hive := { s1.hive with ptr := 0, log := [] } }

/-- HIVE_FLUSH (R347). -/
def execHiveFlush (s : State) : Host.Outcome State Fault Refusal := .next (barWrite (hiveFlush) s)

end Sys2Proof.Machine
end

