-- ==== Sys2Proof/Machine/Raster.lean ====
section
/-!
DEFINITION. The geometry of the span unit: crossings of edges and arcs (R113 to R115, R78), the inside of a scanline
(R116, R117) and its lengths per pixel (R120; 04_rasterization).
-/

namespace Sys2Proof.Machine

open Sys2Proof.Bits

/-- 16y of scanline `k` of pixel row `j` (R113). -/
def scanY (j : Int) (k : Nat) : Int := 512 * j + 2 * k + 1

/-- The crossing of a straight edge with a scanline: its position and whether its direction is +1 (R114). -/
def lineCross (xa ya xb yb y16 : Int) : Option (Int × Bool) :=
  if 16 * min ya yb < y16 && y16 < 16 * max ya yb then
    let num := 16 * (xb - xa) * (y16 - 16 * ya)
    let den := yb - ya
    let n := if den < 0 then -num else num
    let d := if den < 0 then -den else den
    some (256 * xa + fdiv (2 * n + d) (2 * d), decide (ya < yb))
  else none

/-- An arc: start, control and end points and the coded weight W (R115). -/
structure Arc where
  x0 : Int
  y0 : Int
  x1 : Int
  y1 : Int
  x2 : Int
  y2 : Int
  w : Int
  deriving DecidableEq, Repr

/-- Does a coordinate offset lie in −16 777 216 to 16 777 216 (R78)? -/
def arcOffset (d : Int) : Bool := decide (-16777216 ≤ d) && decide (d ≤ 16777216)

/-- The arc rules of R78. -/
def arcValid (a : Arc) : Bool :=
  let cx := a.x1 - a.x0
  let cy := a.y1 - a.y0
  let ex := a.x2 - a.x0
  let ey := a.y2 - a.y0
  (ex != 0 || ey != 0) && arcOffset cx && arcOffset cy && arcOffset ex && arcOffset ey &&
  decide (0 ≤ cx * (ex - cx)) && decide (0 ≤ cy * (ey - cy)) && (cx * ey - cy * ex != 0) &&
  decide (1024 ≤ a.w) && decide (a.w ≤ 32768)

/-- Does the arc meet the scanline at an abscissa of at least (2n − 1)/512? With t/(1 − t) = r > 0 the height gives
A r² + B r + C = 0 with one positive root, and the abscissa D r² + E r + G ≥ 0; the sign of the second at the root of
the first is decided in integers. -/
def arcAtLeast (a : Arc) (y16 n : Int) : Bool :=
  let qa := 8192 * (16 * a.y2 - y16)
  let qb := a.w * (16 * a.y1 - y16)
  let qc := 8192 * (16 * a.y0 - y16)
  let qd := 8192 * (512 * a.x2 - (2 * n - 1))
  let qe := a.w * (512 * a.x1 - (2 * n - 1))
  let qg := 8192 * (512 * a.x0 - (2 * n - 1))
  let p := qa * qe - qd * qb
  let q := qa * qg - qd * qc
  let value := qa * q * q - qb * q * p + qc * p * p
  let side : Int :=
    if p = 0 then Int.sign q
    else if 0 ≤ q * p then Int.sign p
    else if value = 0 then 0
    else if Int.sign value = Int.sign qc then Int.sign p
    else -Int.sign p
  decide (0 ≤ Int.sign qa * side)

/-- The greatest integer from `lo` on, below `hi`, at which `ok` holds; it holds at `lo`, not at `hi`, and never again
once it has failed. -/
def greatest (ok : Int → Bool) : Nat → Int → Int → Int
  | 0, lo, _ => lo
  | n + 1, lo, hi =>
    if hi - lo ≤ 1 then lo
    else
      let m := fdiv (lo + hi) 2
      if ok m then greatest ok n m hi else greatest ok n lo m

/-- The crossing of an arc with a scanline (R115): floor(256x + 1/2). -/
def arcCross (a : Arc) (y16 : Int) : Option (Int × Bool) :=
  if 16 * min a.y0 a.y2 < y16 && y16 < 16 * max a.y0 a.y2 then
    some (greatest (arcAtLeast a y16) 64 (256 * min a.x0 a.x2) (256 * max a.x0 a.x2 + 1), decide (a.y0 < a.y2))
  else none

/-- A crossing put in its place by position. -/
def insertCross (c : Int × Bool) : List (Int × Bool) → List (Int × Bool)
  | [] => [c]
  | d :: r => if c.1 ≤ d.1 then c :: d :: r else d :: insertCross c r

/-- The intervals of a scanline on which the winding is not 0, from crossings in order (R116). -/
def insides (stop : Int) : Int → Int → List (Int × Bool) → List (Int × Int)
  | w, at_, [] => if w ≠ 0 then [(at_, stop)] else []
  | w, at_, (x, up) :: r =>
    (if w ≠ 0 ∧ at_ < x then [(at_, x)] else []) ++ insides stop (if up then w + 1 else w - 1) x r

/-- An interval put in its place by its start. -/
def insertIv (c : Int × Int) : List (Int × Int) → List (Int × Int)
  | [] => [c]
  | d :: r => if c.1 ≤ d.1 then c :: d :: r else d :: insertIv c r

/-- Intervals in order joined where they meet, from the open interval (`lo`, `hi`) on. -/
def joinIvs (lo hi : Int) : List (Int × Int) → List (Int × Int)
  | [] => [(lo, hi)]
  | b :: r => if b.1 ≤ hi then joinIvs lo (max hi b.2) r else (lo, hi) :: joinIvs b.1 b.2 r

/-- The union of intervals, in order and disjoint (R117). -/
def unionIvs (l : List (Int × Int)) : List (Int × Int) :=
  match l.foldr insertIv [] with
  | [] => []
  | a :: r => joinIvs a.1 a.2 r

/-- The inside of one primitive on a scanline (R116). -/
def tagInside (stop : Int) (xs : List Crossing) (tag : Nat) : List (Int × Int) :=
  let mine := (xs.filter (fun c => c.tag == tag)).map (fun c => (c.x, c.up))
  match mine.foldr insertCross [] with
  | [] => []
  | c :: r => insides stop 0 c.1 (c :: r)

/-- The union of the insides of all primitives on a scanline (R117). -/
def scanInside (stop : Int) (xs : List Crossing) : List (Int × Int) :=
  unionIvs ((xs.map (·.tag)).eraseDups.flatMap (tagInside stop xs))

/-- Length of intervals within [`a`, `b`). -/
def lengthIn (ivs : List (Int × Int)) (a b : Int) : Int :=
  (ivs.map (fun i => max 0 (min i.2 b - max i.1 a))).foldl (· + ·) 0

/-- L_k of the 256 pixels from pixel column `col0` on (R117, R120). -/
def scanLengths (xs : List Crossing) (negative : Bool) (box : Box) (j col0 : Int) (k : Nat) : List Int :=
  let left := 8192 * col0
  let ivs := scanInside (left + 8192 * 256) (xs.filter (fun c => c.k == k))
  let inY := decide (16 * box.y0 < scanY j k) && decide (scanY j k < 16 * box.y1)
  let bx0 := 256 * box.x0
  let bx1 := 256 * box.x1
  (List.range 256).map (fun i =>
    let a := left + 8192 * i
    let b := a + 8192
    if negative then
      (if inY then max 0 (min bx1 b - max bx0 a) - lengthIn ivs (max a bx0) (min b bx1) else 0)
    else lengthIn ivs a b)

end Sys2Proof.Machine
end

