-- ==== Sys2Proof/Machine/KolbenTask.lean ====
section
/-!
DEFINITION. Tasks and streams of the Kolben engines: TASK, IN, FACT, COV, OUT, HIVE, FIP and CNT instructions (R241,
R242, R246, R247, R275 to R278), the span unit (R243 to R245, R279, R280) and the correction streams (R136 to R138,
R281, R282; 05, 09, 10).
-/

namespace Sys2Proof.Machine

open Sys2Proof.Bits

/-! ### What a pass works with -/

/-- The kernel table a pass uses (R144). -/
def passKernel (s : State) (p : Pass) : Option Bytes :=
  match p with
  | .forage => s.job.forage.bind (·.kernel)
  | .write => s.pec.kernel.cur

/-- The field density table a pass uses (R144). -/
def passField (s : State) (p : Pass) : Option Bytes :=
  match p with
  | .forage => s.job.forage.bind (·.field)
  | .write => s.pec.field.cur

/-- MARGIN of the kernel of a pass, in tiles; 0 without one (R136, R141). -/
def passMargin (s : State) (p : Pass) : Nat := match passKernel s p with | some k => byteAt k 5 | none => 0

/-- The walk of a pass. -/
def passExp (s : State) (p : Pass) : Exp := match p with | .forage => s.intake.expF | .write => s.intake.expW

/-- The forage slot of a stripe (R303). -/
def slotOf (s : State) (f : Stripe) : Option Slot :=
  s.job.slots.find? (fun x => x.stripe == f.stripe && x.pass == f.pass)

/-- The slot of a stripe changed. -/
def updSlot (f : Stripe) (g : Slot → Slot) (s : State) : State :=
  { s with job := { s.job with slots := s.job.slots.map (fun x => if x.stripe == f.stripe && x.pass == f.pass then g x else x) } }

/-- Does a level-0 cell lie in the window of a pass (R136)? -/
def inWindow (s : State) (p : Pass) (f : Stripe) (u v : Int) : Bool :=
  let m := 2 * (passMargin s p : Int)
  decide (-m ≤ u) && decide (u < 80 + m) && decide (-m ≤ v) && decide (v < 2 * (f.segs : Int) + m)

/-- The density of a field cell, and whether the cell lies in the table (R143). -/
def fieldCell (t : Option Bytes) (p q : Int) : Nat × Bool :=
  match t with
  | none => (0, false)
  | some b =>
    let nx := (field b 12 2 : Int)
    if 0 ≤ p && p < nx && 0 ≤ q && q < (field b 14 2 : Int) then (field b (32 + 4 * (q * nx + p).toNat) 4, true) else (0, false)

/-- Absolute pixel column and row of a stripe-local position (R111). -/
def absPixel (f : Stripe) (px py : Int) : Int × Int := (f.x + px, if f.dir = 0 then f.y + py else f.y - 1 - py)

/-- The density of a level-0 cell, and whether the read counts as outside the field table (R137, R138). -/
def cellDensity (s : State) (p : Pass) (f : Stripe) (u v : Int) : Nat × Bool :=
  if inWindow s p f u v then
    (match slotOf s f with
      | some x => ((x.density.find? (fun d => d.1 == (u, v))).map (·.2)).getD 0
      | none => 0, false)
  else
    match passField s p with
    | none => (0, false)
    | some t =>
      let c := absPixel f (128 * u + 64) (128 * v + 64)
      let r := fieldCell (some t) (fdiv (c.1 - sfield t 4 4) 8192) (fdiv (c.2 - sfield t 8 4) 8192)
      (r.1, !r.2)

/-- Has the coverage sweep formed ρ of a level-0 cell (R139)? -/
def densityKnown (s : State) (f : Stripe) (u v : Int) : Bool :=
  match slotOf s f with
  | some x => x.density.any (fun d => d.1 == (u, v))
  | none => false

/-- A factor of the factor store (R154). -/
def factorAt (s : State) (p : Pass) (u v : Int) : Option Nat :=
  (s.comb.factors.find? (fun x => x.1 == (p, u, v))).map (·.2)

/-- The cells whose factors FACT.LOAD delivers for a tile, v outer and u inner (R241). -/
def factorCells (col seg : Int) : List (Int × Int) :=
  (List.range 16).map (fun i => (2 * col - 1 + (i % 4 : Nat), 2 * seg - 1 + (i / 4 : Nat)))

/-- Are the factors of a tile written (R154)? Without a kernel every factor is 16 384. -/
def factorsReady (s : State) (t : Task) : Bool :=
  (passKernel s t.pass).isNone || (factorCells t.col t.seg).all (fun c => (factorAt s t.pass c.1 c.2).isSome)

/-- The factors of a tile (R241). -/
def tileFactors (s : State) (t : Task) : List Nat :=
  (factorCells t.col t.seg).map (fun c =>
    if (passKernel s t.pass).isNone then 16384 else (factorAt s t.pass c.1 c.2).getD 16384)

/-- The bank of the command of a pass, for a target (R250). -/
def passBank (s : State) (p : Pass) (raster : Bool) : Bool :=
  match p with
  | .forage => (match s.job.forage with | some f => if raster then f.bankRe else f.bankCe | none => false)
  | .write => (match s.job.write with | some w => if raster then w.bankRe else w.bankCe | none => false)

/-- Is a list that of a task? -/
def listOf (t : Task) (l : TList) : Bool := l.pass == t.pass && l.col == t.col && l.seg == t.seg

/-- The address of an offset in COVER (R319). -/
def coverAddr (s : State) (off : Nat) : Nat := s.mem.regions.cover.1 * 2 ^ 30 + off

/-- The compressed coverage of a tile, as COVER holds it. -/
def coverOf (s : State) (t : Task) : Option Bytes :=
  (s.comb.cover.find? (fun c => c.1 == (t.col, t.seg))).map (fun c => dramRead s (coverAddr s c.2.1) c.2.2)

/-- The coverage rows of a tile, if its raster may be used (R343). -/
def coverRows (s : State) (e : Fin 148) (t : Task) : Option (List (List Nat)) :=
  (coverOf s t).bind (decompress 1 (taskName s e t))

/-- What an engine holds when it takes a task (R241 to R246, table of 09). -/
def makeHeld (s : State) (e : Fin 148) (t : Task) : Held :=
  let entries := if t.mode = 2 then [] else
    match s.comb.lists.find? (listOf t) with | some l => l.entries | none => []
  let f := passStripe s t.pass
  let dir := match f with | some f => f.dir | none => 0
  let ox := match f with | some f => f.x | none => 0
  let oy := match f with | some f => f.y | none => 0
  let raster := isRaster e
  { task := t, entries := entries, entryCount := entries.length, rows := [], covRow := 0,
    cover := if raster && t.mode == 2 then (coverRows s e t).getD [] else [],
    factors := tileFactors s t, factLoaded := false, getRow := 0, hits := [], fill := none, used := [], sums := [0, 0, 0],
    fieldOut := 0, facs := [], slots := 0, bank := passBank s t.pass raster, negative := (passExp s t.pass).negative,
    dir := dir == 1,
    col0 := if raster then ox + 256 * t.col else -2 * (passMargin s t.pass : Int),
    row0 := if raster then (if dir = 0 then oy + 256 * t.seg else oy - 256 * t.seg - 256) else 2 * t.seg,
    spillLen := regBits s (engBase e + 0x14) 31 16, spillBase := regBits s (engBase e + 0x14) 15 0, spilled := 0 }

/-- The span unit at the start of a task (R280). -/
def spanStart : Span :=
  { xs := [], row := none, count := 0, negative := false, box := ⟨0, 0, 0, 0⟩, arcBad := false }

/-- An engine takes its task: SAT is cleared (R269, R275). -/
def engTakes (s : State) (e : Fin 148) (t : Task) (x : Engine) : Engine :=
  { x with held := some (makeHeld s e t), assigned := none, waiting := false, sat := [], span := spanStart }

/-- TASK.WAIT meets a task assigned to its engine, which begins once its factors are written (R154, R275). -/
def takeTask (e : Fin 148) (t : Task) (s : State) : State :=
  if t.mode == 1 || !isRaster e || factorsReady s t then kNext e 1 1 (engTakes s e t (s.eng[e])) s else s

/-- An instruction that needs a task (R275). -/
def kHeld (e : Fin 148) (run : Held → State → State) (s : State) : State :=
  if kGo s e then
    (match (s.eng[e]).held with
      | some h => run h s
      | none => engFault e true 3 s)
  else s

/-- The task held changed, in an engine. -/
def withHeld (f : Held → Held) (x : Engine) : Engine := { x with held := x.held.map f }

/-! ### Task instructions (R275) -/

/-- TASK.WAIT (R275). -/
def execKTaskWait (e : Fin 148) (s : State) : Host.Outcome State Fault Refusal :=
  .next (if kGo s e then
    (if (s.eng[e]).held.isSome then engFault e true 3 s
      else match (s.eng[e]).assigned with
        | some t => takeTask e t s
        | none => updEng e (fun x => { x with waiting := true }) s)
    else s)

/-- FLAGS of a task (table of 09). -/
def taskFlags (e : Fin 148) (h : Held) : Nat :=
  if isRaster e then b2n h.dir + 2 * b2n h.negative + 4 * b2n h.task.margin + 8 * b2n h.task.second else b2n h.dir

/-- A task field (table of 09); fields 0 and 5 of a start of pass are open (log 18). -/
def taskField (s : State) (e : Fin 148) (h : Held) (field : Nat) : Word :=
  let start := !isRaster e && h.task.mode == 1
  match field with
  | 0 => if start then (freeNow s).setWidth 32 else BitVec.ofNat 32 (taskName s e h.task)
  | 1 => if isRaster e then BitVec.ofNat 32 (taskName s e h.task / 4294967296) else 0
  | 2 => BitVec.ofNat 32 h.task.mode
  | 3 => BitVec.ofNat 32 (taskFlags e h)
  | 4 => BitVec.ofInt 32 h.col0
  | 5 => if start then (freeNow s).setWidth 32 else BitVec.ofInt 32 h.row0
  | 6 => if isRaster e then BitVec.ofNat 32 h.entryCount else BitVec.ofNat 32 (80 + 4 * passMargin s h.task.pass)
  | _ => ((s.eng[e]).gen).setWidth 32

/-- TASK.GET (R275). -/
def execKTaskGet (e : Fin 148) (p : Fin 32) (field : Fin 8) (s : State) : Host.Outcome State Fault Refusal :=
  .next (kHeld e (fun h s => freeNext (kNext e 1 1 (setG p (taskField s e h field.val) (s.eng[e])) s)) s)

/-- Counter sums and the events of their first non-zero sum (R278, R138). -/
def applySum (n : Nat) (off src info : Nat) (p : Pass) (s : State) : State :=
  if n = 0 then s else raiseFirst p src info (count off n s)

/-- The sums of a task are applied (R138, R278). -/
def applySums (h : Held) (s : State) : State :=
  let p := h.task.pass
  let clamp := if p == .write then 0x05C008 else 0x05C00C
  applySum h.fieldOut 0x0B0030 103 0 p
    (applySum (h.sums.getD 2 0) 0x0B0024 102 0 p
      (applySum (h.sums.getD 1 0) 0x0B0020 98 0 p
        (applySum (h.sums.getD 0 0) clamp 90 0 p s)))

/-- Factors of a task become visible, the later write of a cell replacing the earlier (R282). -/
def applyFactors (h : Held) (s : State) : State :=
  let new := h.facs.map (fun x => ((h.task.pass, x.1.1, x.1.2), x.2))
  let put (l : List ((Pass × Int × Int) × Nat)) (x : (Pass × Int × Int) × Nat) : List ((Pass × Int × Int) × Nat) :=
    x :: l.filter (fun y => y.1 != x.1)
  { s with comb := { s.comb with factors := new.reverse.foldl put s.comb.factors } }

/-- Sum of the codes of one level-0 cell of a tile: cell column `a` and stripe-local cell row `b` within it (R137). -/
def cellSum (dir : Bool) (rows : List (List Nat)) (a b : Nat) : Nat :=
  let rb := if dir then 1 - b else b
  (((rows.drop (128 * rb)).take 128).map (fun r => ((r.drop (128 * a)).take 128).sum)).sum

/-- The cell sums of a coverage tile enter the density map (R137, R139). -/
def densityTile (f : Stripe) (h : Held) (s : State) : State :=
  let cells := [(0, 0), (1, 0), (0, 1), (1, 1)].map (fun (c : Nat × Nat) =>
    ((2 * h.task.col + c.1, 2 * h.task.seg + c.2), (cellSum h.dir h.rows c.1 c.2 + 256) / 512))
  updSlot f (fun x => { x with
    density := cells ++ x.density.filter (fun d => !cells.any (fun c => c.1 == d.1)) }) s

/-- Issue slots of a stripe tile count in its segment's cost (R304). -/
def costTile (f : Stripe) (h : Held) (s : State) : State :=
  if h.task.margin then s
  else
    let g := h.task.seg.toNat
    updSlot f (fun x =>
      let old := ((x.slots.find? (fun c => c.1 == g)).map (·.2)).getD 0
      { x with slots := (g, old + h.slots) :: x.slots.filter (fun c => c.1 != g) }) s

/-- The forage signature of a tile is stored (R129, R130). -/
def signTile (e : Fin 148) (f : Stripe) (h : Held) (s : State) : State :=
  let key := (h.task.seg.toNat, h.task.col.toNat)
  let sig := Check.crc32c (taskName s e h.task) (tileBytes h.rows)
  updSlot f (fun x => { x with sigs := (key, sig) :: x.sigs.filter (fun c => c.1 != key) }) s

/-- The coverage of a stripe tile as it is stored (R139, R340). -/
def coverBytes (s : State) (e : Fin 148) (h : Held) : Bytes :=
  compress 1 256 0 0 (taskName s e h.task) [] (taskName s e h.task) h.rows

/-- Do two ranges of bytes, each by start and length, share a byte? -/
def rangesMeet (a b : Nat × Nat) : Bool := decide (a.1 < b.1 + b.2) && decide (b.1 < a.1 + a.2)

/-- The lowest offset from which `n` bytes meet no range in use. -/
def lowestGap (used : List (Nat × Nat)) (n : Nat) : Nat :=
  (((0 :: used.map (fun r => r.1 + r.2)).filter (fun a => !used.any (rangesMeet (a, n)))).min?).getD 0

/-- The ranges of COVER that hold the coverage of other tiles than that of a task. -/
def coverUsed (s : State) (t : Task) : List (Nat × Nat) :=
  (s.comb.cover.filter (fun c => c.1 != (t.col, t.seg))).map (·.2)

/-- Has COVER room for `n` bytes of a tile (R343)? -/
def coverRoom (s : State) (t : Task) (n : Nat) : Bool :=
  decide (lowestGap (coverUsed s t) n + n ≤ s.mem.regions.cover.2 * 2 ^ 30)

/-- The coverage of a stripe tile is written to COVER (R139, R319), at the lowest place free (DESIGN CHOICE, log 69). -/
def coverTile (e : Fin 148) (h : Held) (s : State) : State :=
  let b := coverBytes s e h
  let off := lowestGap (coverUsed s h.task) b.length
  let c := ((h.task.col, h.task.seg), off, b.length)
  dramWrite (coverAddr s off) b
    { s with comb := { s.comb with cover := c :: s.comb.cover.filter (fun x => x.1 != c.1) } }

/-- A write tile enters the bellows (R335). -/
def bellowsTile (e : Fin 148) (h : Held) (s : State) : State :=
  let t : BTile :=
    { col := h.task.col.toNat, seg := h.task.seg.toNat, engine := e.val, second := h.task.second, released := false,
      never := false, rows := h.rows, used := h.used }
  { s with bel := { s.bel with tiles := s.bel.tiles.filter (fun x => !(x.col == t.col && x.seg == t.seg)) ++ [t] } }

/-- The list of a task that has ended is freed, but for a write tile; that of a stripe tile's coverage task is kept until
its dose task ends, so that R343 can render it again (R322; log 98). -/
def freeList (h : Held) (s : State) : State :=
  if h.task.pass == .write || (h.task.mode == 1 && !h.task.margin) then s
  else { s with comb := { s.comb with lists := s.comb.lists.filter (fun l => !listOf h.task l) } }

/-- Where the codes of a raster task go (table of 09). -/
def deliverTile (e : Fin 148) (h : Held) (s : State) : State :=
  match passStripe s h.task.pass with
  | none => s
  | some f =>
    match h.task.mode with
    | 1 =>
      let s1 := costTile f h (densityTile f h s)
      if h.task.margin then s1 else coverTile e h s1
    | 2 => signTile e f h s
    | 3 => if h.task.pass == .write then bellowsTile e h s else signTile e f h (costTile f h s)
    | _ => s

/-- After the coverage of a tile is stored, its dose task waits for an engine (R139); after the dose task, the tile's
coverage is released. -/
def followTask (h : Held) (s : State) : State :=
  let t := h.task
  if t.pass == .forage && t.mode == 1 && !t.margin then
    { s with comb := { s.comb with tasks := s.comb.tasks ++ [{ t with mode := 2, avoid := [], faulted := [] }] } }
  else if t.pass == .forage && t.mode == 2 then
    { s with comb := { s.comb with cover := s.comb.cover.filter (fun c => c.1 != (t.col, t.seg)) } }
  else s

/-- Are the four starts of a pass complete (R155)? -/
def startsDone (s : State) (p : Pass) : Bool :=
  !s.comb.ceAgain.any (fun t => t.pass == p && t.mode == 1) &&
  (engines.filter (fun e => !isRaster e)).all (fun e =>
    match engTask (s.eng[e]) with | some t => !(t.pass == p && t.mode == 1) | none => true)

/-- The start of a pass is complete once no engine has one to do (R155). -/
def startCheck (p : Pass) (s : State) : State :=
  if !startsDone s p then s
  else match p with
    | .forage => { s with comb := { s.comb with ceReadyF := true } }
    | .write => { s with comb := { s.comb with ceReadyW := true } }

/-- The engine gives its task up. -/
def engDone (x : Engine) : Engine := { x with held := none, span := spanStart }

/-- A task handed back (R242, R278, R282, R322, R137, R130, R335); TASK.DONE takes a slot of its own (R283). -/
def taskDone (e : Fin 148) (h0 : Held) (s : State) : State :=
  let h := { h0 with slots := h0.slots + 1 }
  let s1 := count (engBase e + 0x20) 1 (applyFactors h (applySums h s))
  if isRaster e then
    let s2 := followTask h (freeList h (deliverTile e h s1))
    kNext e 1 1 (engDone (s2.eng[e])) s2
  else
    let s2 := kNext e 1 1 (engDone (s1.eng[e])) s1
    if h.task.mode == 1 then startCheck h.task.pass s2 else s2

/-- Does TASK.DONE wait for room in COVER (R343)? -/
def coverWaits (s : State) (e : Fin 148) (h : Held) : Bool :=
  isRaster e && h.task.mode == 1 && !h.task.margin && !coverRoom s h.task (coverBytes s e h).length

/-- TASK.DONE (R242); one whose advance is at fault hands nothing back (R267, R278). -/
def execKTaskDone (e : Fin 148) (s : State) : Host.Outcome State Fault Refusal :=
  .next (kHeld e (fun h s =>
    if isRaster e && h.task.mode != 4 && h.rows.length != 256 then engFault e true 3 s
    else if progCount (engProg s e) ≤ (s.eng[e]).pc + 1 then engFault e true 9 s
    else if coverWaits s e h then raiseFirst h.task.pass 220 0 (count 0x110054 1 s)
    else taskDone e h s) s)

/-! ### The list (R104, R246) -/

/-- A signed 32-bit field. -/
def le32 (x : Int) : Bytes := natLe (unsigned 32 x) 4

/-- Length of an entry in bytes (R104). -/
def entryLen : LEntry → Nat
  | .rect _ => 24
  | .poly pts => 16 + 8 * pts.length
  | .curve _ segs => 24 + 24 * segs.length
  | .hiveOpen .. => 32
  | .hiveClose => 8

/-- KIND of an entry (R104). -/
def entryKind : LEntry → Nat
  | .rect _ => 1
  | .poly _ => 2
  | .curve .. => 3
  | .hiveOpen .. => 4
  | .hiveClose => 5

/-- Bytes from a HIVE_OPEN to the end of its HIVE_CLOSE, from the entries after it (R104). -/
def spanAfter : List LEntry → Nat
  | [] => 0
  | .hiveClose :: _ => 8
  | x :: r => entryLen x + spanAfter r

/-- One segment of a CURVE entry (R104). -/
def segBytes (g : Seg) : Bytes :=
  [if g.arc then 1 else 0, 0] ++ natLe (if g.arc then g.w else 0) 2 ++ natLe 0 4 ++
  le32 g.cx ++ le32 g.cy ++ le32 g.ex ++ le32 g.ey

/-- Body of an entry, with the entries after it (R104). -/
def entryBody (after : List LEntry) : LEntry → Bytes
  | .rect b => le32 b.x0 ++ le32 b.y0 ++ le32 b.x1 ++ le32 b.y1
  | .poly pts => natLe pts.length 4 ++ natLe 0 4 ++ pts.flatMap (fun p => le32 p.1 ++ le32 p.2)
  | .curve first segs => natLe segs.length 4 ++ natLe 0 4 ++ le32 first.1 ++ le32 first.2 ++ segs.flatMap segBytes
  | .hiveOpen cell px py orient ox oy _ =>
    natLe cell 4 ++ natLe px 1 ++ natLe py 1 ++ natLe orient 1 ++ [0] ++ le32 ox ++ le32 oy ++
      natLe (32 + spanAfter after) 4 ++ natLe 0 4
  | .hiveClose => []

/-- An entry with its head (R104). -/
def entryBytes (after : List LEntry) (x : LEntry) : Bytes :=
  natLe (entryKind x) 1 ++ [0, 0, 0] ++ natLe (entryLen x) 4 ++ entryBody after x

/-- The entries after the HIVE_CLOSE of a bracket (R246). -/
def skipBracket : List LEntry → List LEntry
  | [] => []
  | .hiveClose :: r => r
  | _ :: r => skipBracket r

/-- A hit's raster, placed in the tile (R346). -/
def placeHit (h : Held) (entry : Bytes) (rows : List (List Nat)) (ox oy : Int) : Hit :=
  { row0 := fdiv oy 32 + sfield entry 14 2 - h.row0, col0 := fdiv ox 32 + sfield entry 12 2 - h.col0, rows := rows }

/-- The fill of a bracket (R346). -/
def startFill (h : Held) (key : Bytes) (b : Box) (ox oy : Int) : Fill :=
  let g := boxPixels b
  { key := key, hash := hiveHash key, row0 := g.2.1 - h.row0, col0 := g.1 - h.col0, width := g.2.2.1, height := g.2.2.2,
    xOff := g.1 - fdiv ox 32, yOff := g.2.1 - fdiv oy 32, rows := [], put := 0, dropped := false, cls := h.task.pass }

/-- An entry copied to local memory at `a`, with G1 and G2 (R246). -/
def entryIn (a : Nat) (bytes : Bytes) (kind : Nat) (x : Engine) : Engine :=
  setGn 2 (BitVec.ofNat 32 bytes.length) (setGn 1 (BitVec.ofNat 32 kind) (localWrite a bytes x))

/-- A HIVE_OPEN delivered: the lookup, G4, and what follows in the stream (R246, R345). Mode 1 has no hive input, so a hit
is reported as plain there (DEDUCED, log 19). -/
def openBracket (e : Fin 148) (h : Held) (a : Nat) (x : LEntry) (rest : List LEntry) (cell px py orient : Nat)
    (ox oy : Int) (box : Box) (s : State) : State :=
  let bytes := entryBytes rest x
  let key := hiveKey s cell px py orient
  let r := hiveLookup key (h.task.mode == 3) h.task.second s
  let g4 : Nat := match r.2 with | .plain => 0 | .hit .. => 1 | .fill => 2
  let held : Held := match r.2 with
    | .plain => { h with entries := rest }
    | .fill => { h with entries := rest, fill := some (startFill h key box ox oy) }
    | .hit bucket way entry rows =>
      { h with entries := skipBracket rest, hits := h.hits ++ [placeHit h entry rows ox oy], used := (bucket, way, wayHead s bucket way) :: h.used }
  kNext e 1 1 (setGn 4 (BitVec.ofNat 32 g4) (entryIn a bytes 4 (withHeld (fun _ => held) (s.eng[e])))) r.1

/-- IN.ENTRY (R242, R246, R275). -/
def inEntry (e : Fin 148) (p : Fin 32) (h : Held) (s : State) : State :=
  if h.task.mode == 2 then engFault e true 3 s
  else match h.entries with
    | [] => engFault e true 4 s
    | x :: rest =>
      let a := (getG (s.eng[e]) p).toNat
      match localFault (localSize e) a 8 (entryLen x) with
      | some c => engFault e true c s
      | none =>
        match x with
        | .hiveOpen cell px py orient ox oy box => openBracket e h a x rest cell px py orient ox oy box s
        | _ => kNext e 1 1 (entryIn a (entryBytes rest x) (entryKind x)
            (withHeld (fun h => { h with entries := rest }) (s.eng[e]))) s

/-- IN.ENTRY (R246). -/
def execKInEntry (e : Fin 144) (p : Fin 32) (s : State) : Host.Outcome State Fault Refusal :=
  .next (kHeld (reEng e) (inEntry (reEng e) p) s)

/-! ### Rows -/

/-- FACT.LOAD (R241). -/
def execKFactLoad (e : Fin 144) (p : Fin 17) (s : State) : Host.Outcome State Fault Refusal :=
  .next (kHeld (reEng e) (fun h s =>
    if h.task.mode == 1 then engFault (reEng e) true 3 s
    else kNext (reEng e) 1 1 (setRunG p.val (h.factors.map (BitVec.ofNat 32))
      (withHeld (fun h => { h with factLoaded := true }) (s.eng[reEng e]))) s) s)

/-- COV.ROW (R242). -/
def execKCovRow (e : Fin 144) (p q : Fin 32) (s : State) : Host.Outcome State Fault Refusal :=
  .next (kDefined (p != q) (reEng e) (kHeld (reEng e) (fun h s =>
    if h.task.mode != 2 || decide (256 ≤ h.covRow) then engFault (reEng e) true 3 s
    else
      let row := h.cover.getD h.covRow []
      kNext (reEng e) 1 1 (setV (reEng e) 0 q (fun l => row.getD (128 + l) 0) (setV (reEng e) 0 p (fun l => row.getD l 0)
        (withHeld (fun h => { h with covRow := h.covRow + 1 }) (s.eng[reEng e])))) s)) s)

/-- The 256 codes of two vector registers. -/
def rowOfLanes (x : Engine) (p q : Fin 32) : List Nat :=
  (List.range 128).map (lane0 x p) ++ (List.range 128).map (lane0 x q)

/-- OUT.ROW (R242). -/
def execKOutRow (e : Fin 144) (p q : Fin 32) (s : State) : Host.Outcome State Fault Refusal :=
  .next (kHeld (reEng e) (fun h s =>
    let row := rowOfLanes (s.eng[reEng e]) p q
    if 256 ≤ h.rows.length then engFault (reEng e) true 3 s
    else if h.task.mode == 1 && row.any (fun c => decide (2048 < c)) then engFault (reEng e) true 5 s
    else kNext (reEng e) 1 1 (withHeld (fun h => { h with rows := h.rows ++ [row] }) (s.eng[reEng e])) s) s)

/-- Row `i` of the sum of the rasters of the hit brackets, at a tile-local column (R346). -/
def hitSum (h : Held) (i c : Nat) : Int :=
  (h.hits.map (fun t =>
    let r := (i : Int) - t.row0
    let k := (c : Int) - t.col0
    if 0 ≤ r && 0 ≤ k then (((t.rows.getD r.toNat []).getD k.toNat 0 : Nat) : Int) else 0)).foldl (· + ·) 0

/-- HIVE.GET (R277). -/
def execKHiveGet (e : Fin 144) (p q : Fin 8) (s : State) : Host.Outcome State Fault Refusal :=
  .next (kDefined (p != q) (reEng e) (kHeld (reEng e) (fun h s =>
    if h.task.mode != 3 || decide (256 ≤ h.getRow) then engFault (reEng e) true 3 s
    else
      let x := s.eng[reEng e]
      let add (r : Fin 8) (base l : Nat) : Int :=
        let v := hitSum h h.getRow (base + l)
        satA (reEng e) (accLane x r l + (if h.negative then -v else v))
      kNext (reEng e) 1 1 (setA (reEng e) 0 q (add q 128) (setA (reEng e) 0 p (add p 0)
        (withHeld (fun h => { h with getRow := h.getRow + 1 }) x))) s)) s)

/-- A sample of a fill: A of R120; a value outside its 22 bits is open (log 20). -/
def fillSample (free : Nat) (v : Int) : Nat := if 0 ≤ v && v < 4194304 then v.toNat else free % 4194304

/-- A row offered to a fill: kept where the bracket's box meets it (R277). -/
def fillPut (free : Nat) (f : Fill) (row : List Int) : Fill :=
  let i := (f.put : Int)
  let keep := decide (f.row0 ≤ i) && decide (i < f.row0 + f.height)
  { f with
    put := f.put + 1
    rows := if keep then f.rows ++ [((row.drop f.col0.toNat).take f.width).map (fillSample free)] else f.rows }

/-- HIVE.PUT of a row to a fill: dropped where the comb's buffer is full, which is open (R247, log 20). -/
def putFill (e : Fin 148) (f : Fill) (row : List Int) (s : State) : State :=
  if f.dropped then kNext e 1 1 (withHeld (fun h => { h with fill := some { f with put := f.put + 1 } }) (s.eng[e])) s
  else if bit (freeNow s).toNat 63 then
    kNext e 1 1 (withHeld (fun h => { h with fill := some { f with put := f.put + 1, dropped := true } }) (s.eng[e]))
      (count (combCnt e 0x18) 1 s)
  else
    let g := fillPut (freeNow s).toNat f row
    let s1 := if g.put = 256 then { s with comb := { s.comb with fills := s.comb.fills ++ [g] } } else s
    kNext e 1 1 (withHeld (fun h => { h with fill := some g }) (s.eng[e])) s1

/-- HIVE.PUT (R247, R277). -/
def execKHivePut (e : Fin 144) (p q : Fin 8) (s : State) : Host.Outcome State Fault Refusal :=
  .next (kHeld (reEng e) (fun h s =>
    match h.fill with
    | none => engFault (reEng e) true 3 s
    | some f =>
      if 256 ≤ f.put then engFault (reEng e) true 3 s
      else
        let x := s.eng[reEng e]
        freeNext (putFill (reEng e) f ((List.range 128).map (accLane x p) ++ (List.range 128).map (accLane x q)) s)) s)

/-- K of R152 for a tile-local column and row, from the run of factors `g` (R276). -/
def fipLane (g : Nat → Nat) (t sg : Int) (dir : Bool) (r c : Nat) : Nat :=
  let ax := 2 * (256 * t + c) - 127
  let ay := 2 * (if dir then 256 * sg + 255 - r else 256 * sg + (r : Int)) - 127
  let u := fdiv ax 256
  let v := fdiv ay 256
  let fx := (fmod ax 256).toNat
  let fy := (fmod ay 256).toNat
  let k (u v : Int) : Nat := g (4 * (v - 2 * sg + 1) + (u - 2 * t + 1)).toNat
  ((256 - fx) * (256 - fy) * k u v + fx * (256 - fy) * k (u + 1) v + (256 - fx) * fy * k u (v + 1) +
    fx * fy * k (u + 1) (v + 1) + 32768) / 65536

/-- FIP (R276). -/
def execKFip (e : Fin 144) (p : Fin 8) (q : Fin 17) (half : Bool) (s : State) : Host.Outcome State Fault Refusal :=
  .next (kHeld (reEng e) (fun h s =>
    if !h.factLoaded || decide (256 ≤ h.rows.length) then engFault (reEng e) true 3 s
    else
      let x := s.eng[reEng e]
      let g (i : Nat) : Nat := (getGn x (q.val + i)).toNat % 65536
      kNext (reEng e) 1 1 (setA (reEng e) 0 p (fun l =>
        fipLane g h.task.col h.task.seg h.dir h.rows.length (if half then 128 + l else l)) x) s) s)

/-- CNT.ADD (R278); a sel that is not for the engine's target is an undefined word. -/
def execKCntAdd (e : Fin 148) (p : Fin 32) (sel : Fin 3) (s : State) : Host.Outcome State Fault Refusal :=
  .next (kDefined (isRaster e == (sel.val == 0)) e (kHeld e (fun _ s =>
    let n := (getG (s.eng[e]) p).toNat
    kNext e 1 1 (withHeld (fun h => { h with sums := h.sums.set sel.val (h.sums.getD sel.val 0 + n) }) (s.eng[e])) s)) s)

/-! ### The span unit (R243 to R245, R279, R280) -/

/-- The span unit of an engine changed. -/
def withSpan (f : Span → Span) (x : Engine) : Engine := { x with span := f x.span }

/-- G3 after SPAN.ROW, XE.LINE and XE.ARC (R280). -/
def spanG3 (x : Engine) : Engine :=
  let p := x.span
  let inBox := match p.row with
    | some j => p.negative && decide (p.box.y0 ≤ 32 * j) && decide (32 * j + 32 ≤ p.box.y1)
    | none => false
  setGn 3 (BitVec.ofNat 32 (b2n (!p.xs.isEmpty) + 2 * b2n inBox + 4 * b2n p.arcBad)) x

/-- SPAN.CFG (R279). -/
def execKSpanCfg (e : Fin 144) (p : Fin 28) (s : State) : Host.Outcome State Fault Refusal :=
  .next (kPlain (reEng e) 1 1 (fun x =>
    let g (i : Nat) : Word := getGn x (p.val + i)
    withSpan (fun sp => { sp with
      negative := (g 0).getLsbD 0, box := ⟨(g 1).toInt, (g 2).toInt, (g 3).toInt, (g 4).toInt⟩ }) x) s)

/-- SPAN.ROW (R279, R280). -/
def execKSpanRow (e : Fin 144) (p : Fin 32) (s : State) : Host.Outcome State Fault Refusal :=
  .next (kHeld (reEng e) (fun h s =>
    let row := (getG (s.eng[reEng e]) p).toInt
    if row < h.row0 || h.row0 + 256 ≤ row then engFault (reEng e) true 3 s
    else kNext (reEng e) 1 1 (spanG3 (withSpan (fun sp => { sp with xs := [], row := some row, count := 0, arcBad := false })
      (s.eng[reEng e]))) s) s)

/-- The crossings of an element on the scanlines of a pixel row. -/
def rowCrossings (j : Int) (tag : Nat) (cross : Int → Option (Int × Bool)) : List Crossing :=
  (List.range 256).filterMap (fun k => (cross (scanY j k)).map (fun c => { k := k, x := c.1, up := c.2, tag := tag }))

/-- Crossings as inserted: those left of the tile at its left edge, those right of it dropped (R243). -/
def clipCrossings (h : Held) (l : List Crossing) : List Crossing :=
  let left := 8192 * h.col0
  (l.filter (fun c => decide (c.x ≤ left + 8192 * 256))).map (fun c => { c with x := max c.x left })

/-- The bytes the span unit leaves in the spill region (log 5). -/
def spillWrite (free : Nat) (e : Fin 148) (h : Held) (x : Engine) : Engine :=
  let base := 16 * h.spillBase
  localWrite base ((List.range (min (16 * h.spillLen) (localSize e - base))).map (Config.spillByte free)) x

/-- Crossings are inserted, and spill beyond 8 192 (R243, R244). `n` is the number of scanlines crossed (R245). -/
def insertCrossings (e : Fin 148) (h : Held) (new : List Crossing) (n : Nat) (s : State) : State :=
  let x := s.eng[e]
  let had := x.span.xs.length - 8192
  let total := x.span.xs.length + new.length - 8192
  let room := if h.spillLen = 0 then 0 else Config.spillCapacity (16 * h.spillLen)
  if room < total then engFault e true 6 (count (engBase e + 0x30) (room - had) s)
  else
    let x1 := spanG3 (withSpan (fun sp => { sp with xs := sp.xs ++ new }) x)
    let x2 := if had < total then spillWrite s.free e h x1 else x1
    freeNext (kNext e 1 (1 + n / 32) x2 (count (engBase e + 0x30) (total - had) s))

/-- The order and tag rules of XE.LINE and XE.ARC (R244, R279). -/
def xeEdge (e : Fin 148) (q : Fin 32) (run : Held → Int → Nat → State → State) (s : State) : State :=
  kHeld e (fun h s =>
    match (s.eng[e]).span.row with
    | none => engFault e true 3 s
    | some j =>
      let tag := (getG (s.eng[e]) q).toNat
      if 4095 < tag then engFault e true 7 s else run h j tag s) s

/-- XE.LINE (R243, R279). -/
def execKXeLine (e : Fin 144) (p : Fin 29) (q : Fin 32) (s : State) : Host.Outcome State Fault Refusal :=
  .next (xeEdge (reEng e) q (fun h j tag s =>
    let g (i : Nat) : Int := (getGn (s.eng[reEng e]) (p.val + i)).toInt
    let all := rowCrossings j tag (lineCross (g 0) (g 1) (g 2) (g 3))
    insertCrossings (reEng e) h (clipCrossings h all) all.length s) s)

/-- XE.ARC (R243, R279, R280). -/
def execKXeArc (e : Fin 144) (p : Fin 26) (q : Fin 32) (s : State) : Host.Outcome State Fault Refusal :=
  .next (xeEdge (reEng e) q (fun h j tag s =>
    let g (i : Nat) : Int := (getGn (s.eng[reEng e]) (p.val + i)).toInt
    let arc : Arc := { x0 := g 0, y0 := g 1, x1 := g 2, y1 := g 3, x2 := g 4, y2 := g 5, w := g 6 }
    if arcValid arc then
      let all := rowCrossings j tag (arcCross arc)
      insertCrossings (reEng e) h (clipCrossings h all) all.length s
    else kNext (reEng e) 1 1 (spanG3 (withSpan (fun sp => { sp with arcBad := true }) (s.eng[reEng e]))) s) s)

/-- Issue slots of SPAN4 on scanlines `k0` to `k0` + 3 (R245). -/
def span4Slots (xs : List Crossing) (k0 : Nat) : Nat :=
  let on (k : Nat) : Nat := (xs.filter (fun c => c.k == k)).length
  let busiest := max (max (on k0) (on (k0 + 1))) (max (on (k0 + 2)) (on (k0 + 3)))
  let spilled := ((xs.drop 8192).filter (fun c => decide (k0 ≤ c.k) && decide (c.k < k0 + 4))).length
  1 + (busiest - 16 + 15) / 16 + spilled / 8

/-- SPAN4 (R243, R279): four scanlines add their L_k, each with satA. -/
def execKSpan4 (e : Fin 144) (p q : Fin 8) (s : State) : Host.Outcome State Fault Refusal :=
  .next (kDefined (p != q) (reEng e) (kHeld (reEng e) (fun h s =>
    let x := s.eng[reEng e]
    match x.span.row with
    | none => engFault (reEng e) true 3 s
    | some j =>
      if 64 ≤ x.span.count then engFault (reEng e) true 3 s
      else
        let k0 := 4 * x.span.count
        let lens := (List.range 4).map (fun i => scanLengths x.span.xs x.span.negative x.span.box j h.col0 (k0 + i))
        let add (r : Fin 8) (base l : Nat) : Int :=
          lens.foldl (fun a row => satA (reEng e) (a + row.getD (base + l) 0)) (accLane x r l)
        kNext (reEng e) 1 (span4Slots x.span.xs k0) (setA (reEng e) 0 q (add q 128) (setA (reEng e) 0 p (add p 0)
          (withSpan (fun sp => { sp with count := sp.count + 1 }) x))) s)) s)

/-! ### Correction streams (R281, R282) -/

/-- Does a load of 64 densities from cell (u, v) wait: a forage's coverage sweep has not yet formed ρ of one of the cells
that lie in its window (R139; log 97)? -/
def densityWaits (s : State) (p : Pass) (u v : Int) : Bool :=
  match p, passStripe s p with
  | .forage, some f => (List.range 64).any (fun l => inWindow s p f (u + (l : Nat)) v && !densityKnown s f (u + (l : Nat)) v)
  | _, _ => false

/-- DEN.LD (R138, R139, R281): the stream waits for a density that is not yet formed. -/
def execKDenLd (e : Fin 4) (p : Fin 32) (q : Fin 31) (s : State) : Host.Outcome State Fault Refusal :=
  .next (kHeld (ceEng e) (fun h s =>
    let x := s.eng[ceEng e]
    let u := (getGn x q.val).toInt
    let v := (getGn x (q.val + 1)).toInt
    let cells := match passStripe s h.task.pass with
      | some f => (List.range 64).map (fun l => cellDensity s h.task.pass f (u + (l : Nat)) v)
      | none => []
    let n := (cells.filter (·.2)).length
    if densityWaits s h.task.pass u v then s
    else kNext (ceEng e) 1 1 (setV (ceEng e) 0 p (fun l => (cells.getD l (0, false)).1)
      (withHeld (fun h => { h with fieldOut := h.fieldOut + n }) x)) s) s)

/-- FLD.LD (R281). -/
def execKFldLd (e : Fin 4) (p : Fin 32) (q : Fin 31) (s : State) : Host.Outcome State Fault Refusal :=
  .next (kHeld (ceEng e) (fun h s =>
    let x := s.eng[ceEng e]
    let u := (getGn x q.val).toInt
    let v := (getGn x (q.val + 1)).toInt
    kNext (ceEng e) 1 1 (setV (ceEng e) 0 p (fun l => (fieldCell (passField s h.task.pass) (u + (l : Nat)) v).1) x) s) s)

/-- FAC.ST (R281, R282). -/
def execKFacSt (e : Fin 4) (p : Fin 32) (q : Fin 31) (s : State) : Host.Outcome State Fault Refusal :=
  .next (kHeld (ceEng e) (fun h s =>
    let x := s.eng[ceEng e]
    let u := (getGn x q.val).toInt
    let v := (getGn x (q.val + 1)).toInt
    let cells := match passStripe s h.task.pass with
      | some f => (List.range 64).filterMap (fun l =>
          if inWindow s h.task.pass f (u + (l : Nat)) v then some ((u + (l : Nat), v), lane0 x p l) else none)
      | none => []
    if cells.any (fun c => decide (65535 < c.2)) then engFault (ceEng e) true 5 s
    else kNext (ceEng e) 1 1 (withHeld (fun h => { h with facs := cells.reverse ++ h.facs }) x) s) s)

end Sys2Proof.Machine
end

