-- ==== Sys2Proof/Machine/Tasks.lean ====
section
/-!
DEFINITION. The dispatcher, the comb schedulers and the correction dispatcher: which engine takes which task (R154, R253,
R254, R335), the watchdog (R255) and the resets of engines and combs (R259).
-/

namespace Sys2Proof.Machine

open Sys2Proof.Bits

/-! ### The dispatcher (R253) -/

/-- Is an engine idle and working? -/
def engIdle (s : State) (e : Fin 148) : Bool := engWorking s e && (engTask (s.eng[e])).isNone

/-- Idle working engines of a comb. -/
def combIdle (s : State) (c : Nat) : List (Fin 148) := (combEngines c).filter (engIdle s)

/-- Slots of a bellows stack in use or given to a task (R335). -/
def stackUsed (s : State) (k : Nat) : Nat :=
  (s.bel.tiles.filter (fun t => stackOf t.col == k)).length +
  (rasterEngines.filter (fun e => match engTask (s.eng[e]) with
    | some t => t.pass == .write && t.mode == 3 && stackOf t.col.toNat == k
    | none => false)).length

/-- May a waiting task be handed out: a write task needs a free slot of its stack (R335), a dose task its factors
(R139)? -/
def taskFree (s : State) (t : Task) : Bool :=
  if t.mode = 2 then factorsReady s t
  else if t.pass == .write then
    let k := stackOf t.col.toNat
    decide (stackUsed s k < stackCapacity (s.bel.retired.toList.getD k 0))
  else true

/-- Does task `a` go before task `b`: class 2 before 4, then segment, then tile column (R253)? -/
def taskBefore (a b : Task) : Bool :=
  if a.pass == b.pass then decide (a.seg < b.seg) || (a.seg == b.seg && decide (a.col < b.col)) else a.pass == .write

/-- The first of a list of tasks in the order of R253. -/
def firstTask : List Task → Option Task
  | [] => none
  | t :: r =>
    match firstTask r with
    | none => some t
    | some u => if taskBefore u t then some u else some t

/-- Is comb `c` on the quadrant of the stack of a tile (R253)? -/
def combNear (t : Task) (c : Nat) : Bool := decide (0 ≤ t.col) && decide (t.col < 40) && c / 3 == stackOf t.col.toNat

/-- The better of two combs for a task: more idle engines, then nearer, then lower (R253). -/
def betterComb (s : State) (t : Task) (a b : Nat) : Nat :=
  let ia := (combIdle s a).length
  let ib := (combIdle s b).length
  if ia = ib then (if combNear t b && !combNear t a then b else a) else if ia < ib then b else a

/-- Engines of a comb that may take a task. -/
def combOffers (s : State) (t : Task) (c : Nat) : List (Fin 148) :=
  (combIdle s c).filter (fun e => !t.avoid.contains e.val)

/-- The engine a task goes to (R253). -/
def engineFor (s : State) (t : Task) : Option (Fin 148) :=
  match (List.range 12).filter (fun c => !(combOffers s t c).isEmpty) with
  | [] => none
  | c :: r => (combOffers s t (r.foldl (betterComb s t) c)).head?

/-- A task assigned to an engine, which begins it if it waits in TASK.WAIT and its factors are written (R154, R275). -/
def assignTask (e : Fin 148) (t : Task) (s : State) : State :=
  let x := s.eng[e]
  let ready := !isRaster e || t.mode == 1 || factorsReady s t
  let s1 := updEng e (fun x => { x with assigned := some t, waiting := false }) s
  let s2 := if ready then s1
    else raise 99 (t.seg % 4).toNat (passSeq s t.pass) (count 0x0B0028 1 s1)
  if ready && x.waiting then takeTask e t s2 else s2

/-- A waiting dose task whose coverage fails its check is rendered again in mode 1 (R343). -/
def coverAgain (s : State) (e : Fin 148) (t : Task) : Bool := t.mode == 2 && (coverRows s e t).isNone

/-- The tasks of a pass that wait for a grant of the dispatcher: they may be handed out and an engine is idle. -/
def waitingTasks (s : State) (p : Pass) : List Task :=
  s.comb.tasks.filter (fun t => t.pass == p && taskFree s t && (engineFor s t).isSome)

/-- The task the dispatcher grants next (R42, R43): class 2, a write's, before class 4, a forage's, unless one of class 4
has been passed over 63 times in a row and is due. -/
def grantNext (s : State) : Option Task :=
  let w := firstTask (waitingTasks s .write)
  let f := firstTask (waitingTasks s .forage)
  if 63 ≤ s.comb.passed then f.or w else w.or f

/-- The wait counters and the passes of class 4 after a grant (R43, R45, R305): a grant of class 4 that class 2 delayed, or
one of class 2 that a due grant delays, is counted. -/
def grantNote (t : Task) (s : State) : State :=
  let n := s.comb.passed
  let other := !(waitingTasks s .write).isEmpty
  if t.pass == .write then
    { s with comb := { s.comb with passed := if (waitingTasks s .forage).isEmpty then 0 else n + 1 } }
  else
    let s1 := if n = 0 then s else count 0x02005C 1 s
    let s2 := if other then count 0x020054 1 s1 else s1
    { s2 with comb := { s2.comb with passed := 0 } }

/-- The task granted goes to its engine (R253). -/
def taskAssign (s : State) : State :=
  match grantNext s with
  | none => s
  | some t =>
    match engineFor s t with
    | none => s
    | some e =>
      let s0 := grantNote t s
      let s1 := { s0 with comb := { s0.comb with tasks := s0.comb.tasks.erase t } }
      if coverAgain s e t then
        raise 219 0 (passSeq s t.pass) (count 0x110058 1
          { s1 with comb := { s1.comb with tasks := s1.comb.tasks ++ [{ t with mode := 1 }] } })
      else assignTask e t (count (combCnt e 8) 1 s1)

/-- TASK_ASSIGN (R253). -/
def execTaskAssign (s : State) : Host.Outcome State Fault Refusal := .next (taskAssign s)

/-! ### The correction dispatcher (R154) -/

/-- Correction engine `n` and the next ones in ascending order modulo 4. -/
def ceOrder (n : Nat) : List (Fin 148) := (List.range 4).map (fun i => ⟨144 + (n + i) % 4, by omega⟩)

/-- The correction engine a task goes to: that of its segment, else the next working one (R154). -/
def ceFor (s : State) (t : Task) : Option (Fin 148) :=
  let order := ceOrder (t.seg % 4).toNat
  match order.find? (fun e => engWorking s e && !t.avoid.contains e.val) with
  | some e => some e
  | none => order.find? (engWorking s)

/-- Does a pass execute with a kernel in force (R146)? -/
def passCorrects (s : State) (p : Pass) : Bool := (passStripe s p).isSome && (passKernel s p).isSome

/-- The next block of a pass. -/
def ceNext (s : State) (p : Pass) : Option Nat := match p with | .forage => s.comb.ceNextF | .write => s.comb.ceNextW

/-- The next block of a pass set. -/
def setCeNext (p : Pass) (n : Nat) (s : State) : State :=
  match p with
  | .forage => { s with comb := { s.comb with ceNextF := some n } }
  | .write => { s with comb := { s.comb with ceNextW := some n } }

/-- A task of the correction dispatcher. -/
def ceTask (p : Pass) (mode : Nat) (seg : Int) : Task :=
  { pass := p, mode := mode, col := 0, seg := seg, margin := false, second := false, avoid := [], faulted := [] }

/-- Blocks of a pass: one for each segment of the window (R136, R154). -/
def ceBlocks (s : State) (p : Pass) : Nat :=
  match passStripe s p with | some f => f.segs + 2 * passMargin s p | none => 0

/-- The starts of a pass wait for their engines. -/
def ceBegin (p : Pass) (s : State) : State :=
  if (ceNext s p).isSome then s
  else setCeNext p 0 { s with comb := { s.comb with
    ceAgain := s.comb.ceAgain ++ (List.range 4).map (fun n => ceTask p 1 (n : Int)) } }

/-- Can a task of the correction dispatcher be handed out now? -/
def ceReadyNow (s : State) (t : Task) : Bool := match ceFor s t with | some e => engIdle s e | none => false

/-- A start of pass or a block is assigned (R154). -/
def ceAssign (p : Pass) (s : State) : State :=
  if !passCorrects s p then s
  else
    let s1 := ceBegin p s
    match s1.comb.ceAgain.find? (fun t => t.pass == p && ceReadyNow s1 t) with
    | some t =>
      (match ceFor s1 t with
        | some e => assignTask e t { s1 with comb := { s1.comb with ceAgain := s1.comb.ceAgain.erase t } }
        | none => s1)
    | none =>
      match ceNext s1 p with
      | none => s1
      | some n =>
        let t := ceTask p 2 ((n : Int) - passMargin s1 p)
        if startsDone s1 p && decide (n < ceBlocks s1 p) && ceReadyNow s1 t then
          (match ceFor s1 t with
            | some e => assignTask e t (setCeNext p (n + 1) s1)
            | none => s1)
        else s1

/-- CE_BLOCK_ASSIGN (R154). -/
def execCeBlockAssign (p : Pass) (s : State) : Host.Outcome State Fault Refusal := .next (ceAssign p s)

/-! ### Watchdog and resets -/

/-- A task is held longer than `CMB.TASK_LIMIT` (R255). -/
def watchdog (e : Fin 148) (s : State) : State :=
  match engTask (s.eng[e]) with
  | none => s
  | some t =>
    let s1 := raise 69 (engInfo e) (passSeq s t.pass) (if e.val < 144 then count (combCnt e 0x14) 1 s else s)
    engFault e true 8 s1

/-- A part fault that the engine's own checks report, while it runs (R256, R258). -/
def partFault (e : Fin 148) (code : Nat) (s : State) : State :=
  if engPowered s e && !(s.eng[e]).testing then engFault e false code s else s

/-- A corrected local-memory error: counted, with event 70 at the first of each command (R256 table, R263). -/
def eccCorrected (e : Fin 148) (s : State) : State :=
  if !engPowered s e then s
  else
    let s1 := count (engBase e + 0x2C) 1 s
    match engTask (s.eng[e]) with
    | some t => raiseFirst t.pass 70 (engInfo e) s1
    | none => s1

/-- TASK_WATCHDOG (R255, R256). The table has no row for what an engine's own checks report, so its operand says which it is
(DESIGN CHOICE, log 96). -/
def execTaskWatchdog (r : EngReport) (s : State) : Host.Outcome State Fault Refusal :=
  .next (match r.how with
    | .watchdog => watchdog r.eng s
    | .imemParity => partFault r.eng 0x11 s
    | .localEcc => partFault r.eng 0x12 s
    | .fabric => partFault r.eng 0x13 s
    | .eccCorrected => eccCorrected r.eng s)

/-- ENG_RESET (R259). -/
def execEngReset (e : Fin 148) (s : State) : Host.Outcome State Fault Refusal :=
  .next (barWrite (fun s => if engPowered s e then raise 67 (engInfo e) 0 (engReset e s) else s) s)

/-- ENG_OFFLINE (R259). -/
def execEngOffline (e : Fin 148) (on : Bool) (s : State) : Host.Outcome State Fault Refusal :=
  .next (barWrite (fun s => if engPowered s e then combCheck s e (setRegBits (engBase e + 4) 1 1 (b2n on) s) else s) s)

/-- A comb scheduler and its engines are reset (R259). -/
def combReset (c : Fin 12) (s : State) : State :=
  let s1 := (combEngines c.val).foldl (fun t e => engReset e t) s
  raise 68 (512 + c.val) 0 { s1 with comb := { s1.comb with gen := s1.comb.gen.set c (s1.comb.gen[c] + 1) } }

/-- COMB_RESET (R259). -/
def execCombReset (c : Fin 12) (s : State) : Host.Outcome State Fault Refusal :=
  .next (barWrite (fun s => if powered s (8 + c.val) then combReset c s else s) s)

end Sys2Proof.Machine
end

