-- ==== Sys2Proof/Machine/Commands.lean ====
section
/-!
DEFINITION. Command entries and their intake (R287, R290 to R296; 11): reading an entry, the sequence check, the format,
state and budget checks (R303, R304, R95), and which accepted command starts next.
-/

namespace Sys2Proof.Machine

open Sys2Proof.Bits

/-! ### Fields of a command entry (tables of 11 and 16) -/

/-- SEQ. -/
def entrySeq (b : Bytes) : Nat := field b 0 8

/-- OPCODE. -/
def entryOp (b : Bytes) : Nat := byteAt b 8

/-- FLAGS: WAIT, SOLO and FORCE. -/
def entryWait (b : Bytes) : Bool := bit (byteAt b 9) 0
/-- SOLO. -/
def entrySolo (b : Bytes) : Bool := bit (byteAt b 9) 1
/-- FORCE. -/
def entryForce (b : Bytes) : Bool := bit (byteAt b 9) 2

/-- JOB_ID. -/
def entryJob (b : Bytes) : Nat := field b 12 4

/-- KIND of a LOAD_TABLE, and the byte at 16 of other commands. -/
def entryKind16 (b : Bytes) : Nat := byteAt b 16

/-- FRONTIER of a stripe command: none for NONE (R291). -/
def entryFrontier (b : Bytes) : Option Nat := if bit (field b 48 8) 63 then none else some (field b 48 8 % 2 ^ 48)

/-- The stripe fields (R291). FRONTIER names a frontier in a RESUME_STRIPE only (R310). -/
def entryStripe (b : Bytes) : Stripe :=
  { stripe := field b 16 4 % 2 ^ 20, pass := byteAt b 20, dir := byteAt b 21, plan := field b 22 2, x := sfield b 24 4,
    y := sfield b 28 4, segs := field b 32 4, s0 := sfield b 36 4, xref := sfield b 40 4,
    named := if entryOp b = 7 then entryFrontier b else none }

/-- Does an opcode carry the stripe fields? -/
def isStripeOp (op : Nat) : Bool := op == 5 || op == 6 || op == 7

/-- Is an opcode that of a write? -/
def isWriteOp (op : Nat) : Bool := op == 6 || op == 7

/-- VALUE_LEN that R398 allows a setting: least and most. -/
def settingLen (code : Nat) : Option (Nat × Nat) :=
  match code with
  | 1 => some (1, 1)
  | 2 => some (0, 0)
  | 3 => some (4096, 134217728)
  | 4 => some (1, 1)
  | 5 => some (96, 96)
  | 6 => some (96, 96)
  | 7 => some (1, 1)
  | 8 => some (2, 2)
  | 9 => some (0, 0)
  | 10 => some (64, 64)
  | 11 => some (192, 192)
  | _ => none

/-! ### The format checks of intake (R290) -/

/-- Flags that an opcode allows (table of 11). -/
def flagsAllowed (op : Nat) : Nat :=
  match op with
  | 6 => 2
  | 7 => 6
  | 8 => 1
  | 9 => 1
  | _ => 0

/-- Are the reserved bytes of the body 0, by opcode? -/
def bodyReserved (b : Bytes) : Bool :=
  match entryOp b with
  | 1 => zeros b 17 47
  | 2 => zeros b 16 48
  | 3 => zeros b 17 7 && zeros b 36 28
  | 4 => zeros b 44 20
  | 8 => zeros b 17 47
  | 9 => byteAt b 34 / 16 == 0 && zeros b 35 29
  | 10 => zeros b 16 48
  | 11 => zeros b 17 1 && zeros b 36 28
  | _ =>
    let fr := field b 48 8
    field b 16 4 / 2 ^ 20 == 0 && zeros b 44 4 && zeros b 56 8 &&
      (if entryOp b = 7 then bits fr 62 48 == 0 && (!bit fr 63 || fr % 2 ^ 48 == 0) else fr == 0)

/-- Does the window with the largest margin, 16 tiles, lie in the range of R110 (R291)? -/
def windowInRange (f : Stripe) : Bool :=
  let ok (v : Int) : Bool := decide (-67108864 ≤ v) && decide (v ≤ 67108863)
  ok (f.x - 4096) && ok (f.x + 14335) &&
  (if f.dir = 0 then ok (f.y - 4096) && ok (f.y + 256 * f.segs + 4095)
   else ok (f.y - 256 * f.segs - 4096) && ok (f.y + 4095))

/-- Are the stripe fields in range (R291)? -/
def stripeInRange (op : Nat) (f : Stripe) : Bool :=
  decide (f.pass ≤ 1) && decide (f.dir ≤ 1) && decide (1 ≤ f.segs) && decide (f.segs ≤ 78125) &&
  (if op = 5 then f.plan == 0 else decide (625 ≤ f.plan) && decide (f.plan ≤ 5000)) && windowInRange f

/-- Are the fields of a command in range (R83, R290, R291, table of 11)? -/
def fieldsInRange (b : Bytes) : Bool :=
  match entryOp b with
  | 1 => decide (entryJob b ≠ 0) && decide (2 ≤ byteAt b 16) && decide (byteAt b 16 ≤ 16)
  | 4 => decide (1 ≤ field b 24 8) && decide (field b 24 8 ≤ 4294967296) &&
      decide (1 ≤ field b 40 4) && decide (field b 40 4 ≤ 16777215)
  | 8 => entryJob b == 0 && (byteAt b 16 == 1 || byteAt b 16 == 2)
  | 9 => entryJob b == 0
  | 10 => entryJob b == 0
  | 11 => entryJob b == 0 && decide (1 ≤ byteAt b 16) && decide (byteAt b 16 ≤ 4) &&
      field b 32 4 == 256 + roundUp (field b 20 4) 64
  | op => if isStripeOp op then stripeInRange op (entryStripe b) else true

/-- The guard code of a SET_GUARDED whose setting or VALUE_LEN is not in R398 (R402). -/
def guardFormat (b : Bytes) : Option Nat :=
  match settingLen (field b 18 2) with
  | none => some 0x0E
  | some (lo, hi) =>
    let n := field b 20 4
    if byteAt b 16 = 1 then (if n < lo || hi < n then some 0x0D else none) else if n ≠ 0 then some 0x0D else none

/-- Is an entry a program load whose image names the other target (R292)? `target` is byte 3 of the image. -/
def wrongTarget (b : Bytes) (target : Byte) : Bool :=
  entryOp b == 3 && ((entryKind16 b == 6 && target == 2) || (entryKind16 b == 7 && target == 1))

/-- Does an entry name a host address, or a length, that breaks the DMA rules (R306)? -/
def entryMisaligned (b : Bytes) : Bool :=
  match entryOp b with
  | 3 => field b 24 8 % 64 != 0 || field b 32 4 % 64 != 0
  | 11 => field b 24 8 % 64 != 0 || field b 32 4 % 64 != 0
  | 4 => field b 16 8 % 64 != 0 || field b 32 8 % 64 != 0
  | _ => false

/-- How a command ends whose transfer breaks the DMA rules (R306). -/
def misaligned : End := { status := 7, source := 11, code := 1 }

/-- The refusal of an entry for its format: MALFORMED with the lowest code, then MISALIGNED (R290). `target` is byte 3 of
the program image that a LOAD_TABLE names, and of no account in any other entry. -/
def formatRefusal (b : Bytes) (target : Byte) : Option End :=
  let op := entryOp b
  if op < 1 || 11 < op then some (malformed 0x30 1)
  else if byteAt b 9 &&& (255 - flagsAllowed op) ≠ 0 || !zeros b 10 2 || !bodyReserved b then some (malformed 0x31 1)
  else if !fieldsInRange b then some (malformed 0x32 1)
  else if (op = 3 && (entryKind16 b < 1 || 8 < entryKind16 b)) || wrongTarget b target then some (malformed 0x34 1)
  else if op = 11 && (guardFormat b).isSome then some (malformed ((guardFormat b).getD 0) 10)
  else if entryMisaligned b then some misaligned
  else none

/-! ### The state checks of intake -/

/-- Is a channel frozen or failed (R325, R331)? -/
def memoryBad (s : State) : Bool := s.mem.ch.toList.any (fun c => c.st == 6 || c.st == 7)

/-- Is a command allowed in the present job state, with its JOB_ID (R290, R292, R296)? In recovery only SET_GUARDED of the
firmware settings is (R394). -/
def stateAllows (s : State) (b : Bytes) : Bool :=
  let j := s.job
  let inJob := j.st == 1 && entryJob b == j.id
  if s.sec.recovery then entryOp b == 11 && (field b 18 2 == 3 || field b 18 2 == 4)
  else match entryOp b with
    | 1 => j.st == 0
    | 2 => inJob
    | 3 => if entryKind16 b < 6 then inJob else entryJob b == 0 || (j.st != 0 && entryJob b == j.id)
    | 4 => inJob
    | 5 => inJob
    | 6 => inJob
    | 7 => inJob
    | _ => true

/-- The refusal of an entry for the state of the job or of the memory (R290, R325, R331). -/
def stateRefusal (s : State) (b : Bytes) : Option End :=
  let op := entryOp b
  if !stateAllows s b then some (refusedState 1)
  else if 3 ≤ op && op ≤ 7 && memoryBad s then some (refusedState 0x12)
  else none

/-! ### Budgets -/

/-- The render rate of the throttle step in force, in percent (R304). -/
def renderRate (s : State) : Nat := [100, 88, 76, 63].getD s.thm.step 100

/-- `CMB.WORKING.RE` (R254). -/
def workingNow (s : State) : Nat := if s.job.write.isSome then s.comb.working else workingRaster s

/-- Q_s of segment `seg` (R304). -/
def segCost (x : Slot) (seg : Nat) : Nat :=
  let n := ((x.slots.find? (fun e => e.1 == seg)).map (·.2)).getD 0
  (n + 79) / 80 + (if x.corrected then 5632 else 0)

/-- The costs of the segments from `first` on. -/
def costsFrom (x : Slot) (first : Nat) : List Nat := (List.range (x.segs - first)).map (fun i => segCost x (first + i))

/-- The largest mean, rounded up, over 16 consecutive costs, and where its run begins: `i` counts the costs passed,
`best` is the best so far. -/
def worstRun : List Nat → Nat → Nat × Nat → Nat × Nat
  | [], _, best => best
  | c :: r, i, best =>
    if (c :: r).length < 16 then best
    else
      let mean := (((c :: r).take 16).sum + 15) / 16
      worstRun r (i + 1) (if best.1 < mean then (mean, i) else best)

/-- Q̄ of R304 and the first segment of its run. -/
def qBar (x : Slot) (first : Nat) : Nat × Nat :=
  let l := costsFrom x first
  if l.length < 16 then (if l.isEmpty then 0 else (l.sum + l.length - 1) / l.length, first)
  else
    let w := worstRun l first (0, first)
    (w.1, w.2)

/-- The right side of the speed plan without PLAN (R304). -/
def planRight (rp working margin : Nat) (solo : Bool) : Nat := 2816 * working * rp * margin * (if solo then 2 else 1)

/-- Is the speed plan met (R304)? -/
def planMet (q right plan : Nat) : Bool := decide (q * 128000000 ≤ right * plan)

/-- PLAN_MIN (R304); where no PLAN meets the plan the value is open. -/
def planMin (s : State) (q right : Nat) : Nat :=
  if q = 0 then 0 else if right = 0 then (freeNow s).toNat else (q * 128000000 + right - 1) / right

/-- `JOB.PLAN_CTL.MARGIN`. -/
def planMargin (s : State) : Nat := regBits s 0x020048 6 0

/-- The forage results of a stripe, if a slot holds them (R30). -/
def resultsOf (s : State) (f : Stripe) : Option Slot :=
  s.job.slots.find? (fun x => x.stripe == f.stripe && x.pass == f.pass && x.held)

/-- DIRECTORY frames in use (R87). -/
def directoryFrames (s : State) : Nat := (s.intake.frames.filter (fun f => f.st == .directory)).length

/-- The class budgets of a write (R95, R294, R304); a stripe without results is refused at its boundary instead (R298). -/
def writeBudget (s : State) (b : Bytes) : Option (End × Nat) :=
  let f := entryStripe b
  match resultsOf s f with
  | none => none
  | some x =>
    let q := qBar x (firstSegment f.named)
    let right := planRight (renderRate s) (workingNow s) (planMargin s) (entrySolo b)
    if !planMet q.1 right f.plan then
      some ({ status := 3, code := 0x21, source := 8, arg0 := planMin s q.1 right, arg1 := q.2 }, 2)
    else if s.intake.poolFrames - directoryFrames s - 1024 < x.pages.eraseDups.length then
      some ({ status := 3, code := 0x22, source := 8 }, 3)
    else none

/-- Does a stripe hold or claim a forage slot? -/
def slotTaken (s : State) (f : Stripe) : Bool := s.job.slots.any (fun x => x.stripe == f.stripe && x.pass == f.pass)

/-- The class budget of a forage (R303). -/
def forageBudget (s : State) (b : Bytes) : Option (End × Nat) :=
  if !slotTaken s (entryStripe b) && decide (s.job.slotMax ≤ s.job.slots.length) then
    some ({ status := 3, code := 0x23, source := 8 }, 4)
  else none

/-! ### Intake -/

/-- The INTAKE record of a command with its outcome (R290, R308). -/
def intakeRecord (b : Bytes) (e : End) (s : State) : State :=
  journalAdd 1 (entryOp b) e.status 0 (entrySeq b) (detailOf e.code e.source e.extra) (natLe (entryJob b) 4) s

/-- NEXT_SEQ passes a command's SEQ (R287, R290). -/
def seqPassed (b : Bytes) (s : State) : State :=
  updJob (fun j => { j with nextSeq := (entrySeq b + 1) % 2 ^ 64, atIntake := none }) s

/-- A command is refused at intake: journalled, completed, and its SEQ consumed (R290). `cls` is the class of a refused
budget. -/
def refuse (b : Bytes) (e : End) (cls : Nat) (s : State) : State :=
  let q := entrySeq b
  let s1 := seqPassed b (intakeRecord b e s)
  let s2 := complete (cplOf q (entryOp b) (newestIdx s1) false e) s1
  budgetNote e cls q (raise 4 0 q s2)

/-- A command is accepted: journalled, queued and completed with ACCEPTED (R290). -/
def accept (b : Bytes) (s : State) : State :=
  let q := entrySeq b
  let e : End := { status := 1 }
  let s1 := seqPassed b (intakeRecord b e s)
  let s2 := updJob (fun j => { j with live := j.live ++ [{ seq := q, entry := b, phase := .queued }] }) s1
  complete (cplOf q (entryOp b) (newestIdx s1) false e) s2

/-- What the acceptance of a command does at once: JOB_CLOSE makes the job CLOSING (R296), a JOURNAL_ERASE proposal holds
the ring (R400). -/
def acceptEffects (b : Bytes) (s : State) : State :=
  if entryOp b = 2 then updJob (fun j => { j with st := 2 }) s
  else if entryOp b = 11 && byteAt b 16 = 1 && field b 18 2 = 2 then updJob (fun j => { j with eraseHold := true }) s
  else s

/-- The refusal of an entry, with the class of a refused budget: format, then state, then budget (R290). -/
def refusalOf (s : State) (b : Bytes) (target : Byte) : Option (End × Nat) :=
  match formatRefusal b target, stateRefusal s b with
  | some e, _ => some (e, 0)
  | none, some e => some (e, 0)
  | none, none =>
    if entryOp b = 5 then forageBudget s b else if isWriteOp (entryOp b) then writeBudget s b else none

/-- The intake of an entry (R290). A stripe command is decided by its own row: FORAGE_STRIPE, WRITE_STRIPE or
RESUME_STRIPE, since the intake of a write may have to wait (R294). A transfer that breaks the DMA rules stops its channel
(R306; log 100). -/
def intake (b : Bytes) (target : Byte) (s : State) : State :=
  if isStripeOp (entryOp b) then
    updJob (fun j => { j with atIntake := some { seq := entrySeq b, entry := b, phase := .queued } }) s
  else match refusalOf s b target with
    | some (e, cls) =>
      let s1 := refuse b e cls s
      if e.status == 7 then dmaStop (tableChan s) 1 s1 else s1
    | none => acceptEffects b (accept b s)

/-- The stripe command at intake, if it has the given opcode. -/
def stripeAtIntake (s : State) (op : Nat) : Option Bytes :=
  match s.job.atIntake with
  | some l => if entryOp l.entry = op then some l.entry else none
  | none => none

/-- A slot claimed for a forage (R303). -/
def claimedSlot (f : Stripe) (q : Nat) : Slot :=
  { stripe := f.stripe, pass := f.pass, claim := q, held := false, valid := false,
    dig := { bind := 0, pages := 0, cells := 0, kernel := 0, field := 0, progRe := 0, progCe := 0 },
    sigs := [], slots := [], density := [], pages := [], segs := f.segs, corrected := false }

/-- The slot that an accepted forage claims: the stripe's own, else a new one (R303). -/
def claimSlot (f : Stripe) (q : Nat) (s : State) : State :=
  if slotTaken s f then updSlot f (fun x => if x.claim = 0 then { x with claim := q } else x) s
  else updJob (fun j => { j with slots := j.slots ++ [claimedSlot f q] }) s

/-- The intake of a FORAGE_STRIPE (R290, R303). -/
def forageIntake (s : State) : State :=
  match stripeAtIntake s 5 with
  | none => s
  | some b =>
    match refusalOf s b 0 with
    | some (e, cls) => refuse b e cls s
    | none => claimSlot (entryStripe b) (entrySeq b) (accept b s)

/-- Has every earlier FORAGE_STRIPE ended (R294)? -/
def foragesEnded (s : State) : Bool := s.job.live.all (fun l => entryOp l.entry != 5)

/-- The intake of a write (R290, R294). -/
def writeIntake (op : Nat) (s : State) : State :=
  match stripeAtIntake s op with
  | none => s
  | some b =>
    if !foragesEnded s then s
    else match refusalOf s b 0 with
      | some (e, cls) => freeNext (refuse b e cls s)
      | none => accept b s

/-- FORAGE_STRIPE (R303). -/
def execForageStripe (s : State) : Host.Outcome State Fault Refusal := .next (forageIntake s)

/-- WRITE_STRIPE (R294). -/
def execWriteStripe (s : State) : Host.Outcome State Fault Refusal := .next (writeIntake 6 s)

/-- RESUME_STRIPE (R294, R315). -/
def execResumeStripe (s : State) : Host.Outcome State Fault Refusal := .next (writeIntake 7 s)

/-! ### Reading an entry (R285, R287) -/

/-- Has an accepted command started? A write starts at once when the commands before it have (R293). -/
def hasStarted (l : Live) : Bool := l.phase != .queued || isWriteOp (entryOp l.entry)

/-- Accepted commands that have not started (R293). -/
def notStarted (s : State) : List Live := s.job.live.dropWhile hasStarted

/-- Does the module read its next command entry (R285, R287, R293, R294, R356, R359, R400)? -/
def readsEntries (s : State) : Bool :=
  let j := s.job
  j.cmdOn && j.cmdHead != j.cmdTail && !j.stopped && !j.hostErr && j.atIntake.isNone && !j.eraseHold &&
  decide ((notStarted s).length < 64) && s.power.ready && !s.power.resetPending && powered s 2 && reachable s && chanRuns s 0

/-- Is SEQ the one expected? After a journal erase any non-zero one is (R287). -/
def seqExpected (s : State) (q : Nat) : Bool := if s.job.nextSeq = 0 then q != 0 else q == s.job.nextSeq

/-- The head passes the entry read. -/
def headNext (s : State) : State := updJob (fun j => { j with cmdHead := (j.cmdHead + 1) % cmdSize s, retry := false }) s

/-- The first read of an entry (R287). -/
def readEntry (b : Bytes) (target : Byte) (s : State) : State :=
  if !readsEntries s || s.job.retry then s
  else if seqExpected s (entrySeq b) then intake b target (headNext s)
  else raise 1 0 (entrySeq b) (count 0x0200A0 1 (updJob (fun j => { j with retry := true }) s))

/-- A duplicate (R287): completed and not journalled; its JOURNAL_IDX is open (log 24). -/
def duplicate (b : Bytes) (s : State) : State :=
  let q := entrySeq b
  let c := cplOf q (entryOp b) ((freeNow s).toNat % journalRing) false (refusedState 0x13)
  raise 2 0 q (count 0x0200A4 1 (complete { c with dup := true } (freeNext (headNext s))))

/-- A sequence gap stops the ring (R287); its JOURNAL_IDX is open (log 24). -/
def seqGap (b : Bytes) (s : State) : State :=
  let q := entrySeq b
  let e : End := { malformed 0x33 1 with arg0 := s.job.nextSeq }
  let s1 := updJob (fun j => { j with stopped := true, error := 3, retry := false }) (freeNext s)
  raise 3 0 q (complete (cplOf q (entryOp b) ((freeNow s).toNat % journalRing) false e) s1)

/-- The second read of an entry (R287). -/
def rereadEntry (b : Bytes) (target : Byte) (s : State) : State :=
  if !readsEntries s || !s.job.retry then s
  else if seqExpected s (entrySeq b) then intake b target (headNext s)
  else if entrySeq b < s.job.nextSeq then duplicate b s
  else seqGap b s

/-- COMMAND_ENTRY_READ (R287); an entry has 64 bytes. -/
def execCommandEntryRead (b : EntryRead) (s : State) : Host.Outcome State Fault Refusal :=
  if b.bytes.length == 64 then .next (readEntry b.bytes b.target s) else .fault .illFormed

/-- CMD_RETRY (R287); an entry has 64 bytes. -/
def execCmdRetry (b : EntryRead) (s : State) : Host.Outcome State Fault Refusal :=
  if b.bytes.length == 64 then .next (rereadEntry b.bytes b.target s) else .fault .illFormed

/-! ### What starts next (R293) -/

/-- The first accepted command that has not started: it may start when its own conditions allow. -/
def nextStart (s : State) : Option Live := (notStarted s).head?

/-- The command that starts next, if it has the given opcode and the module is not resetting (R312, R359). -/
def startable (s : State) (op : Nat) : Option Live :=
  match nextStart s with
  | some l => if entryOp l.entry = op && s.power.ready && !s.power.resetPending && powered s 2 then some l else none
  | none => none

/-- Has every earlier accepted command its final completion (R293, R296)? -/
def isFirstLive (s : State) (q : Nat) : Bool := match s.job.live with | l :: _ => l.seq == q | [] => false

/-- The first write that waits for its stripe boundary (R293). -/
def waitingWrite (s : State) : Option Live :=
  (s.job.live.takeWhile hasStarted).find? (fun l => isWriteOp (entryOp l.entry) && l.phase == .queued)

/-- FENCE (R293). -/
def execFence (s : State) : Host.Outcome State Fault Refusal :=
  .next (match startable s 10 with
    | some l => if isFirstLive s l.seq then finish l.seq { status := 0 } s else s
    | none => s)

end Sys2Proof.Machine
end

