-- ==== Sys2Proof/Machine/KolbenCode.lean ====
section
/-!
DEFINITION. The words of the Kolben instructions (R264 to R267, R270 to R274, R275, R279, R281; 10_kolben_instructions):
a decoder for one target, which answers none for a word that is undefined for it, an encoder, and the check of a program
image by R249.
-/

namespace Sys2Proof.Machine

open Sys2Proof.Bits

/-! ### Formats (R264) -/

/-- Format R. -/
def fmtR (opc d a b fn : Nat) : Nat := opc * 2 ^ 26 + d * 2 ^ 21 + a * 2 ^ 16 + b * 2 ^ 11 + fn

/-- Formats I and B: the register fields in the order of the word. -/
def fmtI (opc d a imm : Nat) : Nat := opc * 2 ^ 26 + d * 2 ^ 21 + a * 2 ^ 16 + imm

/-- Format V. -/
def fmtV (opc m d a b fn : Nat) : Nat := opc * 2 ^ 26 + m * 2 ^ 23 + d * 2 ^ 18 + a * 2 ^ 13 + b * 2 ^ 8 + fn

/-- Format L. -/
def fmtL (opc m d a off : Nat) : Nat := opc * 2 ^ 26 + m * 2 ^ 23 + d * 2 ^ 18 + a * 2 ^ 13 + off

/-- Format X. -/
def fmtX (opc p q fn imm : Nat) : Nat := opc * 2 ^ 26 + p * 2 ^ 21 + q * 2 ^ 16 + fn * 2 ^ 8 + imm

/-- Format C. -/
def fmtC (opc m d a b sub imm : Nat) : Nat :=
  opc * 2 ^ 26 + m * 2 ^ 23 + d * 2 ^ 18 + a * 2 ^ 13 + b * 2 ^ 8 + sub * 2 ^ 6 + imm

/-- A five-bit register field. -/
def reg5 (n : Nat) : Fin 32 := Fin.ofNat 32 n

/-- A field that names an A or M register: its upper bits are 0 (R265). -/
def reg3 (n : Nat) : Option (Fin 8) := if h : n < 8 then some ⟨n, h⟩ else none

/-- The first register of a run that ends within its file (R265, R266). -/
def below (k n : Nat) : Option (Fin k) := if h : n < k then some ⟨n, h⟩ else none

/-- A word that is defined only if a condition holds (R266). -/
def onlyIf (c : Bool) (i : Instr) : Option Instr := if c then some i else none

/-- A raster engine. -/
def asRaster (e : Fin 148) : Option (Fin 144) := if h : e.val < 144 then some ⟨e.val, h⟩ else none

/-- A correction engine. -/
def asCorrection (e : Fin 148) : Option (Fin 4) :=
  if h : 144 ≤ e.val then some ⟨e.val - 144, by omega⟩ else none

/-! ### The decoder -/

/-- OPC 0x01, format R (R270). -/
def decR (e : Fin 148) (w : Nat) : Option Instr :=
  let d := reg5 (bits w 25 21)
  let a := reg5 (bits w 20 16)
  let b := reg5 (bits w 15 11)
  match bits w 10 0 with
  | 0 => some (.kAdd e d a b)
  | 1 => some (.kSub e d a b)
  | 2 => some (.kAnd e d a b)
  | 3 => some (.kOr e d a b)
  | 4 => some (.kXor e d a b)
  | 5 => some (.kShl e d a b)
  | 6 => some (.kShr e d a b)
  | 7 => some (.kSar e d a b)
  | 8 => some (.kMul e d a b)
  | 9 => some (.kMulhu e d a b)
  | 10 => some (.kSlt e d a b)
  | 11 => some (.kSltu e d a b)
  | 12 => some (.kMin e d a b)
  | 13 => some (.kMax e d a b)
  | _ => none

/-- OPC 0x02 to 0x17, formats I and B (R270). -/
def decI (e : Fin 148) (opc w : Nat) : Option Instr :=
  let f1 := bits w 25 21
  let f2 := bits w 20 16
  let n := bits w 15 0
  let d := reg5 f1
  let a := reg5 f2
  let imm := BitVec.ofNat 16 n
  match opc with
  | 2 => some (.kAddi e d a imm)
  | 3 => some (.kAndi e d a imm)
  | 4 => some (.kOri e d a imm)
  | 5 => some (.kXori e d a imm)
  | 11 => some (.kSubi e d a imm)
  | 12 => some (.kLdw e d a imm)
  | 13 => some (.kStw e d a imm)
  | 14 => some (.kLdh e d a imm)
  | 15 => some (.kSth e d a imm)
  | 6 => onlyIf (decide (n < 32)) (.kShli e d a (reg5 n))
  | 7 => onlyIf (decide (n < 32)) (.kShri e d a (reg5 n))
  | 8 => onlyIf (decide (n < 32)) (.kSari e d a (reg5 n))
  | 9 => onlyIf (f2 == 0) (.kMovi e d imm)
  | 10 => onlyIf (f2 == 0) (.kMovhi e d imm)
  | 16 => some (.kBeq e d a imm)
  | 17 => some (.kBne e d a imm)
  | 18 => some (.kBlt e d a imm)
  | 19 => some (.kBge e d a imm)
  | 20 => some (.kBltu e d a imm)
  | 21 => some (.kBgeu e d a imm)
  | 22 => onlyIf (f2 == 0) (.kJal e d imm)
  | 23 => onlyIf (f1 == 0 && n == 0) (.kJr e a)
  | _ => none

/-- OPC 0x18, vector instructions (R273). -/
def decVec (e : Fin 148) (w : Nat) : Option Instr :=
  let m : Fin 8 := Fin.ofNat 8 (bits w 25 23)
  let d := reg5 (bits w 22 18)
  let fa := bits w 17 13
  let fb := bits w 12 8
  let a := reg5 fa
  let b := reg5 fb
  match bits w 7 0 with
  | 0 => onlyIf (fb == 0) (.kVmov e m d a)
  | 1 => some (.kVadd e m d a b)
  | 2 => some (.kVsub e m d a b)
  | 3 => some (.kVadds e m d a b)
  | 4 => some (.kVsubs e m d a b)
  | 5 => some (.kVmin e m d a b)
  | 6 => some (.kVmax e m d a b)
  | 7 => some (.kVand e m d a b)
  | 8 => some (.kVor e m d a b)
  | 9 => some (.kVxor e m d a b)
  | 10 => (below 24 fb).bind (fun n => onlyIf (decide (fb < laneBits e)) (.kVshli e m d a n))
  | 11 => (below 24 fb).bind (fun n => onlyIf (decide (fb < laneBits e)) (.kVshri e m d a n))
  | 12 => onlyIf (fa == 0) (.kVbc e m d b)
  | 13 => onlyIf (fa == 0 && fb == 0) (.kVidx e m d)
  | 15 => onlyIf (m == 0) (.kVget e d a b)
  | _ => none

/-- OPC 0x19, accumulator instructions (R273). -/
def decAcc (e : Fin 148) (w : Nat) : Option Instr :=
  let m : Fin 8 := Fin.ofNat 8 (bits w 25 23)
  let fd := bits w 22 18
  let fa := bits w 17 13
  let fb := bits w 12 8
  let a := reg5 fa
  let b := reg5 fb
  match bits w 7 0 with
  | 0 => (reg3 fd).bind (fun d => onlyIf (fa == 0 && fb == 0) (.kClra e m d))
  | 1 => (reg3 fd).bind (fun d => onlyIf (fb == 0) (.kAadd e m d a))
  | 2 => (reg3 fd).bind (fun d => onlyIf (fb == 0) (.kAsub e m d a))
  | 3 => (reg3 fd).bind (fun d => some (.kAmac e m d a b))
  | 4 => (reg3 fd).bind (fun d => some (.kAmacs e m d a b))
  | 5 => (reg3 fa).bind (fun x => some (.kRshr e m (reg5 fd) x b))
  | 6 => (reg3 fd).bind (fun d => onlyIf (fb == 0) (.kAmov e m d a))
  | 7 => (reg3 fd).bind (fun d => (reg3 fa).bind (fun x => (reg3 fb).bind (fun y => some (.kAadda e m d x y))))
  | 8 => (reg3 fd).bind (fun d => (reg3 fa).bind (fun x => some (.kAshr e m d x b)))
  | 9 => (reg3 fd).bind (fun d => onlyIf (fa == 0) (.kAbc e m d b))
  | _ => none

/-- OPC 0x1A, mask instructions (R273). -/
def decMask (e : Fin 148) (w : Nat) : Option Instr :=
  let m : Fin 8 := Fin.ofNat 8 (bits w 25 23)
  let fd := bits w 22 18
  let fa := bits w 17 13
  let fb := bits w 12 8
  let a := reg5 fa
  let b := reg5 fb
  let three (f : Fin 8 → Fin 8 → Fin 8 → Instr) : Option Instr :=
    (reg3 fd).bind (fun d => (reg3 fa).bind (fun x => (reg3 fb).bind (fun y => some (f d x y))))
  match bits w 7 0 with
  | 0 => (reg3 fd).bind (fun d => some (.kCeq e m d a b))
  | 1 => (reg3 fd).bind (fun d => some (.kCltu e m d a b))
  | 2 => (reg3 fd).bind (fun d => some (.kCleu e m d a b))
  | 3 => three (fun d x y => .kAclt e m d x y)
  | 4 => three (fun d x y => .kAceq e m d x y)
  | 8 => three (fun d x y => .kMand e m d x y)
  | 9 => three (fun d x y => .kMor e m d x y)
  | 10 => three (fun d x y => .kMandn e m d x y)
  | 11 => three (fun d x y => .kMxor e m d x y)
  | 12 => (reg3 fd).bind (fun d => onlyIf (fa == 0 && fb == 0) (.kMsat e m d))
  | 13 => (reg3 fa).bind (fun x => onlyIf (fb == 0) (.kMcount e m (reg5 fd) x))
  | _ => none

/-- OPC 0x1B to 0x1E, format L (R272). -/
def decL (e : Fin 148) (opc w : Nat) : Option Instr :=
  let m : Fin 8 := Fin.ofNat 8 (bits w 25 23)
  let fd := bits w 22 18
  let d := reg5 fd
  let a := reg5 (bits w 17 13)
  let off := BitVec.ofNat 13 (bits w 12 0)
  match opc with
  | 27 => some (.kVld e m d a off)
  | 28 => some (.kVst e m d a off)
  | 29 => (reg3 fd).bind (fun d => some (.kAld e m d a off))
  | 30 => (reg3 fd).bind (fun d => some (.kAst e m d a off))
  | _ => none

/-- OPC 0x20, task and stream instructions (R275). -/
def decTask (e : Fin 148) (w : Nat) : Option Instr :=
  let fp := bits w 25 21
  let fq := bits w 20 16
  let imm := bits w 7 0
  let p := reg5 fp
  let q := reg5 fq
  match bits w 15 8 with
  | 1 => onlyIf (fp == 0 && fq == 0 && imm == 0) (.kTaskWait e)
  | 2 => (reg3 imm).bind (fun f => onlyIf (fq == 0) (.kTaskGet e p f))
  | 3 => onlyIf (fp == 0 && fq == 0 && imm == 0) (.kTaskDone e)
  | 4 => (asRaster e).bind (fun r => onlyIf (fq == 0 && imm == 0) (.kInEntry r p))
  | 5 => (asRaster e).bind (fun r => (below 17 fp).bind (fun x => onlyIf (fq == 0 && imm == 0) (.kFactLoad r x)))
  | 6 => (asRaster e).bind (fun r => onlyIf (p != q && imm == 0) (.kCovRow r p q))
  | 7 => (asRaster e).bind (fun r => onlyIf (imm == 0) (.kOutRow r p q))
  | 8 => (asRaster e).bind (fun r => (reg3 fp).bind (fun x => (reg3 fq).bind (fun y =>
      onlyIf (x != y && imm == 0) (.kHiveGet r x y))))
  | 9 => (asRaster e).bind (fun r => (reg3 fp).bind (fun x => (reg3 fq).bind (fun y =>
      onlyIf (imm == 0) (.kHivePut r x y))))
  | 10 => (asRaster e).bind (fun r => (reg3 fp).bind (fun x => (below 17 fq).bind (fun y =>
      onlyIf (decide (imm < 2)) (.kFip r x y (imm == 1)))))
  | 11 => (below 3 imm).bind (fun s => onlyIf (fq == 0 && (decide (e.val < 144) == (imm == 0))) (.kCntAdd e p s))
  | _ => none

/-- OPC 0x21, span unit instructions (R279). -/
def decSpan (e : Fin 148) (w : Nat) : Option Instr :=
  let fp := bits w 25 21
  let fq := bits w 20 16
  let imm := bits w 7 0
  let p := reg5 fp
  let q := reg5 fq
  match bits w 15 8 with
  | 1 => (asRaster e).bind (fun r => (below 28 fp).bind (fun x => onlyIf (fq == 0 && imm == 0) (.kSpanCfg r x)))
  | 2 => (asRaster e).bind (fun r => onlyIf (fq == 0 && imm == 0) (.kSpanRow r p))
  | 3 => (asRaster e).bind (fun r => (below 29 fp).bind (fun x => onlyIf (imm == 0) (.kXeLine r x q)))
  | 4 => (asRaster e).bind (fun r => (below 26 fp).bind (fun x => onlyIf (imm == 0) (.kXeArc r x q)))
  | 5 => (asRaster e).bind (fun r => (reg3 fp).bind (fun x => (reg3 fq).bind (fun y =>
      onlyIf (x != y && imm == 0) (.kSpan4 r x y))))
  | _ => none

/-- OPC 0x22, correction stream instructions (R281). -/
def decStream (e : Fin 148) (w : Nat) : Option Instr :=
  let p := reg5 (bits w 25 21)
  let fq := bits w 20 16
  let imm := bits w 7 0
  match bits w 15 8 with
  | 1 => (asCorrection e).bind (fun r => (below 31 fq).bind (fun y => onlyIf (imm == 0) (.kDenLd r p y)))
  | 2 => (asCorrection e).bind (fun r => (below 31 fq).bind (fun y => onlyIf (imm == 0) (.kFldLd r p y)))
  | 3 => (asCorrection e).bind (fun r => (below 31 fq).bind (fun y => onlyIf (imm == 0) (.kFacSt r p y)))
  | _ => none

/-- OPC 0x24, format C (R281). -/
def decExt (e : Fin 148) (w : Nat) : Option Instr :=
  let m : Fin 8 := Fin.ofNat 8 (bits w 25 23)
  let fd := bits w 22 18
  let fa := bits w 17 13
  let fb := bits w 12 8
  let imm := bits w 5 0
  let n := BitVec.ofNat 6 imm
  match bits w 7 6 with
  | 0 => (asCorrection e).bind (fun r => (reg3 fd).bind (fun d => (below 30 fa).bind (fun x =>
      onlyIf (decide (-16 ≤ n.toInt) && decide (n.toInt ≤ 16)) (.kTapu r m d x (reg5 fb) n))))
  | 1 => (asCorrection e).bind (fun r => (reg3 fd).bind (fun d =>
      onlyIf (imm == 0) (.kTapv r m d (reg5 fa) (reg5 fb))))
  | 2 => (asCorrection e).bind (fun r => onlyIf (decide (imm < 2)) (.kReduce r m (reg5 fd) (reg5 fa) (reg5 fb) (imm == 1)))
  | _ => (asCorrection e).bind (fun r => (below 30 fa).bind (fun x => (below 30 fb).bind (fun y =>
      onlyIf (decide (imm < 2)) (.kExpand r m (reg5 fd) x y (imm == 1)))))

/-- OPC 0x25, KDIV (R281). -/
def decKdiv (e : Fin 148) (w : Nat) : Option Instr :=
  let m : Fin 8 := Fin.ofNat 8 (bits w 25 23)
  (asCorrection e).bind (fun r => (reg3 (bits w 17 13)).bind (fun a =>
    onlyIf (bits w 2 0 == 0) (.kKdiv r m (reg5 (bits w 22 18)) a (reg5 (bits w 12 8)) (reg5 (bits w 7 3)))))

/-- OPC 0x30 to 0x3F, 64-bit instructions (R274), with word 1. -/
def decLong (e : Fin 148) (opc w w1 : Nat) : Option Instr :=
  let m : Fin 8 := Fin.ofNat 8 (bits w 25 23)
  match opc with
  | 48 => (reg3 (bits w 12 8)).bind (fun b =>
      onlyIf (bits w 7 0 == 0 && decide (w1 < 2 ^ 30) && decide (bits w1 23 0 < 2 ^ laneBits e))
        (.kMulsh e m (reg5 (bits w 22 18)) (reg5 (bits w 17 13)) b (Fin.ofNat 64 (bits w1 29 24))
          (BitVec.ofNat 24 (bits w1 23 0))))
  | 49 => onlyIf (bits w 20 16 == 0 && bits w 15 0 == 0) (.kLi e (reg5 (bits w 25 21)) (BitVec.ofNat 32 w1))
  | 50 => onlyIf (bits w 17 0 == 0 && decide (w1 < 2 ^ laneBits e)) (.kVbci e m (reg5 (bits w 22 18)) (BitVec.ofNat 24 w1))
  | _ => none

/-- The instruction of a word, with the word after it, on an engine (R266); none where the word is undefined for it. -/
def kDecode (e : Fin 148) (w0 w1 : Word) : Option Instr :=
  let w := w0.toNat
  let opc := bits w 31 26
  if opc = 0 then onlyIf (w == 0) (.kNop e)
  else if opc = 1 then decR e w
  else if opc ≤ 0x17 then decI e opc w
  else if opc = 0x18 then decVec e w
  else if opc = 0x19 then decAcc e w
  else if opc = 0x1A then decMask e w
  else if opc ≤ 0x1E then decL e opc w
  else if opc = 0x20 then decTask e w
  else if opc = 0x21 then decSpan e w
  else if opc = 0x22 then decStream e w
  else if opc = 0x24 then decExt e w
  else if opc = 0x25 then decKdiv e w
  else if 0x30 ≤ opc then decLong e opc w w1.toNat
  else none

/-! ### The encoder -/

/-- The first word of a Kolben instruction and, of a 64-bit one, word 1; none for a command that is no instruction. -/
def kWords : Instr → Option (Nat × Option Nat)
  | .kNop _ => some (0, none)
  | .kAdd _ d a b => some (fmtR 1 d.val a.val b.val 0, none)
  | .kSub _ d a b => some (fmtR 1 d.val a.val b.val 1, none)
  | .kAnd _ d a b => some (fmtR 1 d.val a.val b.val 2, none)
  | .kOr _ d a b => some (fmtR 1 d.val a.val b.val 3, none)
  | .kXor _ d a b => some (fmtR 1 d.val a.val b.val 4, none)
  | .kShl _ d a b => some (fmtR 1 d.val a.val b.val 5, none)
  | .kShr _ d a b => some (fmtR 1 d.val a.val b.val 6, none)
  | .kSar _ d a b => some (fmtR 1 d.val a.val b.val 7, none)
  | .kMul _ d a b => some (fmtR 1 d.val a.val b.val 8, none)
  | .kMulhu _ d a b => some (fmtR 1 d.val a.val b.val 9, none)
  | .kSlt _ d a b => some (fmtR 1 d.val a.val b.val 10, none)
  | .kSltu _ d a b => some (fmtR 1 d.val a.val b.val 11, none)
  | .kMin _ d a b => some (fmtR 1 d.val a.val b.val 12, none)
  | .kMax _ d a b => some (fmtR 1 d.val a.val b.val 13, none)
  | .kAddi _ d a imm => some (fmtI 2 d.val a.val imm.toNat, none)
  | .kAndi _ d a imm => some (fmtI 3 d.val a.val imm.toNat, none)
  | .kOri _ d a imm => some (fmtI 4 d.val a.val imm.toNat, none)
  | .kXori _ d a imm => some (fmtI 5 d.val a.val imm.toNat, none)
  | .kSubi _ d a imm => some (fmtI 11 d.val a.val imm.toNat, none)
  | .kLdw _ d a imm => some (fmtI 12 d.val a.val imm.toNat, none)
  | .kStw _ d a imm => some (fmtI 13 d.val a.val imm.toNat, none)
  | .kLdh _ d a imm => some (fmtI 14 d.val a.val imm.toNat, none)
  | .kSth _ d a imm => some (fmtI 15 d.val a.val imm.toNat, none)
  | .kShli _ d a n => some (fmtI 6 d.val a.val n.val, none)
  | .kShri _ d a n => some (fmtI 7 d.val a.val n.val, none)
  | .kSari _ d a n => some (fmtI 8 d.val a.val n.val, none)
  | .kMovi _ d imm => some (fmtI 9 d.val 0 imm.toNat, none)
  | .kMovhi _ d imm => some (fmtI 10 d.val 0 imm.toNat, none)
  | .kJal _ d imm => some (fmtI 22 d.val 0 imm.toNat, none)
  | .kBeq _ a b off => some (fmtI 16 a.val b.val off.toNat, none)
  | .kBne _ a b off => some (fmtI 17 a.val b.val off.toNat, none)
  | .kBlt _ a b off => some (fmtI 18 a.val b.val off.toNat, none)
  | .kBge _ a b off => some (fmtI 19 a.val b.val off.toNat, none)
  | .kBltu _ a b off => some (fmtI 20 a.val b.val off.toNat, none)
  | .kBgeu _ a b off => some (fmtI 21 a.val b.val off.toNat, none)
  | .kJr _ a => some (fmtI 23 0 a.val 0, none)
  | .kVmov _ m d a => some (fmtV 0x18 m.val d.val a.val 0 0, none)
  | .kVadd _ m d a b => some (fmtV 0x18 m.val d.val a.val b.val 1, none)
  | .kVsub _ m d a b => some (fmtV 0x18 m.val d.val a.val b.val 2, none)
  | .kVadds _ m d a b => some (fmtV 0x18 m.val d.val a.val b.val 3, none)
  | .kVsubs _ m d a b => some (fmtV 0x18 m.val d.val a.val b.val 4, none)
  | .kVmin _ m d a b => some (fmtV 0x18 m.val d.val a.val b.val 5, none)
  | .kVmax _ m d a b => some (fmtV 0x18 m.val d.val a.val b.val 6, none)
  | .kVand _ m d a b => some (fmtV 0x18 m.val d.val a.val b.val 7, none)
  | .kVor _ m d a b => some (fmtV 0x18 m.val d.val a.val b.val 8, none)
  | .kVxor _ m d a b => some (fmtV 0x18 m.val d.val a.val b.val 9, none)
  | .kVshli _ m d a n => some (fmtV 0x18 m.val d.val a.val n.val 10, none)
  | .kVshri _ m d a n => some (fmtV 0x18 m.val d.val a.val n.val 11, none)
  | .kVbc _ m d b => some (fmtV 0x18 m.val d.val 0 b.val 12, none)
  | .kVidx _ m d => some (fmtV 0x18 m.val d.val 0 0 13, none)
  | .kVget _ d a b => some (fmtV 0x18 0 d.val a.val b.val 15, none)
  | .kClra _ m d => some (fmtV 0x19 m.val d.val 0 0 0, none)
  | .kAadd _ m d a => some (fmtV 0x19 m.val d.val a.val 0 1, none)
  | .kAsub _ m d a => some (fmtV 0x19 m.val d.val a.val 0 2, none)
  | .kAmac _ m d a b => some (fmtV 0x19 m.val d.val a.val b.val 3, none)
  | .kAmacs _ m d a b => some (fmtV 0x19 m.val d.val a.val b.val 4, none)
  | .kRshr _ m d a n => some (fmtV 0x19 m.val d.val a.val n.val 5, none)
  | .kAmov _ m d a => some (fmtV 0x19 m.val d.val a.val 0 6, none)
  | .kAadda _ m d a b => some (fmtV 0x19 m.val d.val a.val b.val 7, none)
  | .kAshr _ m d a n => some (fmtV 0x19 m.val d.val a.val n.val 8, none)
  | .kAbc _ m d b => some (fmtV 0x19 m.val d.val 0 b.val 9, none)
  | .kCeq _ m d a b => some (fmtV 0x1A m.val d.val a.val b.val 0, none)
  | .kCltu _ m d a b => some (fmtV 0x1A m.val d.val a.val b.val 1, none)
  | .kCleu _ m d a b => some (fmtV 0x1A m.val d.val a.val b.val 2, none)
  | .kAclt _ m d a b => some (fmtV 0x1A m.val d.val a.val b.val 3, none)
  | .kAceq _ m d a b => some (fmtV 0x1A m.val d.val a.val b.val 4, none)
  | .kMand _ m d a b => some (fmtV 0x1A m.val d.val a.val b.val 8, none)
  | .kMor _ m d a b => some (fmtV 0x1A m.val d.val a.val b.val 9, none)
  | .kMandn _ m d a b => some (fmtV 0x1A m.val d.val a.val b.val 10, none)
  | .kMxor _ m d a b => some (fmtV 0x1A m.val d.val a.val b.val 11, none)
  | .kMsat _ m d => some (fmtV 0x1A m.val d.val 0 0 12, none)
  | .kMcount _ m d a => some (fmtV 0x1A m.val d.val a.val 0 13, none)
  | .kVld _ m d a off => some (fmtL 0x1B m.val d.val a.val off.toNat, none)
  | .kVst _ m d a off => some (fmtL 0x1C m.val d.val a.val off.toNat, none)
  | .kAld _ m d a off => some (fmtL 0x1D m.val d.val a.val off.toNat, none)
  | .kAst _ m d a off => some (fmtL 0x1E m.val d.val a.val off.toNat, none)
  | .kMulsh _ m d a b sh max => some (fmtV 0x30 m.val d.val a.val b.val 0, some (sh.val * 2 ^ 24 + max.toNat))
  | .kLi _ d value => some (fmtI 0x31 d.val 0 0, some value.toNat)
  | .kVbci _ m d value => some (fmtV 0x32 m.val d.val 0 0 0, some value.toNat)
  | .kTaskWait _ => some (fmtX 0x20 0 0 1 0, none)
  | .kTaskGet _ p f => some (fmtX 0x20 p.val 0 2 f.val, none)
  | .kTaskDone _ => some (fmtX 0x20 0 0 3 0, none)
  | .kInEntry _ p => some (fmtX 0x20 p.val 0 4 0, none)
  | .kFactLoad _ p => some (fmtX 0x20 p.val 0 5 0, none)
  | .kCovRow _ p q => some (fmtX 0x20 p.val q.val 6 0, none)
  | .kOutRow _ p q => some (fmtX 0x20 p.val q.val 7 0, none)
  | .kHiveGet _ p q => some (fmtX 0x20 p.val q.val 8 0, none)
  | .kHivePut _ p q => some (fmtX 0x20 p.val q.val 9 0, none)
  | .kFip _ p q half => some (fmtX 0x20 p.val q.val 10 (b2n half), none)
  | .kCntAdd _ p sel => some (fmtX 0x20 p.val 0 11 sel.val, none)
  | .kSpanCfg _ p => some (fmtX 0x21 p.val 0 1 0, none)
  | .kSpanRow _ p => some (fmtX 0x21 p.val 0 2 0, none)
  | .kXeLine _ p q => some (fmtX 0x21 p.val q.val 3 0, none)
  | .kXeArc _ p q => some (fmtX 0x21 p.val q.val 4 0, none)
  | .kSpan4 _ p q => some (fmtX 0x21 p.val q.val 5 0, none)
  | .kDenLd _ p q => some (fmtX 0x22 p.val q.val 1 0, none)
  | .kFldLd _ p q => some (fmtX 0x22 p.val q.val 2 0, none)
  | .kFacSt _ p q => some (fmtX 0x22 p.val q.val 3 0, none)
  | .kTapu _ m d a b n => some (fmtC 0x24 m.val d.val a.val b.val 0 n.toNat, none)
  | .kTapv _ m d a b => some (fmtC 0x24 m.val d.val a.val b.val 1 0, none)
  | .kReduce _ m d a b k => some (fmtC 0x24 m.val d.val a.val b.val 2 (b2n k), none)
  | .kExpand _ m d a b k => some (fmtC 0x24 m.val d.val a.val b.val 3 (b2n k), none)
  | .kKdiv _ m d a b c => some (fmtV 0x25 m.val d.val a.val b.val (8 * c.val), none)
  | _ => none

/-- The engine an instruction names. -/
def kEngine : Instr → Option (Fin 148)
  | .kNop e => some e
  | .kAdd e _ _ _ => some e
  | .kSub e _ _ _ => some e
  | .kAnd e _ _ _ => some e
  | .kOr e _ _ _ => some e
  | .kXor e _ _ _ => some e
  | .kShl e _ _ _ => some e
  | .kShr e _ _ _ => some e
  | .kSar e _ _ _ => some e
  | .kMul e _ _ _ => some e
  | .kMulhu e _ _ _ => some e
  | .kSlt e _ _ _ => some e
  | .kSltu e _ _ _ => some e
  | .kMin e _ _ _ => some e
  | .kMax e _ _ _ => some e
  | .kAddi e _ _ _ => some e
  | .kAndi e _ _ _ => some e
  | .kOri e _ _ _ => some e
  | .kXori e _ _ _ => some e
  | .kShli e _ _ _ => some e
  | .kShri e _ _ _ => some e
  | .kSari e _ _ _ => some e
  | .kMovi e _ _ => some e
  | .kMovhi e _ _ => some e
  | .kSubi e _ _ _ => some e
  | .kLdw e _ _ _ => some e
  | .kStw e _ _ _ => some e
  | .kLdh e _ _ _ => some e
  | .kSth e _ _ _ => some e
  | .kBeq e _ _ _ => some e
  | .kBne e _ _ _ => some e
  | .kBlt e _ _ _ => some e
  | .kBge e _ _ _ => some e
  | .kBltu e _ _ _ => some e
  | .kBgeu e _ _ _ => some e
  | .kJal e _ _ => some e
  | .kJr e _ => some e
  | .kVld e _ _ _ _ => some e
  | .kVst e _ _ _ _ => some e
  | .kAld e _ _ _ _ => some e
  | .kAst e _ _ _ _ => some e
  | .kVmov e _ _ _ => some e
  | .kVadd e _ _ _ _ => some e
  | .kVsub e _ _ _ _ => some e
  | .kVadds e _ _ _ _ => some e
  | .kVsubs e _ _ _ _ => some e
  | .kVmin e _ _ _ _ => some e
  | .kVmax e _ _ _ _ => some e
  | .kVand e _ _ _ _ => some e
  | .kVor e _ _ _ _ => some e
  | .kVxor e _ _ _ _ => some e
  | .kVshli e _ _ _ _ => some e
  | .kVshri e _ _ _ _ => some e
  | .kVbc e _ _ _ => some e
  | .kVidx e _ _ => some e
  | .kVget e _ _ _ => some e
  | .kClra e _ _ => some e
  | .kAadd e _ _ _ => some e
  | .kAsub e _ _ _ => some e
  | .kAmac e _ _ _ _ => some e
  | .kAmacs e _ _ _ _ => some e
  | .kRshr e _ _ _ _ => some e
  | .kAmov e _ _ _ => some e
  | .kAadda e _ _ _ _ => some e
  | .kAshr e _ _ _ _ => some e
  | .kAbc e _ _ _ => some e
  | .kCeq e _ _ _ _ => some e
  | .kCltu e _ _ _ _ => some e
  | .kCleu e _ _ _ _ => some e
  | .kAclt e _ _ _ _ => some e
  | .kAceq e _ _ _ _ => some e
  | .kMand e _ _ _ _ => some e
  | .kMor e _ _ _ _ => some e
  | .kMandn e _ _ _ _ => some e
  | .kMxor e _ _ _ _ => some e
  | .kMsat e _ _ => some e
  | .kMcount e _ _ _ => some e
  | .kMulsh e _ _ _ _ _ _ => some e
  | .kLi e _ _ => some e
  | .kVbci e _ _ _ => some e
  | .kTaskWait e => some e
  | .kTaskGet e _ _ => some e
  | .kTaskDone e => some e
  | .kInEntry e _ => some ⟨e.val, by omega⟩
  | .kFactLoad e _ => some ⟨e.val, by omega⟩
  | .kCovRow e _ _ => some ⟨e.val, by omega⟩
  | .kOutRow e _ _ => some ⟨e.val, by omega⟩
  | .kHiveGet e _ _ => some ⟨e.val, by omega⟩
  | .kHivePut e _ _ => some ⟨e.val, by omega⟩
  | .kFip e _ _ _ => some ⟨e.val, by omega⟩
  | .kCntAdd e _ _ => some e
  | .kSpanCfg e _ => some ⟨e.val, by omega⟩
  | .kSpanRow e _ => some ⟨e.val, by omega⟩
  | .kXeLine e _ _ => some ⟨e.val, by omega⟩
  | .kXeArc e _ _ => some ⟨e.val, by omega⟩
  | .kSpan4 e _ _ => some ⟨e.val, by omega⟩
  | .kDenLd e _ _ => some ⟨144 + e.val, by omega⟩
  | .kFldLd e _ _ => some ⟨144 + e.val, by omega⟩
  | .kFacSt e _ _ => some ⟨144 + e.val, by omega⟩
  | .kTapu e _ _ _ _ _ => some ⟨144 + e.val, by omega⟩
  | .kTapv e _ _ _ _ => some ⟨144 + e.val, by omega⟩
  | .kReduce e _ _ _ _ _ => some ⟨144 + e.val, by omega⟩
  | .kExpand e _ _ _ _ _ => some ⟨144 + e.val, by omega⟩
  | .kKdiv e _ _ _ _ _ => some ⟨144 + e.val, by omega⟩
  | _ => none

/-! ### Program images (R249) -/

/-- Is every word from `i` on, `n` of them, a defined instruction within the program (R249)? -/
def wordsDefined (e : Fin 148) (image : Bytes) : Nat → Nat → Bool
  | _, 0 => true
  | i, n + 1 =>
    let w0 := progWord image i
    if 0x30 ≤ bits w0.toNat 31 26 then
      (match n with
        | 0 => false
        | n + 1 => (kDecode e w0 (progWord image (i + 1))).isSome && wordsDefined e image (i + 2) n)
    else (kDecode e w0 0).isSome && wordsDefined e image (i + 1) n

/-- The rejection code of an image for a target, 1 raster or 2 correction (R249). -/
def progCode (image : Bytes) (target : Nat) : Option Nat :=
  match progLayoutCode image target with
  | some c => some c
  | none =>
    let e : Fin 148 := if target = 1 then 0 else 144
    if wordsDefined e image 0 (progCount image) then none else some 5

end Sys2Proof.Machine
end

