-- ==== Sys2Proof/Machine/Tables.lean ====
section
/-!
DEFINITION. LOAD_TABLE: the checks of every table kind (R142, R143, R167 to R172, R249, R422) and when a pending table,
program or limit comes into force (R144, R173, R250, R410, R416 to R418).
-/

namespace Sys2Proof.Machine

open Sys2Proof.Bits

/-! ### Measurement -/

/-- The extend of measurement register `i` by a 48-byte digest (R391, R392). -/
def extend (i : Fin 8) (d : Bytes) (s : State) : State :=
  { s with sec := { s.sec with m := s.sec.m.set i (Check.sha384 (s.sec.m[i] ++ d)), mgen := s.sec.mgen + 1 } }

/-! ### Calibration records (R416, R417) -/

/-- A record changed. -/
def updRec (q : Nat) (f : CalRec → CalRec) (s : State) : State :=
  { s with cal := { s.cal with recs := upd s.cal.recs q f } }

/-- The set of quantity `q` takes over (R417). -/
def calTaken (q : Nat) (set : Bytes) (s : State) : State :=
  raise 253 q 0 (updRec q (fun r => { r with count := satAdd r.count 1, stamp := stamp s, good := set }) s)

/-- A set of quantity `q` is rejected or dropped with a calibration code (R417, R418). -/
def calRejected (q code seq : Nat) (s : State) : State :=
  raise 254 q seq (count 0x160110 1 (updRec q (fun r => { r with reject := code }) s))

/-- The last good set of quantity `q`. -/
def goodSet (s : State) (q : Nat) : Bytes := match s.cal.recs[q]? with | some r => r.good | none => []

/-! ### Correction tables (R141 to R143) -/

/-- Little-endian 16-bit fields of a byte string. -/
def words16 : Bytes → List Nat
  | a :: b :: r => (a.toNat + 256 * b.toNat) :: words16 r
  | _ => []

/-- Little-endian 32-bit fields of a byte string. -/
def words32 : Bytes → List Nat
  | a :: b :: c :: d :: r => leNat [a, b, c, d] :: words32 r
  | _ => []

/-- The sum of a symmetric kernel of stored taps (R142). -/
def tapSum (taps : List Nat) : Nat := match taps with | [] => 0 | t :: r => t + 2 * r.sum

/-- Do taps break R142: one beyond its radius that is not 0, or a sum above 65 536? -/
def tapsBad (radius : Nat) (taps : List Nat) : Bool := (taps.drop (radius + 1)).any (· ≠ 0) || decide (65536 < tapSum taps)

/-- The bytes of term `g`. -/
def kernelTerm (t : Bytes) (g : Nat) : Bytes := slice t (32 + 40 * g) 40

/-- Is a reserved field of a kernel table not 0 (R142)? -/
def kernelReserved (t : Bytes) : Bool :=
  !(zeros t 7 1 && zeros t 20 12 && zeros t 194 2 && zeros t 326 58 &&
    (List.range 4).all (fun g => if byteAt t 3 ≤ g then zeros t (32 + 40 * g) 40 else zeros t (32 + 40 * g + 38) 2))

/-- Are the used terms of a kernel table. -/
def kernelTerms (t : Bytes) : List Bytes := (List.range (min 4 (byteAt t 3))).map (kernelTerm t)

/-- The rejection code of a kernel table (R142). -/
def kernelCode (t : Bytes) : Option Nat :=
  if t.length ≠ 384 then some 8
  else if field t 0 2 ≠ 0x4B43 || byteAt t 2 ≠ 1 then some 1
  else if kernelReserved t then some 7
  else if 4 < byteAt t 3 || byteAt t 4 < 1 || 4 < byteAt t 4 || byteAt t 5 < 1 || 16 < byteAt t 5 || 64 < byteAt t 6 ||
      (kernelTerms t).any (fun g => decide (5 < byteAt g 0) || decide (16 < byteAt g 1)) then some 2
  else if (kernelTerms t).any (fun g => tapsBad (byteAt g 1) (words16 (slice g 4 34))) ||
      tapsBad (byteAt t 6) (words16 (slice t 196 130)) then some 3
  else if field t 8 4 < 1 || 131071 < field t 8 4 || field t 12 4 < 1 || 131071 < field t 12 4 then some 4
  else if field t 18 2 < field t 16 2 then some 5
  else none

/-- The rejection code of a field density table (R142, R143). -/
def fieldCode (t : Bytes) : Option Nat :=
  let nx := field t 12 2
  let ny := field t 14 2
  if t.length ≠ roundUp (32 + 4 * nx * ny) 64 then some 8
  else if field t 0 2 ≠ 0x4644 || byteAt t 2 ≠ 1 then some 1
  else if !(zeros t 3 1 && zeros t 16 16 && (t.drop (32 + 4 * nx * ny)).all (· == 0)) then some 7
  else if nx < 1 || 4096 < nx || ny < 1 || 4096 < ny ||
      (words32 (slice t 32 (4 * nx * ny))).any (fun d => decide (65536 < d)) then some 6
  else none

/-! ### Beam-map tables (R167 to R172) -/

/-- The entries of a beam table: gain, offset and the reserved byte. -/
def beamEntries : Bytes → List (Nat × Int × Byte)
  | a :: b :: c :: d :: r => (a.toNat + 256 * b.toNat, c.toInt, d) :: beamEntries r
  | _ => []

/-- Is the 64-byte header of a table that of a magic number, version 1 and zeros? -/
def headerOk (t : Bytes) (magic : Nat) : Bool := field t 0 2 == magic && byteAt t 2 == 1

/-- Does a gain or offset lie outside the limits (R172, R418)? -/
def beamOutside (limits t : Bytes) : Bool :=
  (beamEntries (t.drop 64)).any (fun e =>
    decide (e.1 < field limits 4 2) || decide (field limits 6 2 < e.1) ||
    decide (e.2.1 < sfield limits 8 1) || decide (sfield limits 9 1 < e.2.1))

/-- Has a gain changed from the last good set by more than GAIN_STEP (R172, R417)? -/
def beamJumps (limits good t : Bytes) : Bool :=
  let step := field limits 10 2
  step != 0 && !good.isEmpty &&
  ((beamEntries (good.drop 64)).zip (beamEntries (t.drop 64))).any
    (fun p => decide ((p.1.1 : Int) - p.2.1 < -(step : Int)) || decide ((step : Int) < (p.1.1 : Int) - p.2.1))

/-- The calibration code of a beam table against limits (R417): outside, then step. -/
def beamLimit (limits good t : Bytes) : Option Nat :=
  if beamOutside limits t then some 1 else if beamJumps limits good t then some 2 else none

/-- The rejection code of a beam table, and its calibration code (R172, R417). -/
def beamCode (s : State) (t : Bytes) : Option (Nat × Option Nat) :=
  if t.length ≠ 1048640 then some (2, none)
  else if !headerOk t 0x4247 then some (1, none)
  else if !zeros t 3 61 || (beamEntries (t.drop 64)).any (fun e => e.2.2 ≠ 0) then some (3, none)
  else match beamLimit s.cal.limits (goodSet s 0) t with
    | some c => some (6, some c)
    | none => none

/-- Bits set in a byte. -/
def ones (n : Nat) : Nat := ((List.range 8).map (fun i => b2n (bit n i))).sum

/-- Dead beams of a mask (R170). -/
def deadCount (t : Bytes) : Nat := ((t.drop 64).map (fun b => ones b.toNat)).sum

/-- The greatest number of dead beams in a group (R14, R168): the four beams of a group lie 8 192 bytes apart. -/
def worstGroup (t : Bytes) : Nat :=
  let q (n : Nat) : Bytes := slice t (64 + 8192 * n) 8192
  let most (x : (Byte × Byte) × (Byte × Byte)) : Nat :=
    ((List.range 8).map (fun i =>
      b2n (x.1.1.getLsbD i) + b2n (x.1.2.getLsbD i) + b2n (x.2.1.getLsbD i) + b2n (x.2.2.getLsbD i))).foldl max 0
  ((((q 0).zip (q 1)).zip ((q 2).zip (q 3))).map most).foldl max 0

/-- Does a mask have more dead beams than DEAD_MAX? -/
def maskOutside (limits t : Bytes) : Bool := decide (field limits 12 4 < deadCount t)

/-- The rejection code of a dead-beam mask, and its calibration code (R168, R172, R417). -/
def maskCode (s : State) (t : Bytes) : Option (Nat × Option Nat) :=
  if t.length ≠ 32832 then some (2, none)
  else if !headerOk t 0x4D44 then some (1, none)
  else if !zeros t 3 61 then some (3, none)
  else if s.sec.substLimit < worstGroup t then some (5, none)
  else if maskOutside s.cal.limits t then some (6, some 1)
  else none

/-- Does entry `m` of a slot weight table meet R167? -/
def weightEntryOk (t : Bytes) (m : Nat) : Bool :=
  let w (n : Nat) : Nat := field t (64 + 8 * m + 2 * n) 2
  let sum := w 0 + w 1 + w 2 + w 3
  (List.range 4).all (fun n => bit m n || w n == 0) && (if m = 0 then sum == 0 else decide (32765 ≤ sum) && decide (sum ≤ 32771))

/-- The rejection code of a slot weight table (R172). -/
def weightCode (t : Bytes) : Option (Nat × Option Nat) :=
  if t.length ≠ 192 then some (2, none)
  else if !headerOk t 0x5753 then some (1, none)
  else if !zeros t 3 61 then some (3, none)
  else if !(List.range 16).all (weightEntryOk t) then some (4, none)
  else none

/-! ### The link equalization set (R422) -/

/-- The four bytes of lane `w`. -/
def eqEntry (t : Bytes) (w : Nat) : Bytes := slice t (64 + 4 * w) 4

/-- Does the set have the layout of R422? -/
def eqLayout (t : Bytes) : Bool :=
  t.length == 1216 && headerOk t 0x5145 && zeros t 3 61 &&
  (List.range 288).all (fun w =>
    let e := eqEntry t w
    byteAt e 3 == 0 && (if w % 18 == 17 then byteAt e 0 == 0 && byteAt e 1 == 0 else true))

/-- Is a value of the set outside its limit? -/
def eqOutside (limits t : Bytes) : Bool :=
  (List.range 288).any (fun w =>
    let e := eqEntry t w
    if w % 18 == 17 then decide (byteAt limits 42 < byteAt e 2)
    else decide (byteAt limits 38 < byteAt e 0) || decide (byteAt e 1 < byteAt limits 40) ||
      decide (byteAt limits 41 < byteAt e 1) || decide (byteAt limits 39 < byteAt e 2))

/-- The calibration code of a link equalization set (R417, R422). -/
def eqCode (s : State) (t : Bytes) : Option Nat :=
  if !eqLayout t then some 4 else if eqOutside s.cal.limits t then some 1 else none

/-! ### LOAD_TABLE -/

/-- A table accepted: DEFERRED (R144, R173, R250). -/
def deferred : End := { status := 2 }

/-- A correction table (R142, R144). -/
def loadCorrection (kernel : Bool) (q : Nat) (t : Bytes) (s : State) : State :=
  match (if kernel then kernelCode t else fieldCode t) with
  | some c => finish q (malformed c 3) (raise 96 0 q (count 0x0B002C 1 (setRegN 0x0B000C c s)))
  | none =>
    let p := s.pec
    finish q deferred { s with pec :=
      if kernel then { p with kernel := { p.kernel with pend := some t } } else { p with field := { p.field with pend := some t } } }

/-- A beam-map table's rejection (R172, R417); `qty` is its calibrated quantity. -/
def beamMapReject (code : Nat) (cal : Option Nat) (qty q : Nat) (s : State) : State :=
  let s1 := raise 104 0 q (count 0x0C003C 1 (setRegN 0x0C0018 code s))
  finish q (malformed code 4) (match cal with | some c => calRejected qty c q s1 | none => s1)

/-- A beam table (R169, R173). -/
def loadBeam (q : Nat) (t : Bytes) (s : State) : State :=
  match beamCode s t with
  | some (c, cal) => beamMapReject c cal 0 q s
  | none => finish q deferred { s with bmu := { s.bmu with beam := { s.bmu.beam with pend := some t } } }

/-- A dead-beam mask (R170, R173). -/
def loadMask (q : Nat) (t : Bytes) (s : State) : State :=
  match maskCode s t with
  | some (c, cal) => beamMapReject c cal 1 q s
  | none => finish q deferred { s with bmu := { s.bmu with mask := { s.bmu.mask with pend := some t } } }

/-- A slot weight table (R171, R173). -/
def loadWeight (q : Nat) (t : Bytes) (s : State) : State :=
  match weightCode t with
  | some (c, cal) => beamMapReject c cal 0 q s
  | none => finish q deferred { s with bmu := { s.bmu with weight := { s.bmu.weight with pend := some t } } }

/-- A program image for target 1 or 2 (R249, R250, R292). -/
def loadProgram (target q : Nat) (t : Bytes) (s : State) : State :=
  if (byteAt t 3 = 1 || byteAt t 3 = 2) && byteAt t 3 ≠ target then finish q (malformed 0x34 1) s
  else match progCode t target with
    | some c => finish q (malformed c 5) (raise 74 0 q (setRegN 0x05C034 c s))
    | none =>
      let c := s.comb
      finish q deferred { s with comb :=
        if target = 1 then { c with re := { c.re with pend := some t } } else { c with ce := { c.ce with pend := some t } } }

/-- A link equalization set (R417, R422). -/
def loadEq (q : Nat) (t : Bytes) (s : State) : State :=
  match eqCode s t with
  | some c => finish q (malformed c 9) (calRejected 4 c q s)
  | none => finish q deferred { s with cal := { s.cal with eq := some t } }

/-- The lowest frozen channel. -/
def frozenChannel (s : State) : Option (Fin 16) := (List.finRange 16).find? (fun c => (s.mem.ch[c]).st == 6)

/-- The failing DRAM address of channel `c` (R331). -/
def memErrAddr (s : State) (c : Nat) : Nat := reg64 s (0x100008 + 0x1000 * c)

/-- Is a memory group off, or on its way off (R333, R363)? -/
def memoryOff (s : State) : Bool := [0, 1, 2, 3].any (fun g => !groupOpen s g)

/-- How a command that needs DRAM ends on a frozen channel or a powered-down group (R331, R333). -/
def memoryFault (s : State) : Option End :=
  match frozenChannel s with
  | some c => some { status := 0xC, arg0 := memErrAddr s c.val, arg1 := c.val }
  | none => if memoryOff s then some { status := 0xC } else none

/-- Can a table be read: the host is reachable, channel 11 or 12 moves data, and the transfer is neither paused nor to be
read again (R292, R307, R356, R357)? -/
def tableReadable (s : State) : Bool :=
  reachable s && (chanRuns s 11 || chanRuns s 12) && s.job.loadErr.isNone && s.dma.toList.all (fun x => x.owner == 0)

/-- The channel of a table load has moved a structure of `n` bytes from `host` (R307). -/
def tableMoved (host n : Nat) (s : State) : State :=
  updChan (tableChan s).val (fun x => { x with bytes := n, cur := host + n }) s

/-- LOAD_TABLE of one kind, when it is the command that starts next and the bytes read are those its entry names
(R292, R293). -/
def loadTable (kind : Nat) (run : Nat → Bytes → State → State) (t : Bytes) (s : State) : State :=
  match startable s 3 with
  | none => s
  | some l =>
    if entryKind16 l.entry ≠ kind || t.length ≠ field l.entry 32 4 || !tableReadable s then s
    else match memoryFault s with
      | some e => finish l.seq e s
      | none => run l.seq t (tableMoved (field l.entry 24 8) t.length (allRequests s))

/-- LOAD_TABLE_KERNEL (R142). -/
def execLoadTableKernel (t : Bytes) (s : State) : Host.Outcome State Fault Refusal :=
  .next (loadTable 1 (loadCorrection true) t s)

/-- LOAD_TABLE_FIELD (R143). -/
def execLoadTableField (t : Bytes) (s : State) : Host.Outcome State Fault Refusal :=
  .next (loadTable 2 (loadCorrection false) t s)

/-- LOAD_TABLE_BEAM (R172). -/
def execLoadTableBeam (t : Bytes) (s : State) : Host.Outcome State Fault Refusal := .next (loadTable 3 loadBeam t s)

/-- LOAD_TABLE_MASK (R172). -/
def execLoadTableMask (t : Bytes) (s : State) : Host.Outcome State Fault Refusal := .next (loadTable 4 loadMask t s)

/-- LOAD_TABLE_WEIGHT (R172). -/
def execLoadTableWeight (t : Bytes) (s : State) : Host.Outcome State Fault Refusal := .next (loadTable 5 loadWeight t s)

/-- LOAD_TABLE_RASTER_PROGRAM (R249). -/
def execLoadTableRasterProgram (t : Bytes) (s : State) : Host.Outcome State Fault Refusal :=
  .next (loadTable 6 (loadProgram 1) t s)

/-- LOAD_TABLE_CORRECTION_PROGRAM (R249). -/
def execLoadTableCorrectionProgram (t : Bytes) (s : State) : Host.Outcome State Fault Refusal :=
  .next (loadTable 7 (loadProgram 2) t s)

/-- LOAD_TABLE_LINK_EQ (R422). -/
def execLoadTableLinkEq (t : Bytes) (s : State) : Host.Outcome State Fault Refusal := .next (loadTable 8 loadEq t s)

/-- The command that is next and reads a structure it names: LOAD_TABLE, BIND_STREAM or SET_GUARDED (R292, R82, R402;
log 27). -/
def loadUnderWay (s : State) : Option Live :=
  match nextStart s with
  | some l => if entryOp l.entry = 3 || entryOp l.entry = 4 || entryOp l.entry = 11 then some l else none
  | none => none

/-- A table load ends with PART_FAULT, source DMA, with the bytes moved and the channel (R357, R307). -/
def loadFault (q : Nat) (bytes c : Nat) (s : State) : State :=
  finish q { status := 0xC, code := 2, source := 11, arg0 := bytes, arg1 := c }
    { s with
      job := { s.job with loadErr := none },
      dma := s.dma.map (fun x => if x.owner = q then { x with owner := 0 } else x) }

/-- The channel whose transfer a command owns. -/
def ownerChannel (s : State) (q : Nat) : Nat := if (s.dma[12]).owner = q then 12 else 11

/-- Bytes of the structures that a live command names (R292, R82, R402). -/
def structBytes (s : State) (q : Nat) : Nat :=
  match s.job.live.find? (·.seq == q) with
  | some l => if entryOp l.entry = 4 then 16 * field l.entry 24 8 + 64 * field l.entry 40 4 else field l.entry 32 4
  | none => 0

/-- The second read of a table load (R357): it ends the command, or the load goes on; none is made while the host is
unreachable (R356). How many bytes had moved before the error is open (log 29). -/
def loadReread (err : Bool) (s : State) : State :=
  match s.job.loadErr with
  | none => s
  | some q =>
    let c := ownerChannel s q
    let n := (freeNow s).toNat % (structBytes s q + 1)
    if !reachable s then s
    else if err then
      loadFault q n c (count 0x17002C 1 (freeNext (updChan c (fun x => { x with bytes := n }) s)))
    else
      { s with
        job := { s.job with loadErr := none },
        dma := s.dma.map (fun x => if x.owner = q then { x with owner := 0 } else x) }

/-- TABLE_LOAD_REREAD (R357). -/
def execTableLoadReread (err : Bool) (s : State) : Host.Outcome State Fault Refusal := .next (loadReread err s)

/-! ### Coming into force -/

/-- The pending kernel table comes into force (R144). -/
def kernelInForce (s : State) : State :=
  match s.pec.kernel.pend with
  | some t => raise 97 0 0 { s with pec := { s.pec with kernel := { cur := some t, pend := none } } }
  | none => s

/-- The pending field density table comes into force (R144). -/
def fieldInForce (s : State) : State :=
  match s.pec.field.pend with
  | some t => raise 97 0 0 { s with pec := { s.pec with field := { cur := some t, pend := none } } }
  | none => s

/-- Is a bank free: no executing command runs from it (R250)? -/
def bankFree (s : State) (raster b : Bool) : Bool :=
  (match s.job.forage with | some f => (if raster then f.bankRe else f.bankCe) != b | none => true) &&
  (match s.job.write with | some w => (if raster then w.bankRe else w.bankCe) != b | none => true)

/-- The bank a pending program takes. -/
def bankFor (s : State) (raster : Bool) (p : ProgSet) : Option Bool :=
  if bankFree s raster !p.bank then some !p.bank else if bankFree s raster p.bank then some p.bank else none

/-- A program set with an image placed in a bank and in force. -/
def placeProg (t : Bytes) (b : Bool) (p : ProgSet) : ProgSet :=
  if b == p.bank then { p with cur := t, pend := none } else { cur := t, bank := b, other := some p.cur, pend := none }

/-- A pending program comes into force, if a bank is free (R250); M5 is extended (R391), and a raster program flushes the
hive cache (R347). -/
def programInForce (raster : Bool) (s : State) : State :=
  let p := if raster then s.comb.re else s.comb.ce
  match p.pend, bankFor s raster p with
  | some t, some b =>
    let c := s.comb
    let s1 := { s with comb := if raster then { c with re := placeProg t b p } else { c with ce := placeProg t b p } }
    let s2 := raise 75 0 0 (extend 5 (Check.sha384 t) s1)
    if raster then hiveFlush s2 else s2
  | _, _ => s

/-- Correction tables and programs come into force (R144, R250). -/
def correctionInForce (s : State) : State := programInForce false (programInForce true (fieldInForce (kernelInForce s)))

/-- The pending beam table comes into force (R173). -/
def beamInForce (s : State) : State :=
  match s.bmu.beam.pend with
  | some t => calTaken 0 t (raise 105 0 0 { s with bmu := { s.bmu with beam := { cur := some t, pend := none } } })
  | none => s

/-- The pending dead-beam mask comes into force (R173). -/
def maskInForce (s : State) : State :=
  match s.bmu.mask.pend with
  | some t => calTaken 1 t (raise 105 0 0 { s with bmu := { s.bmu with mask := { cur := some t, pend := none } } })
  | none => s

/-- The pending slot weight table comes into force (R173). -/
def weightInForce (s : State) : State :=
  match s.bmu.weight.pend with
  | some t => raise 105 0 0 { s with bmu := { s.bmu with weight := { cur := some t, pend := none } } }
  | none => s

/-! ### Sensor trims and limits -/

/-- The trims as a load layout: N25 and K of each sensor, u32 each (log 25). -/
def trimBytes (s : State) (n25 : List Nat) : Bytes :=
  (List.range 48).flatMap (fun n =>
    natLe (n25.getD n 0) 4 ++ natLe ((s.thm.sensors.toList.map (·.k)).getD n 0) 4)

/-- New trims take over (R416, R420). -/
def takeTrims (n25 : List Nat) (s : State) : State :=
  let b := trimBytes s n25
  calTaken 3 b { s with
    cal := { s.cal with trims := none },
    thm := { s.thm with sensors := Vector.ofFn (fun n : Fin 48 =>
      { s.thm.sensors[n] with n25 := n25.getD n.val (s.thm.sensors[n]).n25 }) } }

/-- The calibration code of new trims against limits (R420). The slope of a sensor is kept, so K is checked too. -/
def trimCode (limits : Bytes) (s : State) (n25 : List Nat) : Option Nat :=
  let one (n : Fin 48) : Nat × Nat × Nat := (n25.getD n.val 0, (s.thm.sensors[n]).n25, (s.thm.sensors[n]).k)
  let all := ((List.finRange 48).filter (fun n => decide (n.val < 44))).map one
  if all.any (fun x => decide (x.1 < field limits 24 4) || decide (field limits 28 4 < x.1) ||
      decide (x.2.2 < field limits 32 2) || decide (field limits 34 2 < x.2.2)) then some 1
  else if all.any (fun x => decide (field limits 36 2 < ((x.1 : Int) - x.2.1).natAbs * x.2.2 / 4096)) then some 2
  else none

/-- A pending set dropped under code 6 when it fails the new limits (R418). -/
def dropIf (bad : Bool) (q : Nat) (drop : State → State) (s : State) : State :=
  if bad then calRejected q 6 0 (drop s) else s

/-- New plausibility limits come into force, and every pending set is checked again (R418). -/
def limitsInForce (s : State) : State :=
  match s.cal.newLimits with
  | none => s
  | some l =>
    let s1 := { s with cal := { s.cal with limits := l, newLimits := none } }
    let beam := match s1.bmu.beam.pend with | some t => (beamLimit l (goodSet s1 0) t).isSome | none => false
    let mask := match s1.bmu.mask.pend with | some t => maskOutside l t | none => false
    let trims := match s1.cal.trims with | some t => (trimCode l s1 t).isSome | none => false
    let eq := match s1.cal.eq with | some t => eqOutside l t | none => false
    let s2 := dropIf beam 0 (fun s => { s with bmu := { s.bmu with beam := { s.bmu.beam with pend := none } } }) s1
    let s3 := dropIf mask 1 (fun s => { s with bmu := { s.bmu with mask := { s.bmu.mask with pend := none } } }) s2
    let s4 := dropIf trims 3 (fun s => { s with cal := { s.cal with trims := none } }) s3
    dropIf eq 4 (fun s => { s with cal := { s.cal with eq := none } }) s4

/-- Pending sensor trims take over at a stripe boundary (R416). -/
def trimsInForce (s : State) : State := match s.cal.trims with | some t => takeTrims t s | none => s

/-- Beam-map tables come into force (R173). -/
def beamMapInForce (s : State) : State := weightInForce (maskInForce (beamInForce s))

end Sys2Proof.Machine
end

