-- ==== Sys2Proof/Machine/Calibrate.lean ====
section
/-!
DEFINITION. Self-calibration and the copy of a last good set (R192, R416, R417, R419 to R421; 17_heat_power_calibration).
-/

namespace Sys2Proof.Machine

open Sys2Proof.Bits

/-- Ends with REFUSED_STATE and a calibration code (R417). -/
def calRefused (code : Nat) : End := { status := 4, code := code, source := 9 }

/-- A calibration of the same target runs already (R417): refused with reason CALIBRATE_BUSY; the record of the quantity
keeps the code. -/
def calBusy (qty q : Nat) (s : State) : State := finish q (refusedState 0x11) (updRec qty (fun r => { r with reject := 5 }) s)

/-- The final completion of a calibration command; none for a start's own calibration. -/
def calFinish (q : Nat) (e : End) (s : State) : State := if q = 0 then s else finish q e s

/-! ### The TDC (R419) -/

/-- CALIBRATE target 1 (R419). -/
def tdcBegin (s : State) : State :=
  match startable s 8 with
  | none => s
  | some l =>
    if entryKind16 l.entry ≠ 1 then s
    else if s.cal.tdcRun.isSome then calBusy 2 l.seq s
    else if s.job.write.isNone then startTdc l.seq (setPhase l.seq .running s)
    else if entryWait l.entry then
      if s.cal.tdcWait.isSome then calBusy 2 l.seq s else
      let s1 := setPhase l.seq .waiting s
      { s1 with cal := { s1.cal with tdcWait := some l.seq } }
    else finish l.seq (refusedState 0x15) s

/-- Edges of the code-density test (R419). -/
def tdcEdges : Nat := 1048576

/-- The width of a tap in femtoseconds, its share of the hits times 6.4 ns, rounded down where it is stored. -/
def tapWidth (hits : Nat) : Nat := hits * 6400000 / tdcEdges

/-- Does a tap break its limits (R419)? The width is compared exactly, as a fraction over the edges. -/
def tapOutside (limits : Bytes) (hits : Nat) : Bool :=
  let w := hits * 6400000
  decide (w < field limits 16 2 * tdcEdges) || decide (field limits 18 2 * tdcEdges < w) ||
  decide (field limits 20 2 * tdcEdges < ((w : Int) - 20000 * tdcEdges).natAbs)

/-- The calibration code of a code-density test (R417, R419): too few hits, or a tap outside its limits. -/
def tdcCode (limits : Bytes) (hits : List Nat) : Option Nat :=
  if hits.length ≠ 320 || hits.sum < tdcEdges then some 3
  else if hits.any (tapOutside limits) then some 1
  else none

/-- A code-density test ends for the command `q` (R417, R419). -/
def tdcDone (q : Nat) (hits : List Nat) (s : State) : State :=
  let s1 := { s with cal := { s.cal with tdcRun := none } }
  match tdcCode s.cal.limits hits with
  | some c => calFinish q (calRefused c) (calRejected 2 c q s1)
  | none => calFinish q { status := 0 } (calTaken 2 (hits.flatMap (fun h => natLe (tapWidth h) 4)) s1)

/-! ### The sensors (R420) -/

/-- CALIBRATE target 2 (R420). -/
def sensorsBegin (s : State) : State :=
  match startable s 8 with
  | none => s
  | some l =>
    if entryKind16 l.entry ≠ 2 then s
    else if s.cal.sensRun.isSome then calBusy 3 l.seq s
    else
      let s1 := setPhase l.seq .running s
      { s1 with cal := { s1.cal with sensRun := some l.seq } }

/-- The die of a sensor: 0 the hub, 1 + n quadrant Qn with its stack (R420). -/
def sensorDie (n : Nat) : Nat := if n < 8 then 0 else if n < 40 then 1 + (n - 8) / 8 else 1 + (n - 40)

/-- N25′ of a sensor (R420); with a slope of 0 the quotient is open. -/
def newTrim (s : State) (k count : Nat) (r16 : Int) : Int :=
  if k = 0 then (freeNow s).toNat
  else count + fdiv ((r16 - 400) * 4096 + ((k / 2 : Nat) : Int)) k

/-- The new trims of all sensors; the power stage keeps its own (R420). -/
def newTrims (s : State) (diodes : List Int) (counts : List Nat) : List Int :=
  (List.finRange 48).map (fun n : Fin 48 =>
    let x := s.thm.sensors[n]
    if n.val < 44 then newTrim s x.k (counts.getD n.val 0) (diodes.getD (sensorDie n.val) 0) else (x.n25 : Int))

/-- The calibration code of a trim measurement (R417, R420). -/
def sensorsCode (s : State) (diodes trims : List Int) : Option Nat :=
  if diodes.length ≠ 5 || diodes.any (fun d => decide (d < -640) || decide (2400 < d)) then some 3
  else if trims.any (fun x => decide (x < 0)) then some 1
  else trimCode s.cal.limits s (trims.map Int.toNat)

/-- A trim calibration ends for the command `q`: the set takes over, at once or at the next stripe boundary while a write
executes, or is rejected (R416, R417, R420). -/
def sensorsDone (q : Nat) (diodes : List Int) (counts : List Nat) (s : State) : State :=
  let trims := newTrims s diodes counts
  let s1 := freeNext { s with cal := { s.cal with sensRun := none } }
  match sensorsCode s diodes trims with
  | some c => calFinish q (calRefused c) (calRejected 3 c q s1)
  | none =>
    let set := trims.map Int.toNat
    calFinish q { status := 0 }
      (if s.job.write.isSome then { s1 with cal := { s1.cal with trims := some set } } else takeTrims set s1)

/-- A self-calibration ends (R417). -/
def calEnd (r : CalResult) (s : State) : State :=
  match r with
  | .tdc hits => (match s.cal.tdcRun with | some q => tdcDone q hits s | none => s)
  | .sensors diodes counts => (match s.cal.sensRun with | some q => sensorsDone q diodes counts s | none => s)

/-! ### The copy of a last good set (R416) -/

/-- A write of GO to `CAL.COPY_CTL`: the last good set of QUANTITY is copied; nothing while a copy runs, for a quantity that
does not exist, a misaligned address or one outside installed DRAM. -/
def copyBegin (s : State) : State :=
  let q := regBits s 0x160100 2 0
  let dst := reg64 s 0x160104
  let b := goodSet s q
  if s.cal.copy.isSome || 4 < q || dst % 64 ≠ 0 || dramSize < dst + b.length then s
  else { s with cal := { s.cal with copy := some (dst, b) } }

/-- A write of `CAL.COPY_CTL`: QUANTITY, then GO. -/
def copyCtl (v : Word) (s : State) : State :=
  let s1 := writeStored 0x160100 v s
  if bit v.toNat 31 then copyBegin s1 else s1

/-- The copy ends. Memory that cannot be reached takes nothing. -/
def copyEnd (s : State) : State :=
  match s.cal.copy with
  | none => s
  | some (dst, b) =>
    let s1 := { s with cal := { s.cal with copy := none } }
    if memoryOff s || memoryBad s then s1 else dramWrite dst b (rangeRequest dst b.length s1)

/-! ### The commands -/

/-- CALIBRATE_TDC (R419). -/
def execCalibrateTdc (s : State) : Host.Outcome State Fault Refusal := .next (tdcBegin s)

/-- CALIBRATE_SENSORS (R420). -/
def execCalibrateSensors (s : State) : Host.Outcome State Fault Refusal := .next (sensorsBegin s)

/-- CALIBRATION_END (R417). -/
def execCalibrationEnd (r : CalResult) (s : State) : Host.Outcome State Fault Refusal := .next (calEnd r s)

/-- CAL_COPY_GO (R416). -/
def execCalCopyGo (s : State) : Host.Outcome State Fault Refusal := .next (barWrite copyBegin s)

/-- CAL_COPY_END (R416). -/
def execCalCopyEnd (s : State) : Host.Outcome State Fault Refusal := .next (copyEnd s)

end Sys2Proof.Machine
end

