-- ==== Sys2Proof/Machine/Ecdsa.lean ====
section
/-!
DEFINITION. The verification of an ECDSA signature over P-384 with SHA-384 (FIPS 186-5), which R393, R402 and R403
name. The curve's constants and the verification steps are the named standard's, not this manual's.
-/

namespace Sys2Proof.Ecdsa

/-- The field prime of P-384. -/
def p : Nat := 0xfffffffffffffffffffffffffffffffffffffffffffffffffffffffffffffffeffffffff0000000000000000ffffffff

/-- The order of the base point. -/
def n : Nat := 0xffffffffffffffffffffffffffffffffffffffffffffffffc7634d81f4372ddf581a0db248b0a77aecec196accc52973

/-- The coefficient b. -/
def b : Nat := 0xb3312fa7e23ee7e4988e056be3f82d19181d9c6efe8141120314088f5013875ac656398d8a2ed19d2a85c8edd3ec2aef

/-- The base point. -/
def gx : Nat := 0xaa87ca22be8b05378eb1c71ef320ad746e1d3b628ba79b9859f741e082542a385502f25dbf55296c3a545e3872760ab7
/-- The base point. -/
def gy : Nat := 0x3617de4a96262c6f5d9e98bf9292dc29f8f41dbd289a147ce9da3113b5f0b8c00a60b1ce1d7e819d7a431d7c90ea0e5f

/-- `x ^ e mod m`, by squaring over the `k` low bits of `e`. -/
def powMod (m : Nat) : Nat → Nat → Nat → Nat
  | 0, _, _ => 1 % m
  | k + 1, x, e =>
    let r := powMod m k (x * x % m) (e / 2)
    if e % 2 = 1 then r * x % m else r

/-- The inverse modulo a prime (Fermat). -/
def inv (m x : Nat) : Nat := powMod m 384 (x % m) (m - 2)

/-- The sum of two points; `none` is the point at infinity. -/
def addPt : Option (Nat × Nat) → Option (Nat × Nat) → Option (Nat × Nat)
  | none, q => q
  | a, none => a
  | some (x1, y1), some (x2, y2) =>
    if x1 = x2 ∧ (y1 + y2) % p = 0 then none
    else
      let l := if x1 = x2 then (3 * x1 * x1 + (p - 3)) * inv p (2 * y1) % p
               else (y2 + p - y1) * inv p (x2 + p - x1) % p
      let x3 := (l * l + 2 * p - x1 - x2) % p
      some (x3, (l * (x1 + p - x3) + p - y1) % p)

/-- `k` times a point, over the `f` low bits of `k`. -/
def mulPt : Nat → Nat → Option (Nat × Nat) → Option (Nat × Nat)
  | 0, _, _ => none
  | f + 1, k, q =>
    let r := mulPt f (k / 2) (addPt q q)
    if k % 2 = 1 then addPt q r else r

/-- A big-endian integer. -/
def be (bs : Bytes) : Nat := bs.foldl (fun a x => a * 256 + x.toNat) 0

/-- Is `sig` (r ‖ s) a valid signature under `key` (X ‖ Y) over the SHA-384 of `m`? -/
def verify (key m sig : Bytes) : Bool :=
  let x := be (key.take 48)
  let y := be ((key.drop 48).take 48)
  let r := be (sig.take 48)
  let s := be ((sig.drop 48).take 48)
  let onCurve := decide (x < p) && decide (y < p) && decide (y * y % p = (x * x * x + (p - 3) * x + b) % p)
  let e := be (Check.sha384 m)
  let w := inv n s
  let q := addPt (mulPt 384 (e * w % n) (some (gx, gy))) (mulPt 384 (r * w % n) (some (x, y)))
  decide (key.length = 96) && decide (sig.length = 96) && onCurve
    && decide (1 ≤ r) && decide (r < n) && decide (1 ≤ s) && decide (s < n)
    && (match q with | none => false | some (vx, _) => decide (vx % n = r))

end Sys2Proof.Ecdsa
end

