-- ==== Sys2Proof/Machine/Guard.lean ====
section
/-!
DEFINITION. The security block (16_trust_and_guarded_settings): firmware images and the measured start (R391 to R395),
quotes (R396), principals and guarded settings (R397 to R401) and the approval protocol (R402 to R404).
-/

namespace Sys2Proof.Machine

open Sys2Proof.Bits

/-- The security block changed. -/
def updSec (f : Sec → Sec) (s : State) : State := { s with sec := f s.sec }

/-- Are both principals enrolled (R397)? -/
def enrolled (s : State) : Bool := !s.sec.hostKey.isEmpty

/-! ### Firmware images (R393) -/

/-- LEN of an image. -/
def fwLen (b : Bytes) : Nat := field b 8 4

/-- The header and the measured bytes of an image. -/
def imageHead (b : Bytes) : Bytes := slice b 0 112
/-- Bytes 512 to LEN − 1. -/
def imageBody (b : Bytes) : Bytes := slice b 512 (fwLen b - 512)

/-- Does a slot's image meet the header table (R393)? -/
def imageForm (b : Bytes) : Bool :=
  field b 0 2 == 0x4647 && byteAt b 2 == 1 && byteAt b 3 == 0 && fwLen b % 4096 == 0 &&
  decide (4096 ≤ fwLen b) && decide (fwLen b ≤ 134217728) && decide (fwLen b ≤ b.length) && zeros b 208 304

/-- Does an image verify (R393)? -/
def imageVerifies (minSvn : Nat) (b : Bytes) : Bool :=
  imageForm b && Check.sha384 (slice b 16 96) == Config.fusedKeyDigest && decide (minSvn ≤ field b 4 4) &&
  Ecdsa.verify (slice b 16 96) (imageHead b ++ imageBody b) (slice b 112 96)

/-- The NOR slot: B for true. -/
def norSlot (s : State) (b : Bool) : Bytes := if b then s.sec.norB else s.sec.norA

/-- A NOR slot written. -/
def setSlot (b : Bool) (image : Bytes) (s : State) : State :=
  updSec (fun x => if b then { x with norB := image } else { x with norA := image }) s

/-! ### The measured start (R391 to R394) -/

/-- The 192 bytes of the principals' keys, zero where not enrolled. -/
def keyBytes (s : State) : Bytes := if enrolled s then s.sec.hostKey ++ s.sec.maintKey else List.replicate 192 0

/-- The guard record (table of 16). -/
def guardRecord (s : State) : Bytes :=
  let x := s.sec
  natLe x.gcount 8 ++ natLe x.minSvn 4 ++ natLe x.substLimit 1 ++ natLe (b2n x.active) 1 ++ natLe x.route 1 ++
  natLe (b2n (enrolled s)) 1 ++ natLe x.window 2 ++ List.replicate 14 0 ++ Check.sha384 s.cal.limits

/-- The boot record of M6. -/
def bootRecord (s : State) : Bytes :=
  let x := s.sec
  natLe (b2n x.running) 1 ++ natLe (b2n x.fallback) 1 ++ natLe (b2n x.recovery) 1 ++ [0] ++ natLe x.runSvn 4

/-- A measurement register is extended by the SHA-384 of some bytes. -/
def measure (i : Fin 8) (b : Bytes) (s : State) : State := extend i (Check.sha384 b) s

/-- Yunaeth's programs of the running firmware image are placed in force for both targets, and every engine has the initial
data of its own (R252). -/
def placeFirmware (s : State) : State :=
  let re := Config.yunaethImage (runningImage s) false
  let ce := Config.yunaethImage (runningImage s) true
  let c := State.reset.comb
  { s with
    comb := { s.comb with re := { c.re with cur := re }, ce := { c.ce with cur := ce } },
    eng := Vector.ofFn (fun e : Fin 148 => { Engine.fresh (if 144 ≤ e.val then ce else re) with gen := (s.eng[e]).gen }) }

/-- The extends of a start that runs an image (R391). Yunaeth's two program images are two extends (DEDUCED, log 31). -/
def measureStart (image : Bytes) (s : State) : State :=
  let s1 := measure 1 (imageBody image) (measure 0 (imageHead image) s)
  let s2 := measure 2 (Config.yunaethImage image true) (measure 2 (Config.yunaethImage image false) s1)
  let s3 := measure 4 (keyBytes s2) (measure 3 (guardRecord s2) s2)
  measure 6 (bootRecord s3) s3

/-- The boot ROM starts a slot, or neither (R393, R394), and the programs of the running image are placed (R252). In recovery
no slot runs: RUNNING and RUN_SVN are open. -/
def boot (s : State) : State :=
  let x := s.sec
  let s0 := updSec (fun x => { x with m := Vector.replicate 8 (List.replicate 48 0), mgen := 0 }) s
  let start (slot fall : Bool) : State :=
    let b := norSlot s slot
    measureStart b <| placeFirmware (updSec (fun x => { x with running := slot, fallback := fall, recovery := false, runSvn := field b 4 4 })
      (if fall then raise 246 0 0 s0 else s0))
  if imageVerifies x.minSvn (norSlot s x.active) then start x.active false
  else if imageVerifies x.minSvn (norSlot s (!x.active)) then start (!x.active) true
  else
    let v := (freeNow s).toNat
    let s1 := updSec (fun x => { x with running := bit v 0, fallback := false, recovery := true, runSvn := v / 2 % 2 ^ 32 })
      (raise 246 0 0 (freeNext s0))
    measure 6 (bootRecord s1) (placeFirmware s1)

/-- MIN_SVN when READY rises (R395). -/
def raiseMinSvn (s : State) : State :=
  if s.sec.fallback || s.sec.recovery then s else updSec (fun x => { x with minSvn := max x.minSvn x.runSvn }) s

/-! ### Quotes (R396) -/

/-- The first 464 bytes of a quote (table of 16). PORT is 1 for the host link and 2 for the management port. -/
def quoteHead (s : State) (port : Nat) (nonce : Bytes) : Bytes :=
  let x := s.sec
  let flags := b2n x.running + 2 * b2n x.fallback + 4 * b2n x.recovery + 8 * b2n (enrolled s) + 16 * b2n x.prop.isSome
  natLe 0x5147 2 ++ [1] ++ natLe port 1 ++ natLe flags 4 ++ natLe x.serial.toNat 8 ++ natLe s.tim.ns.toNat 8 ++
  natLe x.gcount 8 ++ natLe x.runSvn 4 ++ natLe x.minSvn 4 ++ nonce ++ x.m.toList.flatten ++ List.replicate 8 0

/-- A quote: its head and the attestation signature over it. -/
def quoteBytes (s : State) (port : Nat) (nonce : Bytes) : Bytes :=
  let h := quoteHead s port nonce
  h ++ Config.attestSign h

/-- Bytes held in `n` consecutive registers, ascending. -/
def regBytes (s : State) (off n : Nat) : Bytes := (List.range n).flatMap (fun i => natLe (regN s (off + 4 * i)) 4)

/-- A GO of the host link (R396): no effect while BUSY is set. -/
def quoteAsk (s : State) : State :=
  if s.sec.quotes.any (·.host) then s
  else updSec (fun x => { x with quotes := x.quotes ++
    [{ host := true, tag := 0, source := 0, nonce := regBytes s 0x140040 8 }] }) s

/-- A maintenance datagram dropped (R374, R396). -/
def maintBad (s : State) : State := count 0x1400CC 1 s

/-- A QUOTE_REQ (R396): up to four requests of the management port wait. -/
def quoteQueue (tag : Word) (source : Dword) (nonce : Bytes) (s : State) : State :=
  if nonce.length ≠ 32 || 4 ≤ (s.sec.quotes.tail.filter (fun r => !r.host)).length then maintBad s
  else updSec (fun x => { x with quotes := x.quotes ++ [{ host := false, tag := tag, source := source, nonce := nonce }] }) s

/-- A reply on the maintenance channel. -/
def maintReply (type : Nat) (tag : Word) (source : Dword) (body : Bytes) (s : State) : State :=
  send (.datagram 0x16AC source (natLe 0x4D47 2 ++ [1] ++ natLe type 1 ++ natLe tag.toNat 4 ++ body)) s

/-- The quote being taken is done (R396). -/
def quoteTaken (s : State) : State :=
  match s.sec.quotes with
  | [] => s
  | r :: rest =>
    let s1 := count 0x1400D0 1 (updSec (fun x => { x with quotes := rest }) s)
    if r.host then updSec (fun x => { x with quote := quoteBytes s 1 r.nonce }) s1
    else maintReply 0x81 r.tag r.source (quoteBytes s 2 r.nonce) s1

/-- M7 is extended by the EXTEND registers (R391). -/
def extendNow (s : State) : State := extend 7 (regBytes s 0x140080 12) s

/-! ### Guard statements (table of 16) -/

/-- SETTING of a statement. -/
def stmtSetting (b : Bytes) : Nat := field b 4 2
/-- GCOUNT of a statement. -/
def stmtCount (b : Bytes) : Nat := field b 16 8
/-- VALUE_LEN of a statement. -/
def stmtLen (b : Bytes) : Nat := field b 24 4
/-- The statement with another ACTION. -/
def withAction (n : Nat) (b : Bytes) : Bytes := slice b 0 3 ++ natLe n 1 ++ b.drop 4

/-- Is it a statement of the given action, setting and value length? -/
def stmtForm (b : Bytes) (action setting len : Nat) : Bool :=
  b.length == 128 && field b 0 2 == 0x5447 && byteAt b 2 == 1 && byteAt b 3 == action && stmtSetting b == setting &&
  zeros b 6 2 && stmtLen b == len && zeros b 28 4 && zeros b 80 48

/-- The signature of a statement holds under a key. -/
def signed384 (key stmt sig : Bytes) : Bool := Ecdsa.verify key stmt sig

/-- STATUS of a guard code (table of 16). -/
def guardStatus (code : Nat) : Nat :=
  if code = 0 then 0 else if code ≤ 8 then 5 else if code ≤ 0xC then 4 else 6

/-- The ending of a SET_GUARDED, with the guard counter and the setting. -/
def guardEnd (code count setting : Nat) : End :=
  { status := guardStatus code, code := code, source := 10, arg0 := count, arg1 := setting }

/-- The final completion of a SET_GUARDED; that of a JOURNAL_ERASE proposal lets the ring go on (R400). -/
def guardFinish (q : Nat) (e : End) (s : State) : State :=
  let s1 := finish q e s
  let erase := s.job.live.any (fun l => l.seq == q && entryKind16 l.entry == 1 && field l.entry 18 2 == 2)
  if erase then { s1 with job := { s1.job with eraseHold := false } } else s1

/-- The key that signs proposals and withdrawals: for ENROL the new host key. -/
def hostSigner (s : State) (setting : Nat) (value : Bytes) : Bytes := if setting = 0xB then slice value 0 96 else s.sec.hostKey
/-- The key that signs decisions: for ENROL the new maintenance key. -/
def maintSigner (s : State) (setting : Nat) (value : Bytes) : Bytes := if setting = 0xB then slice value 96 96 else s.sec.maintKey

/-! ### Proposals (R402) -/

/-- The first check of R402 that fails. A statement that is not one for the setting and length its command names fails
with the signature (DEDUCED, log 32). -/
def proposalCode (s : State) (setting len : Nat) (stmt sig value : Bytes) : Option Nat :=
  if s.sec.prop.isSome then some 0xA
  else if enrolled s == (setting == 0xB) then some 0xB
  else if field stmt 8 8 ≠ s.sec.serial.toNat then some 3
  else if stmtCount stmt ≠ s.sec.gcount + 1 then some 2
  else if slice stmt 32 48 ≠ Check.sha384 value then some 4
  else if !stmtForm stmt 1 setting len || !signed384 (hostSigner s setting value) stmt sig then some 1
  else none

/-- A statement failed R402 or R403. -/
def badStatement (s : State) : State := count 0x1400C4 1 s

/-- The SET_GUARDED of a SUB that starts next, when its block can be read and has its length (R402). -/
def guardedNext (s : State) (sub : Nat) (block : Bytes) : Option Live :=
  match startable s 11 with
  | some l => if entryKind16 l.entry = sub && block.length = field l.entry 32 4 && tableReadable s then some l else none
  | none => none

/-- The block of a SET_GUARDED has been read on its channel (R307, R402). -/
def blockMoved (sub : Nat) (block : Bytes) (s : State) : State :=
  match guardedNext s sub block with
  | some l => tableMoved (field l.entry 24 8) block.length s
  | none => s

/-- SET_GUARDED with SUB 1 (R402). -/
def propose (block : Bytes) (s : State) : State :=
  match guardedNext s 1 block with
  | none => s
  | some l =>
    let setting := field l.entry 18 2
    let len := field l.entry 20 4
    let stmt := slice block 0 128
    let sig := slice block 128 96
    let value := slice block 256 len
    match proposalCode s setting len stmt sig value with
    | some c => guardFinish l.seq (guardEnd c 0 setting) (badStatement s)
    | none =>
      let p : Proposal :=
        { seq := l.seq, stmt := stmt, sig := sig, value := value, opened := s.tim.up, window := s.sec.window, writing := false }
      raise 241 setting l.seq
        (updSec (fun x => { x with gcount := stmtCount stmt, prop := some p }) (setPhase l.seq .running s))

/-! ### Settings (R398 to R401, R418) -/

/-- Does a CAL_LIMITS value keep its layout, with no minimum above its maximum (table of 17)? -/
def limitsForm (b : Bytes) : Bool :=
  b.length == 64 && field b 0 2 == 0x4C43 && byteAt b 2 == 1 && byteAt b 3 == 0 && zeros b 22 2 && zeros b 43 21 &&
  decide (field b 4 2 ≤ field b 6 2) && decide (sfield b 8 1 ≤ sfield b 9 1) && decide (field b 16 2 ≤ field b 18 2) &&
  decide (field b 24 4 ≤ field b 28 4) && decide (field b 32 2 ≤ field b 34 2) && decide (byteAt b 40 ≤ byteAt b 41)

/-- Does the job's state allow the setting (R398)? -/
def settingState (s : State) (p : Proposal) : Bool :=
  match stmtSetting p.stmt with
  | 2 => s.job.st == 0 && s.job.live.all (fun l => l.seq == p.seq)
  | 3 => s.job.st == 0
  | 4 => s.job.st == 0
  | 9 => s.job.st == 0
  | _ => true

/-- Is the value in range (R398, R401)? -/
def settingValue (s : State) (p : Proposal) : Bool :=
  let v := field p.value 0 2
  match stmtSetting p.stmt with
  | 1 => decide (1 ≤ v) && decide (v ≤ 3)
  | 4 => decide (v ≤ 1) && imageVerifies s.sec.minSvn (norSlot s (v == 1))
  | 7 => decide (v ≤ 2)
  | 8 => decide (10 ≤ v) && decide (v ≤ 3600)
  | 10 => limitsForm p.value
  | _ => true

/-- The journal is erased (R400): one ERASED record in place of all, and the erasing command's completion names it. -/
def eraseJournal (q : Nat) (e : End) (s : State) : State :=
  let r : JRec :=
    { rseq := nextRseq s, kind := 8, opcode := 0, status := 0, cause := 0, stamp := stamp s, cseq := q, detail := 0,
      body := List.replicate 32 0 }
  let op := opcodeOf s q
  let s1 := exportLog 1 r.bytes { s with journal := [r] }
  let s2 := { s1 with job := { s1.job with
    live := s1.job.live.filter (fun l => l.seq != q), eraseHold := false, nextSeq := 0 } }
  complete (cplOf q op (newestIdx s2) true e) (raise 19 0 q s2)

/-- The principals' keys change: M4 is extended (R391). -/
def setKeys (host maint : Bytes) (s : State) : State :=
  let s1 := updSec (fun x => { x with hostKey := host, maintKey := maint }) s
  measure 4 (keyBytes s1) s1

/-- The effect of a setting other than JOURNAL_ERASE and FIRMWARE_WRITE (R398). -/
def applySetting (p : Proposal) (s : State) : State :=
  let v := field p.value 0 2
  match stmtSetting p.stmt with
  | 1 => updSec (fun x => { x with substLimit := v }) s
  | 4 => updSec (fun x => { x with active := v == 1 }) s
  | 5 => setKeys p.value s.sec.maintKey s
  | 6 => setKeys s.sec.hostKey p.value s
  | 7 => updSec (fun x => { x with route := v }) s
  | 8 => updSec (fun x => { x with window := v }) s
  | 9 => setKeys [] [] s
  | 10 => { s with cal := { s.cal with newLimits := some p.value } }
  | 11 => setKeys (slice p.value 0 96) (slice p.value 96 96) s
  | _ => s

/-- A setting has been applied: M3 is extended by the proposal's statement, event 242, and its command completes with OK
(R403). -/
def applied (p : Proposal) (s : State) : State :=
  let code := stmtSetting p.stmt
  let s1 := measure 3 p.stmt (updSec (fun x => { x with prop := none }) s)
  let e := guardEnd 0 (stmtCount p.stmt) code
  raise 242 code p.seq (if code = 2 then eraseJournal p.seq e s1 else guardFinish p.seq e s1)

/-- A proposal closes without being applied: event 243 (R403). -/
def closeProposal (p : Proposal) (e : End) (s : State) : State :=
  raise 243 (stmtSetting p.stmt) p.seq (guardFinish p.seq e (updSec (fun x => { x with prop := none }) s))

/-- The ending of a proposal's command with a guard code. -/
def proposalEnd (p : Proposal) (code : Nat) : End := guardEnd code (stmtCount p.stmt) (stmtSetting p.stmt)

/-- A valid approval (R398, R401, R403): the setting is applied or refused; a firmware image begins to be written. The
answer's code. -/
def approve (p : Proposal) (s : State) : State × Nat :=
  if !settingState s p then (closeProposal p (proposalEnd p 0xC) s, 0xC)
  else if !settingValue s p then (closeProposal p (proposalEnd p 0xD) s, 0xD)
  else if stmtSetting p.stmt = 3 then
    (setSlot (!s.sec.running) []
      (updSec (fun x => { x with active := x.running, prop := some { p with writing := true } }) s), 0)
  else (applied p (applySetting p s), 0)

/-- The image of a FIRMWARE_WRITE has been written and read back (R401). -/
def firmwareEnd (readBack : Bool) (s : State) : State :=
  match s.sec.prop with
  | none => s
  | some p =>
    if !p.writing then s
    else if readBack && imageVerifies s.sec.minSvn p.value then applied p (setSlot (!s.sec.running) p.value s)
    else closeProposal p { proposalEnd p 0 with status := 0xC } (setSlot (!s.sec.running) [] s)

/-! ### Decisions (R403) -/

/-- The open proposal: one whose approval is not being carried out. -/
def openProposal (s : State) : Option Proposal :=
  match s.sec.prop with
  | some p => if p.writing then none else some p
  | none => none

/-- The first check of a decision or withdrawal that fails (R403), the route aside. -/
def decisionCode (p : Proposal) (action : Nat) (key stmt sig : Bytes) : Option Nat :=
  if slice stmt 8 8 ≠ slice p.stmt 8 8 then some 3
  else if slice stmt 16 8 ≠ slice p.stmt 16 8 then some 2
  else if slice stmt 32 48 ≠ slice p.stmt 32 48 then some 4
  else if stmt ≠ withAction action p.stmt || !signed384 key stmt sig then some 1
  else none

/-- A decision of ACTION 2 or 3, allowed by its route or not: the state after it, its code and the guard counter of the
proposal it acted on. -/
def decide3 (routeOk : Bool) (action : Nat) (stmt sig : Bytes) (s : State) : State × Nat × Nat :=
  if !routeOk then (badStatement s, 8, 0)
  else match openProposal s with
    | none => (badStatement s, 9, 0)
    | some p =>
      let n := stmtCount p.stmt
      match decisionCode p action (maintSigner s (stmtSetting p.stmt) p.value) stmt sig with
      | some c => (badStatement s, c, n)
      | none =>
        if action = 2 then
          let r := approve p s
          (r.1, r.2, n)
        else (closeProposal p (proposalEnd p 6) s, 0, n)

/-- SET_GUARDED with SUB 2 or 3 (R403). -/
def hostDecision (sub : Nat) (block : Bytes) (s : State) : State :=
  match guardedNext s sub block with
  | none => s
  | some l =>
    let r := decide3 (decide (1 ≤ s.sec.route)) sub (slice block 0 128) (slice block 128 96) s
    guardFinish l.seq (guardEnd r.2.1 r.2.2 (field l.entry 18 2)) r.1

/-- SET_GUARDED with SUB 4 (R403). -/
def withdraw (block : Bytes) (s : State) : State :=
  match guardedNext s 4 block with
  | none => s
  | some l =>
    let setting := field l.entry 18 2
    match openProposal s with
    | none => guardFinish l.seq (guardEnd 9 0 setting) (badStatement s)
    | some p =>
      let n := stmtCount p.stmt
      match decisionCode p 4 (hostSigner s (stmtSetting p.stmt) p.value) (slice block 0 128) (slice block 128 96) with
      | some c => guardFinish l.seq (guardEnd c n setting) (badStatement s)
      | none => guardFinish l.seq (guardEnd 0 n setting) (closeProposal p (proposalEnd p 7) s)

/-- A DECISION datagram (R403, R374). -/
def mgmtDecision (tag : Word) (source : Dword) (body : Bytes) (s : State) : State :=
  if body.length ≠ 224 then maintBad s
  else
    let stmt := slice body 0 128
    let action := byteAt stmt 3
    let r := decide3 (decide (s.sec.route ≤ 1)) (if action = 2 then 2 else 3) stmt (slice body 128 96) s
    maintReply 0x83 tag source (natLe r.2.1 1 ++ [0, 0, 0]) r.1

/-- The window of the open proposal ends (R403). -/
def windowEnd (s : State) : State :=
  match openProposal s with
  | some p => closeProposal p (proposalEnd p 5) (count 0x1400C8 1 s)
  | none => s

/-- Seconds left in a proposal's window. -/
def remaining (s : State) (p : Proposal) : Nat := (p.window * 1000000000 - (s.tim.up - p.opened)) / 1000000000

/-- NOTICE (R403). -/
def notice (tag : Word) (source : Dword) (s : State) : State :=
  let body := match openProposal s with
    | none => natLe 0 8
    | some p =>
      [1, 0, 0, 0] ++ natLe (remaining s p) 4 ++ p.stmt ++ p.sig ++ (if stmtLen p.stmt ≤ 1024 then p.value else [])
  maintReply 0x82 tag source body s

/-- CERT_RESP (R396). -/
def certReply (tag : Word) (source : Dword) (off : Nat) (s : State) : State :=
  if off % 1024 ≠ 0 then maintBad s
  else maintReply 0x84 tag source (natLe Config.certificate.length 2 ++ [0, 0] ++ slice Config.certificate off 1024) s

/-! ### The commands -/

/-- SET_GUARDED_PROPOSE (R402). -/
def execSetGuardedPropose (block : Bytes) (s : State) : Host.Outcome State Fault Refusal := .next (propose block (blockMoved 1 block s))

/-- SET_GUARDED_APPROVE (R403). -/
def execSetGuardedApprove (block : Bytes) (s : State) : Host.Outcome State Fault Refusal := .next (hostDecision 2 block (blockMoved 2 block s))

/-- SET_GUARDED_REJECT (R403). -/
def execSetGuardedReject (block : Bytes) (s : State) : Host.Outcome State Fault Refusal := .next (hostDecision 3 block (blockMoved 3 block s))

/-- SET_GUARDED_WITHDRAW (R403). -/
def execSetGuardedWithdraw (block : Bytes) (s : State) : Host.Outcome State Fault Refusal := .next (withdraw block (blockMoved 4 block s))

/-- FIRMWARE_WRITE_END (R401). -/
def execFirmwareWriteEnd (readBack : Bool) (s : State) : Host.Outcome State Fault Refusal := .next (firmwareEnd readBack s)

/-- PROPOSAL_WINDOW_END (R403). -/
def execProposalWindowEnd (s : State) : Host.Outcome State Fault Refusal := .next (windowEnd s)

/-- QUOTE_GO (R396). -/
def execQuoteGo (s : State) : Host.Outcome State Fault Refusal := .next (barWrite quoteAsk s)

/-- QUOTE_DONE (R396). -/
def execQuoteDone (s : State) : Host.Outcome State Fault Refusal := .next (quoteTaken s)

/-- EXTEND_GO (R391). -/
def execExtendGo (s : State) : Host.Outcome State Fault Refusal := .next (barWrite extendNow s)

/-- QUOTE_REQ (R396). -/
def execQuoteReq (tag : Word) (source : Dword) (nonce : Bytes) (s : State) : Host.Outcome State Fault Refusal :=
  .next (quoteQueue tag source nonce s)

/-- NOTICE_REQ (R403). -/
def execNoticeReq (tag : Word) (source : Dword) (s : State) : Host.Outcome State Fault Refusal := .next (notice tag source s)

/-- DECISION (R403). -/
def execDecision (tag : Word) (source : Dword) (body : Bytes) (s : State) : Host.Outcome State Fault Refusal :=
  .next (mgmtDecision tag source body s)

/-- CERT_REQ (R396). -/
def execCertReq (tag : Word) (source : Dword) (off : BitVec 16) (s : State) : Host.Outcome State Fault Refusal :=
  .next (certReply tag source off.toNat s)

/-- BAD_MAINTENANCE_DATAGRAM (R374). -/
def execBadMaintenanceDatagram (s : State) : Host.Outcome State Fault Refusal := .next (maintBad s)

end Sys2Proof.Machine
end

