-- ==== Sys2Proof/Machine/Stage.lean ====
section
/-!
DEFINITION. Stage axes (R185 to R194), the flash sequencer and its program (R195 to R205), the flash commit with its
deflection word and dose frames (R200 to R207, R222 to R227, R309), and the tool reference (R449).
-/

namespace Sys2Proof.Machine

open Sys2Proof.Bits

/-! ### Programs of the sequencer -/

/-- OP of a program word (R195). -/
def seqOp (w : Dword) : Nat := bits w.toNat 63 56

/-- The value operand of a word (R195): IMM, or a parameter; as 32 bits. -/
def seqValue (params : Vector Word 4) (w : Dword) : Nat :=
  match bits w.toNat 7 0 with
  | 0 => bits w.toNat 47 16
  | 1 => (params[0]).toNat
  | 2 => (params[1]).toNat
  | 3 => (params[2]).toNat
  | _ => (params[3]).toNat

/-- The word at an index of the sampled program. -/
def seqWord (s : State) (i : Nat) : Dword := s.seq.prog.getD i 0

/-- Are the unused bits of a word 0 (R195)? -/
def seqUnused (w : Dword) : Bool :=
  let n := w.toNat
  match seqOp w with
  | 0 => n % 2 ^ 56 == 0
  | 1 => bits n 3 2 == 0 && bits n 55 6 == 0
  | 2 => bits n 55 40 == 0
  | 5 => n % 2 ^ 56 == 0
  | 7 => n % 2 ^ 56 == 0
  | _ => bits n 15 8 == 0 && bits n 55 48 == 0 &&
      (bits n 7 0 == 0 || decide (4 < bits n 7 0) || bits n 47 16 == 0)

/-- Are the fields of a word in range (R195, R196)? -/
def seqRange (params : Vector Word 4) (w : Dword) : Bool :=
  let n := w.toNat
  match seqOp w with
  | 1 => decide (bits n 1 0 ≤ 1) && decide (bits n 5 4 ≤ 2)
  | 2 => decide (0x10000 ≤ bits n 31 0) && decide (bits n 31 0 ≤ 0xFFFFFF)
  | 3 => decide (bits n 7 0 ≤ 4)
  | 4 => decide (bits n 7 0 ≤ 4)
  | 6 => decide (bits n 7 0 ≤ 4) && seqValue params w != 0
  | _ => true

/-- What the check of R196 has seen: SET_AXES, SET_INC, SET_START, SET_XREF, ARM, and the sum of the RUN counts. -/
structure SeqSeen where
  axes : Bool
  inc : Bool
  start : Bool
  xref : Bool
  arm : Bool
  total : Nat
  deriving DecidableEq, Repr

/-- Does a word stand in order (R196)? -/
def seqInOrder (x : SeqSeen) (w : Dword) : Bool :=
  match seqOp w with
  | 0 => true
  | 1 => !x.arm
  | 2 => true
  | 3 => !x.arm
  | 4 => !x.arm
  | 5 => !x.arm && x.axes && x.inc && x.start && x.xref
  | _ => x.arm

/-- What has been seen after a word. -/
def seqNote (params : Vector Word 4) (x : SeqSeen) (w : Dword) : SeqSeen :=
  match seqOp w with
  | 1 => { x with axes := true }
  | 2 => { x with inc := true }
  | 3 => { x with start := true }
  | 4 => { x with xref := true }
  | 5 => { x with arm := true }
  | 6 => { x with total := x.total + seqValue params w }
  | _ => x

/-- The first fault of a program: its word and code (R196). Of several faults of one word the lowest code is recorded (DESIGN
CHOICE, log 116). -/
def seqFault (params : Vector Word 4) : Nat → SeqSeen → List Dword → Option (Nat × Nat)
  | _, _, [] => some (63, 2)
  | i, x, w :: r =>
    if 7 < seqOp w || !seqUnused w then some (i, 1)
    else if !seqInOrder x w then some (i, 2)
    else if !seqRange params w then some (i, 3)
    else if seqOp w = 7 then (if x.total = (params[1]).toNat then none else some (i, 4))
    else seqFault params (i + 1) (seqNote params x w) r

/-- The check of a sampled program (R196). -/
def seqCheck (params : Vector Word 4) (prog : List Dword) : Option (Nat × Nat) :=
  seqFault params 0
    { axes := false, inc := false, start := false, xref := false, arm := false, total := 0 } (prog.take 64)

/-- The axis that TRIG names: 0 Y, 1 U (R195). -/
def trigAxis (n : Nat) : Fin 4 := if n = 0 then 0 else 2

/-- The axis that XSRC names: 0 X, 1 V, 2 none (R195). -/
def xAxis (n : Nat) : Option (Fin 4) := match n with | 0 => some 1 | 1 => some 3 | _ => none

/-- The last SET_AXES before ARM: the axes a program uses (R188, R190). -/
def progAxes : List Dword → Option (Fin 4 × Option (Fin 4))
  | [] => none
  | w :: r =>
    if seqOp w = 5 || seqOp w = 7 then none
    else match progAxes r with
      | some x => some x
      | none => if seqOp w = 1 then some (trigAxis (bits w.toNat 1 0), xAxis (bits w.toNat 5 4)) else none

/-- Does the executing write use axis `a` (R188 to R190)? -/
def axisUsed (s : State) (a : Fin 4) : Bool :=
  s.job.write.isSome &&
  (match progAxes s.seq.prog with
    | some (t, x) => t == a || x == some a
    | none => false)

/-! ### Axes -/

/-- First offset of an axis window. -/
def axisBase (a : Fin 4) : Nat := 0x0D0000 + 0x40 * a.val

/-- One axis changed. -/
def updAxis (a : Fin 4) (f : Axis → Axis) (s : State) : State := { s with axes := upd s.axes a.val f }

/-- Do time stamps run: TOOL_REF present and no TDC calibration under way (R192, R449)? -/
def timing (s : State) : Bool := s.seq.ref && s.cal.tdcRun.isNone

/-- SPEED_AVG in force; 0 reads as 1 (R191). -/
def speedAvg (x : Axis) : Nat := max 1 (bits x.ctl.toNat 23 16)

/-- N and Δ_N at the head of a list of edges (R191). -/
def edgeSpan (avg : Nat) (edges : List Edge) : Option (Nat × Nat) :=
  match edges with
  | [] => none
  | e :: _ =>
    if e.n < 2 then none
    else
      let n := min avg (e.n - 1)
      match edges[n]? with
      | some b => some (n, e.t - b.t)
      | none => none

/-- Is an edge of the given line and sense active (R185)? -/
def edgeActive (x : Axis) (lineB rising : Bool) : Bool := rising != bit x.ctl.toNat (if lineB then 3 else 2)

/-- The count change of an active edge, or none where the edge does not count (R185). -/
def edgeDelta (x : Axis) (lineB level : Bool) : Option Int :=
  let sign : Int := if bit x.ctl.toNat 5 then -1 else 1
  match bits x.ctl.toNat 1 0 with
  | 1 => if lineB then none else some (sign * (if level != bit x.ctl.toNat 3 then 1 else -1))
  | 2 => some (sign * (if lineB then -1 else 1))
  | _ => none

/-- The speed reading after an edge (R191); a zero Δ_N leaves it open. -/
def speedOf (s : State) (x : Axis) (up : Bool) : Word :=
  match edgeSpan (speedAvg x) x.edges with
  | none => 0
  | some (_, 0) => (freeNow s).setWidth 32
  | some (n, d) =>
    let v : Int := ((n * 40000000000 / d : Nat) : Int)
    BitVec.ofInt 32 (if up then v else -v)

/-- The tick at which an edge becomes usable: the second tick strictly after its time stamp (R200). -/
def usableAt (t : Nat) : Nat := (t / 256 + 2) * 256

/-- A counted edge: the count always follows; the timing restarts or continues, and while time stamps do not run the
readings hold with STALE set (R191, R192, R449). A reversal of the trigger axis after ARM reaches the sequencer at the first
tick at which its edge is usable (R204). -/
def countEdge (a : Fin 4) (t : Nat) (d : Int) (s : State) : State :=
  let x := s.axes[a]
  let c := x.count + BitVec.ofInt 32 d
  let up : Bool := decide (0 < d)
  let rev := match x.edges with | e :: _ => e.up != up | [] => false
  let n := if !timing s then 0 else match x.edges with | e :: _ => if x.still || rev then 1 else e.n + 1 | [] => 1
  let x1 : Axis :=
    { x with count := c, still := false, edges := ({ count := c, t := t, up := up, n := n } :: x.edges).take 520 }
  let x2 : Axis :=
    if timing s then
      { x1 with
        stale := false, down := !up, valid := decide (2 ≤ n), speed := if n < 2 then 0 else speedOf s x1 up }
    else { x1 with stale := true }
  let s1 := freeNext (updAxis a (fun _ => x2) s)
  if rev then
    let s2 := raise 130 a.val (wseq s) (setReg (axisBase a + 8) (reg s1 (axisBase a + 8) ||| 0x80) s1)
    if s.seq.expose && s.seq.trig == a then
      addCause { plainCause 0x0A with axis := a.val, tick := some (usableAt t) } s2
    else s2
  else s1

/-- An illegal transition (R187, R188). -/
def illegalEdge (a : Fin 4) (s : State) : State :=
  let s1 := setReg (axisBase a + 8) (reg s (axisBase a + 8) ||| 0x10) (count (axisBase a + 0x28) 1 s)
  let s2 := raise 128 a.val (wseq s) s1
  if axisUsed s a && bit (s.axes[a]).ctl.toNat 6 then addCause { plainCause 0x0C with axis := a.val } s2 else s2

/-- Is an active edge of an axis an illegal transition when the other line changes at once, to `level` (R187)? In
step-and-direction mode any change of DIR is; in up/down mode an active edge is. -/
def edgeIllegal (x : Axis) (lineB level : Bool) : Bool := bits x.ctl.toNat 1 0 == 1 || edgeActive x (!lineB) level

/-- An edge on a line of an axis (R185, R187). An illegal pair at once is reported by its line A edge (log 16). -/
def axisEdge (a : Fin 4) (lineB rising : Bool) (t : Nat) (level once : Bool) (s0 : State) : State :=
  let s := ticksTo t s0
  let x := s.axes[a]
  if !powered s 3 || !edgeActive x lineB rising then s
  else match edgeDelta x lineB level with
    | none => s
    | some d =>
      if once && edgeIllegal x lineB level then (if lineB then s else illegalEdge a s) else countEdge a t d s

/-- The expected position nearest a count, the lower one on a tie (R193). -/
def nearest (expect : Int) (period : Nat) (c : Int) : Int :=
  if period = 0 then expect
  else
    let lo := expect + period * fdiv (c - expect) period
    if c - lo ≤ lo + period - c then lo else lo + period

/-- An active edge of INDEX (R193, R194). INDEX_MODE 3, which is not used, checks nothing, as mode 0 (DESIGN CHOICE, log
115). -/
def indexEdge (a : Fin 4) (rising : Bool) (s : State) : State :=
  let x := s.axes[a]
  if !powered s 3 || rising == bit x.ctl.toNat 4 then s
  else
    let s1 := count (axisBase a + 0x2C) 1 (setReg (axisBase a + 0x20) (stamp s) (setReg (axisBase a + 0x1C) x.count s))
    let mode := bits x.ctl.toNat 9 8
    let e := nearest x.expect.toInt x.period.toNat x.count.toInt
    let inside := decide ((x.count.toInt - e).natAbs ≤ x.tol.toNat)
    let mark (b : Word) (t : State) : State := setReg (axisBase a + 8) (reg t (axisBase a + 8) ||| b) t
    if (mode == 1 || mode == 2) && !inside then
      let s2 := raise 132 a.val (wseq s) (count (axisBase a + 0x30) 1 (mark 0x40 s1))
      if axisUsed s a then addCause { plainCause 0x0B with axis := a.val } s2 else s2
    else
      let s2 := mark 0x20 s1
      let s3 :=
        if mode == 2 then
          updAxis a (fun x => { x with
            count := BitVec.ofInt 32 e, referenced := true,
            edges := x.edges.map (fun g => { g with count := g.count + BitVec.ofInt 32 (e - x.count.toInt) }) }) s2
        else s2
      raise 131 a.val (wseq s) s3

/-- No edge for STANDSTILL_US (R191, R192). -/
def standstill (a : Fin 4) (s : State) : State :=
  if (s.axes[a]).still || !timing s then s
  else
    raise 129 a.val (wseq s) (updAxis a (fun x => { x with
      still := true, valid := false, stale := true, speed := 0, edges := x.edges.map (fun e => { e with n := 1 }) }) s)

/-- A write of `STG.AXIS_COUNT` (R189). -/
def presetCount (a : Fin 4) (v : Word) (s : State) : State :=
  if axisUsed s a then raise 139 a.val (wseq s) s
  else updAxis a (fun x => { x with
    count := v, referenced := true, edges := x.edges.map (fun g => { g with count := g.count + (v - x.count) }) }) s

/-- Offset of an axis register within its window. -/
def axisRegOff : AxisReg → Nat
  | .ctl => 0
  | .indexExpect => 0x10
  | .indexPeriod => 0x14
  | .indexTol => 0x18
  | .standstill => 0x24

/-- An axis takes one setting from its register (R190). -/
def axisSetting (r : AxisReg) (v : Word) (x : Axis) : Axis :=
  match r with
  | .ctl => { x with ctl := v }
  | .indexExpect => { x with expect := v }
  | .indexPeriod => { x with period := v }
  | .indexTol => { x with tol := v }
  | .standstill => { x with timeout := v }

/-- An axis takes its settings from its registers (R190). -/
def axisSettings (s : State) (a : Fin 4) (x : Axis) : Axis :=
  { x with
    ctl := reg s (axisBase a), expect := reg s (axisBase a + 0x10), period := reg s (axisBase a + 0x14),
    tol := reg s (axisBase a + 0x18), timeout := reg s (axisBase a + 0x24) }

/-- A write of an axis setting (R190): at once, or at the next stripe boundary on an axis in use. -/
def axisCtlWrite (a : Fin 4) (r : AxisReg) (v : Word) (s : State) : State :=
  let s1 := writeStored (axisBase a + axisRegOff r) v s
  if axisUsed s a then s1 else updAxis a (axisSetting r (reg s1 (axisBase a + axisRegOff r))) s1

/-- A write of `STG.SNAP` (R190). -/
def snap (s : State) : State :=
  let one (t : State) (a : Fin 4) : State := setReg (axisBase a + 0x34) (t.axes[a]).count t
  (List.finRange 4).foldl one (setReg 0x0D0104 (stamp s) s)

/-- AXIS_EDGE (R185). -/
def execAxisEdge (a : Fin 4) (lineB rising : Bool) (t : Nat) (level once : Bool) (s : State) :
    Host.Outcome State Fault Refusal := .next (axisEdge a lineB rising t level once s)

/-- INDEX_EDGE (R193). -/
def execIndexEdge (a : Fin 4) (rising : Bool) (s : State) : Host.Outcome State Fault Refusal :=
  .next (indexEdge a rising s)

/-- STANDSTILL (R191). -/
def execStandstill (a : Fin 4) (s : State) : Host.Outcome State Fault Refusal := .next (standstill a s)

/-- AXIS_COUNT_PRESET (R189). -/
def execAxisCountPreset (a : Fin 4) (v : Word) (s : State) : Host.Outcome State Fault Refusal :=
  .next (barWrite (presetCount a v) s)

/-- AXIS_CTL_WRITE (R190). -/
def execAxisCtlWrite (a : Fin 4) (r : AxisReg) (v : Word) (s : State) : Host.Outcome State Fault Refusal :=
  .next (barWrite (axisCtlWrite a r v) s)

/-- SNAP (R190). -/
def execSnap (s : State) : Host.Outcome State Fault Refusal := .next (barWrite (snap) s)

/-! ### The sequencer's words -/

/-- May a word outside ARM and RUN be executed now: the sequencer runs a program and no RUN is under way? -/
def seqReady (s : State) : Bool :=
  (s.seq.st == 1 || s.seq.st == 2 || s.seq.st == 3) && s.seq.left == 0 && writeLive s

/-- Is the word at PC of the given OP and may it be executed? -/
def seqAt (s : State) (op : Nat) : Bool := seqReady s && seqOp (seqWord s s.seq.pc) == op

/-- The sequencer passes to the next word. -/
def seqNext (s : State) : State := { s with seq := { s.seq with pc := s.seq.pc + 1 } }

/-- SEQ_NOP (R195). -/
def execSeqNop (s : State) : Host.Outcome State Fault Refusal := .next (if seqAt s 0 then seqNext s else s)

/-- SET_AXES (R195). -/
def execSetAxes (s : State) : Host.Outcome State Fault Refusal :=
  let n := (seqWord s s.seq.pc).toNat
  .next (if seqAt s 1 then
    seqNext { s with seq := { s.seq with trig := trigAxis (bits n 1 0), xsrc := xAxis (bits n 5 4) } } else s)

/-- SET_INC (R197). -/
def execSetInc (s : State) : Host.Outcome State Fault Refusal :=
  let n := (seqWord s s.seq.pc).toNat
  .next (if seqAt s 2 then seqNext { s with seq := { s.seq with inc := bits n 31 0, trim := bits n 39 32 } } else s)

/-- SET_START (R195). -/
def execSetStart (s : State) : Host.Outcome State Fault Refusal :=
  .next (if seqAt s 3 then
    seqNext { s with seq := { s.seq with s0 := signed 32 (seqValue s.seq.params (seqWord s s.seq.pc)) } } else s)

/-- SET_XREF (R195). -/
def execSetXref (s : State) : Host.Outcome State Fault Refusal :=
  .next (if seqAt s 4 then
    seqNext { s with seq := { s.seq with xref := signed 32 (seqValue s.seq.params (seqWord s s.seq.pc)) } } else s)

/-- The scan position of a count (R197). -/
def scanPos (s : State) (dir : Nat) (c : Word) : Int :=
  if dir = 0 then signed 32 (unsigned 32 (c.toInt - s.seq.s0)) else signed 32 (unsigned 32 (s.seq.s0 - c.toInt))

/-- The word of odd parity with the given low 31 bits (R206, R207). -/
def oddParity (n : Nat) : Word :=
  let ones := ((List.range 31).map (fun k => b2n (bit n k))).sum
  BitVec.ofNat 32 (n % 2 ^ 31 + (if ones % 2 = 0 then 2 ^ 31 else 0))

/-- The setup word of R207. -/
def setupWord (w : Write) (plan : Nat) : Word :=
  oddParity (w.fireDelay % 1024 * 2 ^ 21 + plan % 8192 * 2 ^ 8 + w.f.dir * 128)

/-- Do the three conditions of ARM hold (R198)? -/
def armReady (s : State) : Bool := windowReady s && (s.pec.kernel.cur.isNone || s.comb.ceReadyW) && s.blk.st == 5

/-- The axis that fails the check of ARM, if one does (R198). -/
def armFails (s : State) (w : Write) : Option Nat :=
  let t := s.axes[s.seq.trig]
  if !t.referenced || decide (-(w.armGuard : Int) < scanPos s w.f.dir t.count) then some s.seq.trig.val
  else match s.seq.xsrc with
    | some x => if (s.axes[x]).referenced then none else some x.val
    | none => none

/-- ARM (R198, R207). -/
def arm (s : State) : State :=
  match s.job.write with
  | none => s
  | some w =>
    match armFails s w with
    | some a => addCause { plainCause 9 with axis := a } s
    | none =>
      let word := setupWord w s.seq.plan
      let s1 := send (.setupWord word) s
      let since := match (s.axes[s.seq.trig]).edges with | e :: _ => usableAt e.t | [] => 0
      let s2 := { s1 with seq := { s1.seq with st := 2, expose := true, deflD := word, since := since } }
      slowCheck (raise 133 0 w.seq (seqNext (setWrite (fun w => { w with st := .running, armed := true }) s2)))

/-- ARM (R198). -/
def execArm (s : State) : Host.Outcome State Fault Refusal := .next (if seqAt s 5 && armReady s then arm s else s)

/-- t(f) of R197. -/
def trimOf (trim f : Nat) : Nat := if 1 ≤ trim && f % trim == trim - 1 then 1 else 0

/-- RUN (R195, R197): the target of the next flash is formed with INC and TRIM in force. -/
def execRun (s : State) : Host.Outcome State Fault Refusal :=
  let next := match s.job.write with | some w => w.next | none => 0
  let target := if next = 0 then 0 else s.seq.target + s.seq.inc + trimOf s.seq.trim (next - 1)
  .next (if seqAt s 6 then
    { s with seq := { s.seq with st := 3, left := seqValue s.seq.params (seqWord s s.seq.pc), target := target } } else s)

/-- END (R205): EXPOSE_ACTIVE falls, event 134, and the drain begins. -/
def execSeqEnd (s : State) : Host.Outcome State Fault Refusal :=
  .next (if seqAt s 7 then
    let s1 := { s with seq := { s.seq with st := 0, expose := false } }
    let s2 := setWrite (fun w => { w with ending := some ownEnd }) (raise 134 0 (wseq s) s1)
    slowCheck (drainCheck (refreshFrontier (beginDrain false s2)))
  else s)

/-! ### The flash commit -/

/-- The edges of an axis usable at a tick, newest first (R200). -/
def usable (x : Axis) (tau : Nat) : List Edge := x.edges.dropWhile (fun e => decide (tau < usableAt e.t))

/-- The predicted scan position at `tau` + 1 024 units, in 2^−16 count (R200). -/
def predict (s : State) (dir tau : Nat) : Option Int :=
  let x := s.axes[s.seq.trig]
  match usable x tau with
  | [] => none
  | e :: r =>
    let base := 65536 * scanPos s dir e.count
    let fwd := e.up == (dir == 0)
    match (if fwd then edgeSpan (speedAvg x) (e :: r) else none) with
    | some (n, d) => if d = 0 then some base else some (base + min (fdiv (65536 * n * (tau + 1024 - e.t)) d) 1048576)
    | none => some base

/-- Y_CORR of R202. -/
def yCorr (dir : Nat) (y : Int) (target : Nat) : Int :=
  (if dir = 0 then 1 else -1) * sar (8 * (y - target) + 32768) 16

/-- X_CORR of R202. -/
def xCorr (s : State) (tau : Nat) : Int :=
  match s.seq.xsrc with
  | none => 0
  | some a =>
    match usable (s.axes[a]) tau with
    | e :: _ => 8 * signed 32 (unsigned 32 (e.count.toInt - s.seq.xref))
    | [] => 8 * signed 32 (unsigned 32 ((s.axes[a]).count.toInt - s.seq.xref))

/-- Does a correction lie outside −512 to 512 (R202)? -/
def corrBad (c : Int) : Bool := decide (c < -512) || decide (512 < c)

/-- The deflection word (R206). -/
def deflWord (f : Nat) (y x : Int) : Word :=
  oddParity (unsigned 11 y * 2 ^ 20 + unsigned 11 x * 2 ^ 9 + f % 400)

/-- Is a flash blanked by the resume (R181)? -/
def blanked (w : Write) (f : Nat) : Bool := match w.f.named with | some n => decide (f ≤ n) | none => false

/-- The slices without codes for a flash, but for one whose gather for it met an uncorrectable error (R180, R339). -/
def lateSlices (s : State) (w : Write) (f : Nat) : List Nat :=
  (List.range 4).filter (fun n =>
    !gatherFailed w n f && (match s.bmu.slices[n]? with | some x => decide (x.next ≤ f) | none => false))

/-- Is a tile that a late slice needs still being rendered (R34)? A tile that will never be released is not late. -/
def tilePending (s : State) (w : Write) (n f : Nat) : Bool :=
  (sliceSegs w n f).any (fun seg => (List.range 40).any (fun c =>
    !w.never.contains (c, seg) &&
    (match tileAt s c seg with
      | some t => !t.released && !t.never
      | none => true)))

/-- The slices whose codes for a flash are incomplete although every tile they gather from is released (R180). -/
def gatherLate (s : State) (w : Write) (f : Nat) : List Nat :=
  if blanked w f then [] else (lateSlices s w f).filter (fun n => sliceReady s w n f)

/-- The causes that meet flash `f` at its boundary (R25, R34, R180, R201, R202, R231 table). Of several late slices the
lowest is named (DESIGN CHOICE, log 99). -/
def commitCauses (s : State) (w : Write) (tau : Nat) (y x : Int) : List Cause :=
  let f := w.next
  let under := !blanked w f && (lateSlices s w f).any (fun n => tilePending s w n f)
  let interval := (tau + 1024 - w.lastInstant) / 256
  let lag := match s.blk.frontier with | none => true | some k => decide (k + w.ackLag < f)
  (if under then [plainCause 1] else []) ++
  (match gatherLate s w f with
    | [] => []
    | n :: _ => [{ plainCause 5 with axis := n }]) ++
  (if 1 ≤ f && decide (64 * interval < 9 * s.seq.plan) then [{ plainCause 8 with axis := s.seq.trig.val }] else []) ++
  (if !blanked w f && (corrBad y || corrBad x) then
    [{ plainCause 7 with axis := if corrBad y then s.seq.trig.val else (match s.seq.xsrc with | some a => a.val | none => 0) }]
    else []) ++
  (if w.ackLag ≤ f && lag then [plainCause 0x10] else [])

/-- The counters that the checks of a commit increment (R180, R201, R202). -/
def commitCounts (cs : List Cause) (late : List Nat) (s : State) : State :=
  let has (k : Nat) : Bool := cs.any (fun c => c.code == k)
  let s1 := if has 8 then count 0x0D0140 1 s else s
  let s2 := if has 7 then count 0x0D0144 1 s1 else s1
  let s3 := match late with
    | [] => s2
    | n :: _ => raise 108 n (wseq s) (late.foldl (fun t n => count (sliceBase n + 0x110) 1 t) s2)
  if has 0x10 then raise 168 0 (wseq s) (setRegN 0x0E800C (4 + 65536 * 0x1FF) s3) else s3

/-- The beam whose code stands at position `q` of lane `l` (R177, R178). -/
def laneBeam (profK : Bool) (l q : Nat) : Nat := if profK then 262143 - (1024 * l + q) else 1024 * l + q

/-- The slot code of a beam at a flash. -/
def codeOf (s : State) (f b : Nat) : Nat :=
  match s.bmu.slices[b / 65536]? with
  | some x => match x.codes.find? (fun c => c.flash == f) with
    | some c => c.codes.getD (b % 65536) 0
    | none => 0
  | none => 0

/-- The codes of a lane as bytes (R222, R227). -/
def codeBytes (s : State) (profK : Bool) (f l : Nat) : Bytes :=
  let codes := (List.range 1024).map (fun q => codeOf s f (laneBeam profK l q))
  if profK then codes.flatMap (fun c => (natLe (16 * c) 2).reverse) else pack12 codes

/-- A field of a block sent outbound: little-endian, big-endian under Profile K (R216, R227). -/
def outField (profK : Bool) (n len : Nat) : Bytes := if profK then (natLe n len).reverse else natLe n len

/-- FIRE_UI at the running rate, the start being `late` UI after the tick (R224, R225). -/
def fireUi (s : State) (w : Write) (late : Nat) : Nat :=
  if s.blk.rateRun = 3 then (4 + w.fireDelay - 7) * 170 - late else (4 + w.fireDelay - 7) * 66

/-- UI from tick `n` to the first block boundary at or after it: 0 at 10.3125 Gbit/s; at 26.5625 Gbit/s the boundaries lie 66
UI apart on a fixed grid that meets every 33rd tick of 170 UI (R215, R224). -/
def startLate (s : State) (n : Nat) : Nat :=
  if s.blk.rateRun = 3 then (66 - 170 * (n + s.blk.phase) % 66) % 66 else 0

/-- One dose frame that starts at tick `n` or just after, block payloads in order (R222, R223, R227). -/
def doseBytes (s : State) (w : Write) (f l n : Nat) : Bytes :=
  let k := s.blk.profRun == 2
  let head := outField k l 2 ++ outField k (fireUi s w (startLate s n)) 3 ++ [if blanked w f then 1 else 0, 0]
  let codes := codeBytes s k f l
  let check := Check.crc32c (f % 2 ^ 48 + l * 2 ^ 48) (head ++ codes)
  (0xD2 :: outField k f 6) ++ [if k then 2 else 1] ++ (0xD4 :: head) ++ codes ++
    (0xE1 :: outField k check.toNat 4) ++ [0, 0, 0]

/-- Every running data lane sends its frame of flash `f`, two IDLE blocks after the frame before it (R224). -/
def sendFrames (w : Write) (f tau : Nat) (s : State) : State :=
  let n := tau / 256 + 7
  (ports.flatMap (carriers s)).foldl (fun t c => send (.doseFrame c.1 f n (doseBytes s w f c.2 n)) t)
    (if s.blk.lastSent.isSome then idleAll 2 s else s)

/-- PROGRESS with CEILING raised when LAST_SENT reaches CEILING − 4 095 (R309). -/
def progress (w : Write) (f : Nat) (s : State) : State :=
  if f + 4095 = w.ceiling then
    let c := w.ceiling + 8192
    let fr := maxFrontier w.f.named s.blk.frontier
    let body := natLe (frontierField fr false s.blk.unsure) 8 ++ natLe c 8 ++ natLe w.f.stripe 4
    setWrite (fun w => { w with ceiling := c }) (journalAdd 5 (opcodeOf s w.seq) 0 0 w.seq 0 body s)
  else s

/-- Flash `f` is committed: its word, its strobes and its frames (R200, R206, R224). -/
def commitFlash (w : Write) (tau : Nat) (y x : Int) (s : State) : State :=
  let f := w.next
  let word := deflWord f (clamp y (-512) 512) (clamp x (-512) 512)
  let s1 := send (.defl word (tau + 1024) (f % 400 == 0)) s
  let s2 := sendFrames w f tau s1
  let more := decide (1 < s.seq.left)
  let s3 := { s2 with
    seq := { s2.seq with
      flash := f, lastWord := word, deflD := word, left := s2.seq.left - 1, pc := if more then s2.seq.pc else s2.seq.pc + 1,
      target := if more then s2.seq.target + s2.seq.inc + trimOf s2.seq.trim f else s2.seq.target },
    blk := { s2.blk with lastSent := some f },
    bmu := { s2.bmu with slices := s2.bmu.slices.map (fun z => { z with codes := z.codes.filter (fun c => decide (f < c.flash)) }) } }
  let s4 := setWrite (fun w => { w with next := f + 1, lastInstant := tau + 1024 }) s3
  slowCheck (progress w f s4)

/-- Does the prediction at a tick reach the target of the next flash? -/
def reaches (s : State) (dir tau : Nat) : Bool :=
  match predict s dir tau with | some y => decide ((s.seq.target : Int) ≤ y) | none => false

/-- The first tick at which the next flash may be committed: the one after the last commit, or for flash 0 that from
which its target is judged (R200). -/
def commitFrom (s : State) (w : Write) : Nat := if w.next = 0 then s.seq.since else w.lastInstant - 768

/-- The ticks before `tau` at which the prediction is largest: the last one of each usable edge's time, between which it
only rises (R200). -/
def lastTicks (s : State) (tau : Nat) : List Nat :=
  (tau - 256) :: (s.axes[s.seq.trig]).edges.map (fun e => usableAt e.t - 256)

/-- Has the target of the next flash been reached at a tick before `tau` (R200; log 55)? -/
def reachedBefore (s : State) (w : Write) (tau : Nat) : Bool :=
  (lastTicks s tau).any (fun k => decide (commitFrom s w ≤ k) && decide (k < tau) && reaches s w.f.dir k)

/-- May flash `w.next` be committed at tick `tau`: a RUN is under way, TOOL_REF is present, the tick is one and later
than the last commit, and it is the first at which the prediction reaches the target (R200, R449)? -/
def commitDue (s : State) (w : Write) (tau : Nat) : Option Int :=
  if s.seq.st == 3 && decide (0 < s.seq.left) && w.ending.isNone && s.seq.ref && tau % 256 == 0 &&
      decide (commitFrom s w ≤ tau) && !reachedBefore s w tau then
    match predict s w.f.dir tau with
    | some y => if (s.seq.target : Int) ≤ y then some y else none
    | none => none
  else none

/-- The boundary of the next flash at its commit tick, the prediction being `y`: it is committed, or the write halts there
(R25, R200, R301). -/
def boundary (tau : Nat) (y : Int) (s : State) : State :=
  match s.job.write with
  | none => s
  | some w =>
    let x := xCorr s tau
    let yc := yCorr w.f.dir y s.seq.target
    let cs := commitCauses s w tau yc x
    let s1 := commitCounts cs (gatherLate s w w.next) s
    match lowestCause (dueCauses w ++ cs) with
    | some c => drainCheck (haltNow c s1)
    | none => commitFlash w tau yc x s1

/-- A tick (R200, R204): a cause that waited for an earlier tick halts the write first; then the next flash meets its
boundary if the tick is its commit, and otherwise a cause of this tick halts the write (log 55). -/
def flashCommit (tau : Nat) (s0 : State) : State :=
  let s := ticksTo (tau - 1) s0
  match s.job.write with
  | none => s
  | some w =>
    match commitDue s w tau with
    | none => ticksTo tau s
    | some y => boundary tau y (causesBy tau s)

/-- FLASH_COMMIT (R200). -/
def execFlashCommit (tau : Nat) (s : State) : Host.Outcome State Fault Refusal := .next (flashCommit tau s)

/-! ### The tool reference -/

/-- TOOL_REF is lost (R449). -/
def refLoss (s : State) : State :=
  if !s.seq.ref then s
  else
    let n := min 65535 (regBits s 0x0D0154 15 0 + 1)
    let s1 := setReg 0x0D0154 0x80000000 (setRegBits 0x0D0154 15 0 n s)
    let s2 := setRegBits 0x0D0154 15 0 n s1
    let s3 := { s2 with
      seq := { s2.seq with ref := false },
      axes := s2.axes.map (fun x => { x with stale := true, edges := x.edges.map (fun e => { e with n := 0 }) }) }
    let s4 := addCause (plainCause 0x0E) s3
    if s4.blk.st == 0 || s4.blk.st == 9 then s4
    else refreshFrontier (raise 161 0 (wseq s4)
      (linkHeld s4))

/-- TOOL_REF_LOSS (R449). -/
def execToolRefLoss (s : State) : Host.Outcome State Fault Refusal := .next (refLoss s)

/-- TOOL_REF_RETURN (R449). -/
def execToolRefReturn (s : State) : Host.Outcome State Fault Refusal := .next { s with seq := { s.seq with ref := true } }

end Sys2Proof.Machine
end

