-- ==== Sys2Proof/Machine/Execute.lean ====
section
/-!
DEFINITION. Commands that execute: JOB_OPEN and JOB_CLOSE (R86, R146, R296, R320), SELF_TEST (R260, R261), the forage
pass (R297, R303) and the stripe boundary of a write (R298, R203, R225, R226, R315).
-/

namespace Sys2Proof.Machine

open Sys2Proof.Bits

/-! ### JOB_OPEN (R86, R319, R320) -/

/-- A DRAM region: its first byte, its length and its least length. -/
structure Region where
  base : Nat
  len : Nat
  least : Nat
  deriving DecidableEq, Repr

/-- One GiB. -/
def gib : Nat := 2 ^ 30

/-- Base and size of the region register at `off`, in GiB. -/
def regionAt (s : State) (off : Nat) : Nat × Nat := (regBits s off 10 0, regBits s off 26 16)

/-- A region of a register, with its least size in bytes. -/
def regionOf (s : State) (off least : Nat) : Region :=
  { base := (regionAt s off).1 * gib, len := (regionAt s off).2 * gib, least := least }

/-- Is the hive cache to be used: `BEL.HIVE_CTL.ENABLE`? -/
def hiveAsked (s : State) : Bool := bit (regN s 0x110020) 0

/-- `BEL.HIVE_CTL.BUCKET_LOG2`. -/
def hiveLog (s : State) : Nat := regBits s 0x110020 12 8

/-- The length of HIVE: size 0 reaches the end of DRAM. -/
def hiveLen (s : State) : Nat :=
  let r := regionAt s 0x100810
  if r.2 = 0 then dramSize - r.1 * gib else r.2 * gib

/-- First byte and length of the frame pool (R86). -/
def poolBase (s : State) : Nat := regBits s 0x040000 9 0 * gib

/-- Frames of the pool. -/
def poolFrames (s : State) : Nat := regBits s 0x040004 19 0

/-- Least frames of the pool (R86). -/
def poolLeast : Nat := 2048

/-- Bytes of a frame (R86). -/
def frameBytes : Nat := 1052672

/-- The regions of R319 for a job of `slots` forage slots; HIVE only while it is asked for (R320). -/
def regionsFor (s : State) (slots : Nat) : List Region :=
  [{ base := 0, len := gib, least := gib }, regionOf s 0x100800 gib, regionOf s 0x100804 (4 * gib),
   regionOf s 0x100808 gib, regionOf s 0x10080C (slots * 2 ^ 28),
   { base := poolBase s, len := poolFrames s * frameBytes, least := poolLeast * frameBytes }] ++
  (if hiveAsked s then
    [{ base := (regionAt s 0x100810).1 * gib, len := hiveLen s, least := 64 * 2 ^ hiveLog s + gib }] else [])

/-- Do two regions share no byte? -/
def apart (a b : Region) : Bool := decide (a.base + a.len ≤ b.base) || decide (b.base + b.len ≤ a.base)

/-- Does no pair of a list overlap? -/
def allApart : List Region → Bool
  | [] => true
  | a :: r => r.all (apart a) && allApart r

/-- Do the regions meet R320? -/
def regionsOk (s : State) (slots : Nat) : Bool :=
  let l := regionsFor s slots
  l.all (fun r => decide (r.base + r.len ≤ dramSize) && decide (r.least ≤ r.len)) && allApart l

/-- Does the frame pool break R86? -/
def poolBad (s : State) : Bool :=
  decide (poolFrames s < poolLeast) || decide (dramSize < poolBase s + poolFrames s * frameBytes)

/-- The record of a job's opening or closing (R308). -/
def jobRecord (id event : Nat) (seq : Nat) (s : State) : State :=
  journalAdd 7 (opcodeOf s seq) 0 0 seq 0 (natLe id 4 ++ natLe event 4) s

/-- What JOB_OPEN samples and clears (R86, R146, R303, R319, R345, R347). -/
def openJob (b : Bytes) (s : State) : State :=
  let s1 := dropReads
    { s with
      job := { s.job with id := entryJob b, st := 1, slotMax := byteAt b 16, slots := [] },
      intake := { s.intake with
        poolBase := poolBase s, poolFrames := poolFrames s, frames := [], bind := none, dec := s.intake.dec.map idleDec },
      mem := { s.mem with regions :=
        { list := regionAt s 0x100800, cover := regionAt s 0x100804, factor := regionAt s 0x100808,
          forage := regionAt s 0x10080C, hive := regionAt s 0x100810 } },
      hive := { s.hive with on := hiveAsked s, log2 := hiveLog s, base := (regionAt s 0x100810).1 * gib, size := hiveLen s },
      pec := { kernel := { cur := none, pend := none }, field := { cur := none, pend := none } } }
  if s.hive.log2 ≠ hiveLog s then hiveFlush s1 else s1

/-- JOB_OPEN executes (R86, R320). -/
def jobOpen (s : State) : State :=
  match startable s 1 with
  | none => s
  | some l =>
    let q := l.seq
    if s.job.st ≠ 0 then finish q (refusedState 1) s
    else if !regionsOk s (byteAt l.entry 16) then
      let s1 := finish q (refusedState 0x14) s
      raise 200 0 q (if poolBad s then raise 42 0 q s1 else s1)
    else if memoryBad s then finish q (refusedState 0x12) s
    else raise 6 0 q (finish q { status := 0 } (jobRecord (entryJob l.entry) 1 q (openJob l.entry (allRequests s))))

/-- JOB_OPEN (R86). -/
def execJobOpen (s : State) : Host.Outcome State Fault Refusal := .next (jobOpen s)

/-! ### JOB_CLOSE (R296) -/

/-- What JOB_CLOSE ends: the binding, the frames, the forage slots and the job. -/
def closeJob (s : State) : State :=
  dropReads
    { s with
      job := { s.job with id := 0, st := 0, slotMax := 0, slots := [] },
      intake := { s.intake with bind := none, frames := [], poolFrames := 0, dec := s.intake.dec.map idleDec } }

/-- JOB_CLOSE executes once every earlier command has ended (R296). -/
def jobClose (s : State) : State :=
  match startable s 2 with
  | none => s
  | some l =>
    if isFirstLive s l.seq then
      raise 7 0 l.seq (finish l.seq { status := 0 } (jobRecord s.job.id 2 l.seq (closeJob s)))
    else s

/-- JOB_CLOSE (R296). -/
def execJobClose (s : State) : Host.Outcome State Fault Refusal := .next (jobClose s)

/-! ### SELF_TEST (R260, R261) -/

/-- Is engine `e` named by the masks of a SELF_TEST? -/
def testNamed (b : Bytes) (e : Fin 148) : Bool :=
  if e.val < 144 then bit (byteAt b (16 + e.val / 8)) (e.val % 8) else bit (byteAt b 34) (e.val - 144)

/-- The engines a SELF_TEST names, in ascending order. -/
def testList (b : Bytes) : List (Fin 148) := engines.filter (testNamed b)

/-- Can an engine be spared during a write when the engines `gone` of the request have been spared before it (R261)? -/
def sparable (s : State) (gone : List (Fin 148)) (e : Fin 148) : Bool :=
  if e.val < 144 then
    decide (regBits s 0x05C020 7 0 + (gone.filter (fun x => decide (x.val < 144) && engWorking s x)).length +
      b2n (engWorking s e) ≤ workingRaster s)
  else (engines.filter (fun x => !isRaster x && x != e)).all (fun x => engWorking s x && !gone.contains x)

/-- Can every engine of a request be spared, one after the other? -/
def allSparable (s : State) : List (Fin 148) → List (Fin 148) → Bool
  | _, [] => true
  | gone, e :: r => sparable s gone e && allSparable s (e :: gone) r

/-- A SELF_TEST begins the tests of its engines. -/
def testsBegin (q : Nat) (l : List (Fin 148)) (s : State) : State :=
  let s1 := updJob (fun j => { j with
    tests := j.tests ++ [{ seq := q, todo := l.map (·.val), failed := [], wait := false }] }) (setPhase q .running s)
  (l.filter (fun e => !(s.eng[e]).testing)).foldl testBegin s1

/-- SELF_TEST executes (R261). -/
def selfTest (s : State) : State :=
  match startable s 9 with
  | none => s
  | some l =>
    let q := l.seq
    let es := testList l.entry
    if es.isEmpty then finish q { status := 0 } s
    else if s.job.write.isNone || allSparable s [] es then testsBegin q es s
    else if entryWait l.entry then
      raise 73 0 q (updJob (fun j => { j with
        tests := j.tests ++ [{ seq := q, todo := es.map (·.val), failed := [], wait := true }] }) (setPhase q .waiting s))
    else finish q (refusedState 0x10) s

/-- SELF_TEST (R261). -/
def execSelfTest (s : State) : Host.Outcome State Fault Refusal := .next (selfTest s)

/-- The test signature an engine must give, which the running firmware image holds (R260). -/
def rightSig (s : State) (e : Fin 148) : Word := Config.testSignature (runningImage s) (decide (144 ≤ e.val))

/-- An engine number as ARG0 of a failed self-test. -/
def testArg (n : Nat) : Nat := if n < 144 then n else 256 + (n - 144)

/-- The number of the lowest engine of a list. -/
def lowestEngine (l : List Nat) : Nat := (l.min?).getD 0

/-- How a SELF_TEST ends. -/
def testEnd (t : TestReq) : End :=
  if t.failed.isEmpty then { status := 0 }
  else { status := 0xC, arg0 := testArg (lowestEngine t.failed), arg1 := t.failed.length }

/-- The requests that wait for an engine's result, and the completions of those that have all of theirs. -/
def testResult (n : Nat) (ok : Bool) (s : State) : State :=
  let note (t : TestReq) : TestReq :=
    if t.todo.contains n then { t with todo := t.todo.erase n, failed := if ok then t.failed else t.failed ++ [n] } else t
  let ts := s.job.tests.map note
  let s1 := updJob (fun j => { j with tests := ts.filter (fun t => !t.todo.isEmpty) }) s
  (ts.filter (fun t => t.todo.isEmpty)).foldl (fun u t => finish t.seq (testEnd t) u) s1

/-- The self-test of an engine ends with a signature (R260). -/
def selfTestEnd (e : Fin 148) (sig : Word) (s : State) : State :=
  if !(s.eng[e]).testing || !engPowered s e then s
  else
    let s1 := setReg (engBase e + 0x18) sig (updEng e (fun x => { engCleared (engImage s e) x with testing := false }) s)
    if sig = rightSig s e then
      testResult e.val true
        (raise 71 (engInfo e) 0 (updEng e (fun x => { x with failed := false, hadPart := false }) s1))
    else testResult e.val false (raise 72 (engInfo e) 0 (engFail e s1))

/-- SELF_TEST_END (R260). -/
def execSelfTestEnd (e : Fin 148) (sig : Word) (s : State) : Host.Outcome State Fault Refusal :=
  .next (selfTestEnd e sig s)

/-! ### The forage pass (R144, R297, R303) -/

/-- Digest of a table; 0 with none (R145, R175). -/
def tableDigest (t : Option Bytes) : Word := match t with | some b => Check.imageDigest b | none => 0

/-- The digests in force (R85, R145, R251). -/
def digestsNow (s : State) : Digests :=
  let b := s.intake.bind
  { bind := match b with | some x => x.digest | none => 0,
    pages := match b with | some x => x.pages.length | none => 0,
    cells := match b with | some x => x.cells.length | none => 0,
    kernel := tableDigest s.pec.kernel.cur, field := tableDigest s.pec.field.cur,
    progRe := Check.imageDigest s.comb.re.cur, progCe := Check.imageDigest s.comb.ce.cur }

/-- Does the executing write exclude a forage: is it flagged SOLO (R293)? -/
def soloWrite (s : State) : Bool :=
  match s.job.write with
  | some w => (match s.job.live.find? (·.seq == w.seq) with | some l => entrySolo l.entry | none => false)
  | none => false

/-- The refusal reason of a forage that starts (R297). -/
def forageRefusal (s : State) : Option Nat :=
  if s.intake.bind.isNone then some 4
  else if !powered s 2 || !powered s 5 || (s.pec.kernel.cur.isSome && !powered s 4) || workingRaster s = 0 then some 5
  else none

/-- The next accepted forage of a stripe after the command `q`. -/
def nextClaim (s : State) (f : Stripe) (q : Nat) : Option Nat :=
  (s.job.live.find? (fun l => l.seq != q && entryOp l.entry == 5 &&
    (entryStripe l.entry).stripe == f.stripe && (entryStripe l.entry).pass == f.pass)).map (·.seq)

/-- A slot whose forage left no results: freed, or kept for the next forage accepted for its stripe (R297, R303). -/
def slotLost (f : Stripe) (q : Nat) (s : State) : State :=
  match nextClaim s f q with
  | some n => updSlot f (fun _ => claimedSlot f n) s
  | none => freeSlot f s

/-- The units that served a forage are left (log 14). -/
def forageCleared (s : State) : State :=
  let s1 := stopRuns .forage (dropPass .forage s)
  { s1 with
    job := { s1.job with forage := none },
    intake := { s1.intake with expF := Exp.start, bad := s1.intake.bad.filter (fun b => b.1 != .forage) } }

/-- A forage begins to execute on its slot (R139, R144, R145, R250, R303). -/
def forageRun (l : Live) (s : State) : State :=
  let f := entryStripe l.entry
  let d := digestsNow s
  let s1 := updSlot f (fun x => { claimedSlot f l.seq with claim := x.claim, dig := d, corrected := s.pec.kernel.cur.isSome }) s
  let fg : Forage :=
    { seq := l.seq, f := f, slot := 0, dig := d, bankRe := s.comb.re.bank, bankCe := s.comb.ce.bank, firsts := [],
      corrected := s.pec.kernel.cur.isSome, kernel := s.pec.kernel.cur, field := s.pec.field.cur,
      fail := (memoryFault s).map (fun e => (e.status, e.code, e.source, e.extra, e.arg0, e.arg1)) }
  let s2 := setPhase l.seq .running s1
  { s2 with
    job := { s2.job with forage := some fg },
    intake := { s2.intake with expF := Exp.start, ctlF := reg s 0x040008 } }

/-- FORAGE_START (R297). -/
def forageStart (s : State) : State :=
  match startable s 5 with
  | none => s
  | some l =>
    if s.job.forage.isSome || soloWrite s then s
    else
      let s1 := if s.job.write.isNone && (waitingWrite s).isNone then correctionInForce s else s
      match forageRefusal s1 with
      | some r => raise 11 0 l.seq (finish l.seq (refusedState r) (slotLost (entryStripe l.entry) l.seq s1))
      | none => forageRun l s1

/-- FORAGE_START (R297). -/
def execForageStart (s : State) : Host.Outcome State Fault Refusal := .next (forageStart s)

/-- Has a walk passed the top cell and every cell it enters? -/
def walkDone (x : Exp) : Bool := x.header && x.topDone && x.enter.isEmpty && x.stack.isEmpty

/-- Tiles of the window of a stripe (R136). -/
def windowTiles (f : Stripe) (margin : Nat) : Nat := (40 + 2 * margin) * (f.segs + 2 * margin)

/-- Has the executing forage stored everything it renders (R139, R303)? -/
def forageDone (s : State) (f : Forage) : Bool :=
  let x := s.intake.expF
  walkDone x && x.handed.length == windowTiles f.f (passMargin s .forage) &&
  s.comb.lists.all (fun t => t.pass != .forage) && s.comb.tasks.all (fun t => t.pass != .forage) &&
  engines.all (fun e => match engTask (s.eng[e]) with | some t => t.pass != .forage || !isRaster e | none => true) &&
  (match slotOf s f.f with | some y => y.sigs.length == 40 * f.f.segs | none => false)

/-- The ending a failure of a forage gives. -/
def failEnd (f : Forage) (x : Nat × Nat × Nat × Nat × Nat × Nat) : End :=
  { status := x.1, code := x.2.1, source := x.2.2.1, extra := x.2.2.2.1, arg0 := x.2.2.2.2.1, arg1 := x.2.2.2.2.2,
    stripe := f.f.stripe }

/-- A forage ends without results (R35, R303). -/
def forageFails (f : Forage) (e : End) (s : State) : State :=
  budgetNote e 4 f.seq (forageCleared (finish f.seq e (slotLost f.f f.seq s)))

/-- How many pages a page list may hold (R303). -/
def pageListMax : Nat := 16777216

/-- A forage ends with its results (R303, R304). -/
def foragePasses (f : Forage) (x : Slot) (s : State) : State :=
  let pages := s.intake.expF.pages.map (·.page)
  if pageListMax < pages.length then forageFails f { status := 3, code := 0x23, source := 8, stripe := f.f.stripe } s
  else
    let plan := planMin s (qBar x 0).1 (planRight 100 (workingNow s) (planMargin s) false)
    let keep (y : Slot) : Slot :=
      { y with held := true, valid := true, pages := pages, claim := (nextClaim s f.f f.seq).getD 0 }
    forageCleared (finish f.seq { status := 0, arg0 := plan, arg1 := pages.length, stripe := f.f.stripe }
      (freeNext (updSlot f.f keep s)))

/-- FORAGE_END (R303). -/
def forageEnd (s : State) : State :=
  match s.job.forage with
  | none => s
  | some f =>
    match f.fail with
    | some x => forageFails f (failEnd f x) s
    | none =>
      match slotOf s f.f with
      | some x => if forageDone s f then foragePasses f x s else s
      | none => s

/-- FORAGE_END (R303). -/
def execForageEnd (s : State) : Host.Outcome State Fault Refusal := .next (forageEnd s)

/-! ### The stripe boundary (R24, R298) -/

/-- The least PLAN and FIRE_DELAY of the framing that runs, else of the one `BLK.CORE_CTL` names (R226). -/
def framingLimits (s : State) : Nat × Nat :=
  let runs := s.blk.st == 5 || s.blk.st == 6 || s.blk.st == 7
  let profK := if runs then s.blk.profRun == 2 else bit (regN s 0x0E8000) 4
  let fast := if runs then s.blk.rateRun == 3 else bit (regN s 0x0E8000) 3
  if profK then (1864, 262) else if fast then (625, 80) else (1408, 198)

/-- `BLK.CORE_CTL.FIRE_DELAY`. -/
def fireDelayReg (s : State) : Nat := regBits s 0x0E8000 21 12

/-- The stripe fields as STRIPE_START holds them (R308). -/
def stripeBody (f : Stripe) : Bytes :=
  natLe f.stripe 4 ++ natLe f.pass 1 ++ natLe f.dir 1 ++ natLe f.plan 2 ++ natLe f.segs 4 ++ le32 f.x ++ le32 f.y ++
  le32 f.s0 ++ le32 f.xref ++ natLe 0 4

/-- The newest STRIPE_START of a STRIPE and PASS. -/
def newestStart (s : State) (f : Stripe) : Option JRec :=
  s.journal.find? (fun r => r.kind == 3 && field r.body 0 4 == f.stripe && byteAt r.body 4 == f.pass)

/-- The newest record of a kind and a command. -/
def newestOf (s : State) (kind seq : Nat) : Option JRec := s.journal.find? (fun r => r.kind == kind && r.cseq == seq)

/-- The beam, mask and weight digests in force (R175). -/
def beamDigests (s : State) : List Word :=
  [tableDigest s.bmu.beam.cur, tableDigest s.bmu.mask.cur, tableDigest s.bmu.weight.cur]

/-- The body of a TABLES record (R308). -/
def tablesBody (s : State) : Bytes :=
  (beamDigests s ++ [tableDigest s.pec.kernel.cur, tableDigest s.pec.field.cur, Check.imageDigest s.comb.re.cur,
    Check.imageDigest s.comb.ce.cur, 0]).flatMap (fun w => natLe w.toNat 4)

/-- Do the beam-map digests in force differ from those recorded with the stripe (R175)? -/
def beamDiffers (s : State) (f : Stripe) : Bool :=
  match (newestStart s f).bind (fun r => newestOf s 4 r.cseq) with
  | some t => slice t.body 0 12 != (beamDigests s).flatMap (fun w => natLe w.toNat 4)
  | none => false

/-- A frontier as a record holds it: none for NONE. -/
def recFrontier (n : Nat) : Option Nat := if bit n 63 then none else some (n % 2 ^ 48)

/-- Is `a` at most `b`, where NONE lies below every flash? -/
def frontierLe (a b : Option Nat) : Bool :=
  match a, b with
  | none, _ => true
  | some _, none => false
  | some x, some y => decide (x ≤ y)

/-- Does a RESUME_STRIPE meet the resume rule (R315)? The newest FINAL record of a stripe is that of the command of its
newest STRIPE_START, since a FINAL record names no PASS (log 26). -/
def resumeOk (s : State) (b : Bytes) : Bool :=
  let f := entryStripe b
  match newestStart s f with
  | none => false
  | some r =>
    match newestOf s 2 r.cseq with
    | none => false
    | some x =>
      let fr := recFrontier (field x.body 0 8)
      let last := recFrontier (field x.body 8 8)
      let doubt := bit (field x.body 28 4) 0
      (x.status == 0xA || x.status == 9 || x.status == 0xB) && slice r.body 0 28 == slice (stripeBody f) 0 28 &&
      (if entryForce b then doubt && frontierLe fr f.named && frontierLe f.named last else !doubt && f.named == fr)

/-- Does the binding in force equal the one recorded with forage results (R108)? -/
def bindMatches (s : State) (x : Slot) : Bool :=
  let d := digestsNow s
  s.intake.bind.isSome && x.dig.bind == d.bind && x.dig.pages == d.pages && x.dig.cells == d.cells

/-- The domains a write needs (R36). -/
def writeDomains : List Nat := [2, 3, 4, 5, 20, 21, 22, 23] ++ (List.range 16).map (32 + ·)

/-- Are all of them on, and the comb of every working engine? -/
def domainsOn (s : State) : Bool := writeDomains.all (powered s)

/-- Does the dead-beam mask in force break SUBST_LIMIT (R168)? -/
def maskBreaks (s : State) : Bool :=
  match s.bmu.mask.cur with
  | some m => decide (s.sec.substLimit < worstGroup m)
  | none => false

/-- The first check of R298 that fails: its reason, and the event of its own chapter. -/
def boundaryRefusal (s : State) (b : Bytes) : Option (Nat × Option Nat) :=
  let f := entryStripe b
  let d := digestsNow s
  let lim := framingLimits s
  let slot := resultsOf s f
  let other (p : Slot → Bool) : Bool := match slot with | some x => p x | none => false
  if s.intake.bind.isNone || other (fun x => !bindMatches s x) then some (4, none)
  else if slot.isNone then some (2, none)
  else if other (fun x => !x.valid) then some (3, none)
  else if !domainsOn s then some (5, none)
  else if s.bmu.beam.cur.isNone then some (6, some 110)
  else if maskBreaks s then some (7, some 110)
  else if other (fun x => x.dig.kernel != d.kernel || x.dig.field != d.field) then some (8, some 101)
  else if other (fun x => x.dig.progRe != d.progRe || x.dig.progCe != d.progCe) then some (9, some 76)
  else if entryOp b = 7 && beamDiffers s f then some (0xA, some 109)
  else if entryOp b = 7 && !resumeOk s b then some (0xE, none)
  else if f.plan < lim.1 || 5000 < f.plan then some (0xB, none)
  else if fireDelayReg s < lim.2 then some (0xC, none)
  else if s.blk.st ≠ 5 && s.blk.st ≠ 6 then some (0xD, none)
  else if memoryBad s then some (0x12, none)
  else none

/-- Do forage results differ from what is in force: binding, tables or programs (R31, R85, R145, R251)? -/
def slotDiffers (s : State) (x : Slot) : Bool :=
  let d := digestsNow s
  !bindMatches s x || x.dig.kernel != d.kernel || x.dig.field != d.field || x.dig.progRe != d.progRe ||
    x.dig.progCe != d.progCe

/-- Forage results that a stripe boundary finds to differ stay invalid until the stripe is foraged again (R31). -/
def markInvalid (f : Stripe) (s : State) : State :=
  updSlot f (fun x => if x.held && slotDiffers s x then { x with valid := false } else x) s

/-- The ending of a write at its stripe boundary, with the frontier its command names. -/
def boundaryEnd (f : Stripe) (e : End) : End :=
  { e with frontier := frontierField f.named false false, lastSent := lastSentField none, stripe := f.stripe }

/-- A write is refused at its stripe boundary (R298, R221). -/
def boundaryRefuse (l : Live) (reason : Nat) (event : Option Nat) (s : State) : State :=
  let q := l.seq
  let s1 := match event with | some n => raise n 0 q s | none => s
  let s2 := if reason = 0xD then refusedInfo s1 else s1
  let e := { refusedState reason with extra := if reason = 0xD then linkExtra s else 0 }
  markInvalid (entryStripe l.entry) (raise 11 0 q (finish q (boundaryEnd (entryStripe l.entry) e) s2))

/-- What a stripe boundary brings into force before its checks (R144, R173, R190, R250, R254, R410, R416, R418). -/
def boundaryForce (s : State) : State :=
  let s1 := trimsInForce (beamMapInForce (correctionInForce (stepDown (limitsInForce s))))
  let s2 := { s1 with axes := Vector.ofFn (fun a : Fin 4 => axisSettings s1 a (s1.axes[a])) }
  { s2 with comb := { s2.comb with working := workingRaster s2 } }

/-- The parameters and the program of the sequencer are loaded (R195, R291). -/
def loadSequencer (f : Stripe) (s : State) : State :=
  let s1 := setRegN 0x0D010C f.plan s
  let word (i : Nat) : Dword := BitVec.ofNat 64 (reg64 s1 (0x0D0400 + 8 * i))
  { s1 with seq := { s1.seq with
      prog := (List.range 64).map word, pc := 0, left := 0, target := 0, plan := f.plan,
      params := #v[BitVec.ofInt 32 f.s0, BitVec.ofNat 32 (flashesOf f.segs), BitVec.ofInt 32 f.xref,
        BitVec.ofNat 32 f.dir] } }

/-- The write with what it samples at its stripe boundary (R24, R165, R198, R225, R229, R231, R338). -/
def newWrite (s : State) (l : Live) : Write :=
  let f := entryStripe l.entry
  { seq := l.seq, resume := entryOp l.entry == 7, f := f, st := .fill, sFirst := firstSegment f.named, next := 0,
    lastInstant := 0, ceiling := 8191, causes := [], ending := none, fireDelay := fireDelayReg s,
    ackLag := regBits s 0x0E8008 10 0, drainUs := regBits s 0x0E8008 31 16, clampHalt := bit (regN s 0x0C0000) 0,
    armGuard := regBits s 0x0D0108 15 0, low := regBits s 0x110000 7 0, high := regBits s 0x110000 15 8,
    digs := digestsNow s, beamDig := tableDigest s.bmu.beam.cur, maskDig := tableDigest s.bmu.mask.cur,
    weightDig := tableDigest s.bmu.weight.cur, bankRe := s.comb.re.bank, bankCe := s.comb.ce.bank, firsts := [],
    ceReady := false, armed := false, never := [] }

/-- STRIPE_START, TABLES and the first PROGRESS record (R308, R309). -/
def boundaryRecords (l : Live) (s : State) : State :=
  let f := entryStripe l.entry
  let op := entryOp l.entry
  let s1 := journalAdd 4 op 0 0 l.seq 0 (tablesBody s) (journalAdd 3 op 0 0 l.seq 0 (stripeBody f) s)
  journalAdd 5 op 0 0 l.seq 0 (natLe (frontierField f.named false false) 8 ++ natLe 8191 8 ++ natLe f.stripe 4) s1

/-- The units take up a write that has passed its checks. -/
def beginWrite (l : Live) (s : State) : State :=
  let w := newWrite s l
  let s1 := setPhase l.seq .running s
  let b := s1.bmu
  let s2 := { s1 with
    job := { s1.job with write := some w, frontier := w.f.named, frontierFinal := false },
    seq := { s1.seq with st := 1, pc := 0 },
    bel := { s1.bel with tiles := [] },
    bmu := { b with
      slices := b.slices.map (fun x : Slice => { x with next := 0, codes := [] }), lastClamp := none },
    blk := { s1.blk with
      ports := Vector.replicate 16 { a := none, final := none }, frontier := none, final := false, lastSent := none },
    intake := { s1.intake with expW := Exp.start, ctlW := reg s1 0x040008 } }
  { s2 with blk := { s2.blk with unsure := (ports.filter (counted s2)).isEmpty } }

/-- Does the speed plan of a write no longer hold at its boundary (R305)? -/
def planShort (s : State) (l : Live) : Bool :=
  let f := entryStripe l.entry
  match resultsOf s f with
  | some x =>
    !planMet (qBar x (firstSegment f.named)).1
      (planRight (renderRate s) s.comb.working (planMargin s) (entrySolo l.entry)) f.plan
  | none => false

/-- A capture armed while no write executed belongs to the next that passes the checks of R298 (R183). -/
def captureOwn (q : Nat) (s : State) : State :=
  let b := s.bmu
  { s with bmu := { b with capOwner := if b.armed && b.capOwner = 0 then q else b.capOwner } }

/-- A write passes the checks of R298: its program is checked (R196), its records are journalled and it executes. -/
def boundaryPass (l : Live) (s : State) : State :=
  let q := l.seq
  let s1 := captureOwn q (loadSequencer (entryStripe l.entry) s)
  match seqCheck s1.seq.params s1.seq.prog with
  | some (word, code) =>
    let s2 := setRegN 0x0D0150 (256 * word + code) { s1 with seq := { s1.seq with st := 5 } }
    captureEnd q (finish q (boundaryEnd (entryStripe l.entry) (malformed code 7)) (raise 136 0 q s2))
  | none =>
    let s2 := raise 8 0 q (boundaryRecords l (beginWrite l s1))
    let s3 := if planShort s l then raise 21 0 q s2 else s2
    wakeAtBoundary s3

/-- May the next write leave the wait queue (R261, R293, R312, R419)? -/
def boundaryFree (s : State) : Bool :=
  s.job.write.isNone && s.job.tests.all (fun t => !t.wait) && s.cal.tdcRun.isNone && s.cal.tdcWait.isNone &&
  s.power.ready && !s.power.resetPending

/-- STRIPE_BOUNDARY (R24, R298). -/
def stripeBoundary (s : State) : State :=
  match waitingWrite s with
  | none => s
  | some l =>
    if !boundaryFree s then s
    else
      let s1 := boundaryForce s
      match boundaryRefusal s1 l.entry with
      | some (r, ev) => boundaryRefuse l r ev s1
      | none => boundaryPass l s1

/-- STRIPE_BOUNDARY (R298). -/
def execStripeBoundary (s : State) : Host.Outcome State Fault Refusal := .next (stripeBoundary s)

end Sys2Proof.Machine
end

