-- ==== Sys2Proof/Machine/Dma.lean ====
section
/-!
DEFINITION. DMA channels: the descriptor rings of channels 13 to 15 (R306, R354, R355) and the pausing of every channel
(R307, R363, R364; 11_jobs_and_exposure_accounting, 13_host_attachment).
-/

namespace Sys2Proof.Machine

open Sys2Proof.Bits

/-- Descriptor channel `c`: 13, 14 or 15. -/
def descChan (c : Fin 3) : Fin 16 := ⟨13 + c.val, by omega⟩

/-- First offset of a channel's window. -/
def chanBase (c : Nat) : Nat := 0x030000 + 0x100 * c

/-- Descriptors in a ring; while it is disabled, by `DMA.RING_SIZE` (log 22). -/
def ringLen (s : State) (c : Fin 16) : Nat :=
  2 ^ (if (s.dma[c]).on then (s.dma[c]).log2 else regBits s (chanBase c.val + 0x10) 3 0)

/-- A write of `DMA.TAIL`: the doorbell (R354). An index outside the ring has no effect (log 28). -/
def dmaTail (c : Fin 16) (v : Word) (s : State) : State :=
  let i := bits v.toNat 9 0
  if c.val < 13 || ringLen s c ≤ i then s else updChan c.val (fun x => { x with tail := i }) s

/-- A descriptor ring is enabled, its base and size sampled and its indices 0; a bad base or size leaves it disabled
with an error (R284; log 28). -/
def dmaOn (c : Fin 16) (s : State) : State :=
  let base := reg64 s (chanBase c.val + 8)
  let log := regBits s (chanBase c.val + 0x10) 3 0
  if (s.dma[c]).on then s
  else if base % 64 ≠ 0 then updChan c.val (fun x => { x with err := 1 }) s
  else if log < 1 || 10 < log then updChan c.val (fun x => { x with err := 3 }) s
  else updChan c.val (fun x => { x with
    on := true, base := base, log2 := log, tail := 0, head := 0, st := if x.pause || x.byPower then x.st else 0,
    err := 0, desc := none, bytes := 0 }) s

/-- A descriptor ring is disabled; a transfer under way is abandoned (log 28). -/
def dmaOff (c : Fin 16) (s : State) : State :=
  updChan c.val (fun x => { x with on := false, desc := none, st := if x.st = 1 || 4 ≤ x.st then 0 else x.st }) s

/-! ### Descriptors (R306) -/

/-- Fields of a descriptor: host address, device address, length and FLAGS. -/
def descHost (d : Bytes) : Nat := field d 0 8
/-- DEV_ADDR. -/
def descDev (d : Bytes) : Nat := field d 8 8
/-- LEN. -/
def descLen (d : Bytes) : Nat := field d 16 4
/-- TO_HOST. -/
def descToHost (d : Bytes) : Bool := bit (byteAt d 20) 0
/-- EVENT. -/
def descEvent (d : Bytes) : Bool := bit (byteAt d 20) 1

/-- Does a transfer break the alignment rules (R306)? -/
def descMisaligned (c : Fin 16) (d : Bytes) : Bool :=
  descHost d % 64 != 0 || descLen d % 64 != 0 || (c.val != 13 && descDev d % 64 != 0)

/-- The capture buffer that holds a BAR0 offset, and the place within it (R183). -/
def captureAt (off : Nat) : Option (Nat × Nat) :=
  let n := (off - 0x0C2000) / 0x4000
  let o := (off - 0x0C2000) % 0x4000
  if 0x0C2000 ≤ off && n < 4 && o < 8192 then some (n, o) else none

/-- Does a descriptor break a range or a reserved field (R306)? -/
def descOutside (c : Fin 16) (d : Bytes) : Bool :=
  let n := descLen d
  n == 0 || byteAt d 20 / 4 != 0 || !zeros d 21 11 ||
  (if c.val = 13 then
    !descToHost d || decide (8192 < n) ||
      (match captureAt (descDev d) with | some (_, o) => decide (8192 < o + n) | none => true)
  else decide (2 ^ 30 < n) || decide (dramSize < descDev d + n))

/-- Does a channel take its next descriptor? -/
def takesDesc (s : State) (c : Fin 16) : Bool :=
  let x := s.dma[c]
  x.on && x.st == 0 && x.head != x.tail && reachable s

/-- Can the device-side end of a descriptor be reached? DRAM that does not serve its range holds channels 14 and 15 back
(log 28). -/
def descServed (s : State) (c : Fin 16) (d : Bytes) : Bool := c.val == 13 || rangeServed s (descDev d) (descLen d)

/-- A channel takes a descriptor (R306). -/
def dmaTake (c : Fin 16) (d : Bytes) (s : State) : State :=
  if !takesDesc s c then s
  else if descMisaligned c d then dmaStop c 1 s
  else if descOutside c d then dmaStop c 3 s
  else if !descServed s c d then s
  else updChan c.val (fun x => { x with
    st := 1, err := 0, bytes := 0, cur := descHost d,
    desc := some (descHost d, descDev d, descLen d, descToHost d, descEvent d) })
    (if c.val = 13 then s else rangeRequest (descDev d) (descLen d) s)

/-- What a to-host transfer reads: capture buffer bytes as they stand, or DRAM bytes (R306). -/
def dmaSource (s : State) (c : Fin 16) (dev len : Nat) : Bytes :=
  if c.val = 13 then
    (match captureAt dev with
      | some (n, o) => Sparse.getRun dramDefault s.bmu.capBuf (8192 * n + o) len
      | none => [])
  else dramRead s dev len

/-- The data of a transfer moved: to the host, or the host's bytes to DRAM. -/
def dmaMove (c : Fin 16) (host dev len : Nat) (toHost : Bool) (data : Bytes) (s : State) : State :=
  if toHost then send (.toHost host (dmaSource s c dev len)) s else dramWrite dev (data.take len) s

/-- A transfer ends: HEAD passes its descriptor, and event 16 is raised where EVENT asks for it (R306, R355). The data
of a transfer from the host has the length of its descriptor. -/
def dmaEnd (c : Fin 16) (data : Bytes) (s : State) : State :=
  let x := s.dma[c]
  match x.desc with
  | none => s
  | some (host, dev, len, toHost, event) =>
    if x.st ≠ 1 || !reachable s || (!toHost && data.length ≠ len) then s
    else
      let s1 := updChan c.val (fun x => { x with
        st := 0, desc := none, bytes := len, cur := host + len, head := (x.head + 1) % ringLen s c })
        (dmaMove c host dev len toHost data s)
      if event then raise 16 c.val 0 s1 else s1

/-- DMA_TAIL_DOORBELL (R306). -/
def execDmaTailDoorbell (c : Fin 3) (v : Word) (s : State) : Host.Outcome State Fault Refusal :=
  .next (barWrite (dmaTail (descChan c) v) s)

/-- DMA_DESCRIPTOR (R306); a descriptor has 32 bytes. -/
def execDmaDescriptor (c : Fin 3) (d : Bytes) (s : State) : Host.Outcome State Fault Refusal :=
  if d.length == 32 then .next (dmaTake (descChan c) d s) else .fault .illFormed

/-- DMA_TRANSFER_END (R355). -/
def execDmaTransferEnd (c : Fin 3) (data : Bytes) (s : State) : Host.Outcome State Fault Refusal :=
  .next (dmaEnd (descChan c) data s)

/-! ### Pausing (R307, R363, R364) -/

/-- The command that owns the transfer of a channel: a table load on channel 11, or on 12 while 11 does not move data
(R292, R307). -/
def ownerOf (s : State) (c : Nat) : Nat :=
  if c = 11 || (c = 12 && !chanRuns s 11) then (match loadUnderWay s with | some l => l.seq | none => 0) else 0

/-- A channel begins to pause: it issues no new read. -/
def pauseBegins (c : Nat) (s : State) : State :=
  let q := ownerOf s c
  updChan c (fun x => if x.st < 2 then { x with st := 2, owner := if x.owner = 0 then q else x.owner } else x) s

/-- A channel that neither PAUSE nor a power-down holds goes on. -/
def pauseEnds (c : Nat) (s : State) : State :=
  updChan c (fun x =>
    if (x.st = 2 || x.st = 3) && !x.pause && !x.byPower then
      { x with st := if x.desc.isSome || x.page.isSome then 1 else 0, owner := 0 }
    else x) s

/-- `DMA.CTL.PAUSE` set or cleared (R307). -/
def dmaPause (c : Nat) (on : Bool) (s : State) : State :=
  let s1 := updChan c (fun x => { x with pause := on }) s
  if on then pauseBegins c s1 else pauseEnds c s1

/-- A channel is paused for a power-down (R363). -/
def powerPause (c : Nat) (s : State) : State := pauseBegins c (updChan c (fun x => { x with byPower := true }) s)

/-- A power-down's hold on a channel ends (R364). -/
def powerResume (c : Nat) (s : State) : State := pauseEnds c (updChan c (fun x => { x with byPower := false }) s)

/-- Host address of the structure that the owner of a channel reads, `n` bytes into it (R292; log 29): a BIND_STREAM
reads its page table and then its cell index. -/
def ownerHost (s : State) (q n : Nat) : Option Nat :=
  match s.job.live.find? (·.seq == q) with
  | some l =>
    if entryOp l.entry ≠ 4 then some (field l.entry 24 8)
    else if n ≤ 16 * field l.entry 24 8 then some (field l.entry 16 8)
    else some (field l.entry 32 8 - 16 * field l.entry 24 8)
  | none => none

/-- Host address at which the transfer of a channel began, `n` bytes ago. -/
def chanStart (s : State) (c : Fin 16) (n : Nat) : Nat :=
  let x := s.dma[c]
  match x.desc with
  | some d => d.1
  | none => (ownerHost s x.owner n).getD (x.cur - x.bytes)

/-- `n` bytes that the model does not see, each free. -/
def freeBytes (s : State) (n : Nat) : Bytes := (List.range n).map (fun i => (Config.freeValue (s.free + i)).setWidth 8)

/-- `DMA.BYTES` and `DMA.CUR_HOST` of a channel that has stopped in a transfer, exact (R307). The bytes a transfer from
the host has written so far are open until it ends (log 29). -/
def pausedAt (c : Fin 16) (n : Nat) (s : State) : State :=
  let start := chanStart s c n
  let s1 := updChan c.val (fun x => { x with bytes := n, cur := start + n }) s
  match (s.dma[c]).desc with
  | some (_, dev, _, false, _) => { dramWrite dev (freeBytes s n) s1 with free := s1.free + n }
  | _ => s1

/-- May a count of bytes stand for the transfer of a channel? -/
def countFits (s : State) (c : Fin 16) (n : Nat) : Bool :=
  match (s.dma[c]).desc with
  | some (_, _, len, _, _) => decide (n ≤ len)
  | none => true

/-- A pausing channel has drained (R307). -/
def dmaPaused (c : Fin 16) (n : Nat) (s : State) : State :=
  if (s.dma[c]).st ≠ 2 || !countFits s c n then s
  else raise 14 c.val 0 (pausedAt c n (updChan c.val (fun x => { x with st := 3 }) s))

/-- A power-down pause has not drained within 10 ms (R307). -/
def dmaHalted (c : Fin 16) (n : Nat) (s : State) : State :=
  let x := s.dma[c]
  if x.st ≠ 2 || !x.byPower || !countFits s c n then s
  else
    let s1 := raise 15 c.val 0 (pausedAt c n (updChan c.val (fun x => { x with st := 5 }) s))
    if x.owner = 0 then s1
    else finish x.owner { status := 0xC, source := 11, arg0 := n, arg1 := c.val } (updChan c.val (fun x => { x with owner := 0 }) s1)

/-- `DMA.CTL.RESTART` (R306, R364): a stopped channel takes its head again; one in HALTED_POWER continues once the
power-down is over. -/
def dmaRestart (c : Nat) (s : State) : State :=
  updChan c (fun x =>
    if x.st = 4 then { x with st := 0, err := 0, desc := none }
    else if x.st = 5 && !x.byPower then { x with st := if x.desc.isSome || x.page.isSome then 1 else 0 }
    else x) s

/-- A write of `DMA.CTL` (log 13). -/
def dmaCtl (c : Fin 16) (v : Word) (s : State) : State :=
  let s1 := if c.val < 13 then s else if bit v.toNat 0 then dmaOn c s else dmaOff c s
  let s2 := dmaPause c.val (bit v.toNat 1) s1
  if bit v.toNat 2 then dmaRestart c.val s2 else s2

/-- DMA_RESTART (R306). -/
def execDmaRestart (c : Fin 3) (s : State) : Host.Outcome State Fault Refusal :=
  .next (barWrite (dmaRestart (13 + c.val)) s)

/-- DMA_PAUSE (R307). -/
def execDmaPause (c : Fin 16) (on : Bool) (s : State) : Host.Outcome State Fault Refusal :=
  .next (barWrite (dmaPause c.val on) s)

/-- DMA_PAUSED (R307). -/
def execDmaPaused (c : Fin 16) (bytes : Nat) (s : State) : Host.Outcome State Fault Refusal := .next (dmaPaused c bytes s)

/-- HALTED_POWER (R307). -/
def execHaltedPower (c : Fin 16) (bytes : Nat) (s : State) : Host.Outcome State Fault Refusal :=
  .next (dmaHalted c bytes s)

end Sys2Proof.Machine
end

