-- ==== Sys2Proof/Machine/Pages.lean ====
section
/-!
DEFINITION. The page and the compression container of a Gwezha stream (R48 to R58; 02_gwezha_stream): the check of an
image, the page header with its faults, and the blocks and LZ tokens, in the order of R456. A breach is a fault code and
the offset that R80 gives it.
-/

namespace Sys2Proof.Machine

open Sys2Proof.Bits

/-- Bytes of content in every page but the last (R48). -/
def pageBytes : Nat := 1048576

/-- A fault: its code and its offset (R80). -/
abbrev PageFault := Nat × Nat

/-! ### The image -/

/-- PAYLOAD_LEN of an image (R51). -/
def payloadLen (image : Bytes) : Nat := field image 4 4

/-- CONTENT_LEN of an image (R51). -/
def contentLen (image : Bytes) : Nat := field image 8 4

/-- RECORD_OFFSET of an image (R51). -/
def recordOffset (image : Bytes) : Nat := field image 12 4

/-- RESTART of an image (R51). -/
def imageRestart (image : Bytes) : Bool := bit (byteAt image 3) 0

/-- LAST of an image (R51). -/
def imageLast (image : Bytes) : Bool := bit (byteAt image 3) 1

/-- Does an image pass the check of page `page` (R53)? A check value that would lie past the image fails. -/
def imageOk (image : Bytes) (page : Nat) : Bool :=
  let n := 16 + payloadLen image
  decide (16 ≤ image.length) && decide (n + 4 ≤ image.length) &&
    Check.crc32c page (slice image 0 n) == BitVec.ofNat 32 (field image n 4)

/-- The image length that a payload gives (R52). -/
def imageLen (payload : Nat) : Nat := roundUp (20 + payload) 64

/-- The first fault of a page header, from the header alone (R456 step 2; R48 to R52). -/
def headerFault (image : Bytes) (page count : Nat) : Option PageFault :=
  let last := page + 1 == count
  let n := contentLen image
  if field image 0 2 ≠ 0x5747 then some (0x01, 0)
  else if byteAt image 2 ≠ 1 then some (0x01, 2)
  else if byteAt image 3 / 4 ≠ 0 || (page == 0 && !imageRestart image) || imageLast image != last ||
      (imageRestart image && recordOffset image != 0) then some (0x02, 3)
  else if payloadLen image < 5 || 1048640 < payloadLen image then some (0x03, 4)
  else if (if last then n < 1 || pageBytes < n else n ≠ pageBytes) then some (0x03, 8)
  else if n < recordOffset image then some (0x03, 12)
  else none

/-- Does a page header disagree with its page table entry, in FLAGS or in image length (R84, code 0x23)? -/
def entryFault (image : Bytes) (len : Nat) (restart last : Bool) : Option PageFault :=
  if imageRestart image != restart || imageLast image != last then some (0x23, 3)
  else if imageLen (payloadLen image) ≠ len then some (0x23, 4)
  else none

/-! ### LZ tokens (R57) -/

/-- A length extension: bytes of 255 and one below it; none when the body ends first. -/
def lzExtra : Nat → Bytes → Option (Nat × Bytes)
  | _, [] => none
  | n, b :: r => if b.toNat = 255 then lzExtra (n + 255) r else some (n + b.toNat, r)

/-- A length of a token: its four bits, extended when they are 15. -/
def lzLength (nibble : Nat) (body : Bytes) : Option (Nat × Bytes) :=
  if nibble = 15 then lzExtra 15 body else some (nibble, body)

/-- A match copied byte by byte: `acc` holds the decoded bytes, newest first. -/
def lzCopy : Nat → Nat → Bytes → Bytes
  | 0, _, acc => acc
  | n + 1, off, acc => lzCopy n off (acc.getD (off - 1) 0 :: acc)

/-- One token of an LZ block of `outLen` bytes, of which `out` are decoded (R57): the decoded bytes newest first, the new
`out`, and the rest of the body. `head` is the offset of the block header and `at_` the content offset of the block. -/
def lzToken (outLen head at_ out : Nat) (acc body : Bytes) : Except PageFault (Bytes × Nat × Bytes) :=
  match body with
  | [] => .error (0x05, head)
  | t :: r0 =>
    let m := t.toNat % 16
    match lzLength (t.toNat / 16) r0 with
    | none => .error (0x05, head)
    | some (lit, r1) =>
      if outLen < out + lit then .error (0x07, at_ + out)
      else if r1.length < lit then .error (0x05, head)
      else
        let acc1 := (r1.take lit).reverse ++ acc
        let r2 := r1.drop lit
        let out1 := out + lit
        if out1 = outLen then (if m ≠ 0 then .error (0x07, at_ + out1) else .ok (acc1, out1, r2))
        else if r2.length < 3 then .error (0x05, head)
        else
          let o := leNat (r2.take 3)
          if pageBytes ≤ o then .error (0x06, at_ + out1)
          else match lzLength m (r2.drop 3) with
            | none => .error (0x05, head)
            | some (more, r3) =>
              if acc1.length < o + 1 then .error (0x06, at_ + out1)
              else if outLen < out1 + (more + 4) then .error (0x07, at_ + out1)
              else .ok (lzCopy (more + 4) (o + 1) acc1, out1 + (more + 4), r3)

/-- The tokens of an LZ block, at most `fuel` of them: each takes at least a byte of the body. -/
def lzTokens : Nat → Nat → Nat → Nat → Nat → Bytes → Bytes → Except PageFault (Bytes × Bytes)
  | 0, _, head, _, _, _, _ => .error (0x05, head)
  | fuel + 1, outLen, head, at_, out, acc, body =>
    if outLen ≤ out then .ok (acc, body)
    else match lzToken outLen head at_ out acc body with
      | .error e => .error e
      | .ok (acc1, out1, rest) => lzTokens fuel outLen head at_ out1 acc1 rest

/-! ### Blocks (R55, R56, R58) -/

/-- The body of a block of a type (R56): the decoded bytes newest first, and the rest of the payload. -/
def blockBody (type outLen head at_ : Nat) (acc body : Bytes) : Except PageFault (Bytes × Bytes) :=
  match type with
  | 0 => if body.length < outLen then .error (0x05, head) else .ok ((body.take outLen).reverse ++ acc, body.drop outLen)
  | 1 => lzTokens (body.length + 1) outLen head at_ 0 acc body
  | _ =>
    match body with
    | [] => .error (0x05, head)
    | b :: r => .ok (List.replicate outLen b ++ acc, r)

/-- The blocks of a payload (R58, R456 steps 3 and 4), at most `fuel` of them: `done` bytes of the content are decoded and
stand, newest first, before the history in `acc`. -/
def blocks : Nat → Nat → Nat → Nat → Bytes → Bytes → Except PageFault Bytes
  | 0, _, _, _, acc, _ => .ok acc
  | fuel + 1, total, size, done, acc, body =>
    let head := 16 + size - body.length
    if body.isEmpty then (if done < total then .error (0x03, 8) else .ok acc)
    else if total ≤ done then .error (0x03, head)
    else if body.length < 4 then .error (0x05, head)
    else
      let h := leNat (body.take 4)
      let outLen := h % 65536 + 1
      if h / 262144 ≠ 0 || h / 65536 % 4 = 3 then .error (0x04, head)
      else match blockBody (h / 65536 % 4) outLen head done acc (body.drop 4) with
        | .error e => .error e
        | .ok (acc1, rest) =>
          if total < done + outLen then .error (0x03, head) else blocks fuel total size (done + outLen) acc1 rest

/-- The content of a page from its image and the history before it (R56 to R58). -/
def pageContent (image history : Bytes) : Except PageFault Bytes :=
  let n := payloadLen image
  match blocks (n + 1) (contentLen image) n 0 history.reverse (slice image 16 n) with
  | .error e => .error e
  | .ok acc => .ok ((acc.take (contentLen image)).reverse)

/-- A page judged in full as a container (R456 steps 2 to 4): its content, or its first fault. -/
def decodePage (image : Bytes) (page count len : Nat) (restart last : Bool) (history : Bytes) :
    Except PageFault Bytes :=
  match headerFault image page count with
  | some e => .error e
  | none =>
    match entryFault image len restart last with
    | some e => .error e
    | none => pageContent image (if restart then [] else history)

end Sys2Proof.Machine
end

