-- ==== Sys2Proof/Machine/Records.lean ====
section
/-!
DEFINITION. The records of a Gwezha stream (R61 to R79; 02_gwezha_stream): the operand encodings, the operands of every
record, the vertices and validity of every primitive, and the orientations of R71 and R72. A reader answers its value
and the bytes left, or a stream fault code, or `cutShort` when the bytes end first.
-/

namespace Sys2Proof.Machine

open Sys2Proof.Bits

/-! ### Operands (R61) -/

/-- The bytes end before the operand is complete; no fault code has this value. -/
def cutShort : Nat := 0

/-- A reader of operands. -/
abbrev Reader (α : Type) := Bytes → Except Nat (α × Bytes)

/-- A uvar from its group `k` on (R61), with the value of the groups before it. -/
def uvarFrom : Nat → Nat → Nat → Reader Nat
  | 0, _, _, _ => .error 0x11
  | _ + 1, _, _, [] => .error cutShort
  | left + 1, k, n, b :: r =>
    let v := n + b.toNat % 128 * 2 ^ (7 * k)
    if left = 0 && 15 < b.toNat then .error 0x11
    else if 128 ≤ b.toNat then uvarFrom left (k + 1) v r
    else if 0 < k && b.toNat = 0 then .error 0x11
    else .ok (v, r)

/-- A uvar (R61). -/
def uvar : Reader Nat := uvarFrom 5 0 0

/-- The signed value of a uvar. -/
def zigzag (n : Nat) : Int := if n % 2 = 0 then ((n / 2 : Nat) : Int) else -((n / 2 : Nat) : Int) - 1

/-- An svar (R61). -/
def svar : Reader Int := fun b => do
  let (n, r) ← uvar b
  return (zigzag n, r)

/-- A u8. -/
def u8 : Reader Nat
  | [] => .error cutShort
  | b :: r => .ok (b.toNat, r)

/-- A u16 (R10). -/
def u16 : Reader Nat
  | a :: b :: r => .ok (a.toNat + 256 * b.toNat, r)
  | _ => .error cutShort

/-- Two svars. -/
def svar2 : Reader (Int × Int) := fun b => do
  let (x, r) ← svar b
  let (y, r) ← svar r
  return ((x, y), r)

/-- `n` operands of one kind, in order. -/
def times {α : Type} (read : Reader α) : Nat → Reader (List α)
  | 0, b => .ok ([], b)
  | n + 1, b =>
    match read b with
    | .error e => .error e
    | .ok (x, r) =>
      match times read n r with
      | .error e => .error e
      | .ok (xs, r1) => .ok (x :: xs, r1)

/-! ### Operands of the records (table of records) -/

/-- STREAM_HEADER: VERSION, FLAGS, TOP. -/
def readHeader : Reader (Nat × Nat × Nat) := fun b => do
  let (v, r) ← u8 b
  let (f, r) ← u8 r
  let (t, r) ← uvar r
  return ((v, f, t), r)

/-- CELL_BEGIN: ID and the declared box. -/
def readCell : Reader (Nat × Box) := fun b => do
  let (id, r) ← uvar b
  let (lo, r) ← svar2 r
  let (hi, r) ← svar2 r
  return ((id, ⟨lo.1, lo.2, hi.1, hi.2⟩), r)

/-- RECT: anchor, W and H. -/
def readRect : Reader ((Int × Int) × Nat × Nat) := fun b => do
  let (d, r) ← svar2 b
  let (w, r) ← uvar r
  let (h, r) ← uvar r
  return ((d, w, h), r)

/-- TRAP_H and TRAP_V: anchor, two uvars, an svar and a uvar. -/
def readTrap : Reader ((Int × Int) × Nat × Nat × Int × Nat) := fun b => do
  let (d, r) ← svar2 b
  let (m, r) ← uvar r
  let (n, r) ← uvar r
  let (x, r) ← svar r
  let (k, r) ← uvar r
  return ((d, m, n, x, k), r)

/-- POLY: N, anchor and N − 1 offsets. -/
def readPoly : Reader (Nat × (Int × Int) × List (Int × Int)) := fun b => do
  let (n, r) ← uvar b
  let (d, r) ← svar2 r
  let (l, r) ← times svar2 (n - 1) r
  return ((n, d, l), r)

/-- POLY_M: N, anchor and N − 2 edge lengths. -/
def readPolyM : Reader (Nat × (Int × Int) × List Int) := fun b => do
  let (n, r) ← uvar b
  let (d, r) ← svar2 r
  let (l, r) ← times svar (n - 2) r
  return ((n, d, l), r)

/-- A coded segment of a CURVE: its arc's control point and W, and its end where one is coded (R77). -/
structure Coded where
  arc : Option ((Int × Int) × Nat)
  stop : Option (Int × Int)
  deriving DecidableEq, Repr

/-- The operands of a segment of KIND 0 or 1, with its end coded unless it is the last (R77). -/
def readSegment (kind : Nat) (last : Bool) : Reader Coded := fun b => do
  let (c, r) ← (if kind = 1 then svar2 b else .ok ((0, 0), b))
  let (e, r) ← (if last then .ok ((0, 0), r) else svar2 r)
  let (w, r) ← (if kind = 1 then u16 r else .ok (0, r))
  return ({ arc := if kind = 1 then some (c, w) else none, stop := if last then none else some e }, r)

/-- `n` segments of a CURVE (R77), and whether one of another KIND follows those read: it has no operands that could be
read, so the record is read as far as its KIND byte. -/
def readSegments : Nat → Reader (List Coded × Bool)
  | 0, b => .ok (([], false), b)
  | n + 1, b =>
    match u8 b with
    | .error e => .error e
    | .ok (kind, r) =>
      if 1 < kind then .ok (([], true), [])
      else match readSegment kind (n == 0) r with
        | .error e => .error e
        | .ok (g, r1) =>
          match readSegments n r1 with
          | .error e => .error e
          | .ok ((l, bad), r2) => .ok ((g :: l, bad), r2)

/-- CURVE: N, first vertex and N segments, with whether a segment has an unknown KIND. -/
def readCurve : Reader (Nat × (Int × Int) × List Coded × Bool) := fun b => do
  let (n, r) ← uvar b
  let (d, r) ← svar2 r
  let (l, r) ← readSegments n r
  return ((n, d, l), r)

/-- SREF: ID, ORIENT and anchor. -/
def readSref : Reader (Nat × Nat × (Int × Int)) := fun b => do
  let (id, r) ← uvar b
  let (o, r) ← u8 r
  let (d, r) ← svar2 r
  return ((id, o, d), r)

/-- AREF: as SREF, then COLS, ROWS and the two lattice vectors. -/
def readAref : Reader ((Nat × Nat × (Int × Int)) × Nat × Nat × (Int × Int) × (Int × Int)) := fun b => do
  let (s, r) ← readSref b
  let (m, r) ← uvar r
  let (n, r) ← uvar r
  let (a, r) ← svar2 r
  let (v, r) ← svar2 r
  return ((s, m, n, a, v), r)

/-- No operands: NOP and CELL_END. -/
def readNone : Reader Unit := fun b => .ok ((), b)

/-- A reader whose value is dropped. -/
def skipping {α : Type} (read : Reader α) (b : Bytes) : Except Nat Bytes :=
  match read b with
  | .error e => .error e
  | .ok (_, r) => .ok r

/-- A CURVE passed over; one with an unknown KIND has no end that could be found. -/
def skipCurve (b : Bytes) : Except Nat Bytes :=
  match readCurve b with
  | .error e => .error e
  | .ok ((_, _, _, bad), r) => if bad then .error 0x15 else .ok r

/-- The operands of the record with an opcode passed over; fault 0x10 for an opcode that is not defined (R63). -/
def skipOperands (op : Nat) (b : Bytes) : Except Nat Bytes :=
  match op with
  | 0x00 => .ok b
  | 0x10 => skipping readHeader b
  | 0x11 => skipping uvar b
  | 0x20 => skipping readCell b
  | 0x21 => .ok b
  | 0x30 => skipping readRect b
  | 0x31 => skipping svar2 b
  | 0x32 => skipping readTrap b
  | 0x33 => skipping readTrap b
  | 0x34 => skipping readPoly b
  | 0x35 => skipping readPolyM b
  | 0x36 => skipCurve b
  | 0x40 => skipping readSref b
  | 0x41 => skipping readAref b
  | _ => .error 0x10

/-- Is an opcode defined (R63)? -/
def opcodeDefined (op : Nat) : Bool :=
  [0x00, 0x10, 0x11, 0x20, 0x21, 0x30, 0x31, 0x32, 0x33, 0x34, 0x35, 0x36, 0x40, 0x41].contains op

/-- The bytes of a record that starts in a string end it, or the record is cut short there: its length, if it is whole. -/
def recordLen (b : Bytes) : Option Nat :=
  match b with
  | [] => none
  | op :: r =>
    match skipOperands op.toNat r with
    | .ok rest => some (1 + r.length - rest.length)
    | .error _ => none

/-- The scan of a run that begins at the start of a chain, outside every cell (R49, R50): at page 0 no record has been
completed. -/
def Scan.start (page : Nat) : Scan :=
  { cell := none, cur := (0, 0), lastW := 0, lastH := 0, records := if page = 0 then some 0 else none, tail := [] }

/-- The anchor of a record, as an offset from the current point (R67), for the scan of a saved state. -/
def anchorIn (op : Nat) (b : Bytes) : Int × Int :=
  let skip (read : Reader Nat) (f : Bytes → Int × Int) : Int × Int := match read b with | .ok (_, r) => f r | .error _ => (0, 0)
  let first (r : Bytes) : Int × Int := match svar2 r with | .ok (d, _) => d | .error _ => (0, 0)
  match op with
  | 0x30 | 0x31 | 0x32 | 0x33 => first b
  | 0x34 | 0x35 | 0x36 => skip uvar first
  | 0x40 | 0x41 => skip uvar (fun r => first (r.drop 1))
  | _ => (0, 0)

/-- A whole record with its operands passes through the scan of a run (R59, R67, R75). -/
def scanRecord (op : Nat) (b : Bytes) (x : Scan) : Scan :=
  let y := { x with records := x.records.map (· + 1) }
  match op with
  | 0x20 => (match uvar b with
    | .ok (id, _) => { y with cell := some id, cur := (0, 0), lastW := 0, lastH := 0 }
    | .error _ => y)
  | 0x21 => { y with cell := none, lastW := 0, lastH := 0 }
  | _ =>
    let d := anchorIn op b
    let z := { y with cur := (y.cur.1 + d.1, y.cur.2 + d.2) }
    match op, readRect b with
    | 0x30, .ok ((_, w, h), _) => { z with lastW := w, lastH := h }
    | _, _ => z

/-- The records of a string pass through the scan of a run, from a record boundary on: what is left belongs to a record
that goes on past it. -/
def scanBytes : Nat → Bytes → Scan → Scan
  | 0, b, x => { x with tail := b }
  | fuel + 1, b, x =>
    match b, recordLen b with
    | op :: r, some n => scanBytes fuel (b.drop n) (scanRecord op.toNat (r.take (n - 1)) x)
    | _, _ => { x with tail := b }

/-- A page passes through the scan of a run (R59). -/
def scanPage (content : Bytes) (x : Scan) : Scan := scanBytes (x.tail.length + content.length) (x.tail ++ content) x

/-! ### Orientations (R71, R72, R79) -/

/-- A point under an orientation code (R71). -/
def orientPoint (o : Nat) (p : Int × Int) : Int × Int :=
  match o with
  | 0 => (p.1, p.2)
  | 1 => (-p.2, p.1)
  | 2 => (-p.1, -p.2)
  | 3 => (p.2, -p.1)
  | 4 => (p.1, -p.2)
  | 5 => (p.2, p.1)
  | 6 => (-p.1, p.2)
  | _ => (-p.2, -p.1)

/-- The orientation of a child of code `c2` in a cell placed with `c1` (R72). -/
def composeOrient (c1 c2 : Nat) : Nat :=
  let r := if c1 / 4 = 0 then (c1 % 4 + c2 % 4) % 4 else (c1 % 4 + 4 - c2 % 4) % 4
  (if c1 / 4 = c2 / 4 then 0 else 4) + r

/-- The point of the parent under an orientation and an origin. -/
def placePoint (o : Nat) (t p : Int × Int) : Int × Int := ((orientPoint o p).1 + t.1, (orientPoint o p).2 + t.2)

/-- The least box that holds two corners. -/
def boxOf (a b : Int × Int) : Box := ⟨min a.1 b.1, min a.2 b.2, max a.1 b.1, max a.2 b.2⟩

/-- A box under an orientation and an origin. -/
def placeBox (o : Nat) (t : Int × Int) (b : Box) : Box := boxOf (placePoint o t (b.x0, b.y0)) (placePoint o t (b.x1, b.y1))

/-- Does a box hold a point, edges included (R70)? -/
def boxHolds (b : Box) (p : Int × Int) : Bool :=
  decide (b.x0 ≤ p.1) && decide (p.1 ≤ b.x1) && decide (b.y0 ≤ p.2) && decide (p.2 ≤ b.y1)

/-- Does a box hold another? -/
def boxInside (b c : Box) : Bool := boxHolds b (c.x0, c.y0) && boxHolds b (c.x1, c.y1)

/-- Do two boxes share a point, edges included? -/
def boxMeets (b c : Box) : Bool :=
  decide (b.x0 ≤ c.x1) && decide (c.x0 ≤ b.x1) && decide (b.y0 ≤ c.y1) && decide (c.y0 ≤ b.y1)

/-- Does a value lie in the range of R68? -/
def coordOk (v : Int) : Bool := decide (-2147483648 ≤ v) && decide (v ≤ 2147483647)

/-- Does a point lie in the range of R68? -/
def pointOk (p : Int × Int) : Bool := coordOk p.1 && coordOk p.2

/-- Does an extension lie in the range of R68? -/
def extentOk (n : Nat) : Bool := decide (n ≤ 2147483647)

/-! ### Primitives in the cell's own system (R75 to R78) -/

/-- A primitive with its vertices in the cell's own system. -/
inductive Shape where
  | rect (a b : Int × Int)
  | poly (pts : List (Int × Int))
  | curve (first : Int × Int) (segs : List Seg)
  deriving DecidableEq, Repr

/-- The vertices and control points of a primitive (R70). -/
def shapePoints : Shape → List (Int × Int)
  | .rect a b => [a, b]
  | .poly pts => pts
  | .curve p segs => p :: segs.flatMap (fun g => [(g.cx, g.cy), (g.ex, g.ey)])

/-- A primitive as its entry in a tile list (R79, R103). -/
def shapeEntry (o : Nat) (t : Int × Int) : Shape → LEntry
  | .rect a b => .rect (boxOf (placePoint o t a) (placePoint o t b))
  | .poly pts => .poly (pts.map (placePoint o t))
  | .curve p segs =>
    .curve (placePoint o t p) (segs.map (fun g =>
      let c := placePoint o t (g.cx, g.cy)
      let e := placePoint o t (g.ex, g.ey)
      { g with cx := c.1, cy := c.2, ex := e.1, ey := e.2 }))

/-- A rectangle from its corner (table of primitives). -/
def rectShape (p : Int × Int) (w h : Nat) : Shape := .rect p (p.1 + w, p.2 + h)

/-- A horizontal trapezoid from its first vertex. -/
def trapHShape (p : Int × Int) (h wb : Nat) (dxt : Int) (wt : Nat) : Shape :=
  .poly [p, (p.1 + wb, p.2), (p.1 + dxt + wt, p.2 + h), (p.1 + dxt, p.2 + h)]

/-- A vertical trapezoid from its first vertex. -/
def trapVShape (p : Int × Int) (w hl : Nat) (dyr : Int) (hr : Nat) : Shape :=
  .poly [p, (p.1 + w, p.2 + dyr), (p.1 + w, p.2 + dyr + hr), (p.1, p.2 + hl)]

/-- The vertices of a POLY: each from the one before it. -/
def polyPoints : Int × Int → List (Int × Int) → List (Int × Int)
  | p, [] => [p]
  | p, d :: r => p :: polyPoints (p.1 + d.1, p.2 + d.2) r

/-- The vertices of a POLY_M from edge `k` on (R76): edge lengths alternate x and y, and the last coded edge is followed by
the vertex at the anchor's x. -/
def manhattan (x0 : Int) : Bool → Int × Int → List Int → List (Int × Int)
  | _, p, [] => [p, (x0, p.2)]
  | true, p, d :: r => p :: manhattan x0 false (p.1 + d, p.2) r
  | false, p, d :: r => p :: manhattan x0 true (p.1, p.2 + d) r

/-- Are two consecutive vertices of a closed polygon equal, the last and the first included? -/
def repeats : List (Int × Int) → Bool
  | [] => false
  | p :: r => ((p :: r).zip (r ++ [p])).any (fun e => e.1 == e.2)

/-- The validity of a POLY (fault 0x15). -/
def polyOk (n : Nat) (pts : List (Int × Int)) : Bool := decide (3 ≤ n) && decide (n ≤ 4096) && !repeats pts

/-- The validity of a POLY_M (fault 0x15). -/
def polyMOk (n : Nat) (pts : List (Int × Int)) : Bool :=
  decide (4 ≤ n) && decide (n ≤ 4096) && n % 2 == 0 && !repeats pts

/-- The segments of a CURVE, each from the end of the one before; the last ends at the first vertex (R77). -/
def curveSegs (first : Int × Int) : Int × Int → List Coded → List (Seg × (Int × Int))
  | _, [] => []
  | p, g :: r =>
    let d := g.stop.getD (first.1 - p.1, first.2 - p.2)
    let e := (p.1 + d.1, p.2 + d.2)
    let c := match g.arc with | some (c, _) => (p.1 + c.1, p.2 + c.2) | none => e
    let w := match g.arc with | some (_, w) => w | none => 0
    ({ arc := g.arc.isSome, w := w, cx := c.1, cy := c.2, ex := e.1, ey := e.2 }, p) :: curveSegs first e r

/-- Does an offset of a CURVE lie in the range of R78? -/
def curveOffset (v : Int) : Bool := decide (-16777216 ≤ v) && decide (v ≤ 16777216)

/-- The fault of one segment that starts at a point (R78), if it has one. -/
def segFault (g : Seg) (p : Int × Int) : Option Nat :=
  let cx := g.cx - p.1
  let cy := g.cy - p.2
  let ex := g.ex - p.1
  let ey := g.ey - p.2
  if (ex = 0 && ey = 0) || !(curveOffset cx && curveOffset cy && curveOffset ex && curveOffset ey) then some 0x15
  else if g.arc && (cx * (ex - cx) < 0 || cy * (ey - cy) < 0 || cx * ey - cy * ex = 0 || g.w < 1024 || 32768 < g.w) then
    some 0x16
  else none

/-- The fault of a CURVE (R77, R78): N first, then the segments in order, one of an unknown KIND in its place, then the want
of an arc. -/
def curveFault (n : Nat) (segs : List (Seg × (Int × Int))) (badKind : Bool) : Option Nat :=
  if n < 2 || 4096 < n then some 0x15
  else match segs.findSome? (fun g => segFault g.1 g.2) with
    | some c => some c
    | none => if badKind || !segs.any (fun g => g.1.arc) then some 0x15 else none

end Sys2Proof.Machine
end

