-- ==== Sys2Proof/Machine/Walk.lean ====
section
/-!
DEFINITION. The expansion unit (02_gwezha_stream, 03_intake_and_paging): where the next record of a pass begins, the
faults of records in the order of R456, the open cells, the placements entered (R101, R102, R457) and the entries of the
tile lists (R103 to R106). A record is taken when its bytes stand, in the content that a decompressor of the pass holds,
where the unit reads next; any other leaves the state as it is.
-/

namespace Sys2Proof.Machine

open Sys2Proof.Bits

/-! ### The walk of a pass -/

/-- The walk of a pass changed. -/
def updExp (p : Pass) (f : Exp → Exp) (s : State) : State :=
  match p with
  | .forage => { s with intake := { s.intake with expF := f s.intake.expF } }
  | .write => { s with intake := { s.intake with expW := f s.intake.expW } }

/-- Does the command of a pass execute, with no failure that ends it? -/
def passGoes (s : State) (p : Pass) : Bool :=
  s.intake.bind.isSome &&
  (match p with
    | .forage => (match s.job.forage with | some f => f.fail.isNone | none => false)
    | .write => writeLive s)

/-- The command of a pass ends with a status and DETAIL: a forage when it is ended, a write at the next flash boundary. -/
def failPass (p : Pass) (status code source arg0 arg1 : Nat) (s : State) : State :=
  match p with
  | .forage =>
    { s with job := { s.job with forage := s.job.forage.map (fun f : Forage =>
      { f with fail := f.fail.or (some (status, code, source, 0, arg0, arg1)) }) } }
  | .write =>
    addCause { code := 0, flash := none, arg0 := arg0, arg1 := arg1, axis := 0, status := status, dcode := code,
               dsource := source } s

/-- The fault registers of the intake (03). -/
def faultRegs (code page off : Nat) (s : State) : State :=
  setRegN 0x040050 off (setReg64 0x040048 page (setRegN 0x040044 code s))

/-- A stream fault ends the command of a pass with MALFORMED (R80). -/
def streamFault (p : Pass) (code page off : Nat) (s : State) : State :=
  failPass p 6 code 2 page off (raise 35 0 (passSeq s p) (faultRegs code page off s))

/-- Pages of the binding. -/
def boundPages (s : State) : List PageEnt := match s.intake.bind with | some b => b.pages | none => []

/-- The cell index of the binding. -/
def boundCells (s : State) : List CellEnt := match s.intake.bind with | some b => b.cells | none => []

/-- What a run of a pass holds of a page. -/
def runContent (p : Pass) (page : Nat) (d : Dec) : Option Bytes :=
  match d.run with
  | none => none
  | some r =>
    if r.pass != p then none
    else if r.next == page + 1 && !r.content.isEmpty then some r.content
    else if r.next == page + 2 && !r.before.isEmpty then some r.before
    else none

/-- The content of a page that a decompressor of a pass holds. -/
def contentAt (s : State) (p : Pass) (page : Nat) : Option Bytes := s.intake.dec.toList.findSome? (runContent p page)

/-- The header of a page that a pass has decoded. -/
def headOf (s : State) (p : Pass) (page : Nat) : Option PageHead := (passExp s p).pages.find? (fun h => h.page == page)

/-- Where the unit reads the next record of a pass: the STREAM_HEADER, the CELL_BEGIN of the placement it enters, the next
record of the innermost open cell, or what follows the top cell (R101, R102). -/
def expected (s : State) (p : Pass) : Option RecPos :=
  let x := passExp s p
  if !x.header then some ⟨0, 0⟩
  else match x.enter, x.stack with
    | pl :: _, _ => some ⟨pl.cell.beginPage, pl.cell.beginOff⟩
    | [], c :: _ => some c.next
    | [], [] => if x.ended then none else some x.next

/-- The bytes held from a position on. -/
def bytesAt (s : State) (p : Pass) (pos : RecPos) : Option Bytes :=
  (contentAt s p pos.page).map (fun c => c.drop pos.off ++ (contentAt s p (pos.page + 1)).getD [])

/-- Does the unit read a record with these bytes next? -/
def recordHere (s : State) (p : Pass) (pos : RecPos) (op : Nat) (ops : Bytes) : Bool :=
  passGoes s p && expected s p == some pos &&
  (match bytesAt s p pos with
    | some b => (BitVec.ofNat 8 op :: ops).isPrefixOf b
    | none => false)

/-- The position `n` bytes past `pos` (R48). -/
def posAfter (s : State) (pos : RecPos) (n : Nat) : RecPos :=
  if pos.page + 1 < (boundPages s).length && pageBytes ≤ pos.off + n then ⟨pos.page + 1, pos.off + n - pageBytes⟩
  else ⟨pos.page, pos.off + n⟩

/-- Is a position the end of the last page's content? -/
def atEnd (s : State) (p : Pass) (q : RecPos) : Bool :=
  match headOf s p q.page with
  | some h => h.last && decide (h.len ≤ q.off)
  | none => false

/-- Is the next record reached in sequence, and not at the place the index gives? -/
def inSequence (x : Exp) : Bool := x.header && x.enter.isEmpty

/-- What the unit meets where it reads next, before any record there is whole: a RESTART page inside a cell (0x02), a
RECORD_OFFSET that is not 0 where a record begins at offset 0 (0x09), the end of the content (0x1A, or 0x24 where the index names the
place), or an opcode that is not defined (0x10). -/
def lookAhead (p : Pass) (s : State) : State :=
  let x := passExp s p
  match (if passGoes s p then expected s p else none) with
  | none => s
  | some q =>
    match headOf s p q.page with
    | none => s
    | some h =>
      if inSequence x && q.off = 0 && h.restart && !x.stack.isEmpty then streamFault p 0x02 q.page 3 s
      else if q.off = 0 && !h.restart && h.recOff ≠ 0 then streamFault p 0x09 q.page 0 s
      else if h.last && h.len ≤ q.off then
        (if x.enter.isEmpty then streamFault p 0x1A q.page h.len s else streamFault p 0x24 q.page q.off s)
      else match contentAt s p q.page with
        | none => s
        | some c =>
          match (c.drop q.off).head? with
          | none => s
          | some b => if opcodeDefined b.toNat then s else streamFault p 0x10 q.page q.off s

/-- A record of `n` bytes has been taken: RECORD_OFFSET of a page it continues into is judged (R456 step 6), and the unit
looks at what comes next. -/
def passed (p : Pass) (pos : RecPos) (n : Nat) (s : State) : State :=
  let q := posAfter s pos n
  let s1 :=
    if q.page ≠ pos.page && q.off ≠ 0 && passGoes s p then
      match headOf s p q.page with
      | some h =>
        if h.restart then streamFault p 0x02 q.page 3 s
        else if h.recOff ≠ q.off then streamFault p 0x09 q.page q.off s
        else s
      | none => s
    else s
  lookAhead p s1

/-- The most operand bytes of a record (R62). -/
def operandMax : Nat := 65535

/-- A record is read (R61, R62, R456): its operands are judged as they are read, and what it does is `run`. A record that the
end of the last page cuts short is fault 0x1A, also where it is all that page holds and RECORD_OFFSET there is wrong (DESIGN
CHOICE, log 106). -/
def takeRecord {α : Type} (p : Pass) (pos : RecPos) (op : Nat) (read : Reader α) (ops : Bytes)
    (run : α → State → State) (s : State) : State :=
  if !recordHere s p pos op ops then s
  else match read (ops.take operandMax) with
    | .error c =>
      if c ≠ cutShort then streamFault p c pos.page pos.off s
      else if operandMax ≤ ops.length then streamFault p 0x19 pos.page pos.off s
      else if atEnd s p (posAfter s pos (1 + ops.length)) then streamFault p 0x1A pos.page pos.off s
      else s
    | .ok (v, rest) => if rest.isEmpty && ops.length ≤ operandMax then run v s else s

/-- The fault of a record where it may not stand: the index names another there (R84), or R63. -/
def wrongPlace (x : Exp) : Nat := if x.header && !x.enter.isEmpty then 0x24 else 0x12

/-- A record that stands inside a cell only (R63). One that begins a RESTART page outside every cell breaks R50 too: the
fault is 0x12 (DESIGN CHOICE, log 107). -/
def inCell (p : Pass) (pos : RecPos) (run : OpenCell → State → State) (s : State) : State :=
  let x := passExp s p
  match x.header, x.enter, x.stack with
  | true, [], c :: _ => run c s
  | _, _, _ => streamFault p (wrongPlace x) pos.page pos.off s

/-- The innermost open cell changed. -/
def updOpen (p : Pass) (f : OpenCell → OpenCell) (s : State) : State :=
  updExp p (fun x => match x.stack with | c :: r => { x with stack := f c :: r } | [] => x) s

/-! ### The tiles of a window (R101, R111, R136) -/

/-- First and last of a range of integers, as a list. -/
def intRange (lo hi : Int) : List Int := (List.range (hi + 1 - lo).toNat).map (fun i => lo + (i : Int))

/-- Bytes along the side of a tile, in DBU (R110, R111). -/
def tileSide : Int := 8192

/-- The tiles of the window of a stripe whose closed extent meets a box (R101). -/
def tilesMeeting (f : Stripe) (margin : Nat) (b : Box) : List (Int × Int) :=
  let x := 32 * f.x
  let y := 32 * f.y
  let m := (margin : Int)
  let c0 := max (-m) (-(fdiv (x - b.x0) tileSide) - 1)
  let c1 := min (39 + m) (fdiv (b.x1 - x) tileSide)
  let s0 := if f.dir = 0 then -(fdiv (y - b.y0) tileSide) - 1 else -(fdiv (b.y1 - y) tileSide) - 1
  let s1 := if f.dir = 0 then fdiv (b.y1 - y) tileSide else fdiv (y - b.y0) tileSide
  (intRange (max (-m) s0) (min ((f.segs : Int) - 1 + m) s1)).flatMap
    (fun g => (intRange c0 c1).map (fun c => (c, g)))

/-- The extent of a tile (R111). -/
def tileExtent (f : Stripe) (t : Int × Int) : Box :=
  let x := 32 * f.x + tileSide * t.1
  let y := if f.dir = 0 then 32 * f.y + tileSide * t.2 else 32 * f.y - tileSide * (t.2 + 1)
  ⟨x, y, x + tileSide, y + tileSide⟩

/-- Tiles of the window of a pass that a box meets. -/
def passTiles (s : State) (p : Pass) (b : Box) : List (Int × Int) :=
  match passStripe s p with
  | some f => tilesMeeting f (passMargin s p) b
  | none => []

/-! ### Tile lists (R104 to R106, R322) -/

/-- Length of a list in bytes (R104). -/
def listBytes (l : TList) : Nat := 32 + (l.entries.map entryLen).sum

/-- Units of 64 KiB of lists (R322). -/
def listUnits (ls : List TList) : Nat := (ls.map (fun l => (listBytes l + 65535) / 65536)).sum

/-- An entry added to the list of a tile. -/
def addTo (p : Pass) (ls : List TList) (x : (Int × Int) × LEntry) : List TList :=
  let mine (l : TList) : Bool := l.col == x.1.1 && l.seg == x.1.2
  if ls.any mine then ls.map (fun l => if mine l then { l with entries := l.entries ++ [x.2] } else l)
  else ls ++ [{ pass := p, col := x.1.1, seg := x.1.2, entries := [x.2], done := false, units := [] }]

/-- The tile identifier of a tile of a pass (R112). -/
def passTileId (s : State) (p : Pass) (t : Int × Int) : Nat :=
  match passStripe s p with
  | some f => tileId f.pass t.1 t.2 f.stripe
  | none => 0

/-- The entries of a list, one after another (R104). -/
def entriesBytes : List LEntry → Bytes
  | [] => []
  | x :: r => entryBytes r x ++ entriesBytes r

/-- Is a tile of a stripe a margin tile (R136)? -/
def marginTile (f : Stripe) (col seg : Int) : Bool :=
  decide (col < 0) || decide (39 < col) || decide (seg < 0) || decide ((f.segs : Int) ≤ seg)

/-- A tile list as it stands in LIST, header first (R104). -/
def listImage (s : State) (p : Pass) (f : Stripe) (l : TList) : Bytes :=
  let flags := (if (passExp s p).negative then 1 else 0) + (if marginTile f l.col l.seg then 2 else 0)
  natLe (passTileId s p (l.col, l.seg)) 8 ++ natLe l.entries.length 4 ++ natLe (listBytes l) 4 ++ natLe flags 4 ++
    natLe 0 12 ++ entriesBytes l.entries

/-- The lowest `n` units from unit `k` on that are not in use, looking at no more than `fuel`. -/
def freeUnits : Nat → List Nat → Nat → Nat → List Nat
  | 0, _, _, _ => []
  | _ + 1, _, _, 0 => []
  | fuel + 1, used, k, n + 1 =>
    if used.contains k then freeUnits fuel used (k + 1) (n + 1) else k :: freeUnits fuel used (k + 1) n

/-- The units of LIST that a list of `n` bytes is given: the lowest free ones (R322; DESIGN CHOICE, log 69). -/
def unitsFor (s : State) (n : Nat) : List Nat :=
  let used := s.comb.lists.flatMap (·.units)
  let k := (n + 65535) / 65536
  freeUnits (used.length + k) used 0 k

/-- Bytes written to units of LIST, in order. -/
def putUnits : List Nat → Bytes → State → State
  | [], _, s => s
  | u :: r, b, s =>
    putUnits r (b.drop 65536) (dramWrite (s.mem.regions.list.1 * 2 ^ 30 + 65536 * u) (b.take 65536) s)

/-- A list longer than 16 MiB ends the command (R106). -/
def listOverflow (p : Pass) (l : TList) (s : State) : State :=
  failPass p 3 0x24 8 (passTileId s p (l.col, l.seg)) 0 (raise 40 0 (passSeq s p) (count 0x040040 1 s))

/-- Units of 64 KiB that LIST holds (R319, R322). -/
def listRoom (s : State) : Nat := s.mem.regions.list.2 * 16384

/-- Entries are written to their lists, and `run` goes on; a full LIST makes the unit wait (R322). -/
def writeEntries (p : Pass) (xs : List ((Int × Int) × LEntry)) (run : State → State) (s : State) : State :=
  let ls := xs.foldl (addTo p) (passExp s p).lists
  match ls.find? (fun l => decide (16777216 < listBytes l)) with
  | some l => listOverflow p l s
  | none =>
    let t := updExp p (fun x => { x with lists := ls }) s
    if !xs.isEmpty && listRoom s < listUnits t.intake.expF.lists + listUnits t.intake.expW.lists + listUnits t.comb.lists then
      count 0x100828 1 s
    else run t

/-- The bounding box of points (R101). -/
def pointsBox : List (Int × Int) → Box
  | [] => ⟨0, 0, 0, 0⟩
  | p :: r => r.foldl (fun b q => ⟨min b.x0 q.1, min b.y0 q.2, max b.x1 q.1, max b.y1 q.2⟩) ⟨p.1, p.2, p.1, p.2⟩

/-- The bounding box of an entry, over vertices and control points (R101, R105); brackets have none of their own. -/
def entryBox : LEntry → Option Box
  | .rect b => some b
  | .poly pts => some (pointsBox pts)
  | .curve p segs => some (pointsBox (p :: segs.flatMap (fun g => [(g.cx, g.cy), (g.ex, g.ey)])))
  | .hiveOpen .. => none
  | .hiveClose => none

/-! ### Primitives -/

/-- The declared box of an open cell's placement in the top cell's system. -/
def placedBox (pl : Placement) : Box := placeBox pl.orient (pl.tx, pl.ty) pl.cell.box

/-- A primitive of `n` bytes whose anchor is `a` (R67 to R70, R101 to R103): `fault` is a breach of its own validity. -/
def addShape (p : Pass) (pos : RecPos) (n : Nat) (c : OpenCell) (a : Int × Int) (fault : Option Nat) (exts : List Nat)
    (sh : Shape) (post : OpenCell → OpenCell) (s : State) : State :=
  let pts := shapePoints sh
  let o := c.at_.orient
  let t := (c.at_.tx, c.at_.ty)
  match fault with
  | some code => streamFault p code pos.page pos.off s
  | none =>
    if !(exts.all extentOk && pts.all pointOk && pts.all (fun q => pointOk (placePoint o t q))) then
      streamFault p 0x17 pos.page pos.off s
    else if !pts.all (boxHolds c.at_.cell.box) then streamFault p 0x14 pos.page pos.off s
    else
      let e := shapeEntry o t sh
      let tiles := match entryBox e with | some b => if c.placed then passTiles s p b else [] | none => []
      writeEntries p (tiles.map (fun k => (k, e)))
        (fun u => passed p pos n (updOpen p (fun c => post { c with
          cur := a, count := c.count + 1, next := posAfter s pos n }) u)) s

/-- The anchor of a record in an open cell (R67). -/
def anchorOf (c : OpenCell) (d : Int × Int) : Int × Int := (c.cur.1 + d.1, c.cur.2 + d.2)

/-- A RECT (R75). -/
def rectRecord (p : Pass) (pos : RecPos) (n : Nat) (v : (Int × Int) × Nat × Nat) (s : State) : State :=
  inCell p pos (fun c =>
    let a := anchorOf c v.1
    addShape p pos n c a (if v.2.1 = 0 || v.2.2 = 0 then some 0x15 else none) [v.2.1, v.2.2] (rectShape a v.2.1 v.2.2)
      (fun c => { c with lastW := v.2.1, lastH := v.2.2 })) s

/-- A RECT_SAME (R75). -/
def rectSameRecord (p : Pass) (pos : RecPos) (n : Nat) (d : Int × Int) (s : State) : State :=
  inCell p pos (fun c =>
    let a := anchorOf c d
    addShape p pos n c a (if c.lastW = 0 then some 0x15 else none) [] (rectShape a c.lastW c.lastH) id) s

/-- A TRAP_H (R75). -/
def trapHRecord (p : Pass) (pos : RecPos) (n : Nat) (v : (Int × Int) × Nat × Nat × Int × Nat) (s : State) : State :=
  inCell p pos (fun c =>
    let a := anchorOf c v.1
    let (h, wb, dxt, wt) := v.2
    addShape p pos n c a (if h = 0 || wb + wt = 0 then some 0x15 else none) [h, wb, wt] (trapHShape a h wb dxt wt) id) s

/-- A TRAP_V (R75). -/
def trapVRecord (p : Pass) (pos : RecPos) (n : Nat) (v : (Int × Int) × Nat × Nat × Int × Nat) (s : State) : State :=
  inCell p pos (fun c =>
    let a := anchorOf c v.1
    let (w, hl, dyr, hr) := v.2
    addShape p pos n c a (if w = 0 || hl + hr = 0 then some 0x15 else none) [w, hl, hr] (trapVShape a w hl dyr hr) id) s

/-- A POLY (R67). -/
def polyRecord (p : Pass) (pos : RecPos) (n : Nat) (v : Nat × (Int × Int) × List (Int × Int)) (s : State) : State :=
  inCell p pos (fun c =>
    let a := anchorOf c v.2.1
    let pts := polyPoints a v.2.2
    addShape p pos n c a (if polyOk v.1 pts then none else some 0x15) [] (.poly pts) id) s

/-- A POLY_M (R76). -/
def polyMRecord (p : Pass) (pos : RecPos) (n : Nat) (v : Nat × (Int × Int) × List Int) (s : State) : State :=
  inCell p pos (fun c =>
    let a := anchorOf c v.2.1
    let pts := manhattan a.1 true a v.2.2
    addShape p pos n c a (if polyMOk v.1 pts then none else some 0x15) [] (.poly pts) id) s

/-- A CURVE (R77, R78). -/
def curveRecord (p : Pass) (pos : RecPos) (n : Nat) (v : Nat × (Int × Int) × List Coded × Bool) (s : State) : State :=
  inCell p pos (fun c =>
    let a := anchorOf c v.2.1
    let segs := curveSegs a a v.2.2.1
    addShape p pos n c a (curveFault v.1 segs v.2.2.2) [] (.curve a (segs.map (·.1))) id) s

/-! ### Cells and placements -/

/-- The tile whose list brackets a placement (R105): its box has area and lies within one tile, and it stands in no other
bracket. -/
def bracketTile (s : State) (p : Pass) (b : Box) : Option (Int × Int) :=
  if (passExp s p).stack.any (fun c => c.at_.bracket.isSome) || b.x0 = b.x1 || b.y0 = b.y1 then none
  else match passStripe s p with
    | some f => (passTiles s p b).find? (fun t => boxInside (tileExtent f t) b)
    | none => none

/-- The copies of an array, j outer and i inner, as placements in the top cell's system (R73, R101, R102). -/
def copies (s : State) (p : Pass) (outer : Placement) (cell : CellEnt) (orient : Nat) (a : Int × Int) (cols rows : Nat)
    (va vb : Int × Int) : List Placement :=
  (List.range rows).flatMap (fun j => (List.range cols).filterMap (fun i =>
    let o := (a.1 + i * va.1 + j * vb.1, a.2 + i * va.2 + j * vb.2)
    let t := placePoint outer.orient (outer.tx, outer.ty) o
    let pl : Placement :=
      { cell := cell, orient := composeOrient outer.orient orient, tx := t.1, ty := t.2, bracket := none }
    if (passTiles s p (placedBox pl)).isEmpty then none
    else some { pl with bracket := bracketTile s p (placedBox pl) }))

/-- Does a position stand before another in stream order? -/
def posBefore (a b : RecPos) : Bool := decide (a.page < b.page) || (a.page == b.page && decide (a.off < b.off))

/-- The cell a placement may name: one of the index whose definition stands before the record (R69, R457). -/
def placeable (s : State) (c : OpenCell) (pos : RecPos) (id : Nat) : Option CellEnt :=
  if id = 0 || 16777215 < id || id = c.at_.cell.id then none
  else (boundCells s).find? (fun e =>
    e.id == id && decide (e.endPage ≤ pos.page) && posBefore ⟨e.beginPage, e.beginOff⟩ pos)

/-- An SREF or AREF of `n` bytes (R71 to R74, R457). -/
def placeRecord (p : Pass) (pos : RecPos) (n : Nat) (id orient : Nat) (d : Int × Int) (cols rows : Nat)
    (va vb : Int × Int) (s : State) : State :=
  if orient / 8 ≠ 0 then streamFault p 0x12 pos.page pos.off s
  else inCell p pos (fun c s =>
    let a := anchorOf c d
    let corner (i j : Nat) : Int × Int := (a.1 + i * va.1 + j * vb.1, a.2 + i * va.2 + j * vb.2)
    let ends := [corner 0 0, corner (cols - 1) 0, corner 0 (rows - 1), corner (cols - 1) (rows - 1)]
    match placeable s c pos id with
      | none => streamFault p 0x13 pos.page pos.off s
      | some e =>
        if cols = 0 || 1048575 < cols || rows = 0 || 1048575 < rows then streamFault p 0x15 pos.page pos.off s
        else if !ends.all (fun q => pointOk q && pointOk (placePoint c.at_.orient (c.at_.tx, c.at_.ty) q)) then
          streamFault p 0x17 pos.page pos.off s
        else if !ends.all (fun q => boxInside c.at_.cell.box (placeBox orient q e.box)) then
          streamFault p 0x14 pos.page pos.off s
        else
          let pls := if c.placed then copies s p c.at_ e orient a cols rows va vb else []
          if 16 ≤ (passExp s p).stack.length && !pls.isEmpty then streamFault p 0x18 pos.page pos.off s
          else
            passed p pos n (updExp p (fun x => { x with enter := pls }) (updOpen p (fun c => { c with
              cur := a, count := c.count + 1, depth := max c.depth (e.depth + 1), next := posAfter s pos n }) s))) s

/-- A definition that the unit meets in sequence, behind the top cell, is opened: nothing places it, so nothing of it is
listed. -/
def openDefinition (p : Pass) (pos : RecPos) (n : Nat) (e : CellEnt) (known : Bool) (s : State) : State :=
  let c : OpenCell :=
    { at_ := { cell := e, orient := 0, tx := 0, ty := 0, bracket := none }, cur := (0, 0), lastW := 0, lastH := 0,
      count := 1, depth := 1, next := posAfter s pos n, rest := [], placed := false, indexed := known }
  passed p pos n (updExp p (fun x => { x with
    stack := [c], extra := if known then x.extra else e.id :: x.extra }) s)

/-- A CELL_BEGIN outside cells that no placement names (R63, R69, R70, R84): it must agree with the index where the index
names its place, its identifier must be in range and defined nowhere else, and its box must be one (log 109). -/
def defineCell (p : Pass) (pos : RecPos) (n : Nat) (v : Nat × Box) (s : State) : State :=
  let x := passExp s p
  let here := (boundCells s).filter (fun e => e.beginPage == pos.page && e.beginOff == pos.off)
  if here.any (fun e => e.id != v.1 || e.box != v.2) then streamFault p 0x24 pos.page pos.off s
  else match here with
    | e :: _ => openDefinition p pos n e true s
    | [] =>
      if v.1 = 0 || 16777215 < v.1 || (boundCells s).any (fun e => e.id == v.1) || x.extra.contains v.1 then
        streamFault p 0x13 pos.page pos.off s
      else if v.2.x1 < v.2.x0 || v.2.y1 < v.2.y0 then streamFault p 0x14 pos.page pos.off s
      else
        openDefinition p pos n
          { id := v.1, depth := 0, beginPage := pos.page, beginOff := pos.off, count := 0,
            endPage := (boundPages s).length - 1, box := v.2 } false s

/-- A CELL_BEGIN of `n` bytes (R67, R70, R75, R84). -/
def cellBeginRecord (p : Pass) (pos : RecPos) (n : Nat) (v : Nat × Box) (s : State) : State :=
  let x := passExp s p
  match x.header, x.enter, x.stack with
  | true, pl :: rest, _ =>
    if v.1 ≠ pl.cell.id || v.2 ≠ pl.cell.box then streamFault p 0x24 pos.page pos.off s
    else
      let c : OpenCell :=
        { at_ := pl, cur := (0, 0), lastW := 0, lastH := 0, count := 1, depth := 1, next := posAfter s pos n, rest := rest,
          placed := true, indexed := true }
      let open_ := match pl.bracket with
        | some t => [(t, LEntry.hiveOpen pl.cell.id (fmod pl.tx 32).toNat (fmod pl.ty 32).toNat pl.orient pl.tx pl.ty
            (placedBox pl))]
        | none => []
      writeEntries p open_ (fun u => passed p pos n (updExp p (fun x => { x with stack := c :: x.stack, enter := [] }) u)) s
  | true, [], [] => defineCell p pos n v s
  | _, _, _ => streamFault p 0x12 pos.page pos.off s

/-- A CELL_END (R69, R84, R457). -/
def cellEndRecord (p : Pass) (pos : RecPos) (s : State) : State :=
  inCell p pos (fun c s =>
    let e := c.at_.cell
    if c.indexed && (c.count + 1 ≠ e.count || pos.page ≠ e.endPage || c.depth ≠ e.depth) then streamFault p 0x24 pos.page pos.off s
    else
      let close := match c.at_.bracket with | some t => [(t, LEntry.hiveClose)] | none => []
      writeEntries p close (fun u => passed p pos 1 (updExp p (fun x =>
        let r := x.stack.drop 1
        { x with
          stack := r, enter := c.rest, topDone := x.topDone || r.isEmpty,
          next := if r.isEmpty then posAfter s pos 1 else x.next }) u)) s) s

/-- A STREAM_HEADER of `n` bytes (R63, R64, R84): a second one stands in a wrong place wherever it is met. -/
def headerRecord (p : Pass) (pos : RecPos) (n : Nat) (v : Nat × Nat × Nat) (s : State) : State :=
  let x := passExp s p
  if pos ≠ ⟨0, 0⟩ || v.1 ≠ 1 || 1 < v.2.1 then streamFault p 0x12 pos.page pos.off s
  else if x.header then streamFault p (wrongPlace x) pos.page pos.off s
  else match (boundCells s).find? (fun e => e.id == v.2.2) with
    | none => streamFault p 0x25 pos.page pos.off s
    | some e =>
      let top : Placement := { cell := e, orient := 0, tx := 0, ty := 0, bracket := none }
      passed p pos n (updExp p (fun x => { x with
        header := true, negative := v.2.1 == 1, top := v.2.2, enter := [top], next := posAfter s pos n }) s)

/-- Do only NOP records follow in the page (R65)? -/
def onlyNops (s : State) (p : Pass) (q : RecPos) : Bool :=
  match contentAt s p q.page with
  | some c => (c.drop q.off).all (· == 0)
  | none => true

/-- A STREAM_END of `n` bytes (R65): the CELL_BEGIN records of the stream are those of the cell index and those met behind
the top cell that it does not hold (DEDUCED, log 109). -/
def streamEndRecord (p : Pass) (pos : RecPos) (n cells : Nat) (s : State) : State :=
  let x := passExp s p
  if !x.header || !x.enter.isEmpty || !x.stack.isEmpty then streamFault p (wrongPlace x) pos.page pos.off s
  else if cells ≠ (boundCells s).length + x.extra.length || pos.page + 1 ≠ (boundPages s).length || !x.topDone ||
      !onlyNops s p (posAfter s pos n) then streamFault p 0x1A pos.page pos.off s
  else updExp p (fun x => { x with ended := true, next := posAfter s pos n }) s

/-- A NOP: it may stand between any two records (R63), but not before the STREAM_HEADER nor where the index names a
CELL_BEGIN. -/
def nopRecord (p : Pass) (pos : RecPos) (s : State) : State :=
  let x := passExp s p
  match x.header, x.enter, x.stack with
  | true, [], _ :: _ => passed p pos 1 (updOpen p (fun c => { c with count := c.count + 1, next := posAfter s pos 1 }) s)
  | true, [], [] => passed p pos 1 (updExp p (fun x => { x with next := posAfter s pos 1 }) s)
  | _, _, _ => streamFault p (wrongPlace x) pos.page pos.off s

/-! ### The record commands -/

/-- NOP_RECORD (R63). -/
def execNopRecord (p : Pass) (pos : RecPos) (ops : Bytes) (s : State) : Host.Outcome State Fault Refusal :=
  .next (takeRecord p pos 0x00 readNone ops (fun _ => nopRecord p pos) s)

/-- STREAM_HEADER (R64). -/
def execStreamHeader (p : Pass) (pos : RecPos) (ops : Bytes) (s : State) : Host.Outcome State Fault Refusal :=
  .next (takeRecord p pos 0x10 readHeader ops (headerRecord p pos (1 + ops.length)) s)

/-- STREAM_END (R65). -/
def execStreamEnd (p : Pass) (pos : RecPos) (ops : Bytes) (s : State) : Host.Outcome State Fault Refusal :=
  .next (takeRecord p pos 0x11 uvar ops (streamEndRecord p pos (1 + ops.length)) s)

/-- CELL_BEGIN (R70). -/
def execCellBegin (p : Pass) (pos : RecPos) (ops : Bytes) (s : State) : Host.Outcome State Fault Refusal :=
  .next (takeRecord p pos 0x20 readCell ops (cellBeginRecord p pos (1 + ops.length)) s)

/-- CELL_END (R69). -/
def execCellEnd (p : Pass) (pos : RecPos) (ops : Bytes) (s : State) : Host.Outcome State Fault Refusal :=
  .next (takeRecord p pos 0x21 readNone ops (fun _ => cellEndRecord p pos) s)

/-- RECT (R67). -/
def execRect (p : Pass) (pos : RecPos) (ops : Bytes) (s : State) : Host.Outcome State Fault Refusal :=
  .next (takeRecord p pos 0x30 readRect ops (rectRecord p pos (1 + ops.length)) s)

/-- RECT_SAME (R75). -/
def execRectSame (p : Pass) (pos : RecPos) (ops : Bytes) (s : State) : Host.Outcome State Fault Refusal :=
  .next (takeRecord p pos 0x31 svar2 ops (rectSameRecord p pos (1 + ops.length)) s)

/-- TRAP_H (R75). -/
def execTrapH (p : Pass) (pos : RecPos) (ops : Bytes) (s : State) : Host.Outcome State Fault Refusal :=
  .next (takeRecord p pos 0x32 readTrap ops (trapHRecord p pos (1 + ops.length)) s)

/-- TRAP_V (R75). -/
def execTrapV (p : Pass) (pos : RecPos) (ops : Bytes) (s : State) : Host.Outcome State Fault Refusal :=
  .next (takeRecord p pos 0x33 readTrap ops (trapVRecord p pos (1 + ops.length)) s)

/-- POLY (R67). -/
def execPoly (p : Pass) (pos : RecPos) (ops : Bytes) (s : State) : Host.Outcome State Fault Refusal :=
  .next (takeRecord p pos 0x34 readPoly ops (polyRecord p pos (1 + ops.length)) s)

/-- POLY_M (R76). -/
def execPolyM (p : Pass) (pos : RecPos) (ops : Bytes) (s : State) : Host.Outcome State Fault Refusal :=
  .next (takeRecord p pos 0x35 readPolyM ops (polyMRecord p pos (1 + ops.length)) s)

/-- CURVE (R78). -/
def execCurve (p : Pass) (pos : RecPos) (ops : Bytes) (s : State) : Host.Outcome State Fault Refusal :=
  .next (takeRecord p pos 0x36 readCurve ops (curveRecord p pos (1 + ops.length)) s)

/-- SREF (R73). -/
def execSref (p : Pass) (pos : RecPos) (ops : Bytes) (s : State) : Host.Outcome State Fault Refusal :=
  .next (takeRecord p pos 0x40 readSref ops
    (fun v => placeRecord p pos (1 + ops.length) v.1 v.2.1 v.2.2 1 1 (0, 0) (0, 0)) s)

/-- AREF (R73). -/
def execAref (p : Pass) (pos : RecPos) (ops : Bytes) (s : State) : Host.Outcome State Fault Refusal :=
  .next (takeRecord p pos 0x41 readAref ops
    (fun v => placeRecord p pos (1 + ops.length) v.1.1 v.1.2.1 v.1.2.2 v.2.1 v.2.2.1 v.2.2.2.1 v.2.2.2.2) s)

end Sys2Proof.Machine
end

