-- ==== Sys2Proof/Machine/Pager.lean ====
section
/-!
DEFINITION. The pager, the decompressors and the hand-over of tile lists (03_intake_and_paging): BIND_STREAM (R82 to R85),
frames and eviction (R86, R87, R93, R94), page reads (R88 to R91), decoding with saved states (R59, R60, R92, R96 to
R99), and the bracketing and hand-over of a finished list (R105, R109).
-/

namespace Sys2Proof.Machine

open Sys2Proof.Bits

/-! ### BIND_STREAM (R82 to R85) -/

/-- An entry of the page table. -/
def pageEntry (t : Bytes) (k : Nat) : PageEnt :=
  let e := slice t (16 * k) 16
  { addr := field e 0 8, len := field e 8 4, restart := bit (byteAt e 12) 0, last := bit (byteAt e 12) 1 }

/-- An entry of the cell index. -/
def cellEntry (t : Bytes) (k : Nat) : CellEnt :=
  let e := slice t (64 * k) 64
  { id := field e 0 4, depth := byteAt e 4, beginPage := field e 8 8, beginOff := field e 16 4, count := field e 20 4,
    endPage := field e 24 8, box := ⟨sfield e 32 4, sfield e 36 4, sfield e 40 4, sfield e 44 4⟩ }

/-- How BIND_STREAM ends for entry `k` of a table: MISALIGNED names it in ARG1 (R84). -/
def dirMisaligned (k : Nat) : End := { status := 7, code := 1, source := 11, arg1 := k }

/-- A directory fault of entry `k` (R84). -/
def dirFault (code k : Nat) : End := { malformed code 2 with arg1 := k }

/-- The first breach of page table entry `k` of `count` (R83, R84). -/
def pageBreach (t : Bytes) (count k : Nat) : Option End :=
  let e := slice t (16 * k) 16
  let p := pageEntry t k
  if p.addr % 64 ≠ 0 || p.len % 64 ≠ 0 then some (dirMisaligned k)
  else if p.len < 64 || 1048704 < p.len then some (dirFault 0x21 k)
  else if byteAt e 12 / 4 ≠ 0 || (k == 0 && !p.restart) || p.last != (k + 1 == count) then some (dirFault 0x22 k)
  else if !zeros e 13 3 then some (dirFault 0x21 k)
  else none

/-- The first breach of cell index entry `k` with `count` pages (R83, R84, R457). -/
def cellBreach (t : Bytes) (count k : Nat) : Option End :=
  let e := slice t (64 * k) 64
  let c := cellEntry t k
  if c.id = 0 || (0 < k && c.id ≤ (cellEntry t (k - 1)).id) then some (dirFault 0x20 k)
  else if 16777215 < c.id || c.depth < 1 || 16 < c.depth || !zeros e 5 3 || count ≤ c.beginPage || pageBytes ≤ c.beginOff ||
      c.count < 2 || count ≤ c.endPage || c.endPage < c.beginPage || c.box.x1 < c.box.x0 || c.box.y1 < c.box.y0 ||
      !zeros e 48 16 then some (dirFault 0x21 k)
  else none

/-- The first breach of a directory (R84 step 2). -/
def dirBreach (pages cells : Bytes) : Option End :=
  let n := pages.length / 16
  ((List.range n).findSome? (pageBreach pages n)).or ((List.range (cells.length / 64)).findSome? (cellBreach cells n))

/-- Frames that a directory of the counts needs, as one copy (R84, R86). -/
def dirFrames (pages cells : Nat) : Nat := (16 * pages + 64 * cells + frameBytes - 1) / frameBytes

/-- The frames of a directory copy, the first of the pool. -/
def directory (n clock : Nat) : List Frame :=
  (List.range n).map (fun i =>
    { idx := i, st := .directory, page := 0, used := clock, retry := false, cls := .demandForage, pass := .forage,
      seq := 0 })

/-- What becomes of forage results when a binding takes over (R82, R108). -/
def rebound (had : Bool) (d : Word) (pages cells : Nat) (x : Slot) : Slot :=
  if !had && x.dig.bind == d && x.dig.pages == pages && x.dig.cells == cells then x else { x with valid := false }

/-- A binding takes over (R82, R85, R87, R108). -/
def bindNow (pages cells : Bytes) (s : State) : State :=
  let n := pages.length / 16
  let m := cells.length / 64
  let b : Binding :=
    { digest := Check.crc32c n (pages ++ cells), pages := (List.range n).map (pageEntry pages),
      cells := (List.range m).map (cellEntry cells) }
  let s1 := dramWrite s.intake.poolBase (pages ++ cells) s
  dropReads
  { s1 with
    job := { s1.job with slots := s1.job.slots.map (rebound s.intake.bind.isSome b.digest n m) },
    intake := { s1.intake with
      bind := some b, frames := directory (dirFrames n m) s1.intake.clock, bad := [],
      dec := s1.intake.dec.map idleDec } }

/-- BIND_STREAM executes (R82, R84). The bytes read are those of the two tables its entry names. For the directory faults
0x20 to 0x22 the spec gives the index of the entry only: ARG0 and `INT.FAULT_PAGE` hold 0 (DESIGN CHOICE, log 101). -/
def bindStream (pages cells : Bytes) (s : State) : State :=
  match startable s 4 with
  | none => s
  | some l =>
    let q := l.seq
    let n := field l.entry 24 8
    let m := field l.entry 40 4
    let full : End := { status := 3, code := 0x25, source := 8 }
    if s.job.write.isSome || s.job.forage.isSome then finish q (refusedState 0x0F) s
    else if s.intake.poolFrames < 1024 + dirFrames n m then budgetNote full 3 q (finish q full s)
    else if pages.length ≠ 16 * n || cells.length ≠ 64 * m || !tableReadable s then s
    else match memoryFault s with
      | some e => finish q e s
      | none =>
        let s1 := tableMoved (field l.entry 32 8) cells.length (tableMoved (field l.entry 16 8) pages.length s)
        match dirBreach pages cells with
        | some e =>
          if e.status = 7 then finish q e s1
          else raise 35 0 q (finish q e (faultRegs e.code 0 e.arg1 s1))
        | none => raise 39 0 q (finish q { status := 0 } (bindNow pages cells s1))

/-- BIND_STREAM (R82). -/
def execBindStream (pages cells : Bytes) (s : State) : Host.Outcome State Fault Refusal :=
  .next (bindStream pages cells s)

/-! ### Frames (R86, R87, R93, R94) -/

/-- First byte of a frame (R86). -/
def frameAddr (s : State) (i : Nat) : Nat := s.intake.poolBase + frameBytes * i

/-- The frame of a page image. -/
def frameOf (s : State) (page : Nat) : Option Frame :=
  s.intake.frames.find? (fun f => f.page == page && (f.st == .fetching || f.st == .resident))

/-- The frame of a saved state for a page (R98). -/
def stateOf (s : State) (page : Nat) : Option Frame := s.intake.frames.find? (fun f => f.page == page && f.st == .state)

/-- Is a page's frame PINNED (R93)? -/
def pinned (s : State) (page : Nat) : Bool :=
  s.intake.dec.toList.any (fun d => match d.run with | some r => r.pin == some page | none => false)

/-- Pages reserved for the executing write, until it halts or ends (R93). -/
def reserved (s : State) : List Nat :=
  match s.job.write with
  | some w => if w.ending.isSome then [] else (match resultsOf s w.f with | some x => x.pages | none => [])
  | none => []

/-- Is a page on the page list of a foraged stripe not yet written (R94)? -/
def listed (s : State) (page : Nat) : Bool := s.job.slots.any (fun x => x.held && x.pages.contains page)

/-- May a frame be evicted in the first tier (R94)? -/
def firstTier (s : State) (f : Frame) : Bool :=
  f.st == .state || (f.st == .resident && !pinned s f.page && !(reserved s).contains f.page && !listed s f.page)

/-- May a frame be evicted in the second tier (R94)? -/
def secondTier (s : State) (f : Frame) : Bool :=
  f.st == .resident && !pinned s f.page && !(reserved s).contains f.page && listed s f.page

/-- The frame used least recently of a list. -/
def leastUsed : List Frame → Option Frame
  | [] => none
  | f :: r =>
    match leastUsed r with
    | none => some f
    | some g => if g.used < f.used then some g else some f

/-- The frame evicted next (R94). -/
def victim (s : State) : Option Frame :=
  (leastUsed (s.intake.frames.filter (firstTier s))).or (leastUsed (s.intake.frames.filter (secondTier s)))

/-- A frame becomes FREE. -/
def dropFrame (i : Nat) (s : State) : State :=
  { s with intake := { s.intake with frames := s.intake.frames.filter (fun f => f.idx != i) } }

/-- The FREE frame taken next: the lowest. -/
def freeFrame (s : State) : Option Nat :=
  (List.range s.intake.poolFrames).find? (fun i => s.intake.frames.all (fun f => f.idx != i))

/-- A frame for a new use, evicting one when none is FREE (R94). -/
def takeFrame (s : State) : Option (Nat × State) :=
  match freeFrame s with
  | some i => some (i, s)
  | none => (victim s).map (fun f => (f.idx, count 0x040030 1 (dropFrame f.idx s)))

/-- A frame is put to use. -/
def addFrame (i : Nat) (st : FrameSt) (page : Nat) (cls : FetchClass) (p : Pass) (s : State) : State :=
  { s with intake := { s.intake with
      frames := s.intake.frames ++
        [{ idx := i, st := st, page := page, used := s.intake.clock, retry := false, cls := cls, pass := p,
           seq := passSeq s p }],
      clock := s.intake.clock + 1 } }

/-- A frame changed. -/
def updFrame (i : Nat) (f : Frame → Frame) (s : State) : State :=
  { s with intake := { s.intake with frames := s.intake.frames.map (fun x => if x.idx == i then f x else x) } }

/-- A frame is used now, for R94. -/
def touchFrame (i : Nat) (s : State) : State :=
  let s1 := updFrame i (fun x => { x with used := s.intake.clock }) s
  { s1 with intake := { s1.intake with clock := s1.intake.clock + 1 } }

/-- A request waits for a frame (R94). -/
def poolWait (s : State) : State := raise 37 0 0 (count 0x04003C 1 s)

/-! ### Reading pages (R88 to R91) -/

/-- The start of the chain of a page (R49). -/
def chainStartOf (pages : List PageEnt) : Nat → Nat
  | 0 => 0
  | n + 1 => match pages[n + 1]? with
    | some e => if e.restart then n + 1 else chainStartOf pages n
    | none => chainStartOf pages n

/-- The pages a placed cell needs: from its chain's start to its CELL_END (R88). -/
def cellNeeds (s : State) (e : CellEnt) (page : Nat) : Bool :=
  decide (chainStartOf (boundPages s) e.beginPage ≤ page) && decide (page ≤ e.endPage)

/-- `INT.CTL` as a pass sampled it. -/
def passCtl (s : State) (p : Pass) : Nat := match p with | .forage => s.intake.ctlF.toNat | .write => s.intake.ctlW.toNat

/-- Does a decompressor of a pass wait for a page? -/
def waitedFor (s : State) (p : Pass) (page : Nat) : Bool :=
  s.intake.dec.toList.any (fun d => d.st == 5 && (match d.run with | some r => r.pass == p && r.next == page | none => false))

/-- Pages of the stripe's page list up to the decoder's position: none before it stands in one of them. -/
def listHere (s : State) (l : List Nat) : Nat :=
  match expected s .write with
  | some q => if l.contains q.page then l.idxOf q.page + 1 else 0
  | none => 0

/-- Is a page one of the list prefetch (R88): on the stripe's page list, one of the `PREFETCH_AHEAD` pages beyond the
decoder's position? -/
def listAhead (s : State) (page : Nat) : Bool :=
  let l := reserved s
  l.contains page && decide (listHere s l ≤ l.idxOf page) &&
    decide (l.idxOf page < listHere s l + bits (passCtl s .write) 15 8)

/-- The cells a pass has decided to enter: those of the placements that wait and of the cells it stands in (R88). -/
def cellsEntered (x : Exp) : List CellEnt :=
  x.enter.map (·.cell) ++ x.stack.flatMap (fun c => (if c.placed then [c.at_.cell] else []) ++ c.rest.map (·.cell))

/-- Is a page one of the index prefetch of a pass (R88)? -/
def indexAhead (s : State) (page : Nat) (p : Pass) : Bool :=
  passGoes s p && bit (passCtl s p) 1 && (cellsEntered (passExp s p)).any (fun e => cellNeeds s e page)

/-- The pass for which a page may be read in a class (R88). -/
def fetchPass (s : State) (page : Nat) (cls : FetchClass) : Option Pass :=
  match cls with
  | .demandWrite => if passGoes s .write && waitedFor s .write page then some .write else none
  | .demandForage => if passGoes s .forage && waitedFor s .forage page then some .forage else none
  | .listPrefetch => if passGoes s .write && bit (passCtl s .write) 0 && listAhead s page then some .write else none
  | .indexPrefetch => [Pass.write, Pass.forage].find? (indexAhead s page)

/-- The lowest pager channel with no read in hand. -/
def idlePager (s : State) : Option Nat :=
  (List.range 8).map (3 + ·) |>.find? (fun c => match s.dma[c]? with
    | some x => x.st == 0 && x.page.isNone
    | none => false)

/-- The channel that reads a page. -/
def pagerOf (s : State) (page : Nat) : Option Nat :=
  (List.range 8).map (3 + ·) |>.find? (fun c => match s.dma[c]? with | some x => x.page == some page | none => false)

/-- Can pages be read and kept now: CORE on, memory working, the host reachable (R331, R333, R356)? -/
def pagesMove (s : State) : Bool := powered s 2 && !memoryOff s && !memoryBad s && reachable s

/-- The pager issues a read of a page image (R88, R89, R94). -/
def pageFetch (page : Nat) (cls : FetchClass) (s : State) : State :=
  match (boundPages s)[page]?, fetchPass s page cls with
  | some e, some p =>
    if !pagesMove s || s.intake.bad.contains (p, page) then s
    else match frameOf s page with
      | some f =>
        if f.st == .fetching && cls == .demandWrite then updFrame f.idx (fun x => { x with cls := .demandWrite }) s else s
      | none =>
        match idlePager s, takeFrame s with
        | none, _ => s
        | some _, none =>
          let s1 := poolWait s
          if cls == .demandForage then count 0x02005C 1 s1 else s1
        | some c, some (i, s1) =>
          updChan c (fun x => { x with st := 1, page := some page, bytes := 0, cur := e.addr })
            (count 0x040020 1 (addFrame i .fetching page cls p s1))
  | _, _ => s

/-- PAGE_FETCH (R88). -/
def execPageFetch (page : Nat) (cls : FetchClass) (s : State) : Host.Outcome State Fault Refusal :=
  .next (pageFetch page cls s)

/-- The read of a page ends on its channel. -/
def pagerDone (page n : Nat) (s : State) : State :=
  match pagerOf s page with
  | some c => updChan c (fun x => { x with st := if x.st = 1 then 0 else x.st, page := none, bytes := n, cur := x.cur + n }) s
  | none => s

/-- A page image that has passed its check becomes RESIDENT (R90). -/
def pageArrives (f : Frame) (image : Bytes) (s : State) : State :=
  let s1 := pagerDone f.page image.length (dramWrite (frameAddr s f.idx) image s)
  touchFrame f.idx (updFrame f.idx (fun x => { x with st := .resident, retry := false }) s1)

/-- A first check fails (R90): the second read is scheduled on the same channel. -/
def pageFails (f : Frame) (s : State) : State :=
  raise 32 0 f.seq (count 0x040024 1 (updFrame f.idx (fun x => { x with retry := true }) s))

/-- The placements of a write that a page keeps from being expanded (R91): those about to be entered that need it, with the
open cell that reads it. -/
def blockedBy (s : State) (page : Nat) : List Placement :=
  let x := s.intake.expW
  let needs (pl : Placement) : Bool := cellNeeds s pl.cell page
  match x.enter, x.stack with
  | pl :: r, _ => if (pl :: r).any needs then (pl :: r).filter needs else [pl]
  | [], c :: _ => (if c.placed then [c.at_] else []) ++ c.rest.filter needs
  | [], [] => []

/-- The whole plane: a page that the STREAM_HEADER needs, on which every list depends. -/
def everywhere : Box := ⟨-(2 ^ 40), -(2 ^ 40), 2 ^ 40, 2 ^ 40⟩

/-- The boxes that depend on a BAD page: everything while the header has not been taken. -/
def blockedBoxes (s : State) (page : Nat) : List Box :=
  if s.intake.expW.header then (blockedBy s page).map placedBox else [everywhere]

/-- The write's walk leaves what a BAD page blocks (R91). -/
def leaveBlocked (x : Exp) (gone : List Placement) (boxes : List Box) : Exp :=
  let x1 := { x with blocked := x.blocked ++ boxes }
  match x.header, x.enter, x.stack with
  | true, pl :: r, _ =>
    let l := (pl :: r).filter (fun y => !gone.contains y)
    { x1 with enter := l, ended := x.ended || (l.isEmpty && x.stack.isEmpty) }
  | true, [], c :: r =>
    let l := c.rest.filter (fun y => !gone.contains y)
    { x1 with stack := r, enter := l, ended := x.ended || (l.isEmpty && r.isEmpty) }
  | _, _, _ => { x1 with ended := true }

/-- The lowest stripe segment from `first` on with a tile that meets one of the boxes. -/
def lowestSegment (f : Stripe) (first : Nat) (boxes : List Box) : Option Nat :=
  let segs := (boxes.flatMap (tilesMeeting f 0)).map (fun t => t.2.toNat)
  (segs.filter (fun g => decide (first ≤ g))).min?

/-- A command needs a BAD page (R91): a forage ends, a write halts before the first flash that would gather from a tile
whose list depends on the page. -/
def needBad (p : Pass) (page : Nat) (s : State) : State :=
  match p with
  | .forage => failPass .forage 9 0 0 page 0 s
  | .write =>
    match s.job.write with
    | none => s
    | some w =>
      let boxes := blockedBoxes s page
      let s1 := updExp .write (fun x => leaveBlocked x (blockedBy s page) boxes) s
      match lowestSegment w.f w.sFirst boxes with
      | some g =>
        addCause { code := 0, flash := neverFlash s w g, arg0 := page, arg1 := 0, axis := 0, status := 9 } s1
      | none => s1

/-- A page fails its check twice (R90): it is BAD for the command that read it, and for no later one (R91). -/
def pageIsBad (f : Frame) (s : State) : State :=
  let s1 := raise 33 0 f.seq (count 0x040028 1 (pagerDone f.page 0 (dropFrame f.idx s)))
  if f.seq ≠ passSeq s f.pass then s1
  else
    let s2 := { s1 with intake := { s1.intake with bad := (f.pass, f.page) :: s1.intake.bad } }
    if waitedFor s2 f.pass f.page then needBad f.pass f.page s2 else s2

/-- Is an image the one the pager reads into a frame: the read runs and the length is that of the page table? -/
def readGoes (s : State) (f : Frame) (image : Bytes) : Bool :=
  f.st == .fetching && reachable s &&
  (match (boundPages s)[f.page]? with | some e => e.len == image.length | none => false) &&
  (match pagerOf s f.page with | some c => (match s.dma[c]? with | some x => x.st == 1 | none => false) | none => false)

/-- A page image has arrived (R90). -/
def pageFetchDone (page : Nat) (image : Bytes) (s : State) : State :=
  match frameOf s page with
  | none => s
  | some f =>
    if !readGoes s f image || f.retry then s else if imageOk image page then pageArrives f image s else pageFails f s

/-- PAGE_FETCH_DONE (R90). -/
def execPageFetchDone (page : Nat) (image : Bytes) (s : State) : Host.Outcome State Fault Refusal :=
  .next (pageFetchDone page image s)

/-- A page is read the second time (R90). -/
def pageRetry (page : Nat) (image : Bytes) (s : State) : State :=
  match frameOf s page with
  | none => s
  | some f =>
    if !readGoes s f image || !f.retry then s
    else
      let s1 := count 0x040020 1 s
      if imageOk image page then pageArrives f image s1 else pageIsBad f s1

/-- PAGE_RETRY (R90). -/
def execPageRetry (page : Nat) (image : Bytes) (s : State) : Host.Outcome State Fault Refusal :=
  .next (pageRetry page image s)

/-! ### Saved states (R59, R60, R94, R98) -/

/-- The descriptor of a saved state and its history (R59). The current point outside every cell, and RECORDS of a run that
began at a chain past page 0, are free values (log 108). -/
def stateBytes (r : Run) (s : State) : Bytes :=
  let x := r.scan
  let point : Bytes := match x.cell with
    | some _ => natLe (unsigned 32 x.cur.1) 4 ++ natLe (unsigned 32 x.cur.2) 4
    | none => natLe (freeNow s).toNat 8
  let records : Nat := match x.records with | some n => n | none => (Config.freeValue (s.free + 1)).toNat
  let b := [0x47, 0x53, 1, if x.cell.isSome then 1 else 0] ++ natLe r.content.length 4 ++ natLe r.next 8 ++
    natLe r.chainStart 8 ++ natLe x.tail.length 4 ++ natLe (x.cell.getD 0) 4 ++ point ++ natLe x.lastW 4 ++
    natLe x.lastH 4 ++ natLe records 8 ++ natLe (Check.crc32c r.next r.content).toNat 4
  b ++ natLe (Check.crc32c r.next b).toNat 4 ++ r.content

/-- Is a page the next one of the same chain? -/
def sameChain (s : State) (page : Nat) : Bool := match (boundPages s)[page]? with | some e => !e.restart | none => false

/-- A decompressor changed. -/
def updDec (d : Fin 4) (f : Dec → Dec) (s : State) : State := { s with intake := { s.intake with dec := upd s.intake.dec d.val f } }

/-- A decompressor has no state to save any more: it goes on with its run, or idles. -/
def savedDec (d : Dec) : Dec := { d with st := if d.run.isSome then 2 else 0, saving := none }

/-- The frame for a saved state: that of an older one for the same page, or a new one (R94, R98). -/
def stateHome (page : Nat) (s : State) : Option (Nat × State) :=
  match stateOf s page with
  | some f => some (f.idx, dropFrame f.idx s)
  | none => takeFrame s

/-- The state of a run is written into a frame, or waits for one (R94, R98). Nothing is saved for a page that begins a
chain. -/
def saveRun (d : Fin 4) (r : Run) (waits : Bool) (s : State) : State :=
  if !sameChain s r.next then updDec d savedDec s
  else match stateHome r.next s with
    | none =>
      let s1 := updDec d (fun x => { x with st := 3, saving := some (r, true) }) s
      if waits then s1 else poolWait s1
    | some (i, s1) =>
      let s2 := dramWrite (frameAddr s i) (stateBytes r s) (addFrame i .state r.next .demandForage r.pass s1)
      updDec d savedDec { s2 with free := s2.free + 2 }

/-- A decompressor writes the state it has still to save (R98). -/
def saveDec (s : State) (d : Fin 4) : State :=
  match (s.intake.dec[d]).saving with
  | some (r, waits) => saveRun d r waits s
  | none => s

/-- The states still to be saved are written, as far as frames can be had (R94, R98; log 108). -/
def saveDue (s : State) : State := (List.finRange 4).foldl saveDec s

/-- Is a saved state's descriptor right for a page (R60)? -/
def stateOk (b history : Bytes) (page : Nat) : Bool :=
  field b 0 2 == 0x5347 && byteAt b 2 == 1 && byteAt b 3 / 2 == 0 && field b 8 8 == page &&
  field b 4 4 == history.length && field b 56 4 == (Check.crc32c page history).toNat &&
  field b 60 4 == (Check.crc32c page (slice b 0 60)).toNat

/-- Do RECORD_CARRY of a saved state and RECORD_OFFSET of its page give the length of the record that straddles the
boundary, or are both 0 (R60)? -/
def carryOk (b history content : Bytes) (recOff : Nat) : Bool :=
  let n := field b 24 4
  if n = 0 || recOff = 0 then n == 0 && recOff == 0
  else recordLen (history.drop (history.length - n) ++ content) == some (n + recOff)

/-- The scan of a run that a saved state restores (R59). -/
def restoredScan (b history : Bytes) : Scan :=
  { cell := if bit (byteAt b 3) 0 then some (field b 28 4) else none, cur := (sfield b 32 4, sfield b 36 4),
    lastW := field b 40 4, lastH := field b 44 4, records := some (field b 48 8),
    tail := history.drop (history.length - field b 24 4) }

/-! ### Decoding (R92, R96, R97) -/

/-- The run a decompressor begins at an entry point (R97). -/
def entryRun (s : State) (p : Pass) (page : Nat) : Run :=
  { pass := p, chainStart := chainStartOf (boundPages s) page, next := page, content := [], before := [], pin := none,
    scan := Scan.start page }

/-- The PAGE_SEQ of the saved states held. -/
def statePages (s : State) : List Nat := (s.intake.frames.filter (fun f => f.st == .state)).map (·.page)

/-- The entry point of a run that must reach content in a page: the largest saved state not above it in its chain, or the
start of the chain (R97). -/
def entryFor (s : State) (page : Nat) : Nat :=
  let start := chainStartOf (boundPages s) page
  (((statePages s).filter (fun q => decide (start ≤ q) && decide (q ≤ page))).max?).getD start

/-- The ranges of pages whose content a pass has still to reach, first and last: the STREAM_HEADER, the cells it enters and
stands in, or what follows the top cell. -/
def pagesNeeded (s : State) (p : Pass) : List (Nat × Nat) :=
  let x := passExp s p
  if !x.header then [(0, 0)]
  else
    let cells := x.enter.map (·.cell) ++ x.stack.flatMap (fun c => c.rest.map (·.cell))
    let open_ := x.stack.map (fun c => (c.next.page, c.at_.cell.endPage))
    let after := if x.enter.isEmpty && x.stack.isEmpty && !x.ended then [(x.next.page, (boundPages s).length - 1)] else []
    cells.map (fun e => (e.beginPage, e.endPage)) ++ open_ ++ after

/-- May a run of a pass begin at a page: is it the entry point for a page that the pass needs (R97)? -/
def isEntry (s : State) (p : Pass) (page : Nat) : Bool :=
  (pagesNeeded s p).any (fun r => decide (max page r.1 ≤ r.2) && entryFor s (max page r.1) == page)

/-- A decompressor waits for a page (R96): a page of the executing write's list is late, also where its frame has just
failed its check (DESIGN CHOICE, log 110). -/
def decWaits (d : Fin 4) (r : Run) (s : State) : State :=
  let was := s.intake.dec[d]
  let again := was.st == 5 && (match was.run with | some x => x.next == r.next && x.pass == r.pass | none => false)
  let s1 := updDec d (fun x => { x with st := 5, run := some { r with pin := none } }) s
  if r.pass == .write && !again && (reserved s).contains r.next then raise 38 0 (wseq s) (count 0x040034 1 s1) else s1

/-- A run goes back to the start of its chain. -/
def Run.again (r : Run) : Run :=
  { r with next := r.chainStart, content := [], before := [], pin := none, scan := Scan.start r.chainStart }

/-- A rejected restore: the run starts again from the start of its chain (R99). No command ends, and the fault registers keep
the last fault that ended one (DESIGN CHOICE, log 111). -/
def restoreRejected (d : Fin 4) (r : Run) (f : Frame) (s : State) : State :=
  raise 36 d.val (passSeq s r.pass) (count 0x040038 1 (dropFrame f.idx
    (updDec d (fun x => { x with st := 4, run := some r.again }) s)))

/-- A run that has decoded one more page: a RESTART page begins a new chain, outside every cell (R49, R50). -/
def runOn (r : Run) (restart : Bool) (history content : Bytes) : Run :=
  let x := if restart then { r.scan with cell := none, lastW := 0, lastH := 0, tail := [] } else r.scan
  { r with
    chainStart := if restart then r.next else r.chainStart, next := r.next + 1, content := content, before := history,
    pin := some r.next, scan := scanPage content x }

/-- A page has been decoded: its records can be taken (R97), and a periodic state is saved (R98). -/
def pageDecoded (d : Fin 4) (r : Run) (history image content : Bytes) (f : Frame) (s : State) : State :=
  let r1 := runOn r (imageRestart image) history content
  let h : PageHead :=
    { page := r.next, len := content.length, recOff := recordOffset image, restart := imageRestart image,
      last := imageLast image }
  let s1 := touchFrame f.idx (updDec d (fun x => { x with st := 2, run := some r1 }) s)
  let s2 := if (headOf s r.pass r.next).isSome then s1 else updExp r.pass (fun x => { x with pages := x.pages ++ [h] }) s1
  let k := bits (passCtl s r.pass) 7 4
  lookAhead r.pass (if k ≠ 0 && (r1.next - r1.chainStart) % k = 0 then saveRun d r1 false s2 else s2)

/-- A page in its frame is checked again and decoded (R54, R92, R456). -/
def decodeFrame (d : Fin 4) (r : Run) (f : Frame) (e : PageEnt) (s : State) : State :=
  let image := dramRead s (frameAddr s f.idx) e.len
  let n := (boundPages s).length
  if !imageOk image r.next then decWaits d r (raise 34 0 0 (count 0x04002C 1 (dropFrame f.idx s)))
  else
    let fails (x : PageFault) : State := streamFault r.pass x.1 r.next x.2 (updDec d (fun y => { y with st := 6, run := some r }) s)
    let plain (h : Bytes) : State :=
      match decodePage image r.next n e.len e.restart e.last h with
      | .error x => fails x
      | .ok c => pageDecoded d r h image c f s
    if e.restart || !r.content.isEmpty then plain (if e.restart then [] else r.content)
    else match stateOf s r.next with
      | none => updDec d (fun x => { x with st := 4, run := some r.again }) s
      | some g =>
        let b := dramRead s (frameAddr s g.idx) 64
        let h := dramRead s (frameAddr s g.idx + 64) (field b 4 4)
        if !stateOk b h r.next then restoreRejected d r g s
        else match decodePage image r.next n e.len e.restart e.last h with
          | .error x => fails x
          | .ok c =>
            if carryOk b h c (recordOffset image) then
              pageDecoded d { r with scan := restoredScan b h } h image c f (touchFrame g.idx s)
            else restoreRejected d r g s

/-- Does a decompressor hold a run of a pass whose next page this is? -/
def runGoes (s : State) (d : Fin 4) (p : Pass) (page : Nat) : Bool :=
  match (s.intake.dec[d]).run with
  | some r => r.pass == p && r.next == page
  | none => false

/-- The run with which a decompressor takes a page: its own, or a new one from this entry point (R97). -/
def runFor (s : State) (d : Fin 4) (p : Pass) (page : Nat) : Run :=
  match (s.intake.dec[d]).run with
  | some r => if r.pass == p && r.next == page then r else entryRun s p page
  | none => entryRun s p page

/-- A decompressor takes a page of its run: it decodes the page's frame or waits for it (R92, R96, R97). -/
def takePage (d : Fin 4) (r : Run) (e : PageEnt) (s : State) : State :=
  match frameOf s r.next with
  | some f => if f.st == .resident then decodeFrame d r f e s else decWaits d r s
  | none => decWaits d r s

/-- A decompressor decodes the next page of its run, or stops it and begins a run at an entry point; one with a state still
to save writes that first (R92, R96 to R98). -/
def pageDecode (d : Fin 4) (p : Pass) (page : Nat) (s : State) : State :=
  match (boundPages s)[page]? with
  | none => s
  | some e =>
    if !passGoes s p || !powered s 2 || memoryOff s || memoryBad s then s
    else if s.intake.bad.contains (p, page) then needBad p page s
    else if !runGoes s d p page && !isEntry s p page then s
    else
      let s1 := saveDue (if runGoes s d p page then s else updDec d stopDec s)
      if (s1.intake.dec[d]).saving.isSome then s1 else takePage d (runFor s1 d p page) e s1

/-- PAGE_DECODE (R97). -/
def execPageDecode (d : Fin 4) (p : Pass) (page : Nat) (s : State) : Host.Outcome State Fault Refusal :=
  .next (pageDecode d p page s)

/-! ### The hand-over of a list (R105, R109) -/

/-- A list with the brackets removed whose box meets another entry's (R105): `pre` holds the entries before, `kept` says
whether the bracket now open stands. -/
def keepBrackets : List LEntry → Bool → List LEntry → List LEntry
  | _, _, [] => []
  | pre, kept, x :: r =>
    match x with
    | .hiveOpen _ _ _ _ _ _ b =>
      let after := (r.dropWhile (fun y => y != .hiveClose)).drop 1
      let free := (pre ++ after).all (fun y => match entryBox y with | some c => !boxMeets b c | none => true)
      if free then x :: keepBrackets pre true r else keepBrackets pre false r
    | .hiveClose => if kept then x :: keepBrackets pre true r else keepBrackets pre false r
    | _ => x :: keepBrackets (x :: pre) kept r

/-- Boxes in which the walk may still add entries. -/
def openBoxes (x : Exp) : List Box :=
  x.enter.map placedBox ++ x.stack.flatMap (fun c =>
    (if c.placed then [placedBox c.at_] else []) ++ c.rest.map placedBox)

/-- Does a pass have a task for a tile: a forage those of its window, a write those it renders (R136, R316)? -/
def tileWanted (s : State) (p : Pass) (f : Stripe) (col seg : Int) : Bool :=
  let m := match p with | .forage => (passMargin s p : Int) | .write => 0
  let first := match s.job.write with | some w => (w.sFirst : Int) | none => 0
  decide (-m ≤ col) && decide (col < 40 + m) && decide (seg < f.segs + m) &&
  (match p with | .forage => decide (-m ≤ seg) | .write => decide (first ≤ seg))

/-- Has the list of a tile been written in full (R109): no cell that the walk has still to expand meets the tile? -/
def listComplete (x : Exp) (b : Box) : Bool :=
  x.header && (openBoxes x ++ x.blocked).all (fun c => !boxMeets b c)

/-- The task that a list makes (R139, R253). -/
def listTask (s : State) (p : Pass) (f : Stripe) (col seg : Int) : Task :=
  { pass := p, mode := if p == .forage && (passKernel s p).isSome then 1 else 3, col := col, seg := seg,
    margin := marginTile f col seg, second := false, avoid := [], faulted := [] }

/-- A finished list stands in LIST (R104, R106, R322), and is handed to a comb scheduler as a task (R105, R109). -/
def tileListDone (p : Pass) (col seg : Int) (s : State) : State :=
  match passStripe s p with
  | none => s
  | some f =>
    let x := passExp s p
    if !passGoes s p || !tileWanted s p f col seg || x.handed.contains (col, seg) ||
        !listComplete x (tileExtent f (col, seg)) then s
    else
      let mine (l : TList) : Bool := l.col == col && l.seg == seg
      let es := match x.lists.find? mine with | some l => l.entries | none => []
      let l0 : TList := { pass := p, col := col, seg := seg, entries := keepBrackets [] false es, done := true, units := [] }
      let l : TList := { l0 with units := unitsFor s (listBytes l0) }
      let s1 := putUnits l.units (listImage s p f l) <| updExp p (fun x => { x with
        lists := x.lists.filter (fun l => !mine l), handed := (col, seg) :: x.handed }) s
      { s1 with comb := { s1.comb with lists := s1.comb.lists ++ [l], tasks := s1.comb.tasks ++ [listTask s p f col seg] } }

/-- TILE_LIST_DONE (R109). -/
def execTileListDone (p : Pass) (col seg : Int) (s : State) : Host.Outcome State Fault Refusal :=
  .next (tileListDone p col seg s)

end Sys2Proof.Machine
end

