-- ==== Sys2Proof/Machine/Start.lean ====
section
/-!
DEFINITION. Starts and the module reset (13_host_attachment, R358, R359; 11, R312, R313; 17, R413; 19, R440 to R442): what
each start keeps, the steps every start takes, and the loss of supply.
-/

namespace Sys2Proof.Machine

open Sys2Proof.Bits

/-- The power state changed. -/
def updPower (f : Power → Power) (s : State) : State := { s with power := f s.power }

/-! ### What a reset leaves (R22, R358) -/

/-- The RESET record of a reset, journalled as it begins, and `GLB.LAST_RESET` (R358). -/
def resetRecord (kind detail : Nat) (s : State) : State :=
  updPower (fun p => { p with lastKind := kind, lastDetail := detail })
    (journalAdd 6 0 0 0 0 0 (natLe (kind + 256 * detail) 2) s)

/-- The register file with every register changed by `f`. -/
def regsAfter (f : Nat → Word → Word) (regs : List (Nat × Word)) : List (Nat × Word) :=
  (regs.map (fun e => (e.1, f e.1 e.2))).filter (fun e => e.2 != RegMap.reset e.1)

/-- The security block as a start finds it: only what its non-volatile stores hold (R393, R395). -/
def secStored (x : Sec) : Sec :=
  { State.reset.sec with
    norA := x.norA, norB := x.norB, minSvn := x.minSvn, gcount := x.gcount, serial := x.serial, hostKey := x.hostKey,
    maintKey := x.maintKey, substLimit := x.substLimit, route := x.route, window := x.window, active := x.active }

/-- The calibration bookkeeping as a start finds it: the records, the last good sets and the limits (R416 to R418). -/
def calStored (c : Cal) : Cal :=
  { State.reset.cal with
    recs := c.recs.map (fun r : CalRec => { r with reject := 0 }), limits := c.limits, newLimits := c.newLimits }

/-- The last good trims of a sensor (R416; log 25). -/
def storedTrims (c : Cal) (n : Nat) : Nat × Nat :=
  let b := match c.recs[3]? with | some r => r.good | none => []
  (field b (8 * n) 4, field b (8 * n + 4) 4)

/-- The sensors at a start of AON: no reading yet, with their last good trims. -/
def startSensors (c : Cal) : Vector Sensor 48 :=
  Vector.ofFn (fun n : Fin 48 => Sensor.start (storedTrims c n.val).1 (storedTrims c n.val).2)

/-- The last good link equalization set (R422). -/
def storedEq (c : Cal) : Bytes := match c.recs[4]? with | some r => r.good | none => []

/-- Everything but AON at its power-on state, with what no reset takes away: the queue, the record of what the module has
sent, the journal, and the tool's reference. -/
def coldCore (s : State) : State :=
  { State.reset with
    pending := s.pending, free := s.free, out := s.out, journal := s.journal,
    blk := { State.reset.blk with eq := storedEq s.cal }, seq := { State.reset.seq with ref := s.seq.ref } }

/-- The module at power-on before its start has run (R358 kind 1). -/
def coldAll (s : State) : State :=
  { coldCore s with
    power := { State.reset.power with main := s.power.main },
    sec := secStored s.sec, cal := calStored s.cal,
    thm := { State.reset.thm with sensors := startSensors s.cal } }

/-- Blocks of registers in the AON domain: EVT, TIM, SEC, THM and CAL. -/
def inAon (off : Nat) : Bool := off / 65536 == 1 || (decide (0x13 ≤ off / 65536) && decide (off / 65536 ≤ 0x16))

/-- Everything but AON at its power-on state, AON as it stands: the restart of R413, and what a loss of supply or a thermal
shutdown leaves. -/
def coldButAon (s : State) : State :=
  { coldCore s with
    regs := s.regs.filter (fun e => inAon e.1),
    power := { s.power with on := Power.resetDomains, want := Power.resetDomains },
    evt := s.evt, tim := s.tim, sec := s.sec, thm := s.thm, cal := s.cal }

/-! ### Self-tests and the steps of every start (R260, R262, R323, R391, R419) -/

/-- The test signature an engine gives at a start. -/
def startSig (s : State) (i : Start) (e : Fin 148) : Word :=
  match i.signatures.find? (fun x => x.1 == e) with
  | some x => x.2
  | none => rightSig s e

/-- An engine runs its self-test at a start or when its domain is powered (R262, R364). -/
def startTest (i : Start) (e : Fin 148) (s : State) : State :=
  selfTestEnd e (startSig s i e) (updEng e (fun x => { x with testing := true }) s)

/-- The steps of a start: measured start, memory training, self-tests and the TDC's own calibration. -/
def startSteps (i : Start) (s : State) : State :=
  let s1 := boot s
  let s2 := trainChannels (chPowered s1) i.sweeps s1
  let s3 := (engines.filter (engPowered s2)).foldl (fun t e => startTest i e t) s2
  updPower (fun p => { p with started := true, resetPending := false }) (tdcDone 0 i.tdcHits (startTdc 0 s3))

/-! ### Power-on (R311, R313, R358) -/

/-- Is the command of an INTAKE record accepted and without a FINAL or ERASED record (R313)? -/
def lostCommand (journal : List JRec) (r : JRec) : Bool :=
  r.kind == 1 && r.status == 1 && !journal.any (fun x => (x.kind == 2 || x.kind == 8) && x.cseq == r.cseq)

/-- The accepted commands without a FINAL record, oldest first, a copied INTAKE record counting once. -/
def lostCommands (journal : List JRec) : List Live :=
  ((journal.reverse.filter (lostCommand journal)).map (fun r => (r.cseq, r.opcode))).eraseDups.map
    (fun p => { seq := p.1, entry := List.replicate 8 0 ++ natLe p.2 1, phase := .queued })

/-- How an unfinished command ends at power-on (R313): a write with a PROGRESS record carries its bounds. -/
def lostEnd (journal : List JRec) (seq : Nat) : End :=
  match journal.find? (fun r => r.kind == 5 && r.cseq == seq) with
  | some r =>
    { status := 0xB, cause := 0x14, frontier := field r.body 0 8, lastSent := field r.body 8 8, stripe := field r.body 16 4,
      doubt := true }
  | none => { status := 0xB, cause := 0x14 }

/-- An unfinished command receives its FINAL record (R313). -/
def outcomeLost (q : Nat) (s : State) : State :=
  let e := lostEnd s.journal q
  let s1 := finish q e s
  if e.doubt then raise 20 0 q s1 else s1

/-- Every unfinished command receives its outcome (R313). -/
def outcomesLost (s : State) : State := s.job.live.foldl (fun t l => outcomeLost l.seq t) s

/-- `JOB.NEXT_SEQ` from the journal (R287, R311): the newest command taken in, plus 1; 0 after an erase or with none. -/
def journalSeq (journal : List JRec) : Nat :=
  match journal.find? (fun r => r.kind == 8 || (r.kind == 1 && !bit (field r.body 28 4) 1)) with
  | some r => if r.kind = 1 then (r.cseq + 1) % 2 ^ 64 else 0
  | none => 0

/-- The job's identifier and state from the newest JOB record: OPEN after an opening, else CLOSED. -/
def journalJob (journal : List JRec) : Nat × Nat :=
  match journal.find? (fun r => r.kind == 7) with
  | some r => if field r.body 4 4 = 1 then (field r.body 0 4, 1) else (0, 0)
  | none => (0, 0)

/-- The job as the journal controller finds it. -/
def jobFromJournal (s : State) : State :=
  updJob (fun j => { j with
    id := (journalJob s.journal).1, st := (journalJob s.journal).2, nextSeq := journalSeq s.journal,
    live := lostCommands s.journal }) s

/-- A torn record: ignored, counted, event 18 (R311). -/
def tornRecord (s : State) : State := raise 18 0 0 (count 0x0200A8 1 { s with journal := s.journal.tail })

/-- The newest `n` records are torn. -/
def tornRecords : Nat → State → State
  | 0, s => s
  | n + 1, s => if s.journal.isEmpty then s else tornRecords n (tornRecord s)

/-- A start in the manner of a power-on: the RESET record of kind 1, the steps of a start, and R313. -/
def startFresh (i : Start) (s : State) : State := outcomesLost (startSteps i (resetRecord 1 0 (jobFromJournal s)))

/-- POWER_ON: VIN rises through 4.5 V. A module that is not seated, runs already, or is shut down with VIN present does not
start (R358, R413, R414, R440). -/
def powerRise (i : Start) (s : State) : State :=
  if s.power.started || (s.power.shutdown && s.power.vin) then s
  else if !s.power.seated then updPower (fun p => { p with vin := true }) s
  else startFresh i (tornRecords i.torn (coldAll s))

/-- READY rises once a start has finished and the main converters run (R359, R395, R413, R441). -/
def readyRise (s : State) : State :=
  if !s.power.started || s.power.ready || s.power.resetPending || !s.power.main || !s.power.aon then s
  else
    let s1 := raise 233 0 0 (raiseMinSvn (updPower (fun p => { p with ready := true, resetting := false }) s))
    if s1.power.thermalStart then raise 251 0 0 (updPower (fun p => { p with thermalStart := false }) s1) else s1

/-! ### Seating, supply and removal (R415, R440 to R442) -/

/-- The event ring is disabled and its entries discarded, with every command of the module off (R429, R432). -/
def evtRingLost (s : State) : State :=
  { s with evt := { s.evt with enabled := false, held := [], lostSince := 0, due := [] } }

/-- Every domain but AON switches off (R412, R442). Lane frames stop where they stand. -/
def coreOff (s : State) : State :=
  updPower (fun p => { p with
    on := 1, started := false, ready := false, resetting := true, resetPending := false, thermalStart := false })
    (evtRingLost (coldButAon s))

/-- SEATED_CLOSE (R440). A closing during a removal is ignored until AON has stopped (R442). -/
def seated (s : State) : State :=
  if s.power.removing then s else updPower (fun p => { p with seated := true, aon := p.vin }) s

/-- BULK_CHARGED (R441). -/
def charged (s : State) : State := if s.power.aon then updPower (fun p => { p with main := true }) s else s

/-- REMOVAL (R442). -/
def removed (s : State) : State :=
  if !s.power.seated then s
  else updPower (fun p => { p with seated := false, removing := true, main := false }) (coreOff s)

/-- AON_STOP (R442). -/
def aonStops (s : State) : State :=
  if s.power.removing || !s.power.vin then updPower (fun p => { p with aon := false, removing := false }) s else s

/-- VIN_LOW (R415). -/
def vinFalls (s : State) : State := if s.thm.warn then s else raise 252 0 0 { s with thm := { s.thm with warn := true } }

/-- VIN_RESTORED (R415). -/
def vinReturns (s : State) : State := { s with thm := { s.thm with warn := false } }

/-- VIN_LOSS (R415): the module switches off as a loss of VIN. -/
def vinLost (s : State) : State := updPower (fun p => { p with vin := false, main := false }) (coreOff s)

/-! ### Module reset (R312, R359) -/

/-- A module reset is requested (R359): its record is journalled as it begins, an executing write halts and drains, and
the other commands end (R312). A write that already halts is waited for. -/
def requestReset (s : State) : State :=
  if s.power.resetting then s
  else
    let s1 := updPower (fun p => { p with resetPending := true, resetting := true, ready := false }) (resetRecord 2 0 s)
    if s1.job.write.isSome then
      addCause { code := 0x13, flash := none, arg0 := 0, arg1 := 0, axis := 0, status := 0xB } s1
    else abortLive s1

/-- An axis after a module reset or a reset of STG (R189): its count 0 and not referenced, its settings those written. -/
def axisReset (s : State) (a : Fin 4) : Axis :=
  axisSettings s a
    { s.axes[a] with
      count := 0, referenced := false, valid := false, stale := true, down := false, speed := 0, edges := [], still := true }

/-- The axes reset. -/
def axesReset (s : State) : State := { s with axes := Vector.ofFn (fun a : Fin 4 => axisReset s a) }

/-- A channel of DRAM as a module reset leaves it before it trains; one whose domain is off stays asleep with its stored
training, or failed (R331, R333, R364). -/
def memChReset (s : State) (c : Fin 16) : MemCh :=
  let x := s.mem.ch[c]
  let y := { State.reset.mem.ch[c] with gen := x.gen + 1, threshold := regBits s 0x100814 13 0 }
  if chPowered s c then y else { y with st := if x.st = 7 then 7 else 4, failLane := x.failLane, rd := x.rd, wr := x.wr }

/-- Every channel stays in self-refresh across a module reset: the powered groups that were not in it enter (R321, R333). -/
def groupsEnter (before s : State) : State :=
  ((List.finRange 4).filter (fun g => powered before (20 + g.val) && before.mem.groups[g] != .asleep)).foldl
    (fun t g => raise 197 (16 + g.val) 0 t) s

/-- The powered groups leave self-refresh to train (R323, R333). -/
def groupsLeave (s : State) : State :=
  ((List.finRange 4).filter (fun g => powered s (20 + g.val))).foldl (fun t g => raise 198 (16 + g.val) 0 t) s

/-- The memory controllers as a module reset leaves them: the regions in use stay with the open job. -/
def memReset (s : State) : Mem :=
  { State.reset.mem with
    ch := Vector.ofFn (memChReset s),
    groups := Vector.ofFn (fun g : Fin 4 => if powered s (20 + g.val) then .ready else .asleep),
    regions := s.mem.regions }

/-- The job as a module reset leaves it: open, with its slots; the rings are off (R35, R108, R312). -/
def jobReset (j : Job) : Job :=
  { State.reset.job with
    id := j.id, st := if j.st = 2 then 1 else j.st, slotMax := j.slotMax, nextSeq := j.nextSeq,
    slots := (j.slots.filter (·.held)).map (fun x : Slot => { x with claim := 0 }) }

/-- The calibration bookkeeping as a module reset leaves it. -/
def calReset (c : Cal) : Cal := calStored c

/-- Every generation but AON's advances (R39). -/
def combGenerations (c : Comb) : Vector (BitVec 4) 12 := c.gen.map (· + 1)

/-- The module as a module reset leaves it before its start runs (R358 kind 2). -/
def warmState (s : State) : State :=
  axesReset
    { State.reset with
      pending := s.pending, free := s.free, out := s.out, journal := s.journal, dram := s.dram,
      regs := regsAfter RegMap.afterModule s.regs,
      power := { s.power with started := false, ready := false, resetting := true },
      hif := { s.hif with gen := s.hif.gen + 1 },
      job := jobReset s.job,
      intake := { State.reset.intake with
        poolBase := s.intake.poolBase, poolFrames := s.intake.poolFrames, expGen := s.intake.expGen + 1,
        dec := s.intake.dec.map (fun d : Dec => { st := 0, gen := d.gen + 1, run := none, saving := none }) },
      eng := Vector.ofFn (fun e : Fin 148 => { State.reset.eng[e] with gen := (s.eng[e]).gen + 1 }),
      comb := { State.reset.comb with gen := combGenerations s.comb },
      bmu := { State.reset.bmu with
        slices := s.bmu.slices.map (fun x : Slice => { gen := x.gen + 1, next := 0, codes := [] }), capBuf := s.bmu.capBuf },
      axes := s.axes,
      seq := { State.reset.seq with gen := s.seq.gen + 1, ref := s.seq.ref, slow := s.seq.slow },
      blk := { State.reset.blk with gen := s.blk.gen + 1, portGen := s.blk.portGen.map (· + 1), eq := storedEq s.cal },
      mem := memReset s,
      bel := { State.reset.bel with gen := s.bel.gen.map (· + 1) },
      hive := { s.hive with ptr := 0, log := [] },
      tim := s.tim, sec := secStored s.sec,
      thm := { s.thm with
        hold := false, shutSensor := 0, shutT := 0,
        sensors := Vector.ofFn (fun n : Fin 48 =>
          { s.thm.sensors[n] with n25 := (storedTrims s.cal n.val).1, k := (storedTrims s.cal n.val).2 }) },
      cal := calReset s.cal }

/-- The decompressors and the expansion unit are reset with the module (R109): event 41 of each. -/
def intakeReset (s : State) : State := (List.range 5).foldl (fun t n => raise 41 n 0 t) s

/-- What the units report of a module reset, the event block having returned to its reset values (R432): the groups that
enter and leave self-refresh, the intake, the hive cache's flush (R347) and STAGE_SLOW_N (R209). -/
def resetReports (before s : State) : State := groupsLeave (slowCheck (hiveFlush (intakeReset (groupsEnter before s))))

/-- MODULE_RESET_PROCEED: R312 has run to its end, and the reset proceeds (R358, R359). -/
def resetProceeds (i : Start) (s : State) : State :=
  if !s.power.resetPending || s.job.write.isSome then s else startSteps i (resetReports s (warmState s))

/-! ### The restart after a thermal shutdown (R413) -/

/-- Does every valid sensor read below 85 °C? -/
def coolEnough (s : State) : Bool := s.thm.sensors.toList.all (fun x => !x.valid || decide (x.t < 1360))

/-- THERMAL_RESTART (R413, R414). -/
def thermalStarts (i : Start) (s : State) : State :=
  if !s.power.shutdown || s.thm.latched || s.power.started || !coolEnough s || !s.power.vin || !s.power.seated then s
  else startFresh i (updPower (fun p => { p with shutdown := false, thermalStart := true, resetting := true }) (coldButAon s))

/-! ### The commands -/

/-- POWER_ON (R358). -/
def execPowerOn (i : Start) (s : State) : Host.Outcome State Fault Refusal := .next (powerRise i s)

/-- READY (R359). -/
def execReady (s : State) : Host.Outcome State Fault Refusal := .next (readyRise s)

/-- SEATED_CLOSE (R440). -/
def execSeatedClose (s : State) : Host.Outcome State Fault Refusal := .next (seated s)

/-- BULK_CHARGED (R441). -/
def execBulkCharged (s : State) : Host.Outcome State Fault Refusal := .next (charged s)

/-- REMOVAL (R442). -/
def execRemoval (s : State) : Host.Outcome State Fault Refusal := .next (removed s)

/-- AON_STOP (R442). -/
def execAonStop (s : State) : Host.Outcome State Fault Refusal := .next (aonStops s)

/-- VIN_LOW (R415). -/
def execVinLow (s : State) : Host.Outcome State Fault Refusal := .next (vinFalls s)

/-- VIN_LOSS (R415). -/
def execVinLoss (s : State) : Host.Outcome State Fault Refusal := .next (vinLost s)

/-- VIN_RESTORED (R415). -/
def execVinRestored (s : State) : Host.Outcome State Fault Refusal := .next (vinReturns s)

/-- GLB_RESET (R359): any value but KEY has no effect. -/
def execGlbReset (v : Word) (s : State) : Host.Outcome State Fault Refusal :=
  .next (if bits v.toNat 15 0 = 0x9D3C then hifWrite requestReset s else s)

/-- MODULE_RESET_PROCEED (R312). -/
def execModuleResetProceed (i : Start) (s : State) : Host.Outcome State Fault Refusal := .next (resetProceeds i s)

/-- THERMAL_RESTART (R413). -/
def execThermalRestart (i : Start) (s : State) : Host.Outcome State Fault Refusal := .next (thermalStarts i s)

end Sys2Proof.Machine
end

