-- ==== Sys2Proof/Machine/Attach.lean ====
section
/-!
DEFINITION. The host attachment (13_host_attachment): function reset (R360), the link and reachability (R349, R350, R356),
host completion errors (R357), BAR2 and BAR4 (R352, R353), quadrant and domain resets (R358) and power domains (R362 to
R364).
-/

namespace Sys2Proof.Machine

open Sys2Proof.Bits

/-- The host attachment changed. -/
def updHif (f : Hif → Hif) (s : State) : State := { s with hif := f s.hif }

/-! ### Function reset (R22, R358, R360, R432) -/

/-- A frame left FETCHING becomes FREE, and its read is abandoned (R107, R360). -/
def freeFetching (s : State) : State :=
  dropReads { s with intake := { s.intake with frames := s.intake.frames.filter (fun f => f.st != .fetching) } }

/-- A channel after a function reset: those of the descriptor rings start anew, the others lose only PAUSE; a power-down's
hold stays. -/
def chanAfter (s : State) (c : Fin 16) : Chan :=
  let x := s.dma[c]
  if 13 ≤ c.val then { State.reset.dma[c] with byPower := x.byPower, st := if x.byPower then 3 else 0 }
  else { x with
    pause := false, owner := if x.byPower then x.owner else 0,
    st := if (x.st = 2 || x.st = 3) && !x.byPower then 0 else x.st }

/-- Is a register one of the check-value units'? -/
def inCrc (off : Nat) : Bool := off / 65536 == 0x12

/-- The check-value units lose power with CORE: every field returns to its reset value, and a feed ends without an event
(R389). -/
def crcLost (s : State) : State := { s with crc := State.reset.crc, regs := s.regs.filter (fun e => !inCrc e.1) }

/-- The rings off, their indices 0 (R289); accepted commands go on. -/
def ringsOff (s : State) : State :=
  updJob (fun j => { j with
    cmdOn := false, cplOn := false, cmdHead := 0, cmdTail := 0, cplHead := 0, cplTail := 0, stopped := false, error := 0,
    cplFull := false, cplQ := [], retry := false, hostErr := false, loadErr := none }) s

/-- The event ring after a function reset (R432). -/
def evtAfter (x : Evt) : Evt :=
  { x with enabled := false, error := 0, base := 0, log2 := 6, tail := 0, phase := true, held := [], lostSince := 0, due := [] }

/-- What a function reset leaves of the stored values that units hold themselves (R22): the check-value units start anew, a
feed among them ending without an event (R389). The quote last taken stays: the spec does not say whether it is a reporting
field (DESIGN CHOICE, log 105). -/
def recordsAfter (s : State) : State :=
  { s with
    bmu := { s.bmu with armed := false, capOwner := 0, lastClamp := none },
    crc := State.reset.crc,
    thm := { s.thm with shutSensor := 0, shutT := 0 },
    cal := { s.cal with recs := s.cal.recs.map (fun r : CalRec => { r with reject := 0 }) } }

/-- The effect of a function reset without its count and its events. -/
def functionCleared (s : State) : State :=
  let s1 := recordsAfter (ringsOff (freeFetching (resetRecord 3 0 s)))
  { s1 with
    regs := regsAfter RegMap.afterFunction s1.regs, latch := [], evt := evtAfter s1.evt,
    dma := Vector.ofFn (chanAfter s1),
    hif := { s1.hif with
      gen := s1.hif.gen + 1, bme := false, d0 := true, msix := State.reset.hif.msix, funcMask := false, msixOn := false,
      timeout := 0 } }

/-- A function reset completes: counted, event 228, and 229 when the host was reachable before (R356, R360). SLOW_FORCE is
clear then (R22, R209). -/
def functionDone (was : Bool) (s : State) : State :=
  let s1 := slowCheck (raise 228 0 0 (count 0x170024 1 s))
  if was then raise 229 0 0 s1 else s1

/-- FUNCTION_RESET (R360). -/
def functionResets (s : State) : State := if powered s 1 then functionDone (reachable s) (functionCleared s) else s

/-! ### The link and reachability (R349, R350, R356) -/

/-- The capabilities of the function. -/
inductive PcieCap where
  | pciExpress
  | msiX
  | powerManagement
  | advancedErrorReporting
  | deviceSerialNumber
  deriving DecidableEq, Repr

/-- What the function offers the host (R351). -/
structure PcieFunction where
  deviceId : Nat
  classCode : Nat
  caps : List PcieCap
  functionLevelReset : Bool
  maxPayload : Nat
  maxReadRequest : Nat
  outstandingReads : Nat
  relaxedOrdering : Bool
  noSnoop : Bool
  d3hot : Bool
  translation : Bool
  deriving DecidableEq, Repr

/-- The function of the module (R351). -/
def pcieFunction : PcieFunction :=
  { deviceId := 0x7262, classCode := 0x120000,
    caps := [.pciExpress, .msiX, .powerManagement, .advancedErrorReporting, .deviceSerialNumber], functionLevelReset := true,
    maxPayload := 512, maxReadRequest := 4096, outstandingReads := 512, relaxedOrdering := false, noSnoop := false,
    d3hot := true, translation := false }

/-- Vectors whose pending bit is set and that are no longer masked send their message (R353). -/
def sendUnmasked (s : State) : State :=
  let one (t : State) (v : Fin 64) : State :=
    if (t.hif.msix[v]).pend && !(t.hif.msix[v]).mask && !t.hif.funcMask && t.hif.msixOn && reachable t then
      emitMessage v (updHif (fun h => { h with msix := upd h.msix v.val (fun m => { m with pend := false }) }) t)
    else t
  (List.finRange 64).foldl one s

/-- The link comes up with a rate and a width (R350, R356). -/
def linkComesUp (gen width : Nat) (s : State) : State :=
  if !powered s 1 || s.hif.linkUp then s
  else
    let s1 := raise 224 0 0 (updHif (fun h => { h with linkUp := true, speed := gen, width := width, perstOff := true }) s)
    sendUnmasked (if gen < 5 || width < 16 then raise 227 0 0 s1 else s1)

/-- The link is lost: a function reset, counted, event 225, and 229 when the host was reachable (R356, R360). -/
def linkIsLost (s : State) : State :=
  if !s.hif.linkUp then s
  else
    let was := reachable s
    let s1 := updHif (fun h => { h with linkUp := false, speed := 0, width := 0 }) s
    functionDone was (raise 225 0 0 (count 0x170020 1 (functionCleared s1)))

/-- Bus Master Enable or the power state changes (R356). -/
def reachability (bme d0 : Bool) (s : State) : State :=
  if !powered s 1 then s
  else
    let s1 := updHif (fun h => { h with bme := bme, d0 := d0 }) s
    if reachable s && !reachable s1 then raise 229 0 0 s1 else sendUnmasked s1

/-! ### Host completion errors (R357) -/

/-- The error of a read on the command ring: the head does not move. -/
def ringReadError (s : State) : State :=
  if readsEntries s then updJob (fun j => { j with hostErr := true }) (count 0x17002C 1 s) else s

/-- The error of a pager read: a failed page check (R90). -/
def pageReadError (c : Fin 16) (s : State) : State :=
  match (s.dma[c]).page with
  | none => s
  | some p =>
    match frameOf s p with
    | none => s
    | some f =>
      if !reachable s then s
      else if f.retry then pageIsBad f (count 0x17002C 1 s) else pageFails f (count 0x17002C 1 s)

/-- Does a channel have reads of a table load outstanding: it moves data, or is about to pause with the load its own
(R307, R357)? -/
def tableReads (s : State) (c : Fin 16) (q : Nat) : Bool :=
  reachable s && s.job.loadErr.isNone &&
  (((s.dma[c]).st == 2 && (s.dma[c]).owner == q) || (chanRuns s c && s.dma.toList.all (fun x => x.owner == 0)))

/-- The first error of a table load: it is read again after 2 µs. -/
def tableReadError (c : Fin 16) (s : State) : State :=
  match loadUnderWay s with
  | some l =>
    if tableReads s c l.seq then
      updJob (fun j => { j with loadErr := some l.seq })
        (updChan c.val (fun x => { x with owner := l.seq }) (count 0x17002C 1 s))
    else s
  | none => s

/-- Does a descriptor channel have a read outstanding: of its head or of a transfer, which a pause lets end (R307)? -/
def descReads (s : State) (c : Fin 16) : Bool :=
  let x := s.dma[c]
  x.on && reachable s && ((decide (x.st < 2) && (x.desc.isSome || x.head != x.tail)) || (x.st == 2 && x.desc.isSome))

/-- The error of a descriptor channel: it stops, and its descriptors return to host software. -/
def descReadError (c : Fin 16) (s : State) : State :=
  if descReads s c then
    raise 22 c.val 0 (updChan c.val (fun x => { x with st := 4, err := 2, desc := none }) (count 0x17002C 1 s))
  else s

/-- HOST_COMPLETION_ERROR by channel (R357). Channels 1 and 2 issue no reads. -/
def hostError (c : Fin 16) (s : State) : State :=
  if c.val = 0 then ringReadError s
  else if c.val ≤ 2 then s
  else if c.val ≤ 10 then pageReadError c s
  else if c.val ≤ 12 then tableReadError c s
  else descReadError c s

/-- The entry at the head of the command ring is read again 1 ms after an error (R357). -/
def ringRead (entry : Option EntryRead) (s : State) : State :=
  if !s.job.hostErr || !s.job.cmdOn || !reachable s then s
  else match entry with
    | none => count 0x17002C 1 s
    | some b =>
      let s1 := updJob (fun j => { j with hostErr := false }) s
      if s1.job.retry then rereadEntry b.bytes b.target s1 else readEntry b.bytes b.target s1

/-! ### BAR2 and BAR4 (R321, R352, R353) -/

/-- The DRAM address of a BAR2 offset. -/
def windowAddr (s : State) (off : Nat) : Nat := regBits s 0x170004 9 0 * 2 ^ 30 + off

/-- A BAR2 request that cannot be served (R352). -/
def unsupportedRequest (s : State) : State := send .unsupported (count 0x170028 1 s)

/-- A BAR2 read (R352). -/
def windowRead (off len : Nat) (s : State) : State :=
  if !powered s 1 then s
  else if !rangeServed s (windowAddr s off) len then unsupportedRequest s
  else send (.readReply (dramRead s (windowAddr s off) len)) (rangeRequest (windowAddr s off) len s)

/-- A BAR2 write (R321, R352): dropped, counted and reported while a job is open, wherever in DRAM it goes. -/
def windowWrite (off : Nat) (data : Bytes) (s : State) : State :=
  if !powered s 1 then s
  else if dramSize < windowAddr s off + data.length then unsupportedRequest s
  else if s.job.st ≠ 0 then raise 201 0 0 (count 0x100824 1 s)
  else if !rangeServed s (windowAddr s off) data.length then unsupportedRequest s
  else dramWrite (windowAddr s off) data (rangeRequest (windowAddr s off) data.length s)

/-- A register of an MSI-X table entry: address, upper address, data, vector control (R353; log 3). -/
def msixField (i : Nat) (v : Word) (m : MsixVec) : MsixVec :=
  match i with
  | 0 => { m with addr := m.addr / 2 ^ 32 * 2 ^ 32 + v.toNat / 4 * 4 }
  | 1 => { m with addr := v.toNat * 2 ^ 32 + m.addr % 2 ^ 32 }
  | 2 => { m with data := v }
  | _ => { m with mask := bit v.toNat 0 }

/-- A register of an MSI-X table entry as a read returns it. -/
def msixWord (m : MsixVec) (i : Nat) : Nat :=
  match i with
  | 0 => m.addr % 2 ^ 32
  | 1 => m.addr / 2 ^ 32
  | 2 => m.data.toNat
  | _ => b2n m.mask

/-- A word of BAR4 (table of 13): the MSI-X table from 0, the pending bit array from 0x2000. -/
def bar4Word (s : State) (off : Nat) : Nat :=
  let pends (first : Nat) : Nat :=
    ((List.range 32).map (fun k => b2n ((s.hif.msix.toList[first + k]?).any (·.pend)) * 2 ^ k)).sum
  if off < 1024 then (match s.hif.msix.toList[off / 16]? with | some m => msixWord m (off % 16 / 4) | none => 0)
  else if off / 4 * 4 = 0x2000 then pends 0
  else if off / 4 * 4 = 0x2004 then pends 32
  else 0

/-- A BAR4 or configuration access (R351, R353): a vector that it unmasks sends its pending message. -/
def msixWrite (w : Bar4) (s : State) : State :=
  if !powered s 1 then s
  else match w with
    | .table off v =>
      if off.toNat < 1024 then
        sendUnmasked (updHif (fun h => { h with msix := upd h.msix (off.toNat / 16) (msixField (off.toNat % 16 / 4) v) }) s)
      else s
    | .control mask enable => sendUnmasked (updHif (fun h => { h with funcMask := mask, msixOn := enable }) s)
    | .timeout v => updHif (fun h => { h with timeout := v }) s
    | .read off => send (.readReply (natLe (bar4Word s off.toNat) 4)) s

/-! ### Quadrant and domain resets (R39, R41, R358) -/

/-- A part of the write path is reset: a write halts with PART_RESET (R41). -/
def partReset (s : State) : State := addCause (plainCause 3) s

/-- A beam map slice is reset (R182). -/
def sliceReset (n : Nat) (s : State) : State :=
  raise 112 n (wseq s) { s with bmu := { s.bmu with
    slices := upd s.bmu.slices n (fun x : Slice => { x with gen := x.gen + 1, codes := [] }) } }

/-- A bellows stack is reset: its tiles are gone (R339). -/
def stackReset (n : Nat) (s : State) : State :=
  raise 211 n (wseq s) { s with bel := { s.bel with
    tiles := s.bel.tiles.filter (fun t => stackOf t.col != n), gen := upd s.bel.gen n (· + 1) } }

/-- The correction engine of a quadrant is reset. -/
def correctionReset (n : Fin 4) (s : State) : State := engReset ⟨144 + n.val, by omega⟩ s

/-- A quadrant die is reset (R358 kind 4). -/
def quadrantReset (n : Fin 4) (s : State) : State :=
  let s1 := partReset (resetRecord 4 n.val s)
  let s2 := [0, 1, 2].foldl (fun t i => combReset (Fin.ofNat 12 (3 * n.val + i)) t) s1
  let s3 := stackReset n.val (sliceReset n.val (correctionReset n s2))
  [0, 1, 2, 3].foldl (fun t i => portReset (4 * n.val + i) t) s3

/-- The STG domain is reset (R189, R210, R358). -/
def stageReset (s : State) : State :=
  let s1 := axesReset (partReset s)
  slowCheck (raise 140 0 (wseq s)
    { s1 with seq := { State.reset.seq with gen := s.seq.gen + 1, ref := s.seq.ref, slow := s1.seq.slow } })

/-- A domain that R358 allows to be reset. -/
def resettable (d : Nat) : Bool := (3 ≤ d && d ≤ 5) || (8 ≤ d && d ≤ 19) || (32 ≤ d && d ≤ 47)

/-- A request about a domain is refused (R362). -/
def domainRefused (d : Nat) (s : State) : State := raise 232 d 0 (setRegN 0x17001C (2 ^ 31 + d) s)

/-- The units of a domain are reset. -/
def domainUnits (d : Nat) (s : State) : State :=
  if d = 3 then stageReset s
  else if d = 4 then
    (List.finRange 4).foldl (fun t n => sliceReset n.val (correctionReset n t)) (partReset s)
  else if d = 5 then [0, 1, 2, 3].foldl (fun t n => stackReset n t) (partReset s)
  else if d < 20 then combReset (Fin.ofNat 12 (d - 8)) s
  else portReset (d - 32) s

/-- One domain is reset (R358 kind 5), or the request is refused. -/
def oneDomainReset (d : Nat) (s : State) : State :=
  if resettable d then domainUnits d (resetRecord 5 d s) else domainRefused d s

/-- A write of `HIF.DOMAIN_RESET`: its quadrants, then its domain; nothing without the key. -/
def domainResetWrite (v : Word) (s : State) : State :=
  if bits v.toNat 31 24 ≠ 0x9D then s
  else
    let s1 := ((List.finRange 4).filter (fun n => bit v.toNat (16 + n.val))).foldl (fun t n => quadrantReset n t) s
    if bit v.toNat 15 then oneDomainReset (bits v.toNat 5 0) s1 else s1

/-! ### Power domains (R362 to R364) -/

/-- May the bit of a domain in `HIF.PD_CTL` be changed? -/
def switchable (d : Nat) : Bool := decide (2 ≤ d) && bit Power.resetDomains.toNat d

/-- Is a power-down refused (R362)? -/
def downRefused (s : State) (d : Nat) : Bool :=
  if d = 2 || (20 ≤ d && d ≤ 23) then s.job.st != 0
  else if d ≤ 5 then s.job.forage.isSome || s.job.write.isSome
  else false

/-- Does the transfer of a channel have its device-side end in a domain (R363)? Powering down CORE pauses every channel. -/
def chanInDomain (s : State) (d : Nat) (c : Fin 16) : Bool :=
  if d = 2 then true
  else if d = 4 then c.val == 13 && (s.dma[c]).desc.isSome
  else if 20 ≤ d && d ≤ 23 then
    (match (s.dma[c]).desc with
      | some (_, dev, len, _, _) => decide (14 ≤ c.val) && (rangeChannels dev len).any (fun k => k.val / 4 == d - 20)
      | none => (c.val == 11 || c.val == 12) && (loadUnderWay s).isSome) || (s.dma[c]).page.isSome
  else false

/-- A power-down request (R362, R363). -/
def powerDown (d : Nat) (s : State) : State :=
  if !switchable d || !bit s.power.want.toNat d then s
  else if downRefused s d then domainRefused d s
  else
    let s1 := updPower (fun p => { p with want := p.want &&& ~~~(BitVec.ofNat 64 (2 ^ d)) }) s
    ((List.finRange 16).filter (chanInDomain s d)).foldl (fun t c => powerPause c.val t) s1

/-- Has a channel drained for a power-down: it is PAUSED or HALTED_POWER, or has nothing under way? -/
def chanDrained (x : Chan) : Bool :=
  x.st == 3 || x.st == 5 || (x.desc.isNone && x.page.isNone && x.owner == 0)

/-- Have the channels that a power-down of a domain waits for drained (R363)? -/
def domainDrained (s : State) (d : Nat) : Bool :=
  (List.finRange 16).all (fun c => !(s.dma[c]).byPower || !chanInDomain s d c || chanDrained (s.dma[c]))

/-- A comb's engines stop: the tasks they hold are failed back (R362); event 77 when one of them worked. -/
def combOff (before : State) (c : Nat) (s : State) : State :=
  let s1 := (combEngines c).foldl (fun t e => engReset e t) s
  if combEmpty before c then s1 else raise 77 (512 + c) 0 s1

/-- What a domain's units lose when it is off (R189, R333, R362). -/
def unitsOff (before : State) (d : Nat) (s : State) : State :=
  if d = 2 then crcLost (freeFetching s)
  else if d = 3 then
    let s1 := axesReset s
    { s1 with seq := { s1.seq with st := 0, expose := false } }
  else if d = 5 then { s with bel := { s.bel with tiles := [] } }
  else if 8 ≤ d && d ≤ 19 then combOff before (d - 8) s
  else if 20 ≤ d && d ≤ 23 then
    let g : Fin 4 := Fin.ofNat 4 (d - 20)
    let s1 := updGroupCh g (fun x => chMoves 2 4 (chMoves 3 4 (chMoves 5 4 x))) (setGroup g .asleep s)
    if before.mem.groups[g] == .asleep then s1
    else raise 197 (16 + g.val) 0 { s1 with mem := { s1.mem with waits := s1.mem.waits.set g [] } }
  else if 32 ≤ d && d ≤ 47 then portOff (d - 32) s
  else s

/-- A domain whose bit is cleared switches off (R363). -/
def switchOff (d : Nat) (s : State) : State :=
  if !switchable d || bit s.power.want.toNat d || !powered s d || !domainDrained s d then s
  else
    let s1 := updPower (fun p => { p with on := p.on &&& ~~~(BitVec.ofNat 64 (2 ^ d)) }) s
    raise 231 d 0 (unitsOff s d s1)

/-- What a domain's units do when it is powered again (R333, R364); `test` runs or begins an engine's self-test. -/
def unitsOn (test : Fin 148 → State → State) (d : Nat) (s : State) : State :=
  if 8 ≤ d && d ≤ 19 then (combEngines (d - 8)).foldl (fun t e => test e t) s
  else if 20 ≤ d && d ≤ 23 then
    let g : Fin 4 := Fin.ofNat 4 (d - 20)
    raise 198 (16 + g.val) 0 (updGroupCh g (chMoves 4 2) (setGroup g .ready s))
  else s

/-- The domains whose power-down can hold a channel. -/
def chanHolders (c : Nat) : List Nat :=
  if c = 13 then [2, 4] else if c < 3 then [2] else [2, 20, 21, 22, 23]

/-- The channels that no power-down holds any more go on (R364). -/
def resumeChans (s : State) : State :=
  ((List.finRange 16).filter (fun c =>
    (s.dma[c]).byPower && (chanHolders c.val).all (fun d => bit s.power.want.toNat d))).foldl
    (fun t c => powerResume c.val t) s

/-- A power-up request (R364). -/
def powerUp (d : Nat) (test : Fin 148 → State → State) (s : State) : State :=
  if !switchable d || bit s.power.want.toNat d then s
  else
    let s1 := updPower (fun p => { p with want := p.want ||| BitVec.ofNat 64 (2 ^ d) }) s
    if powered s d then resumeChans s1
    else
      let s2 := updPower (fun p => { p with on := p.on ||| BitVec.ofNat 64 (2 ^ d) }) s1
      resumeChans (raise 230 d 0 (unitsOn test d s2))

/-! ### The commands -/

/-- FUNCTION_RESET (R360). -/
def execFunctionReset (s : State) : Host.Outcome State Fault Refusal := .next (functionResets s)

/-- QUAD_RESET (R358). -/
def execQuadReset (v : Word) (s : State) : Host.Outcome State Fault Refusal := .next (hifWrite (domainResetWrite v) s)

/-- DOMAIN_RESET (R358). -/
def execDomainReset (v : Word) (s : State) : Host.Outcome State Fault Refusal := .next (hifWrite (domainResetWrite v) s)

/-- DOMAIN_POWER_DOWN (R363). -/
def execDomainPowerDown (d : Fin 64) (s : State) : Host.Outcome State Fault Refusal := .next (hifWrite (powerDown d.val) s)

/-- DOMAIN_OFF (R363). -/
def execDomainOff (d : Fin 64) (s : State) : Host.Outcome State Fault Refusal := .next (switchOff d.val s)

/-- DOMAIN_POWER_UP (R364). -/
def execDomainPowerUp (d : Fin 64) (i : Start) (s : State) : Host.Outcome State Fault Refusal :=
  .next (hifWrite (powerUp d.val (startTest i)) s)

/-- HOST_LINK_UP (R356). -/
def execHostLinkUp (gen width : Nat) (s : State) : Host.Outcome State Fault Refusal := .next (linkComesUp gen width s)

/-- HOST_LINK_DOWN (R356). -/
def execHostLinkDown (s : State) : Host.Outcome State Fault Refusal := .next (linkIsLost s)

/-- REACHABILITY_CHANGE (R356). -/
def execReachabilityChange (bme d0 : Bool) (s : State) : Host.Outcome State Fault Refusal := .next (reachability bme d0 s)

/-- PERST_DEASSERTED (R358): HIF begins link training. -/
def execPerstDeasserted (s : State) : Host.Outcome State Fault Refusal :=
  .next (updHif (fun h => { h with perstOff := true }) s)

/-- HOST_COMPLETION_ERROR (R357). -/
def execHostCompletionError (c : Fin 16) (s : State) : Host.Outcome State Fault Refusal := .next (hostError c s)

/-- CMD_RING_REREAD (R357); an entry has 64 bytes. -/
def execCmdRingReread (entry : Option EntryRead) (s : State) : Host.Outcome State Fault Refusal :=
  match entry with
  | some b => if b.bytes.length == 64 then .next (ringRead (some b) s) else .fault .illFormed
  | none => .next (ringRead none s)

/-- BAR2_READ (R352). -/
def execBar2Read (off len : Nat) (s : State) : Host.Outcome State Fault Refusal := .next (windowRead off len s)

/-- BAR2_WRITE (R321). -/
def execBar2Write (off : Nat) (data : Bytes) (s : State) : Host.Outcome State Fault Refusal :=
  .next (windowWrite off data s)

/-- BAR4_WRITE (R353). -/
def execBar4Write (w : Bar4) (s : State) : Host.Outcome State Fault Refusal := .next (msixWrite w s)

end Sys2Proof.Machine
end

