-- ==== Sys2Proof/Machine/Heat.lean ====
section
/-!
DEFINITION. The thermal and power master (17_heat_power_calibration): sensors (R406, R407), the demands (R408 to R410),
shutdown (R412, R414) and the input measurements (R415).
-/

namespace Sys2Proof.Machine

open Sys2Proof.Bits

/-- Heat and power changed. -/
def updThm (f : Thm → Thm) (s : State) : State := { s with thm := f s.thm }

/-! ### Judging the sensors (R406, R407) -/

/-- The neighbours of a sensor (table of 17). -/
def neighbours (n : Nat) : List Nat :=
  if n < 8 then (List.range 8).filter (· != n)
  else if n < 40 then ((List.range 8).map (8 * (n / 8) + ·)).filter (· != n)
  else if n < 44 then (List.range 8).map (8 + 8 * (n - 40) + ·)
  else ((List.range 4).map (44 + ·)).filter (· != n)

/-- The reading of a count with a sensor's trims (R406). -/
def readingOf (n25 k count : Nat) : Int := 400 + sar (((n25 : Int) - count) * k + 2048) 12

/-- Is a count with its reading plausible (R407)? -/
def plausible (count : Nat) (r : Int) : Bool := decide (1024 ≤ count) && decide (-640 ≤ r) && decide (r ≤ 2400)

/-- Is a sensor held: it is on a die that a calibration of target 2 measures (R421)? -/
def heldSensor (s : State) (n : Nat) : Bool := decide (n < 44) && s.cal.sensRun.isSome

/-- A sensor with its new count and reading. -/
def sampled (s : State) (counts : List Nat) (n : Fin 48) : Sensor :=
  let x := s.thm.sensors[n]
  if heldSensor s n.val then x
  else
    let c := counts.getD n.val 0
    let r := readingOf x.n25 x.k c
    { x with n := c, own := r, plaus := plausible c r }

/-- An integer put in its place in a rising list. -/
def place (x : Int) : List Int → List Int
  | [] => [x]
  | y :: r => if x ≤ y then x :: y :: r else y :: place x r

/-- The median: the middle, or the lower of the two middle readings. -/
def median (l : List Int) : Int := ((l.foldr place [])).getD ((l.length - 1) / 2) 0

/-- The sensors of a list of numbers. -/
def sensorsOf (v : Vector Sensor 48) (l : List Nat) : List Sensor := l.filterMap (fun n => v[n]?)

/-- Stage 2 of R407: is a sensor valid? -/
def validOf (v : Vector Sensor 48) (n : Nat) (x : Sensor) : Bool :=
  let near := ((sensorsOf v (neighbours n)).filter (·.plaus)).map (·.own)
  x.plaus && (decide (near.length < 2) || decide ((x.own - median near).natAbs ≤ 240))

/-- The largest of a list of readings. -/
def hottest : List Int → Option Int
  | [] => none
  | x :: r => match hottest r with | none => some x | some y => some (max x y)

/-- The substitute reading of a sensor (stage 3 of R407). -/
def substitute (v : Vector Sensor 48) (n : Nat) : Int :=
  match hottest (((sensorsOf v (neighbours n)).filter (·.valid)).map (·.own)) with
  | some h => h + 160
  | none => 1840

/-- The sensors after a gate: sampled, judged, and given their effective readings (R407); held ones stay. -/
def judged (s : State) (counts : List Nat) : Vector Sensor 48 :=
  let v1 := Vector.ofFn (sampled s counts)
  let v2 := Vector.ofFn (fun n : Fin 48 => if heldSensor s n.val then v1[n] else { v1[n] with valid := validOf v1 n.val v1[n] })
  Vector.ofFn (fun n : Fin 48 =>
    let x := v2[n]
    if heldSensor s n.val then x
    else { x with t := if x.valid then x.own else substitute v2 n.val, subst := !x.valid, judged := true })

/-- Events 248 and 249 of a sensor whose validity changes; its first judgement is no change. -/
def validityNote (old new : Sensor) (n : Nat) (s : State) : State :=
  if !old.judged || old.valid == new.valid then s
  else if new.valid then raise 249 n 0 s
  else raise 248 n 0 (count 0x150324 1 s)

/-- Event 250 of a sensor that reaches 110 °C after being below 105 °C (R423). -/
def warnNote (n : Fin 48) (s : State) : State :=
  let x := s.thm.sensors[n]
  let put (b : Bool) : State := updThm (fun h => { h with sensors := upd h.sensors n.val (fun x => { x with cool := b }) }) s
  if x.cool && decide (1760 ≤ x.t) then raise 250 0 0 (put false)
  else if decide (x.t < 1680) then put true
  else s

/-- The hottest effective reading and its sensor, the lowest of equals. -/
def hotOf (v : Vector Sensor 48) : Int × Nat :=
  (List.finRange 48).foldl (fun (b : Int × Nat) n => if n.val = 0 || b.1 < (v[n]).t then ((v[n]).t, n.val) else b) (0, 0)

/-! ### The demands (R408, R409) -/

/-- A gate in units of 0.1 ns. -/
def gateTime : Nat := 4194304

/-- The thermal demand after a gate with hottest reading `h` (R408): it rises no sooner than 10 ms after its last rise. -/
def demandRise (h : Int) (s : State) : State :=
  let since := s.thm.sinceRise.map (· + gateTime)
  let free := match since with | none => true | some t => decide (100000000 ≤ t)
  if 1520 ≤ h && s.thm.thermal < 3 && free then updThm (fun x => { x with thermal := x.thermal + 1, sinceRise := some 0 }) s
  else updThm (fun x => { x with sinceRise := since }) s

/-! ### Shutdown (R412, R414) -/

/-- The sensor that trips, with its reading: the lowest whose effective or plausible reading reaches 115 °C. -/
def tripped (v : Vector Sensor 48) : Option (Nat × Int) :=
  ((List.finRange 48).find? (fun n => decide (1840 ≤ (v[n]).t) || ((v[n]).plaus && decide (1840 ≤ (v[n]).own)))).map
    (fun n => (n.val, if 1840 ≤ (v[n]).t then (v[n]).t else (v[n]).own))

/-- Shutdowns of the last 3 600 s by the master's counter. -/
def recentShutdowns (s : State) : List Nat := s.thm.shutdowns.filter (fun t => decide (s.tim.up < t + 3600000000000))

/-- The module shuts down (R412); the third time within 3 600 s it latches off (R414). -/
def shutDown (sensor : Nat) (t : Int) (s : State) : State :=
  let l := s.tim.up :: recentShutdowns s
  let s1 := updPower (fun p => { p with shutdown := true }) (coreOff s)
  updThm (fun x => { x with shutSensor := sensor, shutT := t, shutdowns := l, latched := decide (3 ≤ l.length) })
    (count 0x150328 1 s1)

/-- The shutdown decision of a gate; a module that is shut down already stays so. -/
def shutCheck (s : State) : State :=
  match tripped s.thm.sensors with
  | some (n, t) => if s.power.shutdown then s else shutDown n t s
  | none => s

/-! ### The gate -/

/-- SENSOR_GATE_END (R406 to R414). -/
def gateEnd (counts : List Nat) (s : State) : State :=
  if !s.power.aon then s
  else
    let v := judged s counts
    let s1 := updThm (fun x => { x with sensors := v, hold := v.toList.any (fun y => y.judged && !y.valid) }) s
    let s2 := (List.finRange 48).foldl (fun t n => validityNote (s.thm.sensors[n]) v[n] n.val t) s1
    let s3 := (List.finRange 48).foldl (fun t n => warnNote n t) s2
    let hot := hotOf v
    let s4 := if s.cal.sensRun.isSome then s3
      else updThm (fun x => { x with
        hot := hot.1, hotSensor := hot.2, tempMax := hottest ((v.toList.filter (·.valid)).map (·.own)) }) s3
    throttle (shutCheck (demandRise hot.1 s4))

/-- THERMAL_DEMAND_FALL (R408, R409); no fall while a self-calibration of either target runs (R421). -/
def demandFall (s : State) : State :=
  if !s.power.aon || s.thm.hold || s.cal.sensRun.isSome || s.cal.tdcRun.isSome || s.thm.thermal = 0 ||
      s.thm.sensors.toList.any (fun x => decide (1440 ≤ x.t)) then s
  else throttle (updThm (fun x => { x with thermal := x.thermal - 1 }) s)

/-- The power demand against its limit (R408): P is in units of 0.1 W, the limit in watts. -/
def powerDemand (p : Nat) (s : State) : State :=
  let limit := regBits s 0x150304 24 16
  if 10 * limit < p && s.thm.power < 3 then
    raise 255 0 0 (count 0x15032C 1 (updThm (fun x => { x with power := x.power + 1 }) s))
  else if p < 10 * (limit - 20) && 0 < s.thm.power then updThm (fun x => { x with power := x.power - 1 }) s
  else s

/-- POWER_AVERAGE (R408, R410, R415). -/
def averageEnds (p vin iin : Nat) (s : State) : State :=
  if !s.power.aon then s
  else throttle (powerDemand p (updThm (fun x => { x with p := p % 65536, vin := vin % 65536, iin := iin % 65536 }) s))

/-! ### The commands -/

/-- SENSOR_GATE_END (R406); a gate counts 48 sensors. -/
def execSensorGateEnd (counts : List Nat) (s : State) : Host.Outcome State Fault Refusal :=
  if counts.length == 48 then .next (gateEnd counts s) else .fault .illFormed

/-- THERMAL_DEMAND_FALL (R410). -/
def execThermalDemandFall (s : State) : Host.Outcome State Fault Refusal := .next (demandFall s)

/-- POWER_AVERAGE (R410). -/
def execPowerAverage (p vin iin : Nat) (s : State) : Host.Outcome State Fault Refusal := .next (averageEnds p vin iin s)

end Sys2Proof.Machine
end

