-- ==== Sys2Proof/Machine/Reading.lean ====
section
/-!
DEFINITION. What every BAR0 register reads (R18 to R22): a stored field its stored value, a reporting field the present
state of its unit, by the register map of each chapter; a window that holds no register reads 0.
-/

namespace Sys2Proof.Machine

open Sys2Proof.Bits

/-- The low or the high half of a 64-bit quantity. -/
def halfOf (v : Nat) (high : Bool) : Nat := if high then v / 2 ^ 32 % 2 ^ 32 else v % 2 ^ 32

/-- Four bytes of a string, as a register shows them (R10). -/
def wordAt (b : Bytes) (off : Nat) : Nat := field b off 4

/-- The number with the bits that hold of a list, bit 0 first. -/
def bitsOf (l : List Bool) : Nat := (l.zipIdx.map (fun x => b2n x.1 * 2 ^ x.2)).sum

/-- The stored value of a register; 0 where there is none. -/
def storedAt (s : State) (off : Nat) : Nat := if (RegMap.find off).isSome then regN s off else 0

/-! ### GLB, EVT, JOB, DMA -/

/-- GLB (00_scope, 13). -/
def readGlb (s : State) (off : Nat) : Nat :=
  if off = 0 then 0x1C5E0310 + (if Config.variantB then 0x2000 else 0x1000)
  else if off = 8 then b2n s.power.ready + 2 * b2n s.power.resetting
  else if off = 0xC then s.power.lastKind + 256 * s.power.lastDetail
  else 0

/-- EVT (18). -/
def readEvt (s : State) (off : Nat) : Nat :=
  if off = 0x01000C then s.evt.tail
  else if off = 0x010014 then
    b2n s.evt.enabled + 2 * b2n (evtFull s) + 4 * b2n (!s.evt.held.isEmpty) + 256 * s.evt.error
  else if off = 0x010020 then halfOf s.evt.eseq.toNat false
  else if off = 0x010024 then halfOf s.evt.eseq.toNat true
  else storedAt s off

/-- `JOB.STATE.WRITE`. -/
def writeState (s : State) : Nat :=
  match s.job.write with
  | some w =>
    (match w.st with
      | .boundary => 3
      | .fill => if windowReady s && s.blk.st == 5 then 5 else 4
      | .arming => 5
      | .running => 6
      | .draining => 7)
  | none =>
    if (waitingWrite s).isSome then 2 else if s.job.live.any (fun l => isWriteOp (entryOp l.entry)) then 1 else 0

/-- `JOB.STATE.FORAGE`. -/
def forageState (s : State) : Nat :=
  if s.job.forage.isSome then 5 else if s.job.live.any (fun l => entryOp l.entry == 5) then 1 else 0

/-- A frontier as two registers: NONE and FINAL in the high one. -/
def frontierReg (f : Option Nat) (final : Bool) (high : Bool) : Nat := halfOf (frontierField f final false) high

/-- The record that the journal window shows (R311). -/
def selectedRecord (s : State) : Bytes :=
  match journalAt s (regBits s 0x020094 17 0) with | some r => r.bytes | none => []

/-- JOB (11). -/
def readJob (s : State) (off : Nat) : Nat :=
  let j := s.job
  if off = 0x02000C then j.cmdTail
  else if off = 0x020010 then j.cmdHead
  else if off = 0x020020 then j.cplTail
  else if off = 0x020024 then j.cplHead
  else if off = 0x020028 then b2n j.cmdOn + 2 * b2n j.cplOn
  else if off = 0x02002C then
    b2n (decide (64 ≤ (notStarted s).length)) + 2 * b2n j.stopped + 4 * b2n j.cplFull + 256 * j.error
  else if off = 0x020030 then halfOf j.nextSeq false
  else if off = 0x020034 then halfOf j.nextSeq true
  else if off = 0x020038 then j.st + 16 * writeState s + 256 * forageState s
  else if off = 0x020040 then frontierReg j.frontier j.frontierFinal false
  else if off = 0x020044 then frontierReg j.frontier j.frontierFinal true
  else if off = 0x020090 then newestIdx s
  else if 0x021000 ≤ off ∧ off < 0x021040 then wordAt (selectedRecord s) (off - 0x021000)
  else storedAt s off

/-- A register of DMA channel `x`, channel number `c`. -/
def chanReg (x : Chan) (c o : Nat) : Option Nat :=
  if o = 0 then some (b2n (x.on || c < 13) + 2 * b2n x.pause)
  else if o = 4 then some (x.st + 256 * x.err)
  else if o = 0x14 then some x.tail
  else if o = 0x18 then some x.head
  else if o = 0x1C then some (halfOf x.bytes false)
  else if o = 0x20 then some (halfOf x.cur false)
  else if o = 0x24 then some (halfOf x.cur true)
  else none

/-- DMA (11). -/
def readDma (s : State) (off : Nat) : Nat :=
  match s.dma[(off - 0x030000) / 0x100]? with
  | some x => (chanReg x ((off - 0x030000) / 0x100) (off % 0x100)).getD (storedAt s off)
  | none => 0

/-! ### INT, CMB, ENG, PEC -/

/-- INT (03). -/
def readInt (s : State) (off : Nat) : Nat :=
  if off = 0x04000C then
    (s.intake.poolFrames - s.intake.frames.length) + 2 ^ 20 * bitsOf (s.intake.dec.toList.map (fun d => d.run.isSome))
  else if 0x040010 ≤ off ∧ off < 0x040020 then
    (match s.intake.dec[(off - 0x040010) / 4]? with | some d => d.st + 2 ^ 24 * d.gen.toNat | none => 0)
  else storedAt s off

/-- CMB (04, 09). -/
def readCmb (s : State) (off : Nat) : Nat :=
  let c := (off - 0x050000) / 0x1000
  if off = 0x05C028 then (Check.imageDigest s.comb.re.cur).toNat
  else if off = 0x05C02C then (Check.imageDigest s.comb.ce.cur).toNat
  else if off = 0x05C030 then
    workingNow s + 2 ^ 16 * bitsOf ((engines.filter (fun e => !isRaster e)).map (engWorking s))
  else if off = 0x05C034 then
    storedAt s off + 256 * b2n s.comb.re.pend.isSome + 512 * b2n s.comb.ce.pend.isSome
  else if off % 0x1000 = 4 ∧ c < 12 then
    bitsOf ((combEngines c).map (engWorking s)) +
      2 ^ 12 * bitsOf ((combEngines c).map (fun e => (engTask (s.eng[e])).isSome)) +
      2 ^ 24 * (match s.comb.gen[c]? with | some g => g.toNat | none => 0)
  else storedAt s off

/-- `ENG.STATE.STATE`. -/
def engState (s : State) (e : Fin 148) : Nat :=
  let x := s.eng[e]
  if x.testing then 3
  else if !engPowered s e then 4
  else if x.failed then 5
  else if (engTask x).isSome then 1
  else if engOffline s e then 4
  else 0

/-- The engine whose window holds an offset. -/
def engAt (off : Nat) : Option (Fin 148) := engines.find? (fun e => off / 0x400 == engBase e / 0x400)

/-- ENG (09). -/
def readEng (s : State) (e : Fin 148) (off : Nat) : Nat :=
  if off = engBase e then
    engState s e + 256 * b2n (match (s.eng[e]).held with | some h => h.bank | none => false) + 2 ^ 24 * (s.eng[e]).gen.toNat
  else storedAt s off

/-- `PEC.CE_STATE.STATE` (R154 table). The instants of 3 deliver, 4 wait for factor store and 5 fault are not stated, and the
model shows only 0, 1 and 2 (DESIGN CHOICE, log 113). -/
def ceState (x : Engine) : Nat :=
  match engTask x with
  | some t => if t.mode = 1 then 1 else 2
  | none => 0

/-- The correction engines. -/
def correctionEngines (s : State) : List Engine := s.eng.toList.drop 144

/-- PEC (05). -/
def readPec (s : State) (off : Nat) : Nat :=
  if off = 0x0B0000 then
    bitsOf [s.pec.kernel.cur.isSome, s.pec.field.cur.isSome, s.pec.kernel.pend.isSome, s.pec.field.pend.isSome] +
      16 * bitsOf ((correctionEngines s).map (fun x => (engTask x).isSome))
  else if off = 0x0B0004 then (tableDigest s.pec.kernel.cur).toNat
  else if off = 0x0B0008 then (tableDigest s.pec.field.cur).toNat
  else if 0x0B0040 ≤ off ∧ off < 0x0B0050 then
    (match (correctionEngines s)[(off - 0x0B0040) / 4]? with | some x => ceState x + 2 ^ 24 * x.gen.toNat | none => 0)
  else storedAt s off

/-! ### BMU, STG, BLK -/

/-- `BMU.SLICE_STATE.STATE`. -/
def sliceState (s : State) (n : Nat) (x : Slice) : Nat :=
  match s.job.write with
  | none => 0
  | some w =>
    if w.ending.isSome then 4
    else if blanked w x.next then 2
    else if sliceReady s w n x.next then 1
    else 3

/-- Does a framing run (R226)? None does on a link that is DOWN or HELD. -/
def framed (s : State) : Bool := s.blk.st != 0 && s.blk.st != 9

/-- `PROFILE_RUN`: the framing that runs, 0 none. -/
def profShown (s : State) : Nat := if framed s then s.blk.profRun else 0

/-- `RATE_RUN`: the rate that runs, 0 none. -/
def rateShown (s : State) : Nat := if framed s then s.blk.rateRun else 0

/-- BMU (06). -/
def readBmu (s : State) (off : Nat) : Nat :=
  let n := (off - 0x0C0000) / 0x4000
  if off = 0x0C0004 then s.sec.substLimit
  else if off = 0x0C0008 then
    bitsOf [s.bmu.beam.cur.isSome, s.bmu.mask.cur.isSome, s.bmu.weight.cur.isSome, s.bmu.beam.pend.isSome,
      s.bmu.mask.pend.isSome, s.bmu.weight.pend.isSome] + 256 * profShown s
  else if off = 0x0C000C then (tableDigest s.bmu.beam.cur).toNat
  else if off = 0x0C0010 then (tableDigest s.bmu.mask.cur).toNat
  else if off = 0x0C0014 then (tableDigest s.bmu.weight.cur).toNat
  else if off = 0x0C001C then
    (match s.bmu.mask.cur with | some t => deadCount t + 2 ^ 24 * worstGroup t | none => 0)
  else if off = 0x0C0020 then storedAt s off + 2 ^ 31 * b2n s.bmu.armed
  else if off % 0x4000 = 0x100 ∧ n < 4 then
    (match s.bmu.slices[n]? with | some x => sliceState s n x + 2 ^ 24 * x.gen.toNat | none => 0)
  else match captureAt off with
    | some (k, o) => leNat (Sparse.getRun dramDefault s.bmu.capBuf (8192 * k + o) 4)
    | none => storedAt s off

/-- `STG.SEQ_STATUS`. -/
def seqStatus (s : State) : Nat := s.seq.st + 256 * s.seq.pc + 2 ^ 24 * s.seq.gen.toNat

/-- The registers of an axis that report it. -/
def axisReg (x : Axis) (o : Nat) : Option Nat :=
  if o = 4 then some x.count.toNat
  else if o = 0xC then some x.speed.toNat
  else none

/-- STG (07, 19). -/
def readStg (s : State) (off : Nat) : Nat :=
  let o := off - 0x0D0000
  if o < 0x100 then
    (match s.axes[o / 0x40]? with
      | some x =>
        if o % 0x40 = 8 then
          storedAt s off + bitsOf [x.referenced, x.down, x.valid, x.stale]
        else (axisReg x (o % 0x40)).getD (storedAt s off)
      | none => 0)
  else if o = 0x110 then storedAt s off + 2 * b2n s.seq.slow + 4 * b2n s.seq.expose
  else if o = 0x114 then seqStatus s
  else if o = 0x118 then halfOf s.seq.flash false
  else if o = 0x11C then halfOf s.seq.flash true
  else if o = 0x120 then s.seq.lastWord.toNat
  else if 0x130 ≤ o ∧ o < 0x140 then ((s.seq.params.toList.getD ((o - 0x130) / 4) 0)).toNat
  else if o = 0x154 then storedAt s off + 2 ^ 30 * b2n s.seq.ref
  else storedAt s off

/-- The logical lane that a physical lane carries (R212, R220). -/
def carriedLane (s : State) (w : Nat) : Option Nat := ((carriers s (w / 18)).find? (fun c => c.1 == w)).map (·.2)

/-- `BLK.LANE_STATE.STATE`. -/
def laneState (s : State) (w : Nat) : Nat :=
  let l := lane s w
  if s.blk.st = 0 || !portOn s (w / 18) then (if l.absent then 5 else 0)
  else if l.absent then 5
  else if s.blk.st = 6 then 4
  else if linkRuns s then (if w % 18 = 16 && (carriedLane s w).isNone then 6 else 3)
  else if l.lock then 2
  else 1

/-- Have data lanes been assigned to lanes: from SPARE on, until the link is HELD or DOWN (R212, R220)? -/
def assigned (s : State) : Bool := decide (5 ≤ s.blk.st) && s.blk.st != 9

/-- `BLK.LANE_STATE`. -/
def laneReg (s : State) (w : Nat) : Nat :=
  let l := lane s w
  laneState s w + 64 * b2n l.lock + 128 * b2n l.absent +
    (match (if assigned s then carriedLane s w else none) with | some c => 2 ^ 16 * c + 2 ^ 24 | none => 0)

/-- `BLK.LANE_EQ`: the set in use while the lanes are not idle (R422). -/
def laneEq (s : State) (w : Nat) : Nat := if s.blk.st = 0 then 0 else field s.blk.eq (64 + 4 * w) 3

/-- BLK (08). -/
def readBlk (s : State) (off : Nat) : Nat :=
  let o := off - 0x0E0000
  if o < 0x40 * 288 then
    (if o % 0x40 = 0 then laneReg s (o / 0x40) else if o % 0x40 = 4 then laneEq s (o / 0x40) else storedAt s off)
  else if o = 0x8004 then
    s.blk.st + 256 * rateShown s + 1024 * profShown s +
      2 ^ 16 * (s.blk.spare.toList.filter (·.isSome)).length + 2 ^ 28 * s.blk.gen.toNat
  else if o = 0x8010 then halfOf (frontierField s.blk.frontier s.blk.final s.blk.unsure) false
  else if o = 0x8014 then halfOf (frontierField s.blk.frontier s.blk.final s.blk.unsure) true
  else if o = 0x8018 then halfOf (s.blk.lastSent.getD 0) false
  else if o = 0x801C then halfOf (s.blk.lastSent.getD 0) true
  else if 0x8020 ≤ o ∧ o < 0x8044 then
    bitsOf ((List.range 32).map (fun k => decide (8 * (o - 0x8020) + k < 288) && (lane s (8 * (o - 0x8020) + k)).absent))
  else if 0x8044 ≤ o ∧ o < 0x8054 then
    ((List.range 4).map (fun m =>
      match spareOf s (o - 0x8044 + m) with | some j => (128 + j) * 256 ^ m | none => 0)).sum
  else storedAt s off

/-! ### MEM, BEL, CRC, TIM -/

/-- A trained eye as a register. -/
def eyeReg (e : Eye) : Nat := e.centre + 256 * e.width + 2 ^ 16 * e.vref

/-- MEM (12). -/
def readMem (s : State) (off : Nat) : Nat :=
  let o := (off - 0x100000) % 0x1000
  match s.mem.ch[(off - 0x100000) / 0x1000]? with
  | none => 0
  | some x =>
    if o = 0 then x.st + 256 * b2n x.twice + 2 ^ 20 * x.failLane + 2 ^ 24 * x.gen.toNat
    else if 0x40 ≤ o ∧ o < 0x68 then (match x.rd[(o - 0x40) / 4]? with | some e => eyeReg e | none => 0)
    else if 0x80 ≤ o ∧ o < 0xA8 then (match x.wr[(o - 0x80) / 4]? with | some e => eyeReg e | none => 0)
    else if off = 0x100820 then
      bitsOf (s.mem.ch.toList.map (fun c => c.st == 6)) + 2 ^ 16 * bitsOf (s.mem.ch.toList.map (fun c => c.st == 7))
    else storedAt s off

/-- BEL (12). -/
def readBel (s : State) (off : Nat) : Nat :=
  if off = 0x110004 then s.bel.tiles.length + 2 ^ 16 * lead s
  else if 0x110010 ≤ off ∧ off < 0x110020 then
    (match s.bel.retired[(off - 0x110010) / 4]?, s.bel.gen[(off - 0x110010) / 4]? with
      | some r, some g => r + 2 ^ 24 * g.toNat
      | _, _ => 0)
  else storedAt s off

/-- CRC (15). -/
def readCrc (s : State) (off : Nat) : Nat :=
  match s.crc[(off - 0x120000) / 0x100]? with
  | none => storedAt s off
  | some x =>
    let o := off % 0x100
    if o = 4 then 256 * x.code
    else if o = 0x14 then x.run.toNat
    else if o = 0x18 then (x.run ^^^ 0xFFFFFFFF).toNat
    else if o = 0x30 then halfOf x.count.toNat false
    else if o = 0x34 then halfOf x.count.toNat true
    else if o = 0x44 then bitsOf [x.busy, x.matched, x.mismatched, x.feedErr]
    else storedAt s off

/-- The clock identity of the selected master, byte 0 first; 0 with none. -/
def masterId (s : State) : Nat := match s.tim.master with | some m => m.source.toNat | none => 0

/-- TIM (14). -/
def readTim (s : State) (off : Nat) : Nat :=
  if off = 0x130000 then halfOf s.tim.ns.toNat false
  else if off = 0x130004 then halfOf s.tim.ns.toNat true
  else if off = 0x130014 then unsigned 32 s.tim.rate
  else if off = 0x13001C then s.tim.st + 16 * s.tim.gen.toNat
  else if off = 0x130020 then unsigned 32 s.tim.offset
  else if off = 0x130024 then unsigned 32 s.tim.dbar
  else if off = 0x130028 then unsigned 32 s.tim.pendStep
  else if off = 0x13002C then unsigned 32 s.tim.stepLast
  else if off = 0x130044 then halfOf (masterId s) false
  else if off = 0x130048 then halfOf (masterId s) true
  else if off = 0x13004C then storedAt s off + 8 * s.tim.speed
  else if off = 0x130058 then halfOf Config.mac.toNat false
  else if off = 0x13005C then halfOf Config.mac.toNat true
  else storedAt s off

/-! ### SEC, THM, CAL, HIF -/

/-- SEC (16). -/
def readSec (s : State) (off : Nat) : Nat :=
  let x := s.sec
  if off = 0x140000 then
    b2n x.running + 4 * b2n x.fallback + 8 * b2n x.recovery + 16 * b2n (enrolled s) + 32 * b2n x.prop.isSome
  else if off = 0x140004 then x.route + 2 ^ 16 * x.window
  else if off = 0x140008 then b2n x.active
  else if off = 0x14000C then x.minSvn
  else if off = 0x140010 then x.runSvn
  else if off = 0x140014 then x.mgen.toNat
  else if off = 0x140018 then halfOf x.gcount false
  else if off = 0x14001C then halfOf x.gcount true
  else if off = 0x140020 then halfOf s.sec.serial.toNat false
  else if off = 0x140024 then halfOf s.sec.serial.toNat true
  else if off = 0x140028 then
    (match x.prop with | some p => remaining s p + 2 ^ 16 * stmtSetting p.stmt | none => 0)
  else if off = 0x140030 then 2 * b2n (x.quotes.any (·.host))
  else if off = 0x140038 then Config.certificate.length
  else if 0x140400 ≤ off ∧ off < 0x140580 then wordAt x.m.toList.flatten (off - 0x140400)
  else if 0x140800 ≤ off ∧ off < 0x140A30 then wordAt x.quote (off - 0x140800)
  else if 0x140C00 ≤ off ∧ off < 0x140C60 then wordAt Config.attestPub (off - 0x140C00)
  else if 0x141000 ≤ off ∧ off < 0x141800 then wordAt Config.certificate (off - 0x141000)
  else storedAt s off

/-- `THM.TEMP` of a sensor. -/
def tempReg (s : State) (n : Nat) (x : Sensor) : Nat :=
  unsigned 16 x.t + 2 ^ 29 * b2n (decide (n < 44) && s.cal.sensRun.isSome) + 2 ^ 30 * b2n x.subst + 2 ^ 31 * b2n x.valid

/-- `THM.STATUS`. -/
def thmStatus (s : State) : Nat :=
  let h := s.thm
  unsigned 16 h.hot + 2 ^ 16 * h.hotSensor + 2 ^ 24 * h.step +
    2 ^ 28 * b2n (decide (max h.thermal (regBits s 0x150304 1 0) < h.power)) + 2 ^ 29 * b2n h.warn + 2 ^ 30 * b2n h.hold +
    2 ^ 31 * b2n h.latched

/-- Shutdowns within the last 3 600 s. -/
def shutdownCount (s : State) : Nat :=
  (s.thm.shutdowns.filter (fun t => decide (s.tim.up < t + 3600000000000))).length

/-- THM (17). -/
def readThm (s : State) (off : Nat) : Nat :=
  let o := off - 0x150000
  match s.thm.sensors[o % 0x100 / 4]? with
  | none => storedAt s off
  | some x =>
    if o < 0xC0 then tempReg s (o / 4) x
    else if 0x100 ≤ o ∧ o < 0x1C0 then x.n
    else if 0x200 ≤ o ∧ o < 0x2C0 then x.n25 + 2 ^ 20 * x.k
    else if o = 0x300 then thmStatus s
    else if o = 0x308 then s.thm.vin + 2 ^ 16 * s.thm.iin
    else if o = 0x30C then s.thm.p
    else if o = 0x310 then unsigned 16 s.thm.shutT + 2 ^ 16 * s.thm.shutSensor + 2 ^ 24 * (shutdownCount s % 256)
    else storedAt s off

/-- Is a set of a quantity pending (R416)? -/
def calPending (s : State) (q : Nat) : Bool :=
  if q = 0 then s.bmu.beam.pend.isSome
  else if q = 1 then s.bmu.mask.pend.isSome
  else if q = 3 then s.cal.trims.isSome
  else if q = 4 then s.cal.eq.isSome
  else false

/-- Does a self-calibration of a quantity run (R421)? -/
def calRuns (s : State) (q : Nat) : Bool := (q == 2 && s.cal.tdcRun.isSome) || (q == 3 && s.cal.sensRun.isSome)

/-- CAL (17). -/
def readCal (s : State) (off : Nat) : Nat :=
  let o := off - 0x160000
  if o = 0x100 then storedAt s off + 2 ^ 30 * b2n s.cal.copy.isSome
  else if 0x200 ≤ o ∧ o < 0x240 then wordAt s.cal.limits (o - 0x200)
  else if o < 0xA0 then
    (match s.cal.recs[o / 0x20]? with
      | some r =>
        if o % 0x20 = 0 then r.count.toNat
        else if o % 0x20 = 4 then r.stamp.toNat
        else if o % 0x20 = 8 then
          r.reject + 256 * b2n (calPending s (o / 0x20)) + 512 * b2n (calRuns s (o / 0x20))
        else 0
      | none => 0)
  else storedAt s off

/-- HIF (13). -/
def readHif (s : State) (off : Nat) : Nat :=
  let h := s.hif
  if off = 0x170000 then
    h.gen.toNat + 256 * h.speed + 2 ^ 16 * h.width + 2 ^ 29 * b2n h.linkUp + 2 ^ 30 * b2n h.bme + 2 ^ 31 * b2n (reachable s)
  else if off = 0x170008 then halfOf s.power.want.toNat false
  else if off = 0x17000C then halfOf s.power.want.toNat true
  else if off = 0x170010 then halfOf s.power.on.toNat false
  else if off = 0x170014 then halfOf s.power.on.toNat true
  else storedAt s off

/-! ### A BAR0 read -/

/-- The value of the register at an offset, in every block. -/
def unitReg (s : State) (off : Nat) : Nat :=
  match engAt off with
  | some e => readEng s e off
  | none =>
    match off / 0x10000 with
    | 0x00 => readGlb s off
    | 0x01 => readEvt s off
    | 0x02 => readJob s off
    | 0x03 => readDma s off
    | 0x04 => readInt s off
    | 0x05 => readCmb s off
    | 0x0B => readPec s off
    | 0x0C => readBmu s off
    | 0x0D => readStg s off
    | 0x0E => readBlk s off
    | 0x10 => readMem s off
    | 0x11 => readBel s off
    | 0x12 => readCrc s off
    | 0x13 => readTim s off
    | 0x14 => readSec s off
    | 0x15 => readThm s off
    | 0x16 => readCal s off
    | 0x17 => readHif s off
    | _ => 0

/-- Is an offset in the GLB, HIF or JOB block (R359)? -/
def alwaysRead (off : Nat) : Bool := off / 0x10000 == 0 || off / 0x10000 == 2 || off / 0x10000 == 0x17

/-- What a BAR0 read of a register returns: while RESETTING, the reset value in every block but GLB, HIF and JOB (R359). -/
def readReg (s : State) (off : Nat) : Word :=
  BitVec.ofNat 32 (if s.power.resetting && !alwaysRead off then unitReg (coldAll s) off else unitReg s off)

/-- Low halves of the 64-bit quantities (R21), outside the windows of channels, engines and units. The tables mark some of them
'read as one 64-bit quantity by R21'; that the others latch too (addresses and bases, `HIF.PD_CTL`, `HIF.PD_STATUS`,
`CAL.COPY_DST`, the program words of the sequencer) is the model's choice (DESIGN CHOICE, log 103). -/
def quantities : List Nat :=
  [0x010000, 0x010020, 0x020000, 0x020014, 0x020030, 0x020040, 0x040048, 0x05C010, 0x0C0024, 0x0C0034, 0x0D0118,
    0x0E8010, 0x0E8018, 0x130000, 0x130008, 0x130044, 0x130058, 0x140018, 0x140020, 0x160104, 0x170008, 0x170010]

/-- Is a register the low half of a 64-bit quantity? -/
def lowHalf (off : Nat) : Bool :=
  quantities.contains off ||
  (off / 0x10000 == 0x03 && (off % 0x100 == 8 || off % 0x100 == 0x20)) ||
  ((engAt off).isSome && off % 0x400 == 0xC) ||
  (decide (0x0D0400 ≤ off) && decide (off < 0x0D0600) && off % 8 == 0) ||
  (off / 0x10000 == 0x10 && off % 0x1000 == 8) ||
  (off / 0x10000 == 0x12 && decide (off < 0x120800) && (off % 0x100 == 8 || off % 0x100 == 0x30 || off % 0x100 == 0x38))

/-- The latched high half of a quantity (R21). -/
def latched (s : State) (off : Nat) : Option Word := (s.latch.find? (fun e => e.1 == off)).map (·.2)

/-- What a read of the register at an aligned offset returns: a high half returns the latched value, if there is one
(R21). -/
def regRead (s : State) (off : Nat) : Word :=
  if lowHalf (off - 4) && 4 ≤ off then (latched s off).getD (readReg s off) else readReg s off

/-- The effect of a read of the register at an aligned offset: a low half latches its high half (R21). -/
def regLatch (off : Nat) (s : State) : State :=
  if lowHalf off then { s with latch := (off + 4, readReg s (off + 4)) :: s.latch.filter (fun e => e.1 != off + 4) } else s

/-- The bytes of `n` registers from an aligned offset on, read in ascending order, and the state after. -/
def regsRead : Nat → Nat → State → Bytes × State
  | 0, _, s => ([], s)
  | n + 1, off, s =>
    let r := regsRead n (off + 4) (regLatch off s)
    (natLe (regRead s off).toNat 4 ++ r.1, r.2)

/-- A BAR0 read of `len` bytes from `off`: the addressed bytes of the registers (R19, R21). -/
def barRead (off len : Nat) (s : State) : State :=
  if !powered s 1 then s
  else
    let r := regsRead ((off % 4 + len + 3) / 4) (off / 4 * 4) s
    send (.readReply (slice r.1 (off % 4) len)) r.2

/-- LATCHING_READ (R21). -/
def execLatchingRead (r : BarRead) (s : State) : Host.Outcome State Fault Refusal :=
  .next (barRead r.off.toNat r.len s)

end Sys2Proof.Machine
end

