-- ==== Sys2Proof/Machine/Time.lean ====
section
/-!
DEFINITION. Module time, the PTP servo and the management port (14_time_and_management_port, R366 to R374).
-/

namespace Sys2Proof.Machine

open Sys2Proof.Bits

/-- The time unit changed. -/
def updTim (f : Tim → Tim) (s : State) : State := { s with tim := f s.tim }

/-! ### The module time (R366, R371, R372) -/

/-- Event 226 when NS64 has crossed a multiple of 2^32 (R366). -/
def wrapNote (before : Dword) (s : State) : State :=
  if before.toNat / 2 ^ 32 = s.tim.ns.toNat / 2 ^ 32 then s else raise 226 0 0 s

/-- The module time steps by `d` nanoseconds, in one count (R371). -/
def stepTime (d : Int) (s : State) : State :=
  let s1 := updTim (fun t => { t with ns := t.ns + BitVec.ofInt 64 d, stepLast := clamp d (-2147483648) 2147483647 }) s
  wrapNote s.tim.ns (raise 235 0 0 (count 0x130068 1 s1))

/-- Units of 1/256 ppb in a nanosecond (R370). -/
def nsUnits : Nat := 256000000000

/-- What a nanosecond of the oscillator adds to NS64, in those units: a positive RATE slows the module time (R370). -/
def tickUnits (t : Tim) : Nat := ((nsUnits : Int) - t.rate).toNat

/-- The oscillator counts `n` nanoseconds, and NS64 what RATE makes of them (R366). -/
def runTime (n : Nat) (s : State) : State :=
  let u := s.tim.frac + n * tickUnits s.tim
  wrapNote s.tim.ns (updTim (fun t => { t with
    ns := t.ns + BitVec.ofNat 64 (u / nsUnits), frac := u % nsUnits, up := t.up + n }) s)

/-- The oscillator counts one nanosecond. -/
def tick (s : State) : State := runTime 1 s

/-- What passes while no command waits: one nanosecond, while AON runs (log 11). -/
def idle (s : State) : State := if s.power.aon then tick s else s

/-- Nanoseconds of the oscillator until NS64 reaches the next multiple of 2^32. -/
def untilWrap (t : Tim) : Nat :=
  ((2 ^ 32 - t.ns.toNat % 2 ^ 32) * nsUnits - t.frac + tickUnits t - 1) / tickUnits t

/-- NS64 counts on to the next multiple of 2^32 (R366). -/
def wrapTime (s : State) : State := runTime (untilWrap s.tim) s

/-- A write of SET to `TIM.TIME_CMD` while the servo is DISABLED: a step (R372). -/
def setTime (s : State) : State :=
  if s.tim.st ≠ 0 then s else stepTime ((reg64 s 0x130008 : Int) - s.tim.ns.toNat) s

/-! ### The servo (R370, R371) -/

/-- `TIM.PTP_CTL.TRANSPORT`. -/
def ptpTransport (s : State) : Nat := regBits s 0x130018 1 1

/-- Is a PTP message one of the servo's transport and domain (R368)? -/
def ptpTaken (s : State) (transport domain sdoId : Nat) : Bool :=
  s.power.aon && s.tim.st != 0 && transport == ptpTransport s && sdoId == 0 && domain == regBits s 0x130018 16 9

/-- The raw stamp of a PTP event message: the module time, to within 4 ns at 1000BASE-KX and 3.2 ns at 10GBASE-KR (R366,
R369). -/
def rawStamp (s : State) (err : Int) : Int :=
  let e : Int := if s.tim.speed = 2 then 3 else 4
  (now s : Int) + clamp err (-e) e

/-- Does a message come from the selected master? -/
def fromMaster (s : State) (source : Dword) (port : Nat) : Bool :=
  match s.tim.master with
  | some m => m.source == source && m.port == port
  | none => false

/-- `TIM.THRESH.STEP_NS` and PATH_TOL. -/
def stepBound (s : State) : Nat := regBits s 0x130030 15 0
/-- `TIM.THRESH.PATH_TOL`. -/
def pathTol (s : State) : Nat := regBits s 0x130030 31 16

/-- `TIM.ASYM`. -/
def asym (s : State) : Int := signed 32 (regN s 0x130038)

/-- The PHY latencies of the speed in use: received, sent (R369). -/
def phyLatency (s : State) : Nat × Nat :=
  let off := if s.tim.speed = 2 then 0x130040 else 0x13003C
  (regBits s off 31 16, regBits s off 15 0)

/-- Units of 2^-16 ns rounded to nanoseconds, ties toward plus infinity (R370). -/
def roundNs (x : Int) : Int := sar (x + 32768) 16

/-- The mean of a list, rounded with ties toward plus infinity (R370); 0 of an empty list. -/
def meanOf (l : List Int) : Int := if l.isEmpty then 0 else fdiv (2 * l.sum + l.length) (2 * l.length)

/-- The servo restarts its filters for a master (R371): RATE is held. -/
def acquire (s : State) : State :=
  updTim (fun t => { t with
    st := 2, acc := 0, ds := [], sync := none, req := none, q := none, acq := [], large := [], goodRun := 0, pendStep := 0 }) s

/-- HOLDOVER: RATE held, event 237 at the entry (R371). -/
def holdOver (s : State) : State :=
  if s.tim.st = 4 then s else raise 237 0 0 (updTim (fun t => { t with st := 4, sync := none, goodRun := 0 }) s)

/-- Is a list of numbers of the same length below another, the first difference deciding? -/
def lexLess : List Nat → List Nat → Bool
  | x :: r, y :: u => decide (x < y) || (x == y && lexLess r u)
  | _, _ => false

/-- A clockIdentity as the comparison orders it: byte 0, which stands in bits [7:0], first (log 40). -/
def identOrder (d : Dword) : Nat := leNat (natLe d.toNat 8).reverse

/-- Does Announce `a` describe a better master than `b`: the data set comparison of IEEE 1588 (R368; log 40)? -/
def betterMaster (a b : Announce) : Bool :=
  let key (m : Announce) : List Nat :=
    if a.grandmaster = b.grandmaster then [m.steps, identOrder m.source, m.port]
    else [m.priority1, m.clockClass, m.accuracy, m.variance, m.priority2, identOrder m.grandmaster]
  lexLess (key a) (key b)

/-- The best of the Announce messages held. -/
def bestMaster : List Announce → Option Announce
  | [] => none
  | a :: r =>
    match bestMaster r with
    | none => some a
    | some b => if betterMaster b a then some b else some a

/-- The best master is selected: event 238 when it is another port than before (R371). -/
def selectMaster (s : State) : State :=
  match bestMaster s.tim.heard with
  | none => s
  | some m =>
    let s1 := updTim (fun t => { t with master := some m }) s
    if fromMaster s m.source m.port then s1 else raise 238 0 0 (acquire s1)

/-- An Announce message (R368, R371). -/
def announced (m : Announce) (s : State) : State :=
  if !ptpTaken s m.transport m.domain m.sdoId then s
  else
    let rest := s.tim.heard.filter (fun x => !(x.source == m.source && x.port == m.port))
    selectMaster (updTim (fun t => { t with heard := if m.steps < 255 then m :: rest else rest }) s)

/-- The master's Announce receipt timeout passes: another qualified master takes over, or HOLDOVER (R371). -/
def announceLost (s : State) : State :=
  if s.tim.st = 0 || !s.power.aon then s
  else
    let gone (x : Announce) : Bool := fromMaster s x.source x.port
    let s1 := updTim (fun t => { t with heard := t.heard.filter (fun x => !gone x), master := none }) s
    match bestMaster s1.tim.heard with
    | some _ => selectMaster s1
    | none => holdOver s1

/-- Eight Sync intervals without a Sync (R371). -/
def syncLost (s : State) : State := if s.tim.st = 2 || s.tim.st = 3 then holdOver s else s

/-- A Sync message (R368 to R371): a two-step one of the master is time-stamped and waits for its Follow_Up. -/
def syncTaken (m : SyncMsg) (s : State) : State :=
  if !ptpTaken s m.transport m.domain m.sdoId then s
  else if !m.twoStep then count 0x130064 1 s
  else if !fromMaster s m.source m.port || m.logInterval < -7 || 1 < m.logInterval then s
  else
    let s1 := if s.tim.st = 4 then acquire s else s
    updTim (fun t => { t with sync := some (m.seq, rawStamp s m.err - (phyLatency s).1, m.correction) }) s1

/-- A Delay_Req is sent and time-stamped (R368, R369). -/
def sendDelayReq (err : Int) (s : State) : State :=
  if s.tim.st = 0 || s.tim.master.isNone || s.tim.speed = 0 || !s.power.aon then s
  else
    send (.ptpDelayReq (ptpTransport s) s.tim.reqSeq)
      (updTim (fun t => { t with req := some (t.reqSeq, rawStamp s err + (phyLatency s).2), reqSeq := (t.reqSeq + 1) % 65536 }) s)

/-- A Delay_Resp completes a delay exchange: q of R370, to which ASYM is added when the offset is formed. -/
def delayTaken (m : DelayResp) (s : State) : State :=
  if !ptpTaken s m.transport m.domain m.sdoId || !fromMaster s m.source m.port then s
  else match s.tim.req with
    | some (n, t3) =>
      if n ≠ m.seq then s
      else
        let q := roundNs (((m.receive : Int) - t3) * 65536 - m.correction)
        updTim (fun t => { t with q := some q, req := none }) s
    | none => s

/-- RATE and acc updated by an offset (R370). -/
def slew (o : Int) (s : State) : State :=
  let kp := regBits s 0x130034 31 16
  let ki := regBits s 0x130034 15 0
  let acc := clamp (s.tim.acc + o * ki) (-128000000) 128000000
  updTim (fun t => { t with acc := acc, rate := clamp (acc + o * kp) (-128000000) 128000000 }) s

/-- The servo enters LOCKED: event 234. -/
def lockIn (s : State) : State :=
  raise 234 0 0 (updTim (fun t => { t with st := 3, goodRun := 0, large := [], pendStep := 0 }) s)

/-- A valid exchange in SUSPECT (R371): o against the old d̄; three good ones in a row resume the servo. -/
def suspectExchange (d o : Int) (s : State) : State :=
  let good := decide (o.natAbs ≤ stepBound s) && decide ((d - s.tim.dbar).natAbs ≤ pathTol s)
  let n := if good then s.tim.goodRun + 1 else 0
  let s1 := updTim (fun t => { t with offset := o, goodRun := n }) s
  if 3 ≤ n then lockIn s1 else s1

/-- The third valid exchange of ACQUIRING (R371): d̄ seeded, and a step where the mean offset is large. -/
def acquireSeed (s : State) : State :=
  let o := meanOf (s.tim.acq.map (·.2))
  let s1 := updTim (fun t => { t with dbar := meanOf (t.acq.map (·.1)), ds := t.acq.map (·.1), large := [] }) s
  if stepBound s < o.natAbs then stepTime (-o) s1 else s1

/-- Three large offsets in a row (R371): a path change makes the servo SUSPECT, else the time steps. -/
def largeOffset (s : State) : State :=
  let l := s.tim.large
  let old := s.tim.dbarHeld
  if l.all (fun e => decide (pathTol s < (e.2.1 - old).natAbs)) then
    raise 236 0 0 (updTim (fun t => { t with
      st := 5, pendStep := meanOf (l.map (fun e => e.2.2 - e.2.1)), suspectD := meanOf (l.map (·.2.1)),
      dbar := old, ds := t.dsHeld, large := [], goodRun := 0 }) s)
  else stepTime (-(meanOf (l.map (·.1)))) (updTim (fun t => { t with large := [] }) s)

/-- A valid exchange in ACQUIRING or LOCKED (R370, R371): the filter, the offset, and the first row of the table that
applies. `o` is against the d̄ held before this exchange. -/
def trackExchange (d o m : Int) (s : State) : State :=
  let x := s.tim
  let isLarge := decide (stepBound s < o.natAbs)
  let ds := (d :: x.ds).take (regBits s 0x130018 23 17)
  let acq := if x.st = 2 && x.acq.length < 3 then (d, o) :: x.acq else x.acq
  let seeds := x.st = 2 && x.acq.length = 2
  let s1 := updTim (fun t => { t with
    offset := o, ds := ds, dbar := meanOf ds, acq := acq,
    dbarHeld := if x.large.isEmpty then x.dbar else x.dbarHeld,
    dsHeld := if x.large.isEmpty then x.ds else x.dsHeld,
    large := if isLarge then (o, d, m) :: x.large else [],
    goodRun := if o.natAbs < regBits s 0x130018 31 24 then x.goodRun + 1 else 0 }) s
  if seeds then acquireSeed (slew o s1)
  else if 3 ≤ s1.tim.large.length then largeOffset s1
  else
    let s2 := slew o s1
    if s2.tim.st = 2 && 16 ≤ s2.tim.goodRun then lockIn s2 else s2

/-- A Follow_Up completes a Sync (R370): with a completed delay exchange it gives a valid offset. -/
def followTaken (m : FollowUp) (s : State) : State :=
  if !ptpTaken s m.transport m.domain m.sdoId || !fromMaster s m.source m.port then s
  else match s.tim.sync, s.tim.q with
    | some (n, t2, c), some q =>
      if n ≠ m.seq then s
      else
        let mm := roundNs ((t2 - m.origin - asym s) * 65536 - (c + m.correction))
        let d := sar (mm + (q + asym s) + 1) 1
        let o := mm - (if s.tim.ds.isEmpty && s.tim.st ≠ 5 then d else s.tim.dbar)
        let s1 := count 0x130060 1 (updTim (fun t => { t with sync := none }) s)
        if s.tim.st = 5 then suspectExchange d o s1
        else if s.tim.st = 2 || s.tim.st = 3 then trackExchange d o mm s1
        else s1
    | some (n, _, _), none => if n = m.seq then updTim (fun t => { t with sync := none }) s else s
    | none, _ => s

/-- A write of ACCEPT (R371): in SUSPECT the pending step is taken; in any other state nothing. -/
def takePending (s : State) : State :=
  if s.tim.st ≠ 5 then s
  else stepTime (-s.tim.pendStep) (updTim (fun t => { t with
    st := 2, ds := [t.suspectD], dbar := t.suspectD, acq := [], large := [], goodRun := 0, pendStep := 0 }) s)

/-- The servo begins anew in a state, with no master (R371): RATE held. -/
def servoRestart (st : Nat) (s : State) : State :=
  updTim (fun t => { t with
    st := st, ds := [], heard := [], master := none, sync := none, req := none, q := none, acq := [], large := [],
    goodRun := 0, pendStep := 0 }) s

/-- A write of `TIM.PTP_CTL` (R371). -/
def ptpCtl (v : Word) (s : State) : State :=
  let s1 := writeStored 0x130018 v s
  if !bit (regN s1 0x130018) 0 then servoRestart 0 s1
  else if s.tim.st = 0 || reg s1 0x130018 ≠ reg s 0x130018 then servoRestart 1 s1
  else s1

/-! ### The management port (R373) -/

/-- Is a frame for the management address, while the port is up? -/
def forPort (s : State) (target : Word) : Bool := s.power.aon && s.tim.speed != 0 && target == reg s 0x130050

/-- A change of link state (R373). -/
def portChange (speed : Nat) (s : State) : State :=
  if !s.power.aon || s.tim.speed = speed then s else raise 239 0 0 (updTim (fun t => { t with speed := speed }) s)

/-! ### The commands -/

/-- ANNOUNCE (R371). -/
def execAnnounce (m : Announce) (s : State) : Host.Outcome State Fault Refusal := .next (announced m s)

/-- SYNC (R370). -/
def execSync (m : SyncMsg) (s : State) : Host.Outcome State Fault Refusal := .next (syncTaken m s)

/-- FOLLOW_UP (R370). -/
def execFollowUp (m : FollowUp) (s : State) : Host.Outcome State Fault Refusal := .next (followTaken m s)

/-- DELAY_RESP (R370). -/
def execDelayResp (m : DelayResp) (s : State) : Host.Outcome State Fault Refusal := .next (delayTaken m s)

/-- DELAY_REQ (R368). -/
def execDelayReq (err : Int) (s : State) : Host.Outcome State Fault Refusal := .next (sendDelayReq err s)

/-- ANNOUNCE_TIMEOUT (R371). -/
def execAnnounceTimeout (s : State) : Host.Outcome State Fault Refusal := .next (announceLost s)

/-- SYNC_TIMEOUT (R371). -/
def execSyncTimeout (s : State) : Host.Outcome State Fault Refusal := .next (syncLost s)

/-- ACCEPT (R371). -/
def execAccept (s : State) : Host.Outcome State Fault Refusal := .next (barWrite takePending s)

/-- SET (R372). -/
def execTimSet (s : State) : Host.Outcome State Fault Refusal := .next (barWrite setTime s)

/-- PTP_CTL_WRITE (R371). -/
def execPtpCtlWrite (v : Word) (s : State) : Host.Outcome State Fault Refusal := .next (barWrite (ptpCtl v) s)

/-- TIME_WRAP (R366). -/
def execTimeWrap (s : State) : Host.Outcome State Fault Refusal := .next (if s.power.aon then wrapTime s else s)

/-- ARP_REQUEST (R373). -/
def execArpRequest (target : Word) (source : Dword) (s : State) : Host.Outcome State Fault Refusal :=
  .next (if forPort s target then send (.arpReply source) s else s)

/-- ICMP_ECHO (R373). -/
def execIcmpEcho (target : Word) (source : Dword) (payload : Bytes) (s : State) : Host.Outcome State Fault Refusal :=
  .next (if forPort s target then send (.echoReply source payload) s else s)

/-- MGMT_LINK_CHANGE (R373). -/
def execMgmtLinkChange (speed : Fin 3) (s : State) : Host.Outcome State Fault Refusal := .next (portChange speed.val s)

end Sys2Proof.Machine
end

