-- ==== Sys2Proof/Machine/Regs.lean ====
section
/-!
DEFINITION. BAR0 writes (R18, R19, R20, R23, R399, R455): a register with a behaviour of its own acts as its chapter says,
every other register takes its fields by their access codes and ranges.
-/

namespace Sys2Proof.Machine

open Sys2Proof.Bits

/-- A write to an RWG field: counted, event 240, nothing else (R23, R399). -/
def guardRefused (s : State) : State := raise 240 0 0 (count 0x1400C0 1 s)

/-- The registers with RWG fields (R399). -/
def guardedReg (off : Nat) : Bool := off == 0x0C0004 || off == 0x140004 || off == 0x140008

/-- A write of `EVT.RING_CTL` (R426). -/
def evtRingCtl (v : Word) (s : State) : State := if bit v.toNat 0 then evtEnable s else evtDisable s

/-- A write of `ENG.CTL`: OFFLINE, then RESET (R259; log 13). -/
def engCtl (e : Fin 148) (v : Word) (s : State) : State :=
  if !engPowered s e then s
  else
    let s1 := combCheck s e (setRegBits (engBase e + 4) 1 1 (bits v.toNat 1 1) s)
    if bit v.toNat 0 then raise 67 (engInfo e) 0 (engReset e s1) else s1

/-- A write of `CMB.CTL` (R259). -/
def combCtl (c : Fin 12) (v : Word) (s : State) : State := if bit v.toNat 0 && powered s (8 + c.val) then combReset c s else s

/-- A write of `BEL.WATER`, ignored whole unless 1 ≤ LOW < HIGH ≤ 86 (R46, R455). -/
def waterWrite (v : Word) (s : State) : State :=
  let low := bits v.toNat 7 0
  let high := bits v.toNat 15 8
  if 1 ≤ low && low < high && high ≤ 86 then writeStored 0x110000 v s else s

/-- A write of `BEL.HIVE_CTL`: its fields, then FLUSH (R347). -/
def hiveCtl (v : Word) (s : State) : State :=
  let s1 := writeStored 0x110020 v s
  if bit v.toNat 31 then hiveFlush s1 else s1

/-- A write of `TIM.TIME_CMD`: SET, then ACCEPT (R371, R372). -/
def timeCmd (v : Word) (s : State) : State :=
  let s1 := if bit v.toNat 0 then setTime s else s
  if bit v.toNat 1 then takePending s1 else s1

/-- A write of `TIM.RATE`: while DISABLED, within its range (R371, R455). -/
def rateWrite (v : Word) (s : State) : State :=
  let r := signed 32 v.toNat
  if s.tim.st = 0 && decide (-128000000 ≤ r) && decide (r ≤ 128000000) then updTim (fun t => { t with rate := r }) s else s

/-- A write of `THM.CTL`, ignored whole when POWER_LIMIT is out of range; the target follows the floor (R408, R455). -/
def thmCtl (v : Word) (s : State) : State :=
  let limit := bits v.toNat 24 16
  if 250 ≤ limit && limit ≤ 420 then throttle (writeStored 0x150304 v s) else s

/-- An engine begins the self-test of a power-up: it takes no task until SELF_TEST_END (R364). -/
def testOpens (e : Fin 148) (s : State) : State := updEng e (fun x => { x with testing := true }) s

/-- A write of a half of `HIF.PD_CTL`: each domain whose bit changes is powered down or up, in ascending order (R362 to
R364). -/
def pdCtl (first : Nat) (v : Word) (s : State) : State :=
  (List.range 32).foldl (fun t k => if bit v.toNat k then powerUp (first + k) testOpens t else powerDown (first + k) t) s

/-- A write to a register of an axis (R189, R190). -/
def axisWrite (a : Fin 4) (o : Nat) (v : Word) (s : State) : State :=
  match o with
  | 0x00 => axisCtlWrite a .ctl v s
  | 0x04 => presetCount a v s
  | 0x10 => axisCtlWrite a .indexExpect v s
  | 0x14 => axisCtlWrite a .indexPeriod v s
  | 0x18 => axisCtlWrite a .indexTol v s
  | 0x24 => axisCtlWrite a .standstill v s
  | _ => writeStored (axisBase a + o) v s

/-- A write to the STG block (07). The program cannot be written while a write executes. -/
def stageWrite (off : Nat) (v : Word) (s : State) : State :=
  let o := off - 0x0D0000
  if o < 0x100 then axisWrite (Fin.ofNat 4 (o / 0x40)) (o % 0x40) v s
  else if o = 0x100 then (if bit v.toNat 0 then snap s else s)
  else if o = 0x110 then slowCheck (writeStored off v s)
  else if 0x400 ≤ o && o < 0x600 && s.job.write.isSome then s
  else writeStored off v s

/-- A write to the window of a check-value unit (15). -/
def crcWrite (u : Fin 8) (off : Nat) (v : Word) (s : State) : State :=
  match off % 0x100 with
  | 0x00 => crcCtl u v s
  | 0x14 => crcSetState u v s
  | 0x20 => crcFeed u 1 v s
  | 0x24 => crcFeed u 2 v s
  | 0x28 => crcFeed u 4 v s
  | 0x44 => crcClear u v s
  | _ => writeStored off v s

/-- A write to a DMA channel's window (11). -/
def chanWrite (c : Fin 16) (off : Nat) (v : Word) (s : State) : State :=
  match off % 0x100 with
  | 0x00 => dmaCtl c v s
  | 0x14 => dmaTail c v s
  | _ => if (s.dma[c]).on then s else writeStored off v s

/-- A write to the JOB block (11). Base and size writes of an enabled ring have no effect (R284). -/
def jobWrite (off : Nat) (v : Word) (s : State) : State :=
  match off with
  | 0x02000C => cmdDoorbell v s
  | 0x020024 => cplReturn v s
  | 0x020028 => ringCtl v s
  | 0x02003C => if bit v.toNat 0 then addCause (plainCause 0x12) s else s
  | _ =>
    if (off < 0x02000C && s.job.cmdOn) || (0x020014 ≤ off && off < 0x020020 && s.job.cplOn) then s else writeStored off v s

/-- A write to the HIF block (13). -/
def hifRegWrite (off : Nat) (v : Word) (s : State) : State :=
  match off with
  | 0x170008 => pdCtl 0 v s
  | 0x17000C => pdCtl 32 v s
  | 0x170018 => domainResetWrite v s
  | _ => writeStored off v s

/-- A write to the TIM, SEC, THM or CAL block (14, 16, 17). -/
def serviceWrite (off : Nat) (v : Word) (s : State) : State :=
  match off with
  | 0x130010 => timeCmd v s
  | 0x130014 => rateWrite v s
  | 0x130018 => ptpCtl v s
  | 0x140030 => if bit v.toNat 0 then quoteAsk s else s
  | 0x140034 => if bit v.toNat 0 then extendNow s else s
  | 0x150304 => thmCtl v s
  | 0x160100 => copyCtl v s
  | _ => writeStored off v s

/-- A write to the CMB block (04, 09). -/
def combWrite (off : Nat) (v : Word) (s : State) : State :=
  if off < 0x05C000 && off % 0x1000 = 0 then combCtl (Fin.ofNat 12 ((off - 0x050000) / 0x1000)) v s else writeStored off v s

/-- A write to the registers of any other block. -/
def otherWrite (off : Nat) (v : Word) (s : State) : State :=
  match off with
  | 0x010014 => evtRingCtl v s
  | 0x010080 => raiseAs true (bits v.toNat 7 0) 0 0 s
  | 0x0C0020 => capCtl v s
  | 0x0E8000 => coreCtl v s
  | 0x110000 => waterWrite v s
  | 0x110020 => hiveCtl v s
  | _ => writeStored off v s

/-- A write that RESETTING holds back (R359). -/
def unitWrite (off : Nat) (v : Word) (s : State) : State :=
  if guardedReg off then guardRefused s
  else match engAt off with
    | some e => if off = engBase e + 4 then engCtl e v s else writeStored off v s
    | none =>
      match off / 0x10000 with
      | 0x03 => if off < 0x031000 then chanWrite (Fin.ofNat 16 ((off - 0x030000) / 0x100)) off v s else s
      | 0x05 => combWrite off v s
      | 0x0D => stageWrite off v s
      | 0x12 => if off < 0x120800 then crcWrite (Fin.ofNat 8 ((off - 0x120000) / 0x100)) off v s else s
      | 0x13 => serviceWrite off v s
      | 0x14 => serviceWrite off v s
      | 0x15 => serviceWrite off v s
      | 0x16 => serviceWrite off v s
      | _ => otherWrite off v s

/-- A write to the GLB, JOB or HIF block. -/
def hostWrite (off : Nat) (v : Word) (s : State) : State :=
  match off / 0x10000 with
  | 0x00 => if off = 4 && bits v.toNat 15 0 = 0x9D3C then requestReset s else s
  | 0x02 => jobWrite off v s
  | _ => hifRegWrite off v s

/-- A BAR0 write of 32 bits; one that is not aligned has no effect (R19). -/
def regWrite (off : Nat) (v : Word) (s : State) : State :=
  if off % 4 ≠ 0 then s
  else if alwaysRead off then hifWrite (hostWrite off v) s
  else barWrite (unitWrite off v) s

/-- REGISTER_WRITE (R18). -/
def execRegisterWrite (off : BitVec 24) (v : Word) (s : State) : Host.Outcome State Fault Refusal :=
  .next (regWrite off.toNat v s)

/-- GUARDED_WRITE_REFUSED (R399); nothing at a register without RWG fields. -/
def execGuardedWriteRefused (off : BitVec 24) (_ : Word) (s : State) : Host.Outcome State Fault Refusal :=
  .next (if guardedReg off.toNat then barWrite guardRefused s else s)

end Sys2Proof.Machine
end

