-- ==== Sys2Proof/Machine/Smb.lean ====
section
/-!
DEFINITION. The SMBus commands (R375; 14_time_and_management_port), served from AON whatever the state of other domains.
-/

namespace Sys2Proof.Machine

open Sys2Proof.Bits

/-- A transaction is answered while AON runs, unless it carries a wrong packet error code. -/
def smbAnswer (pec : Sys2Proof.Pec) (f : State → State) (s : State) : State :=
  if !s.power.aon || pec == .bad then s else f s

/-- A word read. -/
def smbWord (n : Nat) (s : State) : State := send (.smbReply (natLe n 2)) s

/-- The STATUS word. -/
def smbStatusWord (s : State) : Nat :=
  1 + 2 * b2n s.power.ready + 4 * b2n (decide (0 < s.thm.step)) + 8 * b2n s.power.shutdown + 16 * b2n s.thm.latched

/-- TEMP_MAX: the hottest valid reading in °C, rounded down; with no valid sensor the value is open. -/
def smbTemp (s : State) : State :=
  match s.thm.tempMax with
  | some t => smbWord (unsigned 16 (sar t 4)) s
  | none => smbWord ((freeNow s).toNat % 65536) (freeNext s)

/-- FRU_READ: up to 32 bytes of the 2 048 from an offset. -/
def smbFru (off len : Nat) (s : State) : State :=
  send (.smbReply (((List.range (min len 32)).filter (fun i => decide (off + i < 2048))).map (fun i => Config.fru (off + i)))) s

/-- RESET_REQ: acted on only with a correct packet error code and the key; counted when it starts a reset. -/
def smbReset (v : BitVec 16) (pec : Sys2Proof.Pec) (s : State) : State :=
  if !s.power.aon || pec != .good || v.toNat ≠ 0x9D3C || s.power.resetting then s
  else requestReset (count 0x130074 1 s)

/-- SMB_STATUS (R375). -/
def execSmbStatus (pec : Sys2Proof.Pec) (s : State) : Host.Outcome State Fault Refusal :=
  .next (smbAnswer pec (fun s => smbWord (smbStatusWord s) s) s)

/-- SMB_VIN (R375). -/
def execSmbVin (pec : Sys2Proof.Pec) (s : State) : Host.Outcome State Fault Refusal :=
  .next (smbAnswer pec (fun s => smbWord s.thm.vin s) s)

/-- SMB_POWER (R375). -/
def execSmbPower (pec : Sys2Proof.Pec) (s : State) : Host.Outcome State Fault Refusal :=
  .next (smbAnswer pec (fun s => smbWord s.thm.p s) s)

/-- SMB_TEMP_MAX (R375). -/
def execSmbTempMax (pec : Sys2Proof.Pec) (s : State) : Host.Outcome State Fault Refusal := .next (smbAnswer pec smbTemp s)

/-- SMB_RESET_REQ (R375). -/
def execSmbResetReq (v : BitVec 16) (pec : Sys2Proof.Pec) (s : State) : Host.Outcome State Fault Refusal := .next (smbReset v pec s)

/-- SMB_FRU_READ (R375). -/
def execSmbFruRead (off : BitVec 16) (len : Nat) (pec : Sys2Proof.Pec) (s : State) : Host.Outcome State Fault Refusal :=
  .next (smbAnswer pec (smbFru off.toNat len) s)

end Sys2Proof.Machine
end

