-- ==== Sys2Proof/Machine/Dispatch.lean ====
section
/-!
DEFINITION. Which meaning each command has: one arm per constructor of `Instr`, each a direct call.
-/

namespace Sys2Proof.Machine

/-- The effect of a command on everything but the queue. -/
def exec (i : Instr) (s : State) : Host.Outcome State Fault Refusal :=
  match i with
  | .powerOn w => Sys2Proof.Machine.execPowerOn w s
  | .ready => Sys2Proof.Machine.execReady s
  | .seatedClose => Sys2Proof.Machine.execSeatedClose s
  | .bulkCharged => Sys2Proof.Machine.execBulkCharged s
  | .removal => Sys2Proof.Machine.execRemoval s
  | .aonStop => Sys2Proof.Machine.execAonStop s
  | .vinLow => Sys2Proof.Machine.execVinLow s
  | .vinLoss => Sys2Proof.Machine.execVinLoss s
  | .glbReset v => Sys2Proof.Machine.execGlbReset v s
  | .moduleResetProceed w => Sys2Proof.Machine.execModuleResetProceed w s
  | .functionReset => Sys2Proof.Machine.execFunctionReset s
  | .quadReset v => Sys2Proof.Machine.execQuadReset v s
  | .domainReset v => Sys2Proof.Machine.execDomainReset v s
  | .domainPowerDown d => Sys2Proof.Machine.execDomainPowerDown d s
  | .domainOff d => Sys2Proof.Machine.execDomainOff d s
  | .domainPowerUp d w => Sys2Proof.Machine.execDomainPowerUp d w s
  | .hostLinkUp gen width => Sys2Proof.Machine.execHostLinkUp gen width s
  | .hostLinkDown => Sys2Proof.Machine.execHostLinkDown s
  | .reachabilityChange bme d0 => Sys2Proof.Machine.execReachabilityChange bme d0 s
  | .hostCompletionError c => Sys2Proof.Machine.execHostCompletionError c s
  | .tableLoadReread err => Sys2Proof.Machine.execTableLoadReread err s
  | .cmdRingReread entry => Sys2Proof.Machine.execCmdRingReread entry s
  | .bar2Read off len => Sys2Proof.Machine.execBar2Read off len s
  | .bar2Write off data => Sys2Proof.Machine.execBar2Write off data s
  | .registerWrite off v => Sys2Proof.Machine.execRegisterWrite off v s
  | .latchingRead r => Sys2Proof.Machine.execLatchingRead r s
  | .guardedWriteRefused off v => Sys2Proof.Machine.execGuardedWriteRefused off v s
  | .cmdTailDoorbell v => Sys2Proof.Machine.execCmdTailDoorbell v s
  | .cplHeadWrite v => Sys2Proof.Machine.execCplHeadWrite v s
  | .cmdEnable => Sys2Proof.Machine.execCmdEnable s
  | .cplEnable => Sys2Proof.Machine.execCplEnable s
  | .restart => Sys2Proof.Machine.execRestart s
  | .stop => Sys2Proof.Machine.execStop s
  | .commandEntryRead entry => Sys2Proof.Machine.execCommandEntryRead entry s
  | .cmdRetry entry => Sys2Proof.Machine.execCmdRetry entry s
  | .cplPost => Sys2Proof.Machine.execCplPost s
  | .jobOpen => Sys2Proof.Machine.execJobOpen s
  | .jobClose => Sys2Proof.Machine.execJobClose s
  | .loadTableKernel table => Sys2Proof.Machine.execLoadTableKernel table s
  | .loadTableField table => Sys2Proof.Machine.execLoadTableField table s
  | .loadTableBeam table => Sys2Proof.Machine.execLoadTableBeam table s
  | .loadTableMask table => Sys2Proof.Machine.execLoadTableMask table s
  | .loadTableWeight table => Sys2Proof.Machine.execLoadTableWeight table s
  | .loadTableRasterProgram table => Sys2Proof.Machine.execLoadTableRasterProgram table s
  | .loadTableCorrectionProgram table => Sys2Proof.Machine.execLoadTableCorrectionProgram table s
  | .loadTableLinkEq table => Sys2Proof.Machine.execLoadTableLinkEq table s
  | .bindStream pages cells => Sys2Proof.Machine.execBindStream pages cells s
  | .forageStripe => Sys2Proof.Machine.execForageStripe s
  | .forageStart => Sys2Proof.Machine.execForageStart s
  | .forageEnd => Sys2Proof.Machine.execForageEnd s
  | .writeStripe => Sys2Proof.Machine.execWriteStripe s
  | .resumeStripe => Sys2Proof.Machine.execResumeStripe s
  | .stripeBoundary => Sys2Proof.Machine.execStripeBoundary s
  | .calibrateTdc => Sys2Proof.Machine.execCalibrateTdc s
  | .calibrateSensors => Sys2Proof.Machine.execCalibrateSensors s
  | .calibrationEnd r => Sys2Proof.Machine.execCalibrationEnd r s
  | .selfTest => Sys2Proof.Machine.execSelfTest s
  | .selfTestEnd e sig => Sys2Proof.Machine.execSelfTestEnd e sig s
  | .fence => Sys2Proof.Machine.execFence s
  | .setGuardedPropose block => Sys2Proof.Machine.execSetGuardedPropose block s
  | .setGuardedApprove block => Sys2Proof.Machine.execSetGuardedApprove block s
  | .setGuardedReject block => Sys2Proof.Machine.execSetGuardedReject block s
  | .setGuardedWithdraw block => Sys2Proof.Machine.execSetGuardedWithdraw block s
  | .firmwareWriteEnd readBack => Sys2Proof.Machine.execFirmwareWriteEnd readBack s
  | .proposalWindowEnd => Sys2Proof.Machine.execProposalWindowEnd s
  | .dmaTailDoorbell c v => Sys2Proof.Machine.execDmaTailDoorbell c v s
  | .dmaDescriptor c desc => Sys2Proof.Machine.execDmaDescriptor c desc s
  | .dmaTransferEnd c data => Sys2Proof.Machine.execDmaTransferEnd c data s
  | .dmaRestart c => Sys2Proof.Machine.execDmaRestart c s
  | .dmaPause c on => Sys2Proof.Machine.execDmaPause c on s
  | .dmaPaused c bytes => Sys2Proof.Machine.execDmaPaused c bytes s
  | .haltedPower c bytes => Sys2Proof.Machine.execHaltedPower c bytes s
  | .pageFetch page cls => Sys2Proof.Machine.execPageFetch page cls s
  | .pageFetchDone page image => Sys2Proof.Machine.execPageFetchDone page image s
  | .pageRetry page image => Sys2Proof.Machine.execPageRetry page image s
  | .pageDecode d p page => Sys2Proof.Machine.execPageDecode d p page s
  | .nopRecord p pos ops => Sys2Proof.Machine.execNopRecord p pos ops s
  | .streamHeader p pos ops => Sys2Proof.Machine.execStreamHeader p pos ops s
  | .streamEnd p pos ops => Sys2Proof.Machine.execStreamEnd p pos ops s
  | .cellBegin p pos ops => Sys2Proof.Machine.execCellBegin p pos ops s
  | .cellEnd p pos ops => Sys2Proof.Machine.execCellEnd p pos ops s
  | .rect p pos ops => Sys2Proof.Machine.execRect p pos ops s
  | .rectSame p pos ops => Sys2Proof.Machine.execRectSame p pos ops s
  | .trapH p pos ops => Sys2Proof.Machine.execTrapH p pos ops s
  | .trapV p pos ops => Sys2Proof.Machine.execTrapV p pos ops s
  | .poly p pos ops => Sys2Proof.Machine.execPoly p pos ops s
  | .polyM p pos ops => Sys2Proof.Machine.execPolyM p pos ops s
  | .curve p pos ops => Sys2Proof.Machine.execCurve p pos ops s
  | .sref p pos ops => Sys2Proof.Machine.execSref p pos ops s
  | .aref p pos ops => Sys2Proof.Machine.execAref p pos ops s
  | .tileListDone p col seg => Sys2Proof.Machine.execTileListDone p col seg s
  | .taskAssign => Sys2Proof.Machine.execTaskAssign s
  | .tileCheck col seg ecc => Sys2Proof.Machine.execTileCheck col seg ecc s
  | .taskWatchdog r => Sys2Proof.Machine.execTaskWatchdog r s
  | .engReset e => Sys2Proof.Machine.execEngReset e s
  | .engOffline e on => Sys2Proof.Machine.execEngOffline e on s
  | .combReset c => Sys2Proof.Machine.execCombReset c s
  | .ceBlockAssign p => Sys2Proof.Machine.execCeBlockAssign p s
  | .hiveFillInstall => Sys2Proof.Machine.execHiveFillInstall s
  | .hiveFlush => Sys2Proof.Machine.execHiveFlush s
  | .kNop e => Sys2Proof.Machine.execKNop e s
  | .kAdd e d a b => Sys2Proof.Machine.execKAdd e d a b s
  | .kSub e d a b => Sys2Proof.Machine.execKSub e d a b s
  | .kAnd e d a b => Sys2Proof.Machine.execKAnd e d a b s
  | .kOr e d a b => Sys2Proof.Machine.execKOr e d a b s
  | .kXor e d a b => Sys2Proof.Machine.execKXor e d a b s
  | .kShl e d a b => Sys2Proof.Machine.execKShl e d a b s
  | .kShr e d a b => Sys2Proof.Machine.execKShr e d a b s
  | .kSar e d a b => Sys2Proof.Machine.execKSar e d a b s
  | .kMul e d a b => Sys2Proof.Machine.execKMul e d a b s
  | .kMulhu e d a b => Sys2Proof.Machine.execKMulhu e d a b s
  | .kSlt e d a b => Sys2Proof.Machine.execKSlt e d a b s
  | .kSltu e d a b => Sys2Proof.Machine.execKSltu e d a b s
  | .kMin e d a b => Sys2Proof.Machine.execKMin e d a b s
  | .kMax e d a b => Sys2Proof.Machine.execKMax e d a b s
  | .kAddi e d a imm => Sys2Proof.Machine.execKAddi e d a imm s
  | .kAndi e d a imm => Sys2Proof.Machine.execKAndi e d a imm s
  | .kOri e d a imm => Sys2Proof.Machine.execKOri e d a imm s
  | .kXori e d a imm => Sys2Proof.Machine.execKXori e d a imm s
  | .kShli e d a n => Sys2Proof.Machine.execKShli e d a n s
  | .kShri e d a n => Sys2Proof.Machine.execKShri e d a n s
  | .kSari e d a n => Sys2Proof.Machine.execKSari e d a n s
  | .kMovi e d imm => Sys2Proof.Machine.execKMovi e d imm s
  | .kMovhi e d imm => Sys2Proof.Machine.execKMovhi e d imm s
  | .kSubi e d a imm => Sys2Proof.Machine.execKSubi e d a imm s
  | .kLdw e d a imm => Sys2Proof.Machine.execKLdw e d a imm s
  | .kStw e d a imm => Sys2Proof.Machine.execKStw e d a imm s
  | .kLdh e d a imm => Sys2Proof.Machine.execKLdh e d a imm s
  | .kSth e d a imm => Sys2Proof.Machine.execKSth e d a imm s
  | .kBeq e a b off => Sys2Proof.Machine.execKBeq e a b off s
  | .kBne e a b off => Sys2Proof.Machine.execKBne e a b off s
  | .kBlt e a b off => Sys2Proof.Machine.execKBlt e a b off s
  | .kBge e a b off => Sys2Proof.Machine.execKBge e a b off s
  | .kBltu e a b off => Sys2Proof.Machine.execKBltu e a b off s
  | .kBgeu e a b off => Sys2Proof.Machine.execKBgeu e a b off s
  | .kJal e d imm => Sys2Proof.Machine.execKJal e d imm s
  | .kJr e a => Sys2Proof.Machine.execKJr e a s
  | .kVld e m d a off => Sys2Proof.Machine.execKVld e m d a off s
  | .kVst e m d a off => Sys2Proof.Machine.execKVst e m d a off s
  | .kAld e m d a off => Sys2Proof.Machine.execKAld e m d a off s
  | .kAst e m d a off => Sys2Proof.Machine.execKAst e m d a off s
  | .kVmov e m d a => Sys2Proof.Machine.execKVmov e m d a s
  | .kVadd e m d a b => Sys2Proof.Machine.execKVadd e m d a b s
  | .kVsub e m d a b => Sys2Proof.Machine.execKVsub e m d a b s
  | .kVadds e m d a b => Sys2Proof.Machine.execKVadds e m d a b s
  | .kVsubs e m d a b => Sys2Proof.Machine.execKVsubs e m d a b s
  | .kVmin e m d a b => Sys2Proof.Machine.execKVmin e m d a b s
  | .kVmax e m d a b => Sys2Proof.Machine.execKVmax e m d a b s
  | .kVand e m d a b => Sys2Proof.Machine.execKVand e m d a b s
  | .kVor e m d a b => Sys2Proof.Machine.execKVor e m d a b s
  | .kVxor e m d a b => Sys2Proof.Machine.execKVxor e m d a b s
  | .kVshli e m d a n => Sys2Proof.Machine.execKVshli e m d a n s
  | .kVshri e m d a n => Sys2Proof.Machine.execKVshri e m d a n s
  | .kVbc e m d b => Sys2Proof.Machine.execKVbc e m d b s
  | .kVidx e m d => Sys2Proof.Machine.execKVidx e m d s
  | .kVget e d a b => Sys2Proof.Machine.execKVget e d a b s
  | .kClra e m d => Sys2Proof.Machine.execKClra e m d s
  | .kAadd e m d a => Sys2Proof.Machine.execKAadd e m d a s
  | .kAsub e m d a => Sys2Proof.Machine.execKAsub e m d a s
  | .kAmac e m d a b => Sys2Proof.Machine.execKAmac e m d a b s
  | .kAmacs e m d a b => Sys2Proof.Machine.execKAmacs e m d a b s
  | .kRshr e m d a n => Sys2Proof.Machine.execKRshr e m d a n s
  | .kAmov e m d a => Sys2Proof.Machine.execKAmov e m d a s
  | .kAadda e m d a b => Sys2Proof.Machine.execKAadda e m d a b s
  | .kAshr e m d a n => Sys2Proof.Machine.execKAshr e m d a n s
  | .kAbc e m d b => Sys2Proof.Machine.execKAbc e m d b s
  | .kCeq e m d a b => Sys2Proof.Machine.execKCeq e m d a b s
  | .kCltu e m d a b => Sys2Proof.Machine.execKCltu e m d a b s
  | .kCleu e m d a b => Sys2Proof.Machine.execKCleu e m d a b s
  | .kAclt e m d a b => Sys2Proof.Machine.execKAclt e m d a b s
  | .kAceq e m d a b => Sys2Proof.Machine.execKAceq e m d a b s
  | .kMand e m d a b => Sys2Proof.Machine.execKMand e m d a b s
  | .kMor e m d a b => Sys2Proof.Machine.execKMor e m d a b s
  | .kMandn e m d a b => Sys2Proof.Machine.execKMandn e m d a b s
  | .kMxor e m d a b => Sys2Proof.Machine.execKMxor e m d a b s
  | .kMsat e m d => Sys2Proof.Machine.execKMsat e m d s
  | .kMcount e m d a => Sys2Proof.Machine.execKMcount e m d a s
  | .kMulsh e m d a b sh max => Sys2Proof.Machine.execKMulsh e m d a b sh max s
  | .kLi e d value => Sys2Proof.Machine.execKLi e d value s
  | .kVbci e m d value => Sys2Proof.Machine.execKVbci e m d value s
  | .kTaskWait e => Sys2Proof.Machine.execKTaskWait e s
  | .kTaskGet e p field => Sys2Proof.Machine.execKTaskGet e p field s
  | .kTaskDone e => Sys2Proof.Machine.execKTaskDone e s
  | .kInEntry e p => Sys2Proof.Machine.execKInEntry e p s
  | .kFactLoad e p => Sys2Proof.Machine.execKFactLoad e p s
  | .kCovRow e p q => Sys2Proof.Machine.execKCovRow e p q s
  | .kOutRow e p q => Sys2Proof.Machine.execKOutRow e p q s
  | .kHiveGet e p q => Sys2Proof.Machine.execKHiveGet e p q s
  | .kHivePut e p q => Sys2Proof.Machine.execKHivePut e p q s
  | .kFip e p q half => Sys2Proof.Machine.execKFip e p q half s
  | .kCntAdd e p sel => Sys2Proof.Machine.execKCntAdd e p sel s
  | .kSpanCfg e p => Sys2Proof.Machine.execKSpanCfg e p s
  | .kSpanRow e p => Sys2Proof.Machine.execKSpanRow e p s
  | .kXeLine e p q => Sys2Proof.Machine.execKXeLine e p q s
  | .kXeArc e p q => Sys2Proof.Machine.execKXeArc e p q s
  | .kSpan4 e p q => Sys2Proof.Machine.execKSpan4 e p q s
  | .kDenLd e p q => Sys2Proof.Machine.execKDenLd e p q s
  | .kFldLd e p q => Sys2Proof.Machine.execKFldLd e p q s
  | .kFacSt e p q => Sys2Proof.Machine.execKFacSt e p q s
  | .kTapu e m d a b n => Sys2Proof.Machine.execKTapu e m d a b n s
  | .kTapv e m d a b => Sys2Proof.Machine.execKTapv e m d a b s
  | .kReduce e m d a b k => Sys2Proof.Machine.execKReduce e m d a b k s
  | .kExpand e m d a b k => Sys2Proof.Machine.execKExpand e m d a b k s
  | .kKdiv e m d a b c => Sys2Proof.Machine.execKKdiv e m d a b c s
  | .axisEdge a lineB rising t level once => Sys2Proof.Machine.execAxisEdge a lineB rising t level once s
  | .indexEdge a rising => Sys2Proof.Machine.execIndexEdge a rising s
  | .standstill a => Sys2Proof.Machine.execStandstill a s
  | .axisCountPreset a v => Sys2Proof.Machine.execAxisCountPreset a v s
  | .axisCtlWrite a r v => Sys2Proof.Machine.execAxisCtlWrite a r v s
  | .snap => Sys2Proof.Machine.execSnap s
  | .slowForce v => Sys2Proof.Machine.execSlowForce v s
  | .seqNop => Sys2Proof.Machine.execSeqNop s
  | .setAxes => Sys2Proof.Machine.execSetAxes s
  | .setInc => Sys2Proof.Machine.execSetInc s
  | .setStart => Sys2Proof.Machine.execSetStart s
  | .setXref => Sys2Proof.Machine.execSetXref s
  | .arm => Sys2Proof.Machine.execArm s
  | .run => Sys2Proof.Machine.execRun s
  | .seqEnd => Sys2Proof.Machine.execSeqEnd s
  | .flashCommit tau => Sys2Proof.Machine.execFlashCommit tau s
  | .sliceGather n ecc => Sys2Proof.Machine.execSliceGather n ecc s
  | .captureArm v => Sys2Proof.Machine.execCaptureArm v s
  | .train v => Sys2Proof.Machine.execTrain v s
  | .bringupStageLimit => Sys2Proof.Machine.execBringupStageLimit s
  | .spare => Sys2Proof.Machine.execSpare s
  | .returnLaneLock p => Sys2Proof.Machine.execReturnLaneLock p s
  | .returnLaneLockLoss p => Sys2Proof.Machine.execReturnLaneLockLoss p s
  | .status p lanes stage => Sys2Proof.Machine.execStatus p lanes stage s
  | .caps p caps version => Sys2Proof.Machine.execCaps p caps version s
  | .negotiateListenEnd => Sys2Proof.Machine.execNegotiateListenEnd s
  | .acknowledgementFrame p ack detail check => Sys2Proof.Machine.execAcknowledgementFrame p ack detail check s
  | .drainTimeout => Sys2Proof.Machine.execDrainTimeout s
  | .rest v => Sys2Proof.Machine.execRest v s
  | .wake v => Sys2Proof.Machine.execWake v s
  | .wakeLimit => Sys2Proof.Machine.execWakeLimit s
  | .toolRefLoss => Sys2Proof.Machine.execToolRefLoss s
  | .toolRefReturn => Sys2Proof.Machine.execToolRefReturn s
  | .sensorGateEnd counts => Sys2Proof.Machine.execSensorGateEnd counts s
  | .thermalDemandFall => Sys2Proof.Machine.execThermalDemandFall s
  | .powerAverage p vin iin => Sys2Proof.Machine.execPowerAverage p vin iin s
  | .thermalRestart w => Sys2Proof.Machine.execThermalRestart w s
  | .refresh c bank how => Sys2Proof.Machine.execRefresh c bank how s
  | .refreshRateRead c hot => Sys2Proof.Machine.execRefreshRateRead c hot s
  | .dqsTrack c drift => Sys2Proof.Machine.execDqsTrack c drift s
  | .ratClear => Sys2Proof.Machine.execRatClear s
  | .rowActivation c bank row => Sys2Proof.Machine.execRowActivation c bank row s
  | .patrolScrub c corrected bad => Sys2Proof.Machine.execPatrolScrub c corrected bad s
  | .writeCrcError c line again => Sys2Proof.Machine.execWriteCrcError c line again s
  | .caParityError c line => Sys2Proof.Machine.execCaParityError c line s
  | .dramReadError c line correctable => Sys2Proof.Machine.execDramReadError c line correctable s
  | .srIdleEntry g => Sys2Proof.Machine.execSrIdleEntry g s
  | .srEntryComplete g request => Sys2Proof.Machine.execSrEntryComplete g request s
  | .srExitComplete g extraNs => Sys2Proof.Machine.execSrExitComplete g extraNs s
  | .crcStart u v => Sys2Proof.Machine.execCrcStart u v s
  | .crcFeedB u v => Sys2Proof.Machine.execCrcFeedB u v s
  | .crcFeedH u v => Sys2Proof.Machine.execCrcFeedH u v s
  | .crcFeedW u v => Sys2Proof.Machine.execCrcFeedW u v s
  | .crcStateWrite u v => Sys2Proof.Machine.execCrcStateWrite u v s
  | .crcCompare u v => Sys2Proof.Machine.execCrcCompare u v s
  | .dramGo u v => Sys2Proof.Machine.execDramGo u v s
  | .dramFeedEnd u absorbed memFail => Sys2Proof.Machine.execDramFeedEnd u absorbed memFail s
  | .quoteGo => Sys2Proof.Machine.execQuoteGo s
  | .quoteDone => Sys2Proof.Machine.execQuoteDone s
  | .extendGo => Sys2Proof.Machine.execExtendGo s
  | .calCopyGo => Sys2Proof.Machine.execCalCopyGo s
  | .quoteReq tag source nonce => Sys2Proof.Machine.execQuoteReq tag source nonce s
  | .noticeReq tag source => Sys2Proof.Machine.execNoticeReq tag source s
  | .decision tag source body => Sys2Proof.Machine.execDecision tag source body s
  | .certReq tag source off => Sys2Proof.Machine.execCertReq tag source off s
  | .announce m => Sys2Proof.Machine.execAnnounce m s
  | .sync m => Sys2Proof.Machine.execSync m s
  | .followUp m => Sys2Proof.Machine.execFollowUp m s
  | .delayResp m => Sys2Proof.Machine.execDelayResp m s
  | .delayReq err => Sys2Proof.Machine.execDelayReq err s
  | .announceTimeout => Sys2Proof.Machine.execAnnounceTimeout s
  | .syncTimeout => Sys2Proof.Machine.execSyncTimeout s
  | .accept => Sys2Proof.Machine.execAccept s
  | .timSet => Sys2Proof.Machine.execTimSet s
  | .ptpCtlWrite v => Sys2Proof.Machine.execPtpCtlWrite v s
  | .timeWrap => Sys2Proof.Machine.execTimeWrap s
  | .arpRequest target source => Sys2Proof.Machine.execArpRequest target source s
  | .icmpEcho target source payload => Sys2Proof.Machine.execIcmpEcho target source payload s
  | .mgmtLinkChange speed => Sys2Proof.Machine.execMgmtLinkChange speed s
  | .smbStatus pec => Sys2Proof.Machine.execSmbStatus pec s
  | .smbVin pec => Sys2Proof.Machine.execSmbVin pec s
  | .smbPower pec => Sys2Proof.Machine.execSmbPower pec s
  | .smbTempMax pec => Sys2Proof.Machine.execSmbTempMax pec s
  | .smbResetReq v pec => Sys2Proof.Machine.execSmbResetReq v pec s
  | .smbFruRead off len pec => Sys2Proof.Machine.execSmbFruRead off len pec s
  | .evtRingEnable => Sys2Proof.Machine.execEvtRingEnable s
  | .evtRingHeadWrite v => Sys2Proof.Machine.execEvtRingHeadWrite v s
  | .evtTest v => Sys2Proof.Machine.execEvtTest v s
  | .eventEntryWrite => Sys2Proof.Machine.execEventEntryWrite s
  | .msixMessage vec => Sys2Proof.Machine.execMsixMessage vec s
  | .discardedBlock p => Sys2Proof.Machine.execDiscardedBlock p s
  | .perstDeasserted => Sys2Proof.Machine.execPerstDeasserted s
  | .bar4Write w => Sys2Proof.Machine.execBar4Write w s
  | .calCopyEnd => Sys2Proof.Machine.execCalCopyEnd s
  | .vinRestored => Sys2Proof.Machine.execVinRestored s
  | .badMaintenanceDatagram => Sys2Proof.Machine.execBadMaintenanceDatagram s

end Sys2Proof.Machine
end

