-- ==== Sys2Proof/Safety.lean ====
section
/-!
DEFINITION. What the claims about the machine are stated in: the canonical forms of its stores, when the host's writes
reach their blocks, when an event has been raised, and when a command runs without a stop.
-/

namespace Sys2Proof.Machine

/-- The canonical form of a memory: addresses strictly rising and no entry equal to what an unlisted byte reads as. -/
def Memory.wf (m : List Host.Cell) : Bool := Sparse.wf dramDefault m

/-- The canonical form of the register file: offsets strictly rising and no entry equal to its reset value. -/
def RegsWf (s : State) : Prop := Sparse.wf RegMap.reset s.regs = true

/-- Module DRAM is in its canonical form. -/
def DramWf (s : State) : Prop := Memory.wf s.dram = true

/-- The local memory of every engine is in its canonical form; an unlisted byte reads 0. -/
def LocalWf (s : State) : Prop := ∀ e : Fin 148, Sparse.wf (fun _ => (0 : Byte)) (s.eng[e]).lmem = true

/-- HIF has power, so a BAR0 write reaches the GLB, HIF and JOB blocks (R356, R362). -/
def HostOpen (s : State) : Prop := Bits.bit s.power.on.toNat 1 = true

/-- HIF has power and RESETTING is clear, so a BAR0 write reaches every block (R359). -/
def BarOpen (s : State) : Prop := s.power.resetting = false ∧ HostOpen s

/-- The PENDING bit of source `src` is set (R424). -/
def Pending (s : State) (src : Nat) : Prop := Bits.bit (regN s (0x010040 + 4 * (src / 32))) (src % 32) = true

/-- From `s` to `t` exactly the sources of `l` have been raised: their PENDING bits are set, and no other changes. -/
def Raised (l : List Nat) (s t : State) : Prop := ∀ src, src < 256 → (Pending t src ↔ Pending s src ∨ src ∈ l)

/-- Every stored register outside `l` reads in `t` as in `s`, the PENDING registers and EVT.CNT_LOST apart, which `Raised`
and the event ring's rules cover. -/
def SameRegsBut (l : List Nat) (s t : State) : Prop :=
  ∀ off, off ∉ l → off ≠ 0x01001C → ¬ (0x010040 ≤ off ∧ off < 0x010060) → reg t off = reg s off

/-- Every byte of module DRAM reads in `t` as in `s`. -/
def SameDram (s t : State) : Prop := ∀ a, dramByte t a = dramByte s a

/-- Every byte of module DRAM outside the `n` bytes from `a` reads in `t` as in `s`. -/
def SameDramBut (a n : Nat) (s t : State) : Prop := ∀ b, b < a ∨ a + n ≤ b → dramByte t b = dramByte s b

/-- Engine `e` runs instructions with `room` words of its program left, so the counter can advance (R267). -/
def EngineRuns (s : State) (e : Fin 148) (room : Nat) : Prop :=
  kGo s e = true ∧ (s.eng[e]).pc + room < progCount (engProg s e)

/-! ### What the claims say of an engine -/

/-- The command answers a state in which the program counter of engine `e` has advanced by `len` words and the engine
holds what `after` says; no other engine and nothing else in the machine has changed. -/
def EngineGoes (i : Instr) (s : State) (e : Fin 148) (len : Nat) (after : Engine → Prop) : Prop :=
  ∃ t, exec i s = .next t ∧ t = { s with eng := t.eng } ∧ (∀ k : Fin 148, k ≠ e → t.eng[k] = s.eng[k]) ∧
    (t.eng[e]).pc = (s.eng[e]).pc + len ∧ after (t.eng[e])

/-- `EngineGoes` for an instruction that leaves the engine's task as it is, at a cost of `slots` issue slots. -/
def EngineStep (i : Instr) (s : State) (e : Fin 148) (len slots : Nat) (after : Engine → Prop) : Prop :=
  EngineGoes i s e len (fun y =>
    y.held = (s.eng[e]).held.map (fun h => { h with slots := h.slots + slots }) ∧ after y)

/-- From `x` to `y` scalar register `d` takes `w`, a write of G0 is ignored, and no other register, mask, lane, local
byte or span state changes. -/
def ScalarTakes (x : Engine) (d : Fin 32) (w : Word) (y : Engine) : Prop :=
  (∀ r : Fin 32, getG y r = if r = d ∧ d.val ≠ 0 then w else getG x r) ∧ y = { x with g := y.g, pc := y.pc, held := y.held }

/-- From `x` to `y` the active lanes of vector `d` take `f`, its other lanes and every other vector keep their values,
and SAT is `sat`. -/
def VectorTakes (e : Fin 148) (x : Engine) (m : Fin 8) (d : Fin 32) (f : Nat → Nat) (sat : List Bool) (y : Engine) : Prop :=
  (∀ l, l < laneCount e → lane0 y d l = if maskBit x m l then f l else lane0 x d l) ∧
  (∀ r : Fin 32, r ≠ d → y.v[r] = x.v[r]) ∧ y = { x with v := y.v, sat := sat, pc := y.pc, held := y.held }

/-- As `VectorTakes`, of an accumulator. -/
def AccTakes (e : Fin 148) (x : Engine) (m d : Fin 8) (f : Nat → Int) (sat : List Bool) (y : Engine) : Prop :=
  (∀ l, l < laneCount e → accLane y d l = if maskBit x m l then f l else accLane x d l) ∧
  (∀ r : Fin 8, r ≠ d → y.a[r] = x.a[r]) ∧ y = { x with a := y.a, sat := sat, pc := y.pc, held := y.held }

/-- As `VectorTakes`, of a mask register; a write of M0 is ignored. -/
def MaskTakes (e : Fin 148) (x : Engine) (m d : Fin 8) (f : Nat → Bool) (sat : List Bool) (y : Engine) : Prop :=
  (∀ r : Fin 8, ∀ l, l < laneCount e →
    maskBit y r l = if r = d ∧ d.val ≠ 0 ∧ maskBit x m l = true then f l else maskBit x r l) ∧
  y = { x with m := y.m, sat := sat, pc := y.pc, held := y.held }

/-- SAT after an instruction that sets bit l in each active lane where `bad` holds (R269). -/
def SatAfter (e : Fin 148) (x : Engine) (m : Fin 8) (bad : Nat → Prop) (sat : List Bool) : Prop :=
  ∀ l, l < laneCount e → (sat.getD l false = true ↔ x.sat.getD l false = true ∨ maskBit x m l = true ∧ bad l)

/-- Command `q` has its final completion with the ending `e`: it is no longer live, the newest record is its FINAL record,
and the completion waits in the ring that is enabled and reachable (R289, R299, R308). -/
def Ended (q : Nat) (e : End) (s t : State) : Prop :=
  t.job.live = s.job.live.filter (fun l => l.seq != q) ∧
  (∃ r, t.journal.head? = some r ∧ r.kind = 2 ∧ r.cseq = q ∧ r.status = e.status ∧ r.cause = e.cause ∧
    r.detail = BitVec.ofNat 32 (detailOf e.code e.source e.extra) ∧ r.stamp = stamp s) ∧
  (if s.job.cplOn = true ∧ reachable s = true then
    ∃ c, t.job.cplQ = s.job.cplQ ++ [c] ∧ c.seq = q ∧ c.status = e.status ∧ c.cause = e.cause ∧ c.code = e.code ∧
      c.source = e.source ∧ c.frontier = e.frontier ∧ c.lastSent = e.lastSent ∧ c.arg0 = e.arg0 ∧ c.arg1 = e.arg1 ∧
      c.stamp = stamp s
   else t.job.cplQ = s.job.cplQ)

/-- The entry `b` has passed intake with the outcome `e` (R290): NEXT_SEQ has passed it, the newest record is its INTAKE
record, an accepted command is queued and a refused one raises event 4, and the completion waits in the ring. -/
def TakenIn (b : Bytes) (e : End) (s t : State) : Prop :=
  t.job.nextSeq = (Bits.field b 0 8 + 1) % 2 ^ 64 ∧ t.job.atIntake = none ∧
  (∃ r, t.journal.head? = some r ∧ r.kind = 1 ∧ r.opcode = Bits.byteAt b 8 ∧ r.cseq = Bits.field b 0 8 ∧ r.status = e.status ∧
    r.detail = BitVec.ofNat 32 (detailOf e.code e.source e.extra) ∧ r.stamp = stamp s) ∧
  (if e.status = 1 then t.job.live = s.job.live ++ [{ seq := Bits.field b 0 8, entry := b, phase := .queued }]
   else t.job.live = s.job.live ∧ Pending t 4) ∧
  (if s.job.cplOn = true ∧ reachable s = true then
    ∃ c, t.job.cplQ = s.job.cplQ ++ [c] ∧ c.seq = Bits.field b 0 8 ∧ c.opcode = Bits.byteAt b 8 ∧ c.status = e.status ∧
      c.code = e.code ∧ c.source = e.source ∧ c.arg0 = e.arg0 ∧ c.arg1 = e.arg1 ∧ c.dup = false ∧ c.final = false ∧
      c.stamp = stamp s
   else t.job.cplQ = s.job.cplQ)

/-- The module reads the entry at the head of its command ring (R285, R287, R293, R356, R400). -/
def Reads (s : State) : Prop :=
  s.job.cmdOn = true ∧ s.job.cmdHead ≠ s.job.cmdTail ∧ s.job.stopped = false ∧ s.job.hostErr = false ∧ s.job.atIntake = none ∧
  s.job.eraseHold = false ∧ (notStarted s).length < 64 ∧ s.power.ready = true ∧ s.power.resetPending = false ∧
  powered s 2 = true ∧ reachable s = true ∧ (s.dma[(0 : Fin 16)]).st < 2

/-- `l` is the command that the module starts next, with opcode `op` (R293): every command accepted before it has started,
and the module takes commands. -/
def StartsNext (s : State) (op : Nat) (l : Live) : Prop :=
  (∃ old new, s.job.live = old ++ l :: new ∧ (∀ x, x ∈ old → hasStarted x = true)) ∧ l.phase = .queued ∧
  Bits.byteAt l.entry 8 = op ∧ s.power.ready = true ∧ s.power.resetPending = false ∧ powered s 2 = true

/-- The command runs: it ends in no fault and no refusal. -/
def Runs (i : Instr) (s : State) : Prop := ∃ t, exec i s = .next t

end Sys2Proof.Machine
end

