-- ==== Sys2Proof/Certificates/Slice0/Obligations.lean ====
section
/-!
DEFINITION. The statements for the provers. Each docstring names the rules its statement formalises; where a clause rests
on a choice or a reading of the model, it names the log entry.
-/

open Sys2Proof Sys2Proof.Machine Sys2Proof.Bits

/-- A step takes the command at the front of the queue and is exec of it on the state with the queue's rest; with nothing
waiting, and only then, a nanosecond of the oscillator passes while AON runs: NS64 counts what RATE makes of it, and
event 226 is raised as it crosses a multiple of 2^32 (R366, R370). The idle tick is the model's choice (log entry 11). -/
def Obligations.StepRunsFront : Prop :=
  (∀ (i : Instr) (rest : List Instr) (s : State), step { s with pending := i :: rest } = exec i { s with pending := rest }) ∧
  (∀ s : State, s.pending = [] → s.power.aon = false → step s = .next s) ∧
  (∀ s : State, s.pending = [] → s.power.aon = true → RegsWf s →
    let u := s.tim.frac + ((256000000000 : Int) - s.tim.rate).toNat
    let ns := s.tim.ns + BitVec.ofNat 64 (u / 256000000000)
    ∃ t, step s = .next t ∧ t = { s with regs := t.regs, evt := t.evt, tim := t.tim } ∧
      t.tim = { s.tim with ns := ns, frac := u % 256000000000, up := s.tim.up + 1 } ∧ SameRegsBut [] s t ∧
      (Pending t 226 ↔ Pending s 226 ∨ s.tim.ns.toNat / 2 ^ 32 ≠ ns.toNat / 2 ^ 32))

/-- The scalar instructions write their result to their destination, advance by one word (LI by two) and change nothing
else (R270, R274, R267). A branch goes to PC + 1 + sx(OFF) when its condition holds and to the next word when it does
not; JAL links PC + 1; JR goes to the word index in its register (R270, R271). That a row is executed without
comparing it with the word at the program counter is the model's choice (log entry 17). -/
def Obligations.ScalarInstructions : Prop :=
  (
  ∀ (e : Fin 148) (d a b n : Fin 32) (imm : BitVec 16) (value : Word) (s : State),
    let x := s.eng[e]
    let ga := getG x a
    let gb := getG x b
    let sx := imm.signExtend 32
    let zx := imm.setWidth 32
    let gives (i : Instr) (w : Word) : Prop := EngineStep i s e 1 1 (ScalarTakes x d w)
    (EngineRuns s e 1 →
      EngineStep (.kNop e) s e 1 1 (fun y => y = { x with pc := y.pc, held := y.held }) ∧
      gives (.kAdd e d a b) (ga + gb) ∧ gives (.kSub e d a b) (ga - gb) ∧
      gives (.kAnd e d a b) (ga &&& gb) ∧ gives (.kOr e d a b) (ga ||| gb) ∧ gives (.kXor e d a b) (ga ^^^ gb) ∧
      gives (.kShl e d a b) (BitVec.ofNat 32 (ga.toNat * 2 ^ (gb.toNat % 32))) ∧
      gives (.kShr e d a b) (BitVec.ofNat 32 (ga.toNat / 2 ^ (gb.toNat % 32))) ∧
      gives (.kSar e d a b) (BitVec.ofInt 32 (ga.toInt / 2 ^ (gb.toNat % 32))) ∧
      gives (.kMul e d a b) (BitVec.ofNat 32 (ga.toNat * gb.toNat)) ∧
      gives (.kMulhu e d a b) (BitVec.ofNat 32 (ga.toNat * gb.toNat / 2 ^ 32)) ∧
      gives (.kSlt e d a b) (if ga.toInt < gb.toInt then 1 else 0) ∧
      gives (.kSltu e d a b) (if ga.toNat < gb.toNat then 1 else 0) ∧
      gives (.kMin e d a b) (BitVec.ofInt 32 (min ga.toInt gb.toInt)) ∧
      gives (.kMax e d a b) (BitVec.ofInt 32 (max ga.toInt gb.toInt)) ∧
      gives (.kAddi e d a imm) (ga + sx) ∧ gives (.kSubi e d a imm) (ga - sx) ∧
      gives (.kAndi e d a imm) (ga &&& zx) ∧ gives (.kOri e d a imm) (ga ||| zx) ∧ gives (.kXori e d a imm) (ga ^^^ zx) ∧
      gives (.kShli e d a n) (BitVec.ofNat 32 (ga.toNat * 2 ^ n.val)) ∧
      gives (.kShri e d a n) (BitVec.ofNat 32 (ga.toNat / 2 ^ n.val)) ∧
      gives (.kSari e d a n) (BitVec.ofInt 32 (ga.toInt / 2 ^ n.val)) ∧
      gives (.kMovi e d imm) sx ∧
      gives (.kMovhi e d imm) (BitVec.ofNat 32 (imm.toNat * 65536 + (getG x d).toNat % 65536))) ∧
    (EngineRuns s e 2 → EngineStep (.kLi e d value) s e 2 1 (ScalarTakes x d value))) ∧
  (
  ∀ (e : Fin 148) (d a b : Fin 32) (off : BitVec 16) (s : State), kGo s e = true →
    let x := s.eng[e]
    let ga := getG x a
    let gb := getG x b
    let image := engProg s e
    let lands (t : Int) : Prop :=
      0 ≤ t ∧ t < progCount image ∧ t.toNat ∉ secondWords image 0 (progCount image)
    let goes (i : Instr) (t : Int) (regs : Engine → Prop) : Prop :=
      ∃ u, exec i s = .next u ∧ u = { s with eng := u.eng } ∧ (∀ k : Fin 148, k ≠ e → u.eng[k] = s.eng[k]) ∧
        ((u.eng[e]).pc : Int) = t ∧ regs (u.eng[e])
    let same (y : Engine) : Prop := y = { x with pc := y.pc, held := y.held }
    let branches (i : Instr) (c : Prop) : Prop :=
      (c → lands (x.pc + 1 + off.toInt) → goes i (x.pc + 1 + off.toInt) same) ∧
      (¬ c → x.pc + 1 < progCount image → goes i (x.pc + 1) same)
    branches (.kBeq e a b off) (ga = gb) ∧ branches (.kBne e a b off) (ga ≠ gb) ∧
    branches (.kBlt e a b off) (ga.toInt < gb.toInt) ∧ branches (.kBge e a b off) (gb.toInt ≤ ga.toInt) ∧
    branches (.kBltu e a b off) (ga.toNat < gb.toNat) ∧ branches (.kBgeu e a b off) (gb.toNat ≤ ga.toNat) ∧
    (lands (x.pc + 1 + off.toInt) →
      goes (.kJal e d off) (x.pc + 1 + off.toInt) (ScalarTakes x d (BitVec.ofNat 32 (x.pc + 1)))) ∧
    (lands ga.toNat → goes (.kJr e a) ga.toNat same))

/-- A scalar or lane access to local memory at an aligned address in range reads or writes exactly its bytes (R239, R270,
R272). A scalar access that breaks alignment is fault LOCAL_ALIGN, and one that only leaves local memory is
LOCAL_RANGE (R272): the engine is reset, its fault register holds the code and the program counter, event 65 is raised
and nothing is read or written (R256), for a task that has not had this fault on another engine before (R257). Rows
are executed as they come (log entry 17). -/
def Obligations.LocalMemory : Prop :=
  (
  ∀ (e : Fin 148) (m c : Fin 8) (d a : Fin 32) (imm : BitVec 16) (off : BitVec 13) (s : State),
    EngineRuns s e 1 → LocalWf s →
    let x := s.eng[e]
    let at4 : Int := (getG x a).toNat + imm.toInt
    let at64 : Int := (getG x a).toNat + 64 * off.toInt
    let ok (p : Int) (al len : Nat) : Prop := p % al = 0 ∧ 0 ≤ p ∧ p + len ≤ localSize e
    let holds (p : Int) (b : Bytes) (y : Engine) : Prop :=
      (∀ q : Nat, (hq : p.toNat ≤ q ∧ q < p.toNat + b.length) → localByte y q = b[q - p.toNat]) ∧
      (∀ q : Nat, q < p.toNat ∨ p.toNat + b.length ≤ q → localByte y q = localByte x q) ∧
      y = { x with lmem := y.lmem, pc := y.pc, held := y.held }
    (ok at4 4 4 →
      EngineStep (.kLdw e d a imm) s e 1 1 (ScalarTakes x d (BitVec.ofNat 32 (leNat (localRead x at4.toNat 4)))) ∧
      EngineStep (.kStw e d a imm) s e 1 1 (holds at4 (natLe (getG x d).toNat 4))) ∧
    (ok at4 2 2 →
      EngineStep (.kLdh e d a imm) s e 1 1 (ScalarTakes x d (BitVec.ofNat 32 (leNat (localRead x at4.toNat 2)))) ∧
      EngineStep (.kSth e d a imm) s e 1 1 (holds at4 (natLe ((getG x d).toNat % 65536) 2))) ∧
    (ok at64 64 192 →
      EngineStep (.kVld e m d a off) s e 1 1
        (VectorTakes e x m d (fun l => (vecLanes e (localRead x at64.toNat 192)).getD l 0) x.sat) ∧
      EngineStep (.kVst e m d a off) s e 1 1 (holds at64 (vecImage e ((List.range (laneCount e)).map (fun l =>
        if maskBit x m l then lane0 x d l else (vecLanes e (localRead x at64.toNat 192)).getD l 0))))) ∧
    (ok at64 64 384 →
      EngineStep (.kAld e m c a off) s e 1 1
        (AccTakes e x m c (fun l => (accLanes e (localRead x at64.toNat 384)).getD l 0) x.sat) ∧
      EngineStep (.kAst e m c a off) s e 1 1 (holds at64 (accImage e ((List.range (laneCount e)).map (fun l =>
        if maskBit x m l then accLane x c l else (accLanes e (localRead x at64.toNat 384)).getD l 0)))))) ∧
  (
  ∀ (e : Fin 148) (d a : Fin 32) (imm : BitVec 16) (s : State), kGo s e = true → RegsWf s → (s.eng[e]).pc < 2048 →
    let x := s.eng[e]
    let p : Int := (getG x a).toNat + imm.toInt
    let faults (i : Instr) (code : Nat) : Prop :=
      (∀ k, engTask x = some k → faultedBefore e code k = false) → ∃ t, exec i s = .next t ∧ (∀ r, getG (t.eng[e]) r = 0) ∧
        (t.eng[e]).lmem = (Engine.fresh (engImage s e)).lmem ∧ (t.eng[e]).held = none ∧
        regN t (engBase e + 8) = 2 ^ 31 + x.pc * 65536 + 256 + code ∧ Pending t 65 ∧ SameDram s t
    let answers (i : Instr) (len : Nat) : Prop :=
      (p % len ≠ 0 → faults i 2) ∧ (p % len = 0 → (p < 0 ∨ localSize e < p + len) → faults i 1)
    answers (.kLdw e d a imm) 4 ∧ answers (.kStw e d a imm) 4 ∧ answers (.kLdh e d a imm) 2 ∧ answers (.kSth e d a imm) 2)

/-- The vector instructions act on the active lanes of their destination and on SAT, and on nothing else (R237, R269,
R273, R274). -/
def Obligations.VectorResults : Prop :=
  ∀ (e : Fin 148) (m c : Fin 8) (d a b n : Fin 32) (k : Fin 24) (sh : Fin 64) (max : BitVec 24) (s : State),
    let x := s.eng[e]
    let w := 2 ^ laneBits e
    let va (l : Nat) : Nat := lane0 x a l
    let vb (l : Nat) : Nat := lane0 x b l
    let plain (i : Instr) (f : Nat → Nat) : Prop := EngineStep i s e 1 1 (VectorTakes e x m d f x.sat)
    let clamped (i : Instr) (len : Nat) (hi : Nat) (f : Nat → Int) : Prop :=
      ∃ sat, SatAfter e x m (fun l => f l < 0 ∨ (hi : Int) < f l) sat ∧
        EngineStep i s e len 1 (VectorTakes e x m d (fun l => (clamp (f l) 0 hi).toNat) sat)
    (EngineRuns s e 1 →
      plain (.kVmov e m d a) va ∧ plain (.kVadd e m d a b) (fun l => (va l + vb l) % w) ∧
      plain (.kVsub e m d a b) (fun l => (((va l : Int) - vb l) % (w : Int)).toNat) ∧
      clamped (.kVadds e m d a b) 1 (w - 1) (fun l => va l + vb l) ∧
      clamped (.kVsubs e m d a b) 1 (w - 1) (fun l => (va l : Int) - vb l) ∧
      plain (.kVmin e m d a b) (fun l => min (va l) (vb l)) ∧ plain (.kVmax e m d a b) (fun l => Nat.max (va l) (vb l)) ∧
      plain (.kVand e m d a b) (fun l => va l &&& vb l) ∧ plain (.kVor e m d a b) (fun l => va l ||| vb l) ∧
      plain (.kVxor e m d a b) (fun l => va l ^^^ vb l) ∧
      (k.val < laneBits e → plain (.kVshli e m d a k) (fun l => va l * 2 ^ k.val % w) ∧
        plain (.kVshri e m d a k) (fun l => va l / 2 ^ k.val)) ∧
      plain (.kVbc e m d b) (fun _ => (getG x b).toNat % w) ∧ plain (.kVidx e m d) (fun l => l) ∧
      EngineStep (.kVget e d a b) s e 1 1
        (ScalarTakes x d (BitVec.ofNat 32 (lane0 x a ((getG x b).toNat % laneCount e)))) ∧
      clamped (.kRshr e m d c n) 1 (w - 1) (fun l => rs (accLane x c l) n.val)) ∧
    (EngineRuns s e 2 → max.toNat < w →
      clamped (.kMulsh e m d a c sh max) 2 max.toNat (fun l => rs (va l * accLane x c l) sh.val) ∧
      EngineStep (.kVbci e m d max) s e 2 1 (VectorTakes e x m d (fun _ => max.toNat) x.sat))

/-- The accumulator instructions act on the active lanes of their destination and on SAT, and on nothing else (R237, R269,
R273). The mask instructions write the active bits of their destination; MSAT moves and clears the active bits of SAT,
and MCOUNT counts (R236, R237, R269, R273). -/
def Obligations.AccumulatorAndMaskResults : Prop :=
  (
  ∀ (e : Fin 148) (m d p q : Fin 8) (a b n : Fin 32) (s : State), EngineRuns s e 1 →
    let x := s.eng[e]
    let hi : Int := 2 ^ (2 * laneBits e - 1)
    let plain (i : Instr) (f : Nat → Int) : Prop := EngineStep i s e 1 1 (AccTakes e x m d f x.sat)
    let clamped (i : Instr) (f : Nat → Int) : Prop :=
      ∃ sat, SatAfter e x m (fun l => f l < -hi ∨ hi - 1 < f l) sat ∧
        EngineStep i s e 1 1 (AccTakes e x m d (fun l => clamp (f l) (-hi) (hi - 1)) sat)
    plain (.kClra e m d) (fun _ => 0) ∧ plain (.kAmov e m d a) (fun l => lane0 x a l) ∧
    plain (.kAshr e m d p n) (fun l => accLane x p l / 2 ^ n.val) ∧
    clamped (.kAadd e m d a) (fun l => accLane x d l + lane0 x a l) ∧
    clamped (.kAsub e m d a) (fun l => accLane x d l - lane0 x a l) ∧
    clamped (.kAmac e m d a b) (fun l => accLane x d l + lane0 x a l * lane0 x b l) ∧
    clamped (.kAmacs e m d a b) (fun l => accLane x d l + lane0 x a l * (getG x b).toInt) ∧
    clamped (.kAadda e m d p q) (fun l => accLane x p l + accLane x q l) ∧
    clamped (.kAbc e m d b) (fun _ => (getG x b).toInt)) ∧
  (
  ∀ (e : Fin 148) (m d p q : Fin 8) (a b g : Fin 32) (s : State), EngineRuns s e 1 →
    let x := s.eng[e]
    let gives (i : Instr) (f : Nat → Bool) : Prop := EngineStep i s e 1 1 (MaskTakes e x m d f x.sat)
    gives (.kCeq e m d a b) (fun l => decide (lane0 x a l = lane0 x b l)) ∧
    gives (.kCltu e m d a b) (fun l => decide (lane0 x a l < lane0 x b l)) ∧
    gives (.kCleu e m d a b) (fun l => decide (lane0 x a l ≤ lane0 x b l)) ∧
    gives (.kAclt e m d p q) (fun l => decide (accLane x p l < accLane x q l)) ∧
    gives (.kAceq e m d p q) (fun l => decide (accLane x p l = accLane x q l)) ∧
    gives (.kMand e m d p q) (fun l => maskBit x p l && maskBit x q l) ∧
    gives (.kMor e m d p q) (fun l => maskBit x p l || maskBit x q l) ∧
    gives (.kMandn e m d p q) (fun l => maskBit x p l && !maskBit x q l) ∧
    gives (.kMxor e m d p q) (fun l => Bool.xor (maskBit x p l) (maskBit x q l)) ∧
    (∃ sat, (∀ l, l < laneCount e → (sat.getD l false = true ↔ x.sat.getD l false = true ∧ maskBit x m l = false)) ∧
      EngineStep (.kMsat e m d) s e 1 1 (MaskTakes e x m d (fun l => x.sat.getD l false) sat)) ∧
    EngineStep (.kMcount e m g p) s e 1 1 (ScalarTakes x g (BitVec.ofNat 32
      ((List.range (laneCount e)).countP (fun l => maskBit x m l && maskBit x p l)))))

/-- The correction extension: taps, reduction, expansion and the rounded division (R147 to R151, R281). DEN.LD, FLD.LD and
FAC.ST read the densities of cells, the field density table and write factors (R137, R138, R143, R281, R282); CNT.ADD
adds to a sum of the task (R278). -/
def Obligations.CorrectionInstructions : Prop :=
  (
  ∀ (e : Fin 4) (m c : Fin 8) (d a b g h : Fin 32) (p q : Fin 30) (n : BitVec 6) (k : Bool) (s : State),
    EngineRuns s (ceEng e) 1 →
    let z := ceEng e
    let x := s.eng[z]
    let hi : Int := 2 ^ 47
    let tap (i : Instr) (f : Nat → Int) : Prop :=
      ∃ sat, SatAfter z x m (fun l => f l < -hi ∨ hi - 1 < f l) sat ∧
        EngineStep i s z 1 1 (AccTakes z x m c (fun l => clamp (f l) (-hi) (hi - 1)) sat)
    let first : Nat := if k then 32 else 0
    (-16 ≤ n.toInt ∧ n.toInt ≤ 16 → tap (.kTapu e m c p g n)
      (fun l => accLane x c l + ((getG x g).toNat % 65536) * groupAt x p.val (64 + (l : Int) + n.toInt).toNat)) ∧
    tap (.kTapv e m c a g) (fun l => accLane x c l + ((getG x g).toNat % 65536) * lane0 x a l) ∧
    EngineStep (.kReduce e m d a b k) s z 1 1 (VectorTakes z x m d (fun l =>
      if first ≤ l ∧ l < first + 32 then
        (lane0 x a (2 * (l - first)) + lane0 x a (2 * (l - first) + 1) +
          lane0 x b (2 * (l - first)) + lane0 x b (2 * (l - first) + 1) + 2) / 4
      else lane0 x d l) x.sat) ∧
    EngineStep (.kExpand e m d p q k) s z 1 1 (VectorTakes z x m d (fun l =>
      let i := 64 + first + l / 2
      let j := if l % 2 = 1 then i + 1 else i - 1
      (9 * groupAt x p.val i + 3 * groupAt x p.val j + 3 * groupAt x q.val i + groupAt x q.val j + 8) / 16) x.sat) ∧
    (let t := (getG x g).toNat
     let lo := (getG x h).toNat % 65536
     let top := (getG x h).toNat / 65536
     let quot (l : Nat) : Nat := (t * 16384 + (accLane x c l).toNat / 2) / (accLane x c l).toNat
     ∃ sat, SatAfter z x m (fun l => accLane x c l ≤ 0 ∨ quot l < lo ∨ top < quot l) sat ∧
       EngineStep (.kKdiv e m d c g h) s z 1 4 (VectorTakes z x m d
         (fun l => if accLane x c l ≤ 0 then top else min (Nat.max (quot l) lo) top) sat))) ∧
  (
  ∀ (e : Fin 4) (p : Fin 32) (q : Fin 31) (sel : Fin 3) (h : Held) (f : Stripe) (s : State),
    let z := ceEng e
    let x := s.eng[z]
    EngineRuns s z 1 → x.held = some h → passStripe s h.task.pass = some f →
    let u := (getGn x q.val).toInt
    let v := (getGn x (q.val + 1)).toInt
    (densityWaits s h.task.pass u v = true → exec (.kDenLd e p q) s = .next s) ∧
    (densityWaits s h.task.pass u v = false → EngineGoes (.kDenLd e p q) s z 1 (fun y =>
      (∀ l : Nat, l < 64 → lane0 y p l = (cellDensity s h.task.pass f (u + (l : Int)) v).1) ∧ ∀ r, getG y r = getG x r)) ∧
    EngineGoes (.kFldLd e p q) s z 1 (fun y =>
      (∀ l : Nat, l < 64 → lane0 y p l = (fieldCell (passField s h.task.pass) (u + (l : Int)) v).1) ∧ ∀ r, getG y r = getG x r) ∧
    ((∀ l : Nat, l < 64 → inWindow s h.task.pass f (u + (l : Int)) v = true → lane0 x p l ≤ 65535) →
      EngineGoes (.kFacSt e p q) s z 1 (fun y => ∃ h', y.held = some h' ∧
        ∀ c k, (c, k) ∈ h'.facs ↔ (c, k) ∈ h.facs ∨
          ∃ l : Nat, l < 64 ∧ c = (u + (l : Int), v) ∧ k = lane0 x p l ∧ inWindow s h.task.pass f (u + (l : Int)) v = true)) ∧
    (sel.val ≠ 0 → EngineGoes (.kCntAdd z p sel) s z 1 (fun y => ∃ h', y.held = some h' ∧
      (h.sums.length = 3 → h'.sums.getD sel.val 0 = h.sums.getD sel.val 0 + (getG x p).toNat))))

/-- TASK.WAIT takes the assigned task with SAT cleared or waits, TASK.GET reads the fields of the task, and TASK.DONE
hands the task back and counts it (R242, R269, R275). Fields 0 and 5 of a start of pass are free values (log entry
18), and nothing is claimed of them. -/
def Obligations.TaskInstructions : Prop :=
  ∀ (e : Fin 148) (p : Fin 32) (field : Fin 8) (s : State), EngineRuns s e 1 → RegsWf s →
    let x := s.eng[e]
    (x.held = none → x.assigned = none →
      ∃ t, exec (.kTaskWait e) s = .next t ∧ t = { s with eng := t.eng } ∧ (∀ k : Fin 148, k ≠ e → t.eng[k] = s.eng[k]) ∧
        t.eng[e] = { x with waiting := true }) ∧
    (∀ k, x.held = none → x.assigned = some k → (k.mode = 1 ∨ 144 ≤ e.val ∨ factorsReady s k = true) →
      EngineGoes (.kTaskWait e) s e 1 (fun y => y.sat = [] ∧ y.assigned = none ∧ y.waiting = false ∧
        (∃ h, y.held = some h ∧ h.task = k ∧ h.rows = [] ∧ h.slots = 1) ∧ y.span.row = none ∧ y.span.xs = [] ∧
        y = { x with sat := y.sat, assigned := y.assigned, held := y.held, span := y.span, waiting := y.waiting, pc := y.pc })) ∧
    (∀ h, x.held = some h →
      ∃ t, exec (.kTaskGet e p field) s = .next t ∧ t = { s with eng := t.eng, free := s.free + 1 } ∧
        (∀ k : Fin 148, k ≠ e → t.eng[k] = s.eng[k]) ∧ (t.eng[e]).pc = x.pc + 1 ∧
        ∃ w, ScalarTakes x p w (t.eng[e]) ∧
          (field.val = 2 → w = BitVec.ofNat 32 h.task.mode) ∧ (field.val = 4 → w = BitVec.ofInt 32 h.col0) ∧
          (field.val = 7 → w = x.gen.setWidth 32) ∧
          (e.val < 144 →
            (field.val = 0 → w = BitVec.ofNat 32 (taskName s e h.task)) ∧
            (field.val = 1 → w = BitVec.ofNat 32 (taskName s e h.task / 2 ^ 32)) ∧
            (field.val = 3 → w.toNat =
              b2n h.dir + 2 * b2n h.negative + 4 * b2n h.task.margin + 8 * b2n h.task.second) ∧
            (field.val = 5 → w = BitVec.ofInt 32 h.row0) ∧ (field.val = 6 → w = BitVec.ofNat 32 h.entryCount)) ∧
          (144 ≤ e.val → (field.val = 1 → w = 0) ∧ (field.val = 3 → w.toNat = b2n h.dir) ∧
            (field.val = 6 → w = BitVec.ofNat 32 (80 + 4 * passMargin s h.task.pass)))) ∧
    (∀ h, x.held = some h → (e.val < 144 → h.task.mode = 4 ∨ h.rows.length = 256) → coverWaits s e h = false →
      ∃ t, exec (.kTaskDone e) s = .next t ∧ (t.eng[e]).held = none ∧ (t.eng[e]).pc = x.pc + 1 ∧
        (∀ k : Fin 148, k ≠ e → t.eng[k] = s.eng[k]) ∧ (∀ r, getG (t.eng[e]) r = getG x r) ∧ (t.eng[e]).lmem = x.lmem ∧
        reg t (engBase e + 0x20) = satAdd (reg s (engBase e + 0x20)) 1 ∧ t.power = s.power ∧
        (h.task.mode ≠ 1 ∨ h.task.margin = true ∨ 144 ≤ e.val → t.dram = s.dram) ∧
        (e.val < 144 → h.task.mode = 1 → h.task.margin = false → passStripe s h.task.pass ≠ none → DramWf s →
          coverOf t h.task = some (coverBytes s e h)))

/-- The stream instructions of a raster engine that holds a task: list entries, factors, coverage rows, output rows, hive
rows, interpolated factors and counter sums (R241, R242, R246, R247, R276 to R278). Hive fills drop or keep a sample
by free values (log entry 20), and nothing is claimed of them. -/
def Obligations.StreamInstructions : Prop :=
  ∀ (e : Fin 144) (p q : Fin 32) (a b : Fin 8) (f : Fin 17) (half : Bool) (h : Held) (s : State),
    let z := reEng e
    let x := s.eng[z]
    EngineRuns s z 1 → LocalWf s → x.held = some h →
    let goes (i : Instr) (after : Engine → Prop) : Prop := EngineGoes i s z 1 after
    (∀ first rest, h.task.mode ≠ 2 → h.entries = first :: rest →
      (∀ cell px py orient ox oy box, first ≠ .hiveOpen cell px py orient ox oy box) →
      (getG x p).toNat % 8 = 0 → (getG x p).toNat + entryLen first ≤ 196608 →
      goes (.kInEntry e p) (fun y =>
        getG y 1 = BitVec.ofNat 32 (entryKind first) ∧ (∃ h', y.held = some h' ∧ h'.entries = rest) ∧
        (∀ r : Fin 32, r.val ≠ 1 → r.val ≠ 2 → getG y r = getG x r) ∧
        (∀ n, (hn : n < (entryBytes rest first).length) →
          localByte y ((getG x p).toNat + n) = (entryBytes rest first)[n]))) ∧
    (h.task.mode ≠ 1 → goes (.kFactLoad e f) (fun y =>
      (∃ h', y.held = some h' ∧ h'.factLoaded = true) ∧
      (h.factors.length = 16 → ∀ n : Fin 16, f.val + n.val ≠ 0 →
        getGn y (f.val + n.val) = BitVec.ofNat 32 (h.factors.getD n.val 0)))) ∧
    (h.task.mode = 2 → h.covRow < 256 → p ≠ q → goes (.kCovRow e p q) (fun y =>
      (∀ l, l < 128 → lane0 y p l = (h.cover.getD h.covRow []).getD l 0 ∧
        lane0 y q l = (h.cover.getD h.covRow []).getD (128 + l) 0) ∧
      (∃ h', y.held = some h' ∧ h'.covRow = h.covRow + 1))) ∧
    (h.rows.length < 256 → (h.task.mode = 1 → ∀ l, l < 128 → lane0 x p l ≤ 2048 ∧ lane0 x q l ≤ 2048) →
      goes (.kOutRow e p q) (fun y => (∀ r, getG y r = getG x r) ∧ y.v = x.v ∧
        ∃ h', y.held = some h' ∧
          h'.rows = h.rows ++ [(List.range 128).map (lane0 x p) ++ (List.range 128).map (lane0 x q)])) ∧
    (h.task.mode = 3 → h.getRow < 256 → a ≠ b → goes (.kHiveGet e a b) (fun y =>
      (∀ l, l < 128 →
        accLane y a l = satA z (accLane x a l + (if h.negative then -1 else 1) * hitSum h h.getRow l) ∧
        accLane y b l = satA z (accLane x b l + (if h.negative then -1 else 1) * hitSum h h.getRow (128 + l))) ∧
      (∃ h', y.held = some h' ∧ h'.getRow = h.getRow + 1))) ∧
    (∀ fill, h.fill = some fill → fill.put < 256 →
      ∃ t, exec (.kHivePut e a b) s = .next t ∧ (t.eng[z]).pc = x.pc + 1 ∧
        (∃ h' g, (t.eng[z]).held = some h' ∧ h'.fill = some g ∧ g.put = fill.put + 1) ∧
        t = { s with eng := t.eng, regs := t.regs, comb := t.comb, free := s.free + 1 }) ∧
    (h.factLoaded = true → h.rows.length < 256 → goes (.kFip e a f half) (fun y =>
      (∀ l, l < 128 → accLane y a l =
        fipLane (fun n => (getGn x (f.val + n)).toNat % 65536) h.task.col h.task.seg h.dir h.rows.length
          (if half then 128 + l else l)) ∧
      ∀ r : Fin 8, r ≠ a → y.a[r] = x.a[r])) ∧
    goes (.kCntAdd z p 0) (fun y => ∃ h', y.held = some h' ∧
      (h.sums.length = 3 → h'.sums.getD 0 0 = h.sums.getD 0 0 + (getG x p).toNat))

/-- The span unit of a raster engine that holds a task (R243, R279, R280). -/
def Obligations.SpanInstructions : Prop :=
  ∀ (e : Fin 144) (c : Fin 28) (ln : Fin 29) (ar : Fin 26) (p q : Fin 32) (a b : Fin 8) (h : Held) (s : State),
    let z := reEng e
    let x := s.eng[z]
    EngineRuns s z 1 → RegsWf s → x.held = some h →
    let g (n : Nat) : Int := (getGn x n).toInt
    (EngineStep (.kSpanCfg e c) s z 1 1 (fun y =>
      y.span = { x.span with negative := (getGn x c.val).getLsbD 0,
                             box := ⟨g (c.val + 1), g (c.val + 2), g (c.val + 3), g (c.val + 4)⟩ } ∧
      y = { x with span := y.span, pc := y.pc, held := y.held })) ∧
    (h.row0 ≤ (getG x p).toInt → (getG x p).toInt < h.row0 + 256 →
      EngineStep (.kSpanRow e p) s z 1 1 (fun y =>
        y.span = { x.span with xs := [], row := some (getG x p).toInt, count := 0, arcBad := false } ∧
        (getG y 3).toNat = (if x.span.negative ∧ x.span.box.y0 ≤ 32 * (getG x p).toInt ∧
          32 * (getG x p).toInt + 32 ≤ x.span.box.y1 then 2 else 0))) ∧
    (∀ j, x.span.row = some j → (getG x q).toNat ≤ 4095 →
      let put (i : Instr) (new : List Crossing) : Prop :=
        x.span.xs.length + (clipCrossings h new).length ≤ 8192 →
        ∃ t, exec i s = .next t ∧ (t.eng[z]).span = { x.span with xs := x.span.xs ++ clipCrossings h new } ∧
          (t.eng[z]).pc = x.pc + 1 ∧ (∀ off, reg t off = reg s off) ∧
          t = { s with eng := t.eng, regs := t.regs, free := s.free + 1 }
      put (.kXeLine e ln q)
        (rowCrossings j (getG x q).toNat (lineCross (g ln.val) (g (ln.val + 1)) (g (ln.val + 2)) (g (ln.val + 3)))) ∧
      (let arc : Arc := { x0 := g ar.val, y0 := g (ar.val + 1), x1 := g (ar.val + 2), y1 := g (ar.val + 3),
                          x2 := g (ar.val + 4), y2 := g (ar.val + 5), w := g (ar.val + 6) }
       (arcValid arc = true → put (.kXeArc e ar q) (rowCrossings j (getG x q).toNat (arcCross arc))) ∧
       (arcValid arc = false → EngineStep (.kXeArc e ar q) s z 1 1 (fun y => y.span = { x.span with arcBad := true })))) ∧
    (∀ j, x.span.row = some j → x.span.count < 64 → a ≠ b →
      EngineGoes (.kSpan4 e a b) s z 1 (fun y =>
        y.span = { x.span with count := x.span.count + 1 } ∧
        let lens (i : Nat) := scanLengths x.span.xs x.span.negative x.span.box j h.col0 (4 * x.span.count + i)
        let add (v : Int) (l : Nat) : Int := [0, 1, 2, 3].foldl (fun u i => satA z (u + (lens i).getD l 0)) v
        ∀ l, l < 128 → accLane y a l = add (accLane x a l) l ∧ accLane y b l = add (accLane x b l) (128 + l)))

/-- A waiting task is handed to an idle working raster engine that it need not avoid, and a block of rows or a start of
pass to the correction engine of its segment (R154, R253, R254). A reset of an engine clears its registers and local
memory and fails its task back, the watchdog is fault 8 of the engine, a part fault resets it, a corrected error of
its local memory is counted, OFFLINE is kept in ENG.CTL, and a comb reset resets the scheduler and its engines (R39,
R236, R255, R256, R259, R263). Block n stands for segment n - M by the model's reading (log entry 59). -/
def Obligations.EngineScheduling : Prop :=
  (
  (∀ (s : State) (k : Task) (e : Fin 148), s.comb.tasks = [k] → k.mode ≠ 2 → taskFree s k = true →
    engineFor s k = some e → ((s.eng[e]).waiting = true → (s.eng[e]).pc + 1 < progCount (engProg s e)) →
    e.val < 144 ∧ engWorking s e = true ∧ engTask (s.eng[e]) = none ∧ e.val ∉ k.avoid ∧
    ∃ t, exec .taskAssign s = .next t ∧ t.comb.tasks = [] ∧ engTask (t.eng[e]) = some k ∧
      (∀ j : Fin 148, j ≠ e → t.eng[j] = s.eng[j]) ∧ t.dram = s.dram ∧ t.job = s.job) ∧
  (∀ (s : State) (p : Pass) (e : Fin 148), passCorrects s p = true → engWorking s e = true →
    engTask (s.eng[e]) = none → ((s.eng[e]).waiting = true → (s.eng[e]).pc + 1 < progCount (engProg s e)) →
    (ceNext s p = none → s.comb.ceAgain = [] → e.val = 144 →
      ∃ t, exec (.ceBlockAssign p) s = .next t ∧ engTask (t.eng[e]) = some (ceTask p 1 0) ∧ ceNext t p = some 0 ∧
        t.comb.ceAgain = [ceTask p 1 1, ceTask p 1 2, ceTask p 1 3] ∧ (∀ j : Fin 148, j ≠ e → t.eng[j] = s.eng[j])) ∧
    (∀ n, ceNext s p = some n → s.comb.ceAgain = [] → startsDone s p = true → n < ceBlocks s p →
      (e.val : Int) = 144 + ((n : Int) - passMargin s p) % 4 →
      ∃ t, exec (.ceBlockAssign p) s = .next t ∧
        engTask (t.eng[e]) = some (ceTask p 2 ((n : Int) - passMargin s p)) ∧ ceNext t p = some (n + 1) ∧
        (∀ j : Fin 148, j ≠ e → t.eng[j] = s.eng[j])))) ∧
  (
  ∀ (e : Fin 148) (c : Fin 12) (on : Bool) (s : State), RegsWf s →
    let x := s.eng[e]
    let fresh (t : State) (k : Fin 148) : Prop :=
      (∀ r, getG (t.eng[k]) r = 0) ∧ (t.eng[k]).pc = progEntry (engImage s k) ∧
      (t.eng[k]).lmem = (Engine.fresh (engImage s k)).lmem ∧ engTask (t.eng[k]) = none ∧
      (t.eng[k]).gen = (s.eng[k]).gen + 1
    let back (t : State) (k : Task) : Prop :=
      if e.val < 144 then ∃ m, m ∈ t.comb.tasks ∧ m.col = k.col ∧ m.seg = k.seg ∧ m.mode = k.mode ∧ m.pass = k.pass
      else ∃ m, m ∈ t.comb.ceAgain ∧ m.seg = k.seg ∧ m.mode = k.mode ∧ m.pass = k.pass
    (BarOpen s → engPowered s e = true →
      (∃ t, exec (.engReset e) s = .next t ∧ fresh t e ∧ (∀ k, engTask x = some k → back t k) ∧ Pending t 67 ∧
        (∀ k : Fin 148, k ≠ e → t.eng[k] = s.eng[k]) ∧ t.dram = s.dram) ∧
      (∃ t, exec (.engOffline e on) s = .next t ∧ t.eng = s.eng ∧ bit (regN t (engBase e + 4)) 1 = on ∧
        (∀ k : Fin 148, k ≠ e → reg t (engBase k + 4) = reg s (engBase k + 4)) ∧ t.dram = s.dram)) ∧
    (∀ k, engTask x = some k → faultedBefore e 8 k = false → x.pc < 2048 →
      ∃ t, exec (.taskWatchdog ⟨e, .watchdog⟩) s = .next t ∧ fresh t e ∧ back t k ∧
        regN t (engBase e + 8) = 2 ^ 31 + x.pc * 65536 + 256 + 8 ∧ Pending t 65 ∧ Pending t 69 ∧
        (∀ k : Fin 148, k ≠ e → t.eng[k] = s.eng[k])) ∧
    (engPowered s e = true → x.testing = false → x.hadPart = false → x.pc < 2048 →
      ∀ how code, (how, code) ∈ [(EngFault.imemParity, 0x11), (.localEcc, 0x12), (.fabric, 0x13)] →
        ∃ t, exec (.taskWatchdog ⟨e, how⟩) s = .next t ∧ fresh t e ∧ (∀ k, engTask x = some k → back t k) ∧ Pending t 64 ∧
          regN t (engBase e + 8) % 256 = code ∧
          (∀ k : Fin 148, k ≠ e → t.eng[k] = s.eng[k])) ∧
    (engPowered s e = true → ∃ t, exec (.taskWatchdog ⟨e, .eccCorrected⟩) s = .next t ∧ t.eng = s.eng ∧
      reg t (engBase e + 0x2C) = satAdd (reg s (engBase e + 0x2C)) 1 ∧ t.dram = s.dram) ∧
    (BarOpen s → powered s (8 + c.val) = true →
      ∃ t, exec (.combReset c) s = .next t ∧ t.comb.gen[c] = s.comb.gen[c] + 1 ∧ Pending t 68 ∧
        (∀ k : Fin 148, k.val < 144 → k.val / 12 = c.val → fresh t k) ∧
        (∀ k : Fin 148, ¬ (k.val < 144 ∧ k.val / 12 = c.val) → t.eng[k] = s.eng[k])))

/-- The end of a self-test writes the signature, and the expected one clears the failed mark while any other sets it
(R258, R260). SELF_TEST with empty masks ends at once; without a write its engines begin their tests, reset and with
their tasks failed back; beside a write that cannot spare them it waits or is refused (R260, R261). Which events a
failed test raises is the model's reading (log entry 47). -/
def Obligations.SelfTests : Prop :=
  (
  ∀ (e : Fin 148) (sig : Word) (s : State), RegsWf s → (s.eng[e]).testing = true → engPowered s e = true →
    s.job.tests = [] →
    ∃ t, exec (.selfTestEnd e sig) s = .next t ∧ reg t (engBase e + 0x18) = sig ∧ (t.eng[e]).testing = false ∧
      (t.eng[e]).failed = decide (sig ≠ rightSig s e) ∧ (sig = rightSig s e → (t.eng[e]).hadPart = false ∧ Pending t 71) ∧
      (sig ≠ rightSig s e → Pending t 66 ∧ Pending t 72) ∧ (∀ r, getG (t.eng[e]) r = 0) ∧
      (∀ k : Fin 148, k ≠ e → t.eng[k] = s.eng[k]) ∧ t.job = s.job ∧ t.dram = s.dram) ∧
  (
  ∀ (s : State) (l : Live), RegsWf s → StartsNext s 9 l →
    let q := l.seq
    let named (e : Fin 148) : Bool := if e.val < 144 then bit (byteAt l.entry (16 + e.val / 8)) (e.val % 8) else bit (byteAt l.entry 34) (e.val - 144)
    let moved (t : State) (p : Phase) : Prop :=
      t.job.live = s.job.live.map (fun x => if x.seq = q then { x with phase := p } else x)
    ((∀ e, named e = false) → ∃ t, exec .selfTest s = .next t ∧ Ended q { status := 0 } s t ∧ t.eng = s.eng ∧ t.job.tests = s.job.tests) ∧
    ((∃ e, named e = true) → s.job.write = none →
      ∃ t r, exec .selfTest s = .next t ∧ moved t .running ∧ t.job.tests = s.job.tests ++ [r] ∧ r.seq = q ∧ r.failed = [] ∧ r.wait = false ∧
        (∀ e : Fin 148, e.val ∈ r.todo ↔ named e = true) ∧
        (∀ e : Fin 148, named e = true → (t.eng[e]).testing = true) ∧
        (∀ e : Fin 148, named e = true → (s.eng[e]).testing = false → engTask (t.eng[e]) = none ∧ ∀ r, getG (t.eng[e]) r = 0) ∧
        (∀ e : Fin 148, named e = false → t.eng[e] = s.eng[e]) ∧
        (∀ k e, named e = true → e.val < 144 → (s.eng[e]).testing = false → engTask (s.eng[e]) = some k → k ∈ t.comb.tasks) ∧
        t.dram = s.dram ∧ t.journal = s.journal) ∧
    (allSparable s [] (testList l.entry) = false → (∃ e, named e = true) → s.job.write.isSome = true →
      (bit (byteAt l.entry 9) 0 = true →
        ∃ t r, exec .selfTest s = .next t ∧ moved t .waiting ∧ t.job.tests = s.job.tests ++ [r] ∧ r.seq = q ∧ r.wait = true ∧
          t.eng = s.eng ∧ Raised [73] s t ∧ t.comb = s.comb) ∧
      (bit (byteAt l.entry 9) 0 = false →
        ∃ t, exec .selfTest s = .next t ∧ Ended q { status := 4, code := 0x10, source := 8 } s t ∧ t.eng = s.eng ∧ t.comb = s.comb)))

/-- A finished tile whose signature equals the forage signature is released, and one that differs is rendered again by
another engine at its first mismatch and halts the write at its second (R32, R33, R131). A completed fill leaves its
buffer, and is compressed, logged and installed or discarded; a flush empties the hive cache's log and clears VALID in
every way (R346, R347). -/
def Obligations.BellowsAndHive : Prop :=
  (
  ∀ (col seg : Nat) (s : State) (w : Write) (b : BTile), s.job.write = some w → tileAt s col seg = some b →
    b.released = false → b.never = false → RegsWf s →
    let sig := Check.crc32c (tileId w.f.pass col seg w.f.stripe) (tileBytes b.rows)
    (forageSig s w.f col seg = some sig →
      ∃ t, exec (.tileCheck col seg .clean) s = .next t ∧ tileReleased t col seg = true ∧ t.eng = s.eng ∧
        t.dram = s.dram ∧ t.job = s.job) ∧
    (forageSig s w.f col seg ≠ some sig → b.second = false → b.used = [] →
      ∃ t, exec (.tileCheck col seg .clean) s = .next t ∧ tileAt t col seg = none ∧ Pending t 88 ∧
        (∃ k, k ∈ t.comb.tasks ∧ k.col = col ∧ k.seg = seg ∧ k.pass = .write ∧ k.second = true ∧ b.engine ∈ k.avoid) ∧
        reg t 0x05C000 = satAdd (reg s 0x05C000) 1 ∧ t.eng = s.eng ∧ t.dram = s.dram ∧ t.job = s.job) ∧
    (forageSig s w.f col seg ≠ some sig → b.second = true → w.ending = none → w.causes = [] →
      w.next < firstGather w.f.dir w.f.named seg → s.seq.st ≠ 1 →
      ∃ t, exec (.tileCheck col seg .clean) s = .next t ∧ Pending t 89 ∧ tileReleased t col seg = false ∧
        (∃ v, t.job.write = some v ∧ v.ending = none ∧ ∃ c, c ∈ v.causes ∧ c.code = 2 ∧
          c.flash = some (firstGather w.f.dir w.f.named seg)) ∧ t.eng = s.eng ∧ t.dram = s.dram)) ∧
  (
  (∀ (f : Fill) (rest : List Fill) (s : State), s.comb.fills = f :: rest → RegsWf s →
    let entry := compress 2 f.width f.xOff f.yOff 0 f.key f.hash.toNat f.rows
    let off := { s with comb := { s.comb with fills := rest } }
    ((s.hive.on = false ∨ regBits s 0x110020 23 16 * 1024 < entry.length ∨ logSize s < entry.length ∨
        hiveHas off f.key = true) → exec .hiveFillInstall s = .next off) ∧
    (s.hive.on = true → entry.length ≤ regBits s 0x110020 23 16 * 1024 → entry.length ≤ logSize s →
      hiveHas off f.key = false →
      ∃ t, exec .hiveFillInstall s = .next t ∧ t.comb.fills = rest ∧ t.eng = s.eng ∧ t.job = s.job ∧
        reg t 0x110044 = satAdd (reg s 0x110044) 1 ∧ t.hive.ptr = roundUp (s.hive.ptr + entry.length) 256 % logSize s ∧
        ∃ way, way < 4 ∧ (s.hive.ptr, entry.length, hiveBucket s f.hash, way) ∈ t.hive.log)) ∧
  (∀ s : State, BarOpen s → RegsWf s → DramWf s →
    ∃ t, exec .hiveFlush s = .next t ∧ t.hive.log = [] ∧ t.hive.ptr = 0 ∧ Pending t 218 ∧ t.eng = s.eng ∧ t.job = s.job ∧
      (∀ b w, b < 2 ^ s.hive.log2 → w < 4 → bit (wayFlags t b w) 0 = false) ∧
      (∀ a, a < s.hive.base ∨ s.hive.base + indexSize s ≤ a → dramByte t a = dramByte s a)))

/-- A counted edge changes the axis count, two active edges at once are an illegal transition, and an index edge latches
the count and in mode 2 inside the window corrects it (R185, R187, R193). What the operands of an edge stand for is
the model's choice (log entry 16). -/
def Obligations.StageEdges : Prop :=
  ∀ (a : Fin 4) (lineB rising level : Bool) (t : Nat) (d : Int) (s : State),
    let x := s.axes[a]
    let others (u : State) : Prop := (∀ b : Fin 4, b ≠ a → u.axes[b] = s.axes[b]) ∧ u.dram = s.dram ∧ u.eng = s.eng
    powered s 3 = true → RegsWf s →
    (edgeActive x lineB rising = true → edgeDelta x lineB level = some d →
      (∀ once, (once = true → edgeIllegal x lineB level = false) →
        (∀ w, s.job.write = some w → ∀ c, c ∈ w.causes → c.tick = none) → (s.seq.expose = false ∨ s.seq.trig ≠ a) →
        ∃ u, exec (.axisEdge a lineB rising t level once) s = .next u ∧ (u.axes[a]).count = x.count + BitVec.ofInt 32 d ∧
          (u.axes[a]).referenced = x.referenced ∧ (timing s = true → (u.axes[a]).stale = false ∧
            (u.axes[a]).down = decide (d ≤ 0)) ∧ others u ∧ u.job = s.job) ∧
      (lineB = false → edgeIllegal x lineB level = true → s.job.write = none →
        ∃ u, exec (.axisEdge a lineB rising t level true) s = .next u ∧ u.axes = s.axes ∧ u.dram = s.dram ∧
          Pending u 128 ∧ bit (regN u (axisBase a + 8)) 4 = true ∧
          reg u (axisBase a + 0x28) = satAdd (reg s (axisBase a + 0x28)) 1)) ∧
    (rising ≠ bit x.ctl.toNat 4 → s.job.write = none →
      let mode := bits x.ctl.toNat 9 8
      let e := nearest x.expect.toInt x.period.toNat x.count.toInt
      let inside := (x.count.toInt - e).natAbs ≤ x.tol.toNat
      ∃ u, exec (.indexEdge a rising) s = .next u ∧ reg u (axisBase a + 0x1C) = x.count ∧
        reg u (axisBase a + 0x20) = stamp s ∧ reg u (axisBase a + 0x2C) = satAdd (reg s (axisBase a + 0x2C)) 1 ∧ others u ∧
        (mode = 2 → inside → (u.axes[a]).count = BitVec.ofInt 32 e ∧ (u.axes[a]).referenced = true ∧ Pending u 131) ∧
        (mode ≠ 1 → mode ≠ 2 → u.axes = s.axes ∧ Pending u 131) ∧
        (mode = 1 ∨ mode = 2 → ¬ inside → u.axes = s.axes ∧ Pending u 132 ∧
          reg u (axisBase a + 0x30) = satAdd (reg s (axisBase a + 0x30)) 1))

/-- Standstill makes the speed stale, a preset sets the count except on an axis that a write uses, axis settings take
effect at once except on such an axis, SNAP latches the counts, and SLOW_FORCE asserts STAGE_SLOW_N (R189 to R191,
R209). Losing TOOL_REF makes the axes stale and a running link HELD, and its return is noted (R192, R449). The link
after a loss of TOOL_REF is the model's reading (log entry 89). -/
def Obligations.StageControl : Prop :=
  (
  ∀ (a : Fin 4) (v : Word) (s : State), RegsWf s →
    let x := s.axes[a]
    let others (u : State) : Prop := (∀ b : Fin 4, b ≠ a → u.axes[b] = s.axes[b]) ∧ u.dram = s.dram ∧ u.job = s.job
    (x.still = false → timing s = true →
      ∃ u, exec (.standstill a) s = .next u ∧ (u.axes[a]).speed = 0 ∧ (u.axes[a]).valid = false ∧
        (u.axes[a]).stale = true ∧ (u.axes[a]).count = x.count ∧ Pending u 129 ∧ others u) ∧
    (BarOpen s →
      (∃ u, exec (.axisCountPreset a v) s = .next u ∧ others u ∧
        (axisUsed s a = false → (u.axes[a]).count = v ∧ (u.axes[a]).referenced = true) ∧
        (axisUsed s a = true → u.axes = s.axes ∧ Pending u 139)) ∧
      (∃ u, exec (.axisCtlWrite a .ctl v) s = .next u ∧ others u ∧ reg u (axisBase a) &&& 0x00FF037F = v &&& 0x00FF037F ∧
        (axisUsed s a = false → (u.axes[a]).ctl &&& 0x00FF037F = v &&& 0x00FF037F) ∧ (axisUsed s a = true → u.axes = s.axes)) ∧
      (∃ u, exec (.axisCtlWrite a .indexExpect v) s = .next u ∧ others u ∧ reg u (axisBase a + 0x10) = v ∧
        (axisUsed s a = false → (u.axes[a]).expect = v) ∧ (axisUsed s a = true → u.axes = s.axes)) ∧
      (∃ u, exec (.axisCtlWrite a .standstill v) s = .next u ∧ others u ∧
        (1 ≤ v.toNat % 2 ^ 20 → v.toNat % 2 ^ 20 ≤ 1000000 → reg u (axisBase a + 0x24) &&& 0xFFFFF = v &&& 0xFFFFF) ∧
        (v.toNat % 2 ^ 20 = 0 ∨ 1000000 < v.toNat % 2 ^ 20 → reg u (axisBase a + 0x24) = reg s (axisBase a + 0x24))) ∧
      (∃ u, exec .snap s = .next u ∧ u = { s with regs := u.regs } ∧ reg u 0x0D0104 = stamp s ∧
        ∀ b : Fin 4, reg u (axisBase b + 0x34) = (s.axes[b]).count) ∧
      (∃ u, exec (.slowForce v) s = .next u ∧ reg u 0x0D0110 &&& 1 = v &&& 1 ∧ u.axes = s.axes ∧ u.dram = s.dram ∧
        (v.toNat % 2 = 1 → u.seq.slow = true ∧ (s.seq.slow = false → Pending u 137)) ∧
        (v.toNat % 2 = 0 → s.job.write = none → u.seq.slow = false)))) ∧
  (
  ∀ s : State, RegsWf s →
    (s.seq.ref = true → s.job.write = none →
      ∃ t, exec .toolRefLoss s = .next t ∧ t.seq.ref = false ∧
        (∀ a : Fin 4, (t.axes[a]).stale = true ∧ (t.axes[a]).count = (s.axes[a]).count) ∧
        bit (regN t 0x0D0154) 31 = true ∧ (s.blk.st ≠ 0 → t.blk.st = 9) ∧ (s.blk.st = 5 → Pending t 161) ∧
        t.dram = s.dram ∧ t.eng = s.eng) ∧
    exec .toolRefReturn s = .next { s with seq := { s.seq with ref := true } })

/-- The words of the flash sequencer, each executed when it stands at the program counter and no RUN is under way (R195,
R197, R198, R205). -/
def Obligations.SequencerWords : Prop :=
  ∀ (s : State) (w : Write), s.job.write = some w → w.ending = none → s.seq.left = 0 → RegsWf s →
    let word := seqWord s s.seq.pc
    let n := word.toNat
    let value := seqValue s.seq.params word
    let sets (i : Instr) (after : Seq) : Prop :=
      exec i s = .next { s with seq := { after with pc := s.seq.pc + 1 } }
    (s.seq.st = 1 ∨ s.seq.st = 2 ∨ s.seq.st = 3) →
    (seqOp word = 0 → sets .seqNop s.seq) ∧
    (seqOp word = 1 → sets .setAxes { s.seq with
      trig := if bits n 1 0 = 0 then 0 else 2,
      xsrc := if bits n 5 4 = 0 then some 1 else if bits n 5 4 = 1 then some 3 else none }) ∧
    (seqOp word = 2 → sets .setInc { s.seq with inc := bits n 31 0, trim := bits n 39 32 }) ∧
    (seqOp word = 3 → sets .setStart { s.seq with s0 := signed 32 value }) ∧
    (seqOp word = 4 → sets .setXref { s.seq with xref := signed 32 value }) ∧
    (seqOp word = 5 → armReady s = true → armFails s w = none →
      ∃ t, exec .arm s = .next t ∧ .setupWord (setupWord w s.seq.plan) ∈ t.out ∧ t.seq.expose = true ∧ t.seq.st = 2 ∧
        t.seq.pc = s.seq.pc + 1 ∧ t.seq.deflD = setupWord w s.seq.plan ∧
        t.seq.lastWord = s.seq.lastWord ∧ Pending t 133 ∧
        t.job.write = some { w with st := .running, armed := true } ∧ t.dram = s.dram ∧ t.axes = s.axes) ∧
    (seqOp word = 6 → ∃ t, exec .run s = .next t ∧ t = { s with seq := t.seq } ∧ t.seq.st = 3 ∧ t.seq.left = value ∧
      t.seq.pc = s.seq.pc ∧ (w.next = 0 → t.seq.target = 0) ∧
      (0 < w.next → t.seq.target = s.seq.target + s.seq.inc +
        (if 1 ≤ s.seq.trim ∧ (w.next - 1) % s.seq.trim = s.seq.trim - 1 then 1 else 0))) ∧
    (seqOp word = 7 → (∀ p, p < 16 → (portAck s p).final = none) →
      ∃ t, exec .seqEnd s = .next t ∧ t.seq.expose = false ∧ t.seq.st = 0 ∧ Pending t 134 ∧ t.dram = s.dram ∧
        (∃ v, t.job.write = some v ∧ v.st = .draining ∧ v.next = w.next) ∧ t.axes = s.axes)

/-- A flash whose tick has come and that no cause stops is committed: its deflection word goes out, every running data
lane sends its dose frame, and LAST_SENT and the next flash follow (R200, R206, R224). A slice forms the codes of its
next flash from released tiles, each the clamped product of dose, weight, gain and offset, and a capture is armed by
CAP_CTL (R162 to R166, R180, R183). That the sender names the tick of the flash is the model's choice (log entry 55). -/
def Obligations.CodesAndFlashes : Prop :=
  (
  ∀ (tau : Nat) (y : Int) (s : State) (w : Write), s.job.write = some w → commitDue s w tau = some y →
    w.causes = [] → commitCauses s w tau (yCorr w.f.dir y s.seq.target) (xCorr s tau) = [] →
    ∃ t, exec (.flashCommit tau) s = .next t ∧ t.blk.lastSent = some w.next ∧ t.seq.flash = w.next ∧
      (∃ v, t.job.write = some v ∧ v.next = w.next + 1 ∧ v.lastInstant = tau + 1024 ∧ v.ending = none) ∧
      t.seq.left = s.seq.left - 1 ∧
      .defl (deflWord w.next (clamp (yCorr w.f.dir y s.seq.target) (-512) 512) (clamp (xCorr s tau) (-512) 512))
        (tau + 1024) (w.next % 400 == 0) ∈ t.out ∧
      (∀ c, c ∈ ports.flatMap (carriers s) →
        .doseFrame c.1 w.next (tau / 256 + 7) (doseBytes s w w.next c.2 (tau / 256 + 7)) ∈ t.out) ∧
      t.dram = s.dram ∧ t.axes = s.axes ∧ t.eng = s.eng) ∧
  (
  (∀ (n : Fin 4) (s : State) (w : Write), s.job.write = some w → w.ending = none →
    (s.bmu.slices[n]).next < flashesOf w.f.segs → (s.bmu.slices[n]).next < w.next + 16 →
    sliceReady s w n.val (s.bmu.slices[n]).next = true → s.bmu.armed = false →
    gatherFailed w n.val (s.bmu.slices[n]).next = false →
    (w.clampHalt = true → ∀ i, i < 65536 → (beamOut s w (s.bmu.slices[n]).next (65536 * n.val + i)).high = false) →
    let f := (s.bmu.slices[n]).next
    ∃ t c, exec (.sliceGather n .clean) s = .next t ∧ (t.bmu.slices[n]).next = f + 1 ∧
      (t.bmu.slices[n]).codes = (s.bmu.slices[n]).codes ++ [c] ∧ c.flash = f ∧ c.codes.length = 65536 ∧
      (∀ i, i < 65536 → c.codes.getD i 0 = (beamOut s w f (65536 * n.val + i)).code) ∧
      (∀ k : Fin 4, k ≠ n → t.bmu.slices[k] = s.bmu.slices[k]) ∧ t.dram = s.dram ∧ t.eng = s.eng) ∧
  (∀ (d w g : Nat) (o : Int), 268435456 ≤ 2 * (d * w * g) →
    ((slotCode d w g o).1 : Int) = clamp (((d * w * g + 134217728) / 268435456 : Nat) + o) 0 4095 ∧
    ((slotCode d w g o).2.2 = true ↔ 4095 < (((d * w * g + 134217728) / 268435456 : Nat) : Int) + o)) ∧
  (∀ (v : Word) (s : State), BarOpen s → RegsWf s →
    ∃ t, exec (.captureArm v) s = .next t ∧ t.bmu.armed = true ∧ t.bmu.capBeam = v.toNat % 2 ^ 18 ∧ t.bmu.capRecs = [] ∧
      t.bmu.capOwner = wseq s ∧ t.bmu.capFlash = regN s 0x0C0024 + 2 ^ 32 * (regN s 0x0C0028 % 2 ^ 16) ∧
      t = { s with regs := t.regs, bmu := t.bmu }))

/-- A feed register absorbs its bytes least significant first and counts them; a feed with a reserved bit set absorbs
nothing and sets FEED_ERR with code 1 (R377, R383, R388). A DRAM feed that ends has absorbed its whole range and
compares when AUTO is set; one that a memory failure stops holds exactly the bytes absorbed and sets FEED_ERR with
code 5 (R386 to R388). -/
def Obligations.CheckUnitFeeds : Prop :=
  (
  ∀ (u : Fin 8) (v : Word) (s : State), BarOpen s → (s.crc[u]).busy = false →
    let x := s.crc[u]
    let byte (k : Nat) : Byte := BitVec.ofNat 8 (v.toNat / 256 ^ k)
    let takes (i : Instr) (l : Bytes) : Prop :=
      let y : CrcUnit := { x with run := l.foldl (Check.absorb x.poly) x.run, count := x.count + BitVec.ofNat 64 l.length }
      exec i s = .next { s with crc := s.crc.set u y }
    let refused (i : Instr) : Prop :=
      ∃ t, exec i s = .next t ∧ t = { s with regs := t.regs, evt := t.evt, crc := t.crc } ∧
        t.crc = s.crc.set u { x with feedErr := true, code := if x.feedErr then x.code else 1 } ∧ Raised [245] s t ∧
        SameRegsBut [] s t
    (v.toNat < 2 ^ 8 → takes (.crcFeedB u v) [byte 0]) ∧ (2 ^ 8 ≤ v.toNat → refused (.crcFeedB u v)) ∧
    (v.toNat < 2 ^ 16 → takes (.crcFeedH u v) [byte 0, byte 1]) ∧ (2 ^ 16 ≤ v.toNat → refused (.crcFeedH u v)) ∧
    takes (.crcFeedW u v) [byte 0, byte 1, byte 2, byte 3]) ∧
  (
  ∀ (u : Fin 8) (n : Nat) (s : State), (s.crc[u]).busy = true →
    let x := s.crc[u]
    let done (k : Nat) : CrcUnit :=
      { x with run := Check.absorbAll x.poly x.run (dramRead s x.src k), count := x.count + BitVec.ofNat 64 k,
               busy := false, left := 0 }
    let same : Prop := (done x.left).run ^^^ 0xFFFFFFFF = reg s (crcBase u + 0x1C)
    (bit (regN s (crcBase u)) 7 = false →
      exec (.dramFeedEnd u n false) s = .next { s with crc := s.crc.set u (done x.left) }) ∧
    (bit (regN s (crcBase u)) 7 = true →
      ∃ t, exec (.dramFeedEnd u n false) s = .next t ∧ t = { s with regs := t.regs, evt := t.evt, crc := t.crc } ∧
        (same → t.crc = s.crc.set u { done x.left with matched := true, mismatched := false }) ∧
        (¬ same → t.crc = s.crc.set u { done x.left with matched := false, mismatched := true } ∧ Raised [244] s t ∧
          reg t 0x120800 = satAdd (reg s 0x120800) 1)) ∧
    (n ≤ x.left →
      ∃ t, exec (.dramFeedEnd u n true) s = .next t ∧ t = { s with regs := t.regs, evt := t.evt, crc := t.crc } ∧
        t.crc = s.crc.set u { done n with feedErr := true, code := if x.feedErr then x.code else 5 } ∧ Raised [245] s t ∧
        SameRegsBut [] s t))

/-- A write of STATE replaces the running value and leaves COUNT unchanged, STATE and RESULT read the running value and
its complement, and absorbing in two parts is absorbing without a break (R385). -/
def Obligations.RunningValue : Prop :=
  (∀ (u : Fin 8) (v : Word) (s : State), BarOpen s → (s.crc[u]).busy = false →
    exec (.crcStateWrite u v) s = .next { s with crc := s.crc.set u { s.crc[u] with run := v } }) ∧
  (∀ (u : Fin 8) (s : State), BarOpen s →
    readReg s (crcBase u + 0x14) = (s.crc[u]).run ∧ readReg s (crcBase u + 0x18) = (s.crc[u]).run ^^^ 0xFFFFFFFF) ∧
  (∀ (p c : Word) (a b : Bytes), Check.absorbAll p c (a ++ b) = Check.absorbAll p (Check.absorbAll p c a) b)

/-- START restarts a unit with its polynomial and context, COMPARE sets MATCH or MISMATCH, DRAM_GO starts a feed of a
lawful range, each fails by its code, and while BUSY they have no effect but FEED_ERR code 4 (R382, R386 to R388). -/
def Obligations.CheckValueControl : Prop :=
  ∀ (u : Fin 8) (v : Word) (s : State), BarOpen s → RegsWf s →
    let x := s.crc[u]
    let control (t : State) : Prop := reg t (crcBase u) &&& 0x8B = v &&& 0x8B
    let fails (i : Instr) (code : Nat) : Prop :=
      ∃ t, exec i s = .next t ∧ control t ∧ t = { s with regs := t.regs, evt := t.evt, crc := t.crc } ∧
        t.crc = s.crc.set u { x with feedErr := true, code := if x.feedErr then x.code else code } ∧ Raised [245] s t ∧
        SameRegsBut [crcBase u] s t
    let poly : Word := if v.toNat % 4 = 0 then 0x82F63B78 else if v.toNat % 4 = 1 then 0xEDB88320 else reg s (crcBase u + 0x10)
    let seed : Word := if bit v.toNat 3 then Check.absorbAll poly 0xFFFFFFFF (natLe (reg64 s (crcBase u + 8)) 8) else 0xFFFFFFFF
    let src := reg64 s (crcBase u + 0x38)
    let len := regN s (crcBase u + 0x40)
    let lawful := src % 64 = 0 ∧ len % 64 = 0 ∧ 64 ≤ len ∧ len ≤ 2 ^ 30 ∧ src + len ≤ dramSize
    (v &&& 0x60 = 0 → x.busy = false → v.toNat % 4 ≠ 3 →
      ∃ t, exec (.crcStart u v) s = .next t ∧ control t ∧ t = { s with regs := t.regs, crc := t.crc } ∧
        t.crc = s.crc.set u { x with poly := poly, run := seed, count := 0, matched := false, mismatched := false } ∧
        SameRegsBut [crcBase u] s t) ∧
    (v &&& 0x60 = 0 → x.busy = false → v.toNat % 4 = 3 → fails (.crcStart u v) 3) ∧
    (v &&& 0x60 = 0 → x.busy = true → fails (.crcStart u v) 4) ∧
    (v &&& 0x50 = 0 → x.busy = false →
      ∃ t, exec (.crcCompare u v) s = .next t ∧ control t ∧ t = { s with regs := t.regs, evt := t.evt, crc := t.crc } ∧
        (x.run ^^^ 0xFFFFFFFF = reg s (crcBase u + 0x1C) →
          t.crc = s.crc.set u { x with matched := true, mismatched := false } ∧ t.evt = s.evt ∧
          SameRegsBut [crcBase u] s t) ∧
        (x.run ^^^ 0xFFFFFFFF ≠ reg s (crcBase u + 0x1C) →
          t.crc = s.crc.set u { x with matched := false, mismatched := true } ∧ Raised [244] s t ∧
          reg t 0x120800 = satAdd (reg s 0x120800) 1 ∧ SameRegsBut [crcBase u, 0x120800] s t)) ∧
    (v &&& 0x30 = 0 → x.busy = false → lawful →
      ∃ t, exec (.dramGo u v) s = .next t ∧ control t ∧ t.crc = s.crc.set u { x with busy := true, src := src, left := len } ∧
        t = { s with regs := t.regs, evt := t.evt, crc := t.crc, mem := t.mem }) ∧
    (v &&& 0x30 = 0 → x.busy = false → ¬ lawful → fails (.dramGo u v) 2) ∧
    (v &&& 0x30 = 0 → x.busy = true → fails (.dramGo u v) 4) ∧
    (x.busy = true →
      (∃ t, exec (.crcStateWrite u v) s = .next t ∧ t = { s with regs := t.regs, evt := t.evt, crc := t.crc } ∧
        t.crc = s.crc.set u { x with feedErr := true, code := if x.feedErr then x.code else 4 } ∧ Raised [245] s t))

/-- TRAIN discards the link state and begins a bring-up unless a write executes, and the commands of bring-up move it from
stage to stage: locks, reports, capabilities, the stage limits and the spares (R214, R217 to R220). -/
def Obligations.LinkTraining : Prop :=
  ∀ s : State, RegsWf s →
    let b := s.blk
    let present (q : Fin 16) : Prop := (lane s (laneOf q.val 17)).absent = false
    let lost (q : Fin 16) : Prop := (lane s (laneOf q.val 17)).lock = false
    let onlyLink (t : State) : Prop := t = { s with regs := t.regs, evt := t.evt, out := t.out, blk := t.blk, free := t.free }
    let sent (t : State) (port : Fin 16 → Prop) (block : Nat → Bytes → Prop) : Prop :=
      ∀ q : Fin 16, port q → ∀ j, j < 17 → (lane t (laneOf q.val j)).absent = false →
        ∃ x, block j x ∧ .control (laneOf q.val j) x ∈ t.out
    (∀ v : Word, BarOpen s → v &&& 6 = 0 →
      (s.job.write.isSome = true →
        ∃ t, exec (.train v) s = .next t ∧ t = { s with regs := t.regs, evt := t.evt } ∧ Raised [177] s t ∧
          SameRegsBut [] s t) ∧
      (s.job.write = none → s.cal.eq = none → (∀ p : Fin 16, powered s (32 + p.val) = true) →
        ∃ t, exec (.train v) s = .next t ∧ onlyLink t ∧ t.evt = s.evt ∧ t.blk.st = 1 ∧
          (∀ q : Fin 16, ∀ j, j < 17 → ∃ n, .control (laneOf q.val j) (trainBlock 1 (laneOf q.val j) n) ∈ t.out) ∧
          t.blk.lanes = Vector.replicate 288 { absent := false, lock := false, reported := false } ∧
          t.blk.spare = Vector.replicate 16 none ∧ t.blk.caps = Vector.replicate 16 none ∧ t.blk.rateRun = 1 ∧
          t.blk.profRun = 0 ∧ t.blk.profile = bit v.toNat 4 ∧ t.blk.rateMax = bit v.toNat 3 ∧ t.blk.ports = b.ports ∧
          t.blk.frontier = b.frontier ∧ t.blk.eq = b.eq ∧ reg t 0x0E8058 = satAdd (reg s 0x0E8058) 1 ∧
          reg t 0x0E8054 = 0 ∧ SameRegsBut [0x0E8000, 0x0E8054, 0x0E8058] s t)) ∧
    (∀ p : Fin 16, linkRuns s = false → present p → powered s (32 + p.val) = true →
      ∃ t, exec (.returnLaneLock p) s = .next t ∧ t = { s with blk := t.blk, out := t.out } ∧ (lane t (laneOf p.val 17)).lock = true ∧
        ∀ w, w ≠ laneOf p.val 17 → lane t w = lane s w) ∧
    (∀ (p : Fin 16) (lanes : BitVec 24) (stage : Byte),
      let want : Byte := if b.st = 1 ∨ b.st = 2 then 1 else 2
      (stage ≠ want ∨ lost p → exec (.status p lanes stage) s = .next s) ∧
      (stage = want → ¬ lost p →
        ∃ t, exec (.status p lanes stage) s = .next t ∧ t = { s with regs := t.regs, out := t.out, blk := t.blk } ∧
          (∀ j, j < 17 → (lane s (laneOf p.val j)).absent = false →
            (lane t (laneOf p.val j)).lock = bit lanes.toNat j) ∧
          ∀ q : Fin 16, ∀ j, j < 18 → (q ≠ p ∨ j = 17) → lane t (laneOf q.val j) = lane s (laneOf q.val j))) ∧
    (∀ (p : Fin 16) (caps version : Byte),
      let shown (t : State) : Prop := regN t 0x0E8054 = 256 * version.toNat + caps.toNat % 16
      let now (q : Fin 16) : Option Byte := if q = p then some caps else b.caps[q]
      let all (k : Nat) : Prop := ∀ q, present q → ∃ c, now q = some c ∧ bit c.toNat k = true
      let run (rate : Nat) : Prop :=
        ∃ t, exec (.caps p caps version) s = .next t ∧ onlyLink t ∧ shown t ∧ t.blk.st = 4 ∧ t.blk.rateRun = rate ∧ t.blk.profRun = 1
      let held : Prop :=
        ∃ t, exec (.caps p caps version) s = .next t ∧ onlyLink t ∧ shown t ∧ t.blk.st = 9 ∧ Raised [161, 174] s t
      (b.st ≠ 3 → ∃ t, exec (.caps p caps version) s = .next t ∧ t = { s with regs := t.regs } ∧ shown t) ∧
      (b.st = 3 → present p → b.profile = true → bit caps.toNat 0 = true → bit caps.toNat 3 = true →
        ∃ t, exec (.caps p caps version) s = .next t ∧ onlyLink t ∧ shown t ∧ t.blk.st = 3 ∧ t.evt = s.evt) ∧
      (b.st = 3 → present p → b.profile = true → ¬ (bit caps.toNat 0 = true ∧ bit caps.toNat 3 = true) → held) ∧
      (b.st = 3 → present p → b.profile = false → (∀ q, present q → (now q).isSome = true) →
        (all 2 → all 1 → b.rateMax = true → run 3) ∧
        (all 2 → ¬ (all 1 ∧ b.rateMax = true) → all 0 → run 2) ∧
        (¬ all 2 ∨ (¬ (all 1 ∧ b.rateMax = true) ∧ ¬ all 0) → held)) ∧
      (b.st = 3 → present p → b.profile = false → (∃ q, present q ∧ now q = none) →
        ∃ t, exec (.caps p caps version) s = .next t ∧ onlyLink t ∧ shown t ∧ t.blk.st = 3 ∧ t.blk.caps[p] = some caps)) ∧
    (b.st = 3 → b.profile = true →
      ∃ t, exec .negotiateListenEnd s = .next t ∧ onlyLink t ∧ t.regs = s.regs ∧ t.evt = s.evt ∧ t.blk.st = 4 ∧
        t.blk.rateRun = 2 ∧ t.blk.profRun = 2 ∧
        sent t present (fun _ x => x = [0x66, 1, 2, 0, 0, 0, 0, 0]) ∧
        ∀ q : Fin 16, present q → ∀ j, j < 17 → (lane s (laneOf q.val j)).absent = false →
          ∃ n, .control (laneOf q.val j) (trainBlock 2 (laneOf q.val j) n) ∈ t.out) ∧
    (b.atSpare = false →
      (b.st = 1 → ∃ t, exec .bringupStageLimit s = .next t ∧ onlyLink t ∧ (t.blk.st = 2 ∨ t.blk.st = 3) ∧
        ∀ q : Fin 16, present q →
          (lost q → ∀ j, j < 18 → (lane t (laneOf q.val j)).absent = true) ∧
          (¬ lost q → ∀ j, j < 18 → lane t (laneOf q.val j) = lane s (laneOf q.val j))) ∧
      (b.st = 3 → b.profile = false → ∃ t, exec .bringupStageLimit s = .next t ∧ onlyLink t ∧ t.blk.st = 9 ∧ Raised [161, 174] s t) ∧
      (b.st = 2 ∨ b.st = 4 → ∃ t, exec .bringupStageLimit s = .next t ∧ onlyLink t ∧
        (b.st = 2 → t.blk.st = 3 ∧ (b.profile = false →
          sent t (fun q => (lane t (laneOf q.val 17)).absent = false) (fun _ x => x = [0x55, 15, 1, 0, 0, 0, 0, 0]))) ∧ (b.st = 4 → t.blk.atSpare = true) ∧
        ∀ q : Fin 16, present q → ∀ j, j < 17 →
          ((lane t (laneOf q.val j)).absent = true ↔
            (lane s (laneOf q.val j)).absent = true ∨ (lane s (laneOf q.val j)).lock = false ∨ lost q))) ∧
    (b.atSpare = true → b.waking = false → s.job.write = none →
      let dead (q : Fin 16) (j : Nat) : Prop := (lane s (laneOf q.val j)).absent = true
      let fine (q : Fin 16) : Prop := present q ∧
        (∀ j k, j < 16 → k < 16 → dead q j → dead q k → j = k) ∧ ((∃ j, j < 16 ∧ dead q j) → ¬ dead q 16)
      ∃ t, exec .spare s = .next t ∧ onlyLink t ∧ ((∀ q, fine q) → t.blk.st = 5 ∧ Pending t 160) ∧
        (¬ (∀ q, fine q) → t.blk.st = 9 ∧ Pending t 161) ∧ t.blk.lanes = b.lanes ∧
        ∀ q : Fin 16, fine q → ∀ j, t.blk.spare[q] = some j ↔ j < 16 ∧ dead q j)

/-- Acknowledgements, the drain, rest, wake and lost lanes (R216, R229 to R233). -/
def Obligations.LinkAccount : Prop :=
  ∀ s : State, RegsWf s →
    let b := s.blk
    (∀ p : Fin 16, ∃ t, exec (.discardedBlock p) s = .next t ∧ t = { s with regs := t.regs } ∧
      reg t (laneBase (laneOf p.val 17) + 8) = satAdd (reg s (laneBase (laneOf p.val 17) + 8)) 1 ∧
      SameRegsBut [laneBase (laneOf p.val 17) + 8] s t) ∧
    (∀ p : Fin 16, (lane s (laneOf p.val 17)).lock = true →
      (counted s p.val = false → b.st ≠ 6 →
        ∃ t, exec (.returnLaneLockLoss p) s = .next t ∧ t = { s with regs := t.regs, blk := t.blk } ∧
          (lane t (laneOf p.val 17)).lock = false ∧ (∀ w, w ≠ laneOf p.val 17 → lane t w = lane s w) ∧
          SameRegsBut [laneBase (laneOf p.val 17) + 0x0C] s t) ∧
      (counted s p.val = true → writeLive s = false →
        (s.job.write = none ∨ ∀ q : Fin 16, q ≠ p → counted s q.val = false) →
        ∃ t, exec (.returnLaneLockLoss p) s = .next t ∧ (lane t (laneOf p.val 17)).lock = false ∧ Pending t 165 ∧
          (∀ w, w ≠ laneOf p.val 17 → lane t w = lane s w) ∧ t.dram = s.dram ∧ t.eng = s.eng ∧
          t.blk.frontier = b.frontier ∧ (s.job.write = none → t.blk.unsure = b.unsure) ∧
          (s.job.write.isSome = true → t.blk.unsure = true))) ∧
    (∀ (p : Fin 16) (n flags map : Nat), n < 2 ^ 48 → flags < 8 → map < 2 ^ 24 → linkRuns s = true → b.profRun ≠ 2 →
      (lane s (laneOf p.val 17)).lock = true → (lane s (laneOf p.val 17)).absent = false →
      let ack : Bytes := 0xB4 :: (natLe n 6 ++ [BitVec.ofNat 8 flags])
      let detail : Bytes := 0xB8 :: (natLe map 3 ++ [0, 0, 0, 0])
      let right := Check.crc32c (n + (256 + p.val) * 2 ^ 48) (ack.drop 1 ++ detail.drop 1)
      let frame (v : Word) : Instr := .acknowledgementFrame p ack detail (0xE1 :: (natLe v.toNat 4 ++ [0, 0, 0]))
      (∀ v, v ≠ right → s.job.write = none →
        ∃ t, exec (frame v) s = .next t ∧ t = { s with regs := t.regs } ∧
          reg t (laneBase (laneOf p.val 17) + 0x14) = satAdd (reg s (laneBase (laneOf p.val 17) + 0x14)) 1) ∧
      (ackBelow (execOf n) (b.ports[p]).a = true →
        ∃ t, exec (frame right) s = .next t ∧ t = { s with regs := t.regs } ∧ reg t 0x0E8064 = satAdd (reg s 0x0E8064) 1) ∧
      (ackBelow (execOf n) (b.ports[p]).a = false → ackBad s p.val n = false → flags % 2 = 0 → flags / 4 = 0 →
        draining s = false →
        ∃ t, exec (frame right) s = .next t ∧
          t.blk.ports[p] = { a := execOf n, final := if bit flags 1 then some n else (b.ports[p]).final } ∧
          (∀ q : Fin 16, q ≠ p → t.blk.ports[q] = b.ports[q]) ∧ t.job.write = s.job.write ∧ t.dram = s.dram ∧
          (s.job.write = none → t.blk.unsure = b.unsure ∧ t.blk.frontier = b.frontier) ∧
          (s.job.write.isSome = true → counted s p.val = true → t.blk.unsure = false ∧
            (∀ f, t.blk.frontier = some f ↔
              (∃ q : Fin 16, counted s q.val = true ∧ (t.blk.ports[q]).a = some f) ∧
              ∀ q : Fin 16, counted s q.val = true → ∃ g, (t.blk.ports[q]).a = some g ∧ f ≤ g)))) ∧
    (∀ w, s.job.write = some w → w.st = .draining → s.power.resetPending = false → s.job.tests = [] →
      s.cal.tdcWait = none → b.st = 8 → bit (regN s 0x0E8000) 5 = false →
      ∃ t, exec .drainTimeout s = .next t ∧ t.job.write = none ∧ t.blk.st = 5 ∧ t.blk.final = false ∧ Pending t 170 ∧
        reg t 0x0E8060 = satAdd (reg s 0x0E8060) 1 ∧ t.job.frontier = maxFrontier w.f.named b.frontier ∧ t.dram = s.dram ∧
        ∃ r, r ∈ t.journal ∧ r.kind = 2 ∧ r.cseq = w.seq ∧
          (w.ending = none → r.status = 0) ∧ (∀ c, w.ending = some c → r.status = c.status ∧ r.cause = c.code)) ∧
    (∀ v : Word, BarOpen s → v &&& 5 = 0 → b.st = 5 → s.job.write = none →
      ∃ t, exec (.rest v) s = .next t ∧ t = { s with regs := t.regs, evt := t.evt, out := t.out, blk := { b with st := 6 } } ∧
        Raised [171] s t ∧ SameRegsBut [0x0E8000] s t ∧
        ∀ q : Fin 16, ∀ j, j < 17 → (lane s (laneOf q.val j)).absent = false →
          .control (laneOf q.val j) [0xA5, 0, 0, 0, 0, 0, 0, 0] ∈ t.out) ∧
    (∀ v : Word, BarOpen s → v &&& 3 = 0 →
      (b.st = 6 → ∃ t, exec (.wake v) s = .next t ∧ t = { s with regs := t.regs, out := t.out, blk := t.blk } ∧
        t.blk.st = 7 ∧ t.blk.waking = true ∧
        ∀ q : Fin 16, ∀ j, j < 17 → (lane s (laneOf q.val j)).absent = false → .wakeBurst (laneOf q.val j) ∈ t.out) ∧
      (b.st ≠ 6 → ∃ t, exec (.wake v) s = .next t ∧ t = { s with regs := t.regs } ∧ SameRegsBut [0x0E8000] s t)) ∧
    (b.st = 7 → b.atSpare = false →
      ∃ t, exec .wakeLimit s = .next t ∧ t = { s with regs := t.regs, evt := t.evt, blk := t.blk } ∧ t.blk.atSpare = true ∧
        t.blk.st = 7 ∧
        ∀ q : Fin 16, (lane s (laneOf q.val 17)).absent = false → ∀ j, j < 17 →
          ((lane t (laneOf q.val j)).absent = true ↔ (lane s (laneOf q.val j)).absent = true ∨
            (lane s (laneOf q.val j)).lock = false ∨ (lane s (laneOf q.val 17)).lock = false))

/-- The end of a gate judges every sensor: its reading, its plausibility and validity, the substitute reading, and HOLD; a
reading of 115 °C switches every domain but AON off (R406, R407, R409, R412). The demands: the thermal demand rises
after a hot gate unless it rose less than 10 ms ago and falls after 100 ms of cool ones, the power demand follows
POWER_LIMIT, and the step in force follows the highest of the demands and the floor, down only while no write executes
(R409, R410 and the list above R409). Which sensor a shutdown names, and that a fall of the step is one change, are
the model's readings (log entries 85 and 44). -/
def Obligations.HeatControl : Prop :=
  (
  (∀ l m : List Int, m.Perm l → m.Pairwise (· ≤ ·) → median l = m.getD ((l.length - 1) / 2) 0) ∧
  ∀ (counts : List Nat) (s : State), counts.length = 48 → s.power.aon = true → s.cal.sensRun = none → RegsWf s →
    let old (n : Fin 48) : Sensor := s.thm.sensors[n]
    let reading (n : Fin 48) : Int :=
      400 + Int.fdiv ((((old n).n25 : Int) - (counts.getD n.val 0 : Nat)) * (old n).k + 2048) 4096
    let sound (n : Fin 48) : Prop := 1024 ≤ counts.getD n.val 0 ∧ -640 ≤ reading n ∧ reading n ≤ 2400
    let near (n j : Fin 48) : Prop := j.val ∈ neighbours n.val
    let soundNear (n : Fin 48) : List Int :=
      (neighbours n.val).filterMap (fun j => if h : j < 48 then (if decide (1024 ≤ counts.getD j 0) &&
        decide (-640 ≤ reading ⟨j, h⟩) && decide (reading ⟨j, h⟩ ≤ 2400) then some (reading ⟨j, h⟩) else none) else none)
    let trips (x : Sensor) : Prop := 1840 ≤ x.t ∨ (x.plaus = true ∧ 1840 ≤ x.own)
    ∃ t, exec (.sensorGateEnd counts) s = .next t ∧
      (∀ n : Fin 48,
        let x := t.thm.sensors[n]
        x.n = counts.getD n.val 0 ∧ x.own = reading n ∧ (x.plaus = true ↔ sound n) ∧ x.n25 = (old n).n25 ∧ x.k = (old n).k ∧
        (x.valid = true ↔ sound n ∧ ((soundNear n).length < 2 ∨ (reading n - median (soundNear n)).natAbs ≤ 240)) ∧
        (x.valid = true → x.t = reading n) ∧ x.subst = !x.valid ∧
        (x.valid = false → (∀ j, near n j → (t.thm.sensors[j]).valid = false) → x.t = 1840) ∧
        (∀ j, x.valid = false → near n j → (t.thm.sensors[j]).valid = true →
          (∀ i, near n i → (t.thm.sensors[i]).valid = true → reading i ≤ reading j) → x.t = reading j + 160)) ∧
      (t.thm.hold = true ↔ ∃ n : Fin 48, (t.thm.sensors[n]).valid = false) ∧
      ((∀ n : Fin 48, ¬ trips (t.thm.sensors[n])) → t = { s with regs := t.regs, evt := t.evt, thm := t.thm }) ∧
      ((∃ n : Fin 48, trips (t.thm.sensors[n])) → s.power.shutdown = false →
        t.power.shutdown = true ∧ t.power.on = 1 ∧ t.power.aon = true ∧ t.job.write = none ∧ t.tim = s.tim ∧
        t.journal = s.journal ∧ trips (t.thm.sensors[Fin.ofNat 48 t.thm.shutSensor]) ∧ t.thm.shutdowns.head? = some s.tim.up ∧
        reg t 0x150328 = satAdd (reg s 0x150328) 1 ∧ (t.thm.latched = true ↔ 3 ≤ t.thm.shutdowns.length))) ∧
  (
  ∀ s : State, s.power.aon = true → s.thm.thermal ≤ 3 → s.thm.power ≤ 3 → RegsWf s →
    let x := s.thm
    let floor := regBits s 0x150304 1 0
    let limit := regBits s 0x150304 24 16
    let follows (t : State) : Prop :=
      let target := max (max t.thm.thermal t.thm.power) floor
      (s.job.write.isSome = true → t.thm.step = max x.step target) ∧ (s.job.write = none → x.step ≤ 3 → t.thm.step = target) ∧
      t = { s with regs := t.regs, evt := t.evt, thm := t.thm }
    (∀ p vin iin : Nat, p < 65536 → vin < 65536 → iin < 65536 →
      ∃ t, exec (.powerAverage p vin iin) s = .next t ∧ follows t ∧ t.thm.p = p ∧ t.thm.vin = vin ∧ t.thm.iin = iin ∧
        t.thm.thermal = x.thermal ∧ t.thm.sensors = x.sensors ∧
        t.thm.power = (if 10 * limit < p ∧ x.power < 3 then x.power + 1
          else if p < 10 * (limit - 20) ∧ 0 < x.power then x.power - 1 else x.power) ∧
        (10 * limit < p → x.power < 3 → Pending t 255 ∧ reg t 0x15032C = satAdd (reg s 0x15032C) 1)) ∧
    ((x.hold = true ∨ s.cal.sensRun.isSome = true ∨ s.cal.tdcRun.isSome = true ∨ x.thermal = 0 ∨ (∃ n : Fin 48, 1440 ≤ (x.sensors[n]).t)) →
      exec .thermalDemandFall s = .next s) ∧
    (x.hold = false → s.cal.sensRun = none → s.cal.tdcRun = none → 0 < x.thermal → (∀ n : Fin 48, (x.sensors[n]).t < 1440) →
      ∃ t, exec .thermalDemandFall s = .next t ∧ follows t ∧ t.thm.thermal = x.thermal - 1 ∧ t.thm.power = x.power ∧
        t.thm.sensors = x.sensors) ∧
    (∀ counts : List Nat, counts.length = 48 → s.cal.sensRun = none →
      ∃ t, exec (.sensorGateEnd counts) s = .next t ∧
        ((∀ n : Fin 48, (t.thm.sensors[n]).t < 1840 ∧ ((t.thm.sensors[n]).plaus = true → (t.thm.sensors[n]).own < 1840)) →
          follows t ∧ t.thm.power = x.power ∧
          (let hot : Prop := ∃ n : Fin 48, 1520 ≤ (t.thm.sensors[n]).t
           let free : Prop := ∀ d, x.sinceRise = some d → 100000000 ≤ d + 4194304
           (hot → free → x.thermal < 3 → t.thm.thermal = x.thermal + 1) ∧
           (¬ (hot ∧ free ∧ x.thermal < 3) → t.thm.thermal = x.thermal)))))

/-- A low VIN sets WARN and raises event 252 once, its return clears WARN, and after a thermal shutdown a cool module
starts in the manner of a power-on with its time kept (R413, R415). READY, seating, the bulk capacitance, a removal,
the stop of AON and a loss of VIN (R359, R395, R413, R415, R440 to R442). -/
def Obligations.SupplyAndSeating : Prop :=
  (
  ∀ s : State,
    (s.thm.warn = false → ∃ t, exec .vinLow s = .next t ∧ Raised [252] s t ∧
      t = { s with regs := t.regs, evt := t.evt, thm := { s.thm with warn := true } } ∧ SameRegsBut [] s t) ∧
    exec .vinRestored s = .next { s with thm := { s.thm with warn := false } } ∧
    (∀ i : Start,
      (s.power.shutdown = true → s.thm.latched = true → exec (.thermalRestart i) s = .next s) ∧
      ((∃ n : Fin 48, (s.thm.sensors[n]).valid = true ∧ 1360 ≤ (s.thm.sensors[n]).t) → exec (.thermalRestart i) s = .next s) ∧
      (s.power.shutdown = true → s.thm.latched = false → s.power.started = false → s.power.vin = true →
        s.power.seated = true → (∀ n : Fin 48, (s.thm.sensors[n]).valid = true → (s.thm.sensors[n]).t < 1360) →
        ∃ t, exec (.thermalRestart i) s = .next t ∧ t.power.shutdown = false ∧ t.power.started = true ∧
          t.power.thermalStart = true ∧ t.power.on = 0x0000FFFF00FFFF3F ∧ t.power.resetting = true ∧ t.tim = s.tim ∧
          t.thm = s.thm ∧ t.job.write = none ∧ t.job.live = [] ∧ t.power.lastKind = 1 ∧
          ((∀ r, r ∈ s.journal → r.kind ≠ 1) → ∃ r, r ∈ t.journal ∧ r.kind = 6 ∧ r.body.take 2 = [1, 0])))) ∧
  (
  ∀ s : State,
    let p := s.power
    let dark (t : State) : Prop :=
      t.power.on = 1 ∧ t.power.started = false ∧ t.power.ready = false ∧ t.power.resetting = true ∧ t.power.aon = p.aon ∧
        t.job.write = none ∧ t.job.forage = none ∧ t.job.live = [] ∧ t.evt.enabled = false ∧ t.evt.held = [] ∧
        t.journal = s.journal ∧ t.tim = s.tim ∧ t.sec = s.sec ∧ t.thm = s.thm ∧ t.cal = s.cal ∧ t.out = s.out ∧
        t.pending = s.pending ∧ t.dram = [] ∧ t.blk.st = 0 ∧ t.seq.expose = false
    (p.started = true → p.ready = false → p.resetPending = false → p.main = true → p.aon = true →
      ∃ t, exec .ready s = .next t ∧ t = { s with regs := t.regs, evt := t.evt, power := t.power, sec := t.sec } ∧
        t.power = { p with ready := true, resetting := false, thermalStart := false } ∧ SameRegsBut [] s t ∧
        Raised (if p.thermalStart then [233, 251] else [233]) s t ∧
        t.sec = { s.sec with minSvn := if s.sec.fallback ∨ s.sec.recovery then s.sec.minSvn else max s.sec.minSvn s.sec.runSvn }) ∧
    ((p.started = false ∨ p.ready = true ∨ p.resetPending = true ∨ p.main = false ∨ p.aon = false) →
      exec .ready s = .next s) ∧
    (p.removing = false → exec .seatedClose s = .next { s with power := { p with seated := true, aon := p.vin } }) ∧
    (p.removing = true → exec .seatedClose s = .next s) ∧
    (p.aon = true → exec .bulkCharged s = .next { s with power := { p with main := true } }) ∧
    (p.aon = false → exec .bulkCharged s = .next s) ∧
    (p.seated = true → ∃ t, exec .removal s = .next t ∧ dark t ∧ t.power.seated = false ∧ t.power.removing = true) ∧
    (p.seated = false → exec .removal s = .next s) ∧
    (∃ t, exec .vinLoss s = .next t ∧ dark t ∧ t.power.vin = false ∧ t.power.main = false) ∧
    (p.removing = true ∨ p.vin = false →
      exec .aonStop s = .next { s with power := { p with aon := false, removing := false } }) ∧
    (p.removing = false → p.vin = true → exec .aonStop s = .next s))

/-- Refresh, the refresh rate, the tracking of the write delays and the row-activation tables (R326 to R328). Self-refresh
of a group: entry while no job is open, its completion, the exit that a request triggers, and its end (R333). The
bounds of postponed refreshes are the model's reading (log entry 72); the channel of a waking request is free (log
entry 37). -/
def Obligations.RefreshOfMemory : Prop :=
  (
  ∀ (c : Fin 16) (s : State), RegsWf s →
    let x := s.mem.ch[c]
    let onlyCh (t : State) : Prop := ∀ k : Fin 16, k ≠ c → t.mem.ch[k] = s.mem.ch[k]
    (∀ bank : Fin 64,
      let d := bankDebt x bank.val
      let sent : State := { s with out := .refresh c.val bank.val :: s.out }
      let owes (i : Instr) (o : List Output) (n : Int) : Prop :=
        ∃ t, exec i s = .next t ∧ t = { s with out := o, mem := t.mem } ∧ onlyCh t ∧
          (∀ b, bankDebt (t.mem.ch[c]) b = if b = bank.val then n else bankDebt x b) ∧
          t.mem.ch[c] = { x with debt := (t.mem.ch[c]).debt }
      (refreshes s c = false → ∀ how, exec (.refresh c bank how) s = .next s) ∧
      (refreshes s c = true →
        exec (.refresh c bank .issued) s = .next sent ∧
        (d < 4 → owes (.refresh c bank .postponed) s.out (d + 1)) ∧
        (4 ≤ d → exec (.refresh c bank .postponed) s = .next sent) ∧
        (-4 < d → owes (.refresh c bank .pulledIn) (.refresh c.val bank.val :: s.out) (d - 1)) ∧
        (d ≤ -4 → exec (.refresh c bank .pulledIn) s = .next s))) ∧
    (∀ hot : Bool,
      (chReady s c = false ∨ x.twice = hot → exec (.refreshRateRead c hot) s = .next s) ∧
      (chReady s c = true → x.twice ≠ hot →
        ∃ t, exec (.refreshRateRead c hot) s = .next t ∧ t = { s with regs := t.regs, evt := t.evt, mem := t.mem } ∧
          onlyCh t ∧ t.mem.ch[c] = { x with twice := hot } ∧ Raised [196] s t ∧ SameRegsBut [] s t)) ∧
    (∀ drift : List Int,
      (chReady s c = false → exec (.dqsTrack c drift) s = .next s) ∧
      (chReady s c = true →
        ∃ t, exec (.dqsTrack c drift) s = .next t ∧ t = { s with mem := t.mem } ∧ onlyCh t ∧
          t.mem.ch[c] = { x with wr := (t.mem.ch[c]).wr } ∧
          ∀ n : Fin 10, ((t.mem.ch[c]).wr[n]).vref = (x.wr[n]).vref ∧
            ((t.mem.ch[c]).wr[n]).centre ≤ (x.wr[n]).centre + 1 ∧ (x.wr[n]).centre ≤ ((t.mem.ch[c]).wr[n]).centre + 1 + ((x.wr[n]).centre - 127) ∧
            (drift.getD n.val 0 = 0 → (t.mem.ch[c]).wr[n] = x.wr[n]))) ∧
    (∃ t, exec .ratClear s = .next t ∧ t = { s with mem := { s.mem with ch := t.mem.ch } } ∧
      ∀ k : Fin 16, t.mem.ch[k] = { s.mem.ch[k] with rat := [], threshold := regN s 0x100814 % 16384 }) ∧
    (∀ (bank : Fin 64) (row : Fin 131072),
      let old := bankRat x bank.val
      let i : Instr := .rowActivation c bank row
      let tables (t : State) (n : Nat) : Prop :=
        rowCount row.val (bankRat (t.mem.ch[c]) bank.val) = n ∧ onlyCh t ∧
        (∀ b, b ≠ bank.val → bankRat (t.mem.ch[c]) b = bankRat x b) ∧ t.mem.ch[c] = { x with rat := (t.mem.ch[c]).rat }
      let counts (n : Nat) (others : State → Prop) : Prop :=
        (n < x.threshold → ∃ t, exec i s = .next t ∧ tables t n ∧ others t ∧ t = { s with mem := t.mem }) ∧
        (x.threshold ≤ n → ∃ t, exec i s = .next t ∧ tables t 0 ∧ others t ∧
          t = { s with mem := t.mem, regs := t.regs, out := .directedRefresh c.val bank.val row.val :: s.out } ∧
          reg t (memBase c.val + 0x1C) = satAdd (reg s (memBase c.val + 0x1C)) 1 ∧ SameRegsBut [memBase c.val + 0x1C] s t)
      let kept (t : State) : Prop := ∀ r, r ≠ row.val → rowCount r (bankRat (t.mem.ch[c]) bank.val) = rowCount r old
      let listed : Prop := ∃ e, e ∈ old ∧ e.1 = row.val
      (chReady s c = false → exec i s = .next s) ∧
      (chReady s c = true → listed ∨ old.length < 512 → counts (rowCount row.val old + 1) kept) ∧
      (chReady s c = true → ¬ listed → 512 ≤ old.length →
        ∃ e, e ∈ old ∧ (∀ f, f ∈ old → e.2 ≤ f.2) ∧
          counts (e.2 + 1) (fun t => (bankRat (t.mem.ch[c]) bank.val).length = old.length)))) ∧
  (
  ∀ (g : Fin 4) (s : State), RegsWf s →
    let moves (t : State) (src dst : Nat) : Prop :=
      ∀ c : Fin 16, t.mem.ch[c] = if c.val / 4 = g.val ∧ (s.mem.ch[c]).st = src then { s.mem.ch[c] with st := dst } else s.mem.ch[c]
    let others (t : State) : Prop := ∀ h : Fin 4, h ≠ g → t.mem.groups[h] = s.mem.groups[h] ∧ t.mem.waits[h] = s.mem.waits[h]
    (s.job.st = 0 → regBits s 0x100818 19 0 ≠ 0 → powered s (20 + g.val) = true → s.mem.groups[g] = .ready →
      ∃ t, exec (.srIdleEntry g) s = .next t ∧ t = { s with mem := t.mem } ∧ t.mem.groups[g] = .entering ∧ moves t 2 3 ∧ others t) ∧
    (s.job.st ≠ 0 ∨ s.mem.groups[g] ≠ .ready → exec (.srIdleEntry g) s = .next s) ∧
    (s.mem.groups[g] = .entering →
      (∃ t, exec (.srEntryComplete g false) s = .next t ∧ t = { s with regs := t.regs, evt := t.evt, mem := t.mem } ∧
        t.mem.groups[g] = .asleep ∧ moves t 3 4 ∧ others t ∧ Raised [197] s t ∧ SameRegsBut [] s t) ∧
      (∃ t c, exec (.srEntryComplete g true) s = .next t ∧
        t = { s with regs := t.regs, evt := t.evt, mem := t.mem, free := s.free + 1 } ∧ t.mem.groups[g] = .exiting ∧
        t.mem.waits[g] = s.mem.waits[g] ++ [c] ∧ c / 4 = g.val ∧ others t ∧ Raised [197] s t ∧
        reg t (memBase c + 0x24) = satAdd (reg s (memBase c + 0x24)) 1 ∧ SameRegsBut [memBase c + 0x24] s t)) ∧
    (s.mem.groups[g] ≠ .entering → ∀ request, exec (.srEntryComplete g request) s = .next s) ∧
    (s.mem.groups[g] ≠ .exiting → ∀ extra, exec (.srExitComplete g extra) s = .next s) ∧
    (∀ extra : List Nat, s.mem.groups[g] = .exiting →
      ∃ t, exec (.srExitComplete g extra) s = .next t ∧ t = { s with regs := t.regs, evt := t.evt, mem := t.mem } ∧
        t.mem.groups[g] = .ready ∧ moves t 5 2 ∧ t.mem.waits[g] = [] ∧ others t ∧ Raised [198] s t ∧
        SameRegsBut ((s.mem.waits[g]).map (fun c => memBase c + 0x28)) s t ∧
        ∀ c, reg t (memBase c + 0x28) =
          ((s.mem.waits[g]).zip extra).foldl (fun v e => if e.1 = c then satAdd v e.2 else v) (reg s (memBase c + 0x28))))

/-- A DRAM error is corrected and counted, or freezes its channel with its record and ends the pass that executes;
refresh, tracking, the row-activation tables and self-refresh touch no byte of DRAM, no register but their own and no
command (R326 to R333). -/
def Obligations.MemoryErrors : Prop :=
  ∀ (c : Fin 16) (line : LineRef) (s : State), RegsWf s →
    let base := memBase c.val
    let freezes (i : Instr) (kind cls : Nat) (l : LineRef) (counter : Nat) (n : Nat) : Prop :=
      ∃ t, exec i s = .next t ∧ t.mem.ch[c] = { s.mem.ch[c] with st := 6 } ∧
        (∀ k : Fin 16, k ≠ c → t.mem.ch[k] = s.mem.ch[k]) ∧ Pending t 195 ∧ t.dram = s.dram ∧
        regN t (base + 4) = kind + 256 * b2n l.subB + 4096 * (cls % 16) ∧
        reg t (base + 8) = BitVec.ofNat 32 (l.addr / 64 * 64) ∧
        reg t (base + 12) = BitVec.ofNat 32 (l.addr / 64 * 64 / 2 ^ 32) ∧
        (counter ≠ 0 → reg t (base + counter) = satAdd (reg s (base + counter)) n) ∧
        (writeLive s = false → s.job.forage = none → t = { s with regs := t.regs, evt := t.evt, mem := t.mem }) ∧
        (∀ f, s.job.forage = some f → s.power.resetPending = false → ∃ g, t.job.forage = some g ∧ g.fail.isSome = true) ∧
        (∀ w, s.job.write = some w → w.ending = none →
          t.job.write = none ∨ ∃ v, t.job.write = some v ∧ v.ending.isSome = true)
    (lineHere s c line = true →
      freezes (.dramReadError c line false) 1 line.cls line 0 0 ∧
      freezes (.caParityError c line) 2 line.cls line 0 0 ∧
      freezes (.writeCrcError c line true) 3 line.cls line 0x18 1 ∧
      (∃ t, exec (.writeCrcError c line false) s = .next t ∧ t = { s with regs := t.regs } ∧
        reg t (base + 0x18) = satAdd (reg s (base + 0x18)) 1 ∧ SameRegsBut [base + 0x18] s t) ∧
      (∃ t, exec (.dramReadError c line true) s = .next t ∧ t = { s with regs := t.regs, evt := t.evt, mem := t.mem } ∧
        reg t (base + 0x10) = satAdd (reg s (base + 0x10)) 1 ∧ SameRegsBut [base + 0x10] s t ∧
        (∀ k : Fin 16, (t.mem.ch[k]).st = (s.mem.ch[k]).st) ∧
        ((∀ a, (s.mem.ch[c]).corrAt = some a → a + 1000000000 ≤ s.tim.up) → Raised [194] s t) ∧
        (∀ a, (s.mem.ch[c]).corrAt = some a → s.tim.up < a + 1000000000 → t.evt = s.evt))) ∧
    (lineHere s c line = false →
      exec (.dramReadError c line false) s = .next s ∧ exec (.dramReadError c line true) s = .next s ∧
      exec (.caParityError c line) s = .next s ∧ ∀ b, exec (.writeCrcError c line b) s = .next s) ∧
    (∀ n : Nat, chReady s c = true → regBits s 0x10081C 7 0 ≠ 0 →
      (∃ t, exec (.patrolScrub c n none) s = .next t ∧ t = { s with regs := t.regs } ∧
        reg t (base + 0x14) = satAdd (reg s (base + 0x14)) n ∧ SameRegsBut [base + 0x14] s t) ∧
      (dramChannel line.addr = c.val → freezes (.patrolScrub c n (some line)) 4 0 line 0x14 n)) ∧
    (∀ (g : Fin 4) (bank : Fin 64) (row : Fin 131072) (how : RefreshKind) (drift : List Int) (b : Bool) (extra : List Nat),
      let apart (t : State) : Prop :=
        t = { s with regs := t.regs, evt := t.evt, mem := t.mem, out := t.out, free := t.free } ∧ t.dram = s.dram ∧
        ∀ off, (off < 0x010000 ∨ 0x010060 ≤ off) → (off < 0x100000 ∨ 0x110000 ≤ off) → reg t off = reg s off
      (∃ t, exec (.refresh c bank how) s = .next t ∧ apart t ∧ t.regs = s.regs ∧ t.evt = s.evt) ∧
      (∃ t, exec (.refreshRateRead c b) s = .next t ∧ apart t ∧ t.out = s.out) ∧
      (∃ t, exec (.dqsTrack c drift) s = .next t ∧ apart t ∧ t.regs = s.regs ∧ t.out = s.out) ∧
      (∃ t, exec .ratClear s = .next t ∧ apart t ∧ t.regs = s.regs ∧ t.out = s.out) ∧
      (∃ t, exec (.rowActivation c bank row) s = .next t ∧ apart t ∧ t.evt = s.evt) ∧
      (∃ t, exec (.srIdleEntry g) s = .next t ∧ apart t ∧ t.regs = s.regs ∧ t.out = s.out) ∧
      (∃ t, exec (.srEntryComplete g b) s = .next t ∧ apart t ∧ t.out = s.out) ∧
      ((∀ k, k ∈ s.mem.waits[g] → k < 16) →
        ∃ t, exec (.srExitComplete g extra) s = .next t ∧ apart t ∧ t.out = s.out))

/-- Quotes are asked for, taken in order of arrival with the requester's nonce and the measurement registers, and sent to
their port; M7 is extended by the EXTEND registers; a datagram that is no request is dropped and counted (R374, R391,
R396, R403). The nonce of a host quote is that of its GO, and CERT_REQ offsets are multiples of 1 024, by the model's
reading (log entry 74). -/
def Obligations.QuotesAndMeasurement : Prop :=
  ∀ s : State,
    let x := s.sec
    let dropped (i : Instr) : Prop :=
      ∃ t, exec i s = .next t ∧ t = { s with regs := t.regs } ∧ reg t 0x1400CC = satAdd (reg s 0x1400CC) 1 ∧
        SameRegsBut [0x1400CC] s t
    let replies (i : Instr) (type : Byte) (tag : Word) (source : Dword) (body : Bytes) : Prop :=
      let o : Output := .datagram 0x16AC source ([0x47, 0x4D, 1, type] ++ natLe tag.toNat 4 ++ body)
      exec i s = .next { s with out := o :: s.out }
    let quoted (q : Bytes) (port : Nat) (nonce : Bytes) : Prop :=
      field q 0 2 = 0x5147 ∧ byteAt q 2 = 1 ∧ byteAt q 3 = port ∧ field q 8 8 = x.serial.toNat ∧
        field q 16 8 = s.tim.ns.toNat ∧ field q 24 8 = x.gcount % 2 ^ 64 ∧ slice q 40 32 = nonce ∧
        (∀ n : Fin 8, slice q (72 + 48 * n.val) 48 = x.m[n]) ∧ q.drop 464 = Config.attestSign (q.take 464)
    (BarOpen s →
      ((∃ r, r ∈ x.quotes ∧ r.host = true) → exec .quoteGo s = .next s) ∧
      ((∀ r, r ∈ x.quotes → r.host = false) →
        ∃ r : QuoteReq, r.host = true ∧ r.nonce.length = 32 ∧ (∀ i, i < 8 → field r.nonce (4 * i) 4 = regN s (0x140040 + 4 * i)) ∧
          exec .quoteGo s = .next { s with sec := { x with quotes := x.quotes ++ [r] } }) ∧
      (let d : Bytes := (List.range 12).flatMap (fun i => natLe (regN s (0x140080 + 4 * i)) 4)
       exec .extendGo s =
         .next { s with sec := { x with m := x.m.set 7 (Check.sha384 (x.m[7] ++ d)), mgen := x.mgen + 1 } })) ∧
    (∀ (tag : Word) (source : Dword) (nonce : Bytes),
      let full : Prop := 4 ≤ (x.quotes.tail.filter (fun r => !r.host)).length
      (nonce.length = 32 → ¬ full → exec (.quoteReq tag source nonce) s =
        .next { s with sec := { x with quotes := x.quotes ++ [{ host := false, tag := tag, source := source, nonce := nonce }] } }) ∧
      (nonce.length ≠ 32 ∨ full → dropped (.quoteReq tag source nonce))) ∧
    dropped .badMaintenanceDatagram ∧
    (∀ (r : QuoteReq) (rest : List QuoteReq), x.quotes = r :: rest → r.nonce.length = 32 → (∀ n : Fin 8, (x.m[n]).length = 48) →
      ∃ t q, exec .quoteDone s = .next t ∧ quoted q (if r.host then 1 else 2) r.nonce ∧
        t = { s with regs := t.regs, out := t.out, sec := t.sec } ∧ reg t 0x1400D0 = satAdd (reg s 0x1400D0) 1 ∧
        SameRegsBut [0x1400D0] s t ∧
        (r.host = true → t.sec = { x with quotes := rest, quote := q } ∧ t.out = s.out) ∧
        (r.host = false → t.sec = { x with quotes := rest } ∧
          t.out = .datagram 0x16AC r.source ([0x47, 0x4D, 1, 0x81] ++ natLe r.tag.toNat 4 ++ q) :: s.out)) ∧
    (∀ (tag : Word) (source : Dword) (off : BitVec 16),
      (off.toNat % 1024 = 0 → replies (.certReq tag source off) 0x84 tag source
        (natLe Config.certificate.length 2 ++ [0, 0] ++ slice Config.certificate off.toNat 1024)) ∧
      (off.toNat % 1024 ≠ 0 → dropped (.certReq tag source off))) ∧
    (∀ (tag : Word) (source : Dword),
      (x.prop = none → replies (.noticeReq tag source) 0x82 tag source [0, 0, 0, 0, 0, 0, 0, 0]) ∧
      (∀ p, x.prop = some p → p.writing = false → p.opened ≤ s.tim.up →
        let left := (p.window * 1000000000 - (s.tim.up - p.opened)) / 1000000000
        replies (.noticeReq tag source) 0x82 tag source
          ([1, 0, 0, 0] ++ natLe left 4 ++ p.stmt ++ p.sig ++ (if field p.stmt 24 4 ≤ 1024 then p.value else []))))

/-- A signed proposal that meets every check opens and takes the next guard count, any other is refused and counted, its
window ends it, and a firmware image that has been written is verified or discarded (R401 to R403). The refusal code
of a mismatched statement is the model's reading (log entry 32). -/
def Obligations.GuardedProposals : Prop :=
  ∀ s : State, RegsWf s →
    let x := s.sec
    let within (t : State) : Prop :=
      t = { s with regs := t.regs, evt := t.evt, out := t.out, job := t.job, journal := t.journal, sec := t.sec }
    let moved (host n : Nat) (t : State) : Prop :=
      t = { s with
        regs := t.regs, evt := t.evt, out := t.out, job := t.job, journal := t.journal, sec := t.sec,
        dma := (tableMoved host n s).dma }
    let ended (t : State) (q : Nat) : Prop :=
      t.job.live = s.job.live.filter (fun l => l.seq != q) ∧ ∃ r, t.journal.head? = some r ∧ r.kind = 2 ∧ r.cseq = q
    (∀ (l : Live) (block : Bytes), startable s 11 = some l → entryKind16 l.entry = 1 → block.length = field l.entry 32 4 →
      tableReadable s = true →
      let setting := field l.entry 18 2
      let len := field l.entry 20 4
      let stmt := slice block 0 128
      let value := slice block 256 len
      let good : Prop := x.prop = none ∧ (x.hostKey = [] ↔ setting = 0xB) ∧ field stmt 8 8 = x.serial.toNat ∧
        field stmt 16 8 = x.gcount + 1 ∧ slice stmt 32 48 = Check.sha384 value ∧ stmtForm stmt 1 setting len = true ∧
        Ecdsa.verify (if setting = 0xB then slice value 0 96 else x.hostKey) stmt (slice block 128 96) = true
      (good → ∃ t, exec (.setGuardedPropose block) s = .next t ∧ moved (field l.entry 24 8) block.length t ∧ Raised [241] s t ∧ t.journal = s.journal ∧
        t.sec = { x with gcount := x.gcount + 1, prop := t.sec.prop } ∧
        (∃ p, t.sec.prop = some p ∧ p.stmt = stmt ∧ p.value = value ∧ p.sig = slice block 128 96 ∧ p.seq = l.seq ∧
          p.opened = s.tim.up ∧ p.window = x.window ∧ p.writing = false) ∧
        t.job = { s.job with live := t.job.live } ∧ t.job.live.length = s.job.live.length) ∧
      (¬ good → ∃ t, exec (.setGuardedPropose block) s = .next t ∧ moved (field l.entry 24 8) block.length t ∧ t.sec = x ∧ ended t l.seq ∧
        reg t 0x1400C4 = satAdd (reg s 0x1400C4) 1 ∧ ∃ r, t.journal.head? = some r ∧ r.status ≠ 0)) ∧
    (∀ p, x.prop = some p → p.writing = false →
      ∃ t, exec .proposalWindowEnd s = .next t ∧ within t ∧ t.sec = { x with prop := none } ∧ ended t p.seq ∧ Pending t 243 ∧
        reg t 0x1400C8 = satAdd (reg s 0x1400C8) 1 ∧ ∃ r, t.journal.head? = some r ∧ r.status = 5) ∧
    (∀ (p : Proposal) (ok : Bool), x.prop = some p → p.writing = true → stmtSetting p.stmt = 3 →
      ∃ t, exec (.firmwareWriteEnd ok) s = .next t ∧ within t ∧ t.sec.prop = none ∧ ended t p.seq ∧
        (∀ b : Bool, b = x.running → norSlot t b = norSlot s b) ∧
        ((ok = true ∧ imageVerifies x.minSvn p.value = true) →
          norSlot t (!x.running) = p.value ∧ Pending t 242 ∧ (∃ r, t.journal.head? = some r ∧ r.status = 0) ∧
          t.sec.m[3] = Check.sha384 (x.m[3] ++ Check.sha384 p.stmt)) ∧
        (¬ (ok = true ∧ imageVerifies x.minSvn p.value = true) →
          norSlot t (!x.running) = [] ∧ Pending t 243 ∧ (∃ r, t.journal.head? = some r ∧ r.status = 0xC) ∧ t.sec.m = x.m))

/-- A decision with its statement and signature in order applies the proposal's setting or closes the proposal, over the
host link as over the management port (R391, R398, R400, R401, R403). The effect of a setting that the job state
forbids is the model's reading (log entry 74). -/
def Obligations.GuardedDecisions : Prop :=
  ∀ (s : State) (p : Proposal), s.sec.prop = some p → p.writing = false → RegsWf s →
    let x := s.sec
    let code := stmtSetting p.stmt
    let v := field p.value 0 2
    let within (d : Vector Chan 16) (t : State) : Prop :=
      t = { s with
        regs := t.regs, evt := t.evt, out := t.out, job := t.job, journal := t.journal, sec := t.sec, cal := t.cal, dma := d }
    let gone (t : State) : Prop := t.sec.prop = none ∧ ∀ l, l ∈ t.job.live → l.seq ≠ p.seq
    let signed (action : Nat) (key stmt sig : Bytes) : Prop := stmt = withAction action p.stmt ∧ Ecdsa.verify key stmt sig = true
    let maintKey := if code = 0xB then slice p.value 96 96 else x.maintKey
    let hostKey := if code = 0xB then slice p.value 0 96 else x.hostKey
    let allowed : Prop := settingState s p = true ∧ settingValue s p = true
    let plain (y : Sec) (t : State) : Prop := t.sec = { y with m := t.sec.m } ∧ (code ≠ 0xA → t.cal = s.cal)
    let none' : Sec := { x with prop := none, mgen := x.mgen + 1 }
    let applied (d : Vector Chan 16) (t : State) : Prop :=
      within d t ∧ gone t ∧ Pending t 242 ∧ t.sec.m[3] = Check.sha384 (x.m[3] ++ Check.sha384 p.stmt) ∧
      (code = 1 → plain { none' with substLimit := v } t) ∧ (code = 4 → plain { none' with active := v == 1 } t) ∧
      (code = 5 → plain { none' with mgen := x.mgen + 2, hostKey := p.value } t) ∧
      (code = 6 → plain { none' with mgen := x.mgen + 2, maintKey := p.value } t) ∧
      (code = 7 → plain { none' with route := v } t) ∧ (code = 8 → plain { none' with window := v } t) ∧
      (code = 9 → plain { none' with mgen := x.mgen + 2, hostKey := [], maintKey := [] } t) ∧
      (code = 10 → plain none' t ∧ t.cal = { s.cal with newLimits := some p.value }) ∧
      (code = 11 → plain { none' with mgen := x.mgen + 2, hostKey := slice p.value 0 96, maintKey := slice p.value 96 96 } t) ∧
      (code = 2 → plain none' t ∧ t.job.nextSeq = 0 ∧ t.job.eraseHold = false ∧ Pending t 19 ∧
        ∃ r, r ∈ t.journal ∧ r.kind = 8 ∧ r.cseq = p.seq ∧ ∀ q, q ∈ t.journal → q = r ∨ q.kind = 2)
    let writes (d : Vector Chan 16) (t : State) : Prop :=
      let a : Bytes := if x.running then [] else x.norA
      let b : Bytes := if x.running then x.norB else []
      within d t ∧ t.sec = { x with active := x.running, prop := some { p with writing := true }, norA := a, norB := b }
    let closed (d : Vector Chan 16) (t : State) : Prop := within d t ∧ gone t ∧ Pending t 243 ∧ t.sec = { x with prop := none } ∧ t.cal = s.cal
    let decided (d : Vector Chan 16) (i : Instr) (action : Nat) : Prop :=
      (action = 2 → allowed → code ≠ 3 → ∃ t, exec i s = .next t ∧ applied d t) ∧
      (action = 2 → allowed → code = 3 → ∃ t, exec i s = .next t ∧ writes d t) ∧
      (action = 2 → ¬ allowed → ∃ t, exec i s = .next t ∧ closed d t) ∧
      (action ≠ 2 → ∃ t, exec i s = .next t ∧ closed d t)
    let refused (d : Vector Chan 16) (i : Instr) : Prop :=
      ∃ t, exec i s = .next t ∧ within d t ∧ t.sec = x ∧ t.cal = s.cal ∧ reg t 0x1400C4 = satAdd (reg s 0x1400C4) 1
    (∀ (l : Live) (block : Bytes), startable s 11 = some l → block.length = field l.entry 32 4 → tableReadable s = true →
      let d := (tableMoved (field l.entry 24 8) block.length s).dma
      let stmt := slice block 0 128
      let sig := slice block 128 96
      (entryKind16 l.entry = 2 → x.route ≥ 1 → signed 2 maintKey stmt sig → decided d (.setGuardedApprove block) 2) ∧
      (entryKind16 l.entry = 3 → x.route ≥ 1 → signed 3 maintKey stmt sig → decided d (.setGuardedReject block) 3) ∧
      (entryKind16 l.entry = 4 → signed 4 hostKey stmt sig → decided d (.setGuardedWithdraw block) 4) ∧
      (entryKind16 l.entry = 2 → x.route = 0 ∨ ¬ signed 2 maintKey stmt sig → refused d (.setGuardedApprove block)) ∧
      (entryKind16 l.entry = 3 → x.route = 0 ∨ ¬ signed 3 maintKey stmt sig → refused d (.setGuardedReject block)) ∧
      (entryKind16 l.entry = 4 → ¬ signed 4 hostKey stmt sig → refused d (.setGuardedWithdraw block))) ∧
    (∀ (tag : Word) (source : Dword) (body : Bytes), body.length = 224 →
      let stmt := slice body 0 128
      let sig := slice body 128 96
      (x.route ≤ 1 → signed 2 maintKey stmt sig → byteAt stmt 3 = 2 → decided s.dma (.decision tag source body) 2) ∧
      (x.route ≤ 1 → signed 3 maintKey stmt sig → byteAt stmt 3 ≠ 2 → decided s.dma (.decision tag source body) 3) ∧
      (x.route = 2 ∨ ¬ (signed 2 maintKey stmt sig ∨ signed 3 maintKey stmt sig) → refused s.dma (.decision tag source body)))

/-- The servo's states: enabling, master selection, the timeouts, and the steps of ACCEPT and SET; RATE is held (R371,
R372); and NS64 counting on to a multiple of 2^32 with its RATE (R366, R370). Master selection is presumed from IEEE
1588 (log entry 40), and the announce timeout is the model's reading (log entry 86). -/
def Obligations.ServoStates : Prop :=
  ∀ s : State, RegsWf s →
    let x := s.tim
    let steps (i : Instr) (value : Dword) (st : Nat) : Prop :=
      ∃ t, exec i s = .next t ∧ t = { s with regs := t.regs, evt := t.evt, tim := t.tim } ∧ t.tim.ns = value ∧
        t.tim.st = st ∧ t.tim.rate = x.rate ∧ t.tim.up = x.up ∧ Pending t 235 ∧ reg t 0x130068 = satAdd (reg s 0x130068) 1 ∧
        SameRegsBut [0x130068] s t ∧ (Pending t 226 ↔ Pending s 226 ∨ value.toNat / 2 ^ 32 ≠ x.ns.toNat / 2 ^ 32)
    (∀ v : Word, BarOpen s →
      ∃ t, exec (.ptpCtlWrite v) s = .next t ∧ t = { s with regs := t.regs, tim := t.tim } ∧ SameRegsBut [0x130018] s t ∧
        t.tim.rate = x.rate ∧ t.tim.ns = x.ns ∧ t.tim.up = x.up ∧
        (v.toNat % 2 = 0 → t.tim.st = 0) ∧ (v.toNat % 2 = 1 → x.st = 0 → t.tim.st = 1 ∧ t.tim.master = none)) ∧
    (∀ m : Announce,
      (ptpTaken s m.transport m.domain m.sdoId = false → exec (.announce m) s = .next s) ∧
      (ptpTaken s m.transport m.domain m.sdoId = true →
        ∃ t, exec (.announce m) s = .next t ∧ t = { s with regs := t.regs, evt := t.evt, tim := t.tim } ∧
          t.tim.rate = x.rate ∧ t.tim.ns = x.ns ∧ (m.steps < 255 → t.tim.master.isSome = true) ∧
          (∀ k, x.heard = [] → x.master = none → m.steps < 255 → t.tim.master = some k → k = m) ∧
          (∀ k, t.tim.master = some k → k ∈ t.tim.heard → fromMaster s k.source k.port = false →
            t.tim.st = 2 ∧ t.tim.acc = 0 ∧ t.tim.ds = [] ∧ Raised [238] s t) ∧
          (∀ k, t.tim.master = some k → fromMaster s k.source k.port = true → t.tim.st = x.st ∧ t.evt = s.evt))) ∧
    (x.st ≠ 0 → s.power.aon = true → (∀ k, k ∈ x.heard → fromMaster s k.source k.port = true) →
      ∃ t, exec .announceTimeout s = .next t ∧ t = { s with regs := t.regs, evt := t.evt, tim := t.tim } ∧ t.tim.st = 4 ∧
        t.tim.rate = x.rate ∧ t.tim.ns = x.ns ∧ (x.st ≠ 4 → Raised [237] s t)) ∧
    ((x.st = 2 ∨ x.st = 3) →
      ∃ t, exec .syncTimeout s = .next t ∧ t = { s with regs := t.regs, evt := t.evt, tim := t.tim } ∧ t.tim.st = 4 ∧
        t.tim.rate = x.rate ∧ t.tim.ns = x.ns ∧ t.tim.master = x.master ∧ Raised [237] s t) ∧
    (BarOpen s →
      (x.st = 5 → steps .accept (x.ns - BitVec.ofInt 64 x.pendStep) 2) ∧ (x.st ≠ 5 → exec .accept s = .next s) ∧
      (x.st = 0 → steps .timSet (BitVec.ofNat 64 (reg64 s 0x130008)) 0) ∧ (x.st ≠ 0 → exec .timSet s = .next s)) ∧
    (s.power.aon = true → x.frac < nsUnits → x.rate.natAbs ≤ 128000000 →
      ∃ t n, exec .timeWrap s = .next t ∧
        t = { s with
          regs := t.regs, evt := t.evt, tim := { x with ns := t.tim.ns, frac := t.tim.frac, up := x.up + n } } ∧
        ((t.tim.ns - x.ns).toNat : Int) * 256000000000 + t.tim.frac = x.frac + n * (256000000000 - x.rate) ∧
        t.tim.frac < nsUnits ∧ t.tim.ns.toNat / 2 ^ 32 = (x.ns.toNat / 2 ^ 32 + 1) % 2 ^ 32 ∧ t.tim.ns.toNat % 2 ^ 32 ≤ 1 ∧
        (x.rate = 0 → n = 2 ^ 32 - x.ns.toNat % 2 ^ 32 ∧ t.tim.ns.toNat % 2 ^ 32 = 0) ∧
        Raised [226] s t ∧ SameRegsBut [] s t)

/-- An exchange of Sync, Follow_Up, Delay_Req and Delay_Resp gives the path delay and the offset, which correct RATE;
three large offsets in a row step the time or, with a path change, make the servo SUSPECT (R368 to R371). That o uses
the path delay held before is the model's reading (log entry 86). -/
def Obligations.ServoExchange : Prop :=
  (∀ l : List Int, l ≠ [] → 2 * l.length * meanOf l ≤ 2 * l.sum + l.length ∧
    2 * l.sum + l.length < 2 * l.length * (meanOf l + 1)) ∧
  ∀ s : State, RegsWf s →
    let x := s.tim
    let asymmetry := signed 32 (regN s 0x130038)
    let latency := if x.speed = 2 then reg s 0x130040 else reg s 0x13003C
    let stamped (err : Int) : Int := (x.ns.toNat : Int) + (if x.speed = 2 then clamp err (-3) 3 else clamp err (-4) 4)
    let bound := regN s 0x130030 % 65536
    let tolerance := regN s 0x130030 / 65536
    let gainP := regN s 0x130034 / 65536
    let gainI := regN s 0x130034 % 65536
    (∀ m : SyncMsg, ptpTaken s m.transport m.domain m.sdoId = true →
      (m.twoStep = false → ∃ t, exec (.sync m) s = .next t ∧ t = { s with regs := t.regs } ∧
        reg t 0x130064 = satAdd (reg s 0x130064) 1 ∧ SameRegsBut [0x130064] s t) ∧
      (m.twoStep = true → fromMaster s m.source m.port = true → -7 ≤ m.logInterval → m.logInterval ≤ 1 → x.st ≠ 4 →
        exec (.sync m) s = .next { s with tim := { x with
          sync := some (m.seq, stamped m.err - (latency.toNat / 65536 : Nat), m.correction) } })) ∧
    (∀ err : Int, x.st ≠ 0 → x.master.isSome = true → x.speed ≠ 0 → s.power.aon = true →
      exec (.delayReq err) s = .next { s with
        out := .ptpDelayReq (regBits s 0x130018 1 1) x.reqSeq :: s.out,
        tim := { x with req := some (x.reqSeq, stamped err + (latency.toNat % 65536 : Nat)), reqSeq := (x.reqSeq + 1) % 65536 } }) ∧
    (∀ (m : DelayResp) (t3 : Int), ptpTaken s m.transport m.domain m.sdoId = true → fromMaster s m.source m.port = true →
      x.req = some (m.seq, t3) →
      exec (.delayResp m) s = .next { s with tim := { x with
        req := none, q := some (Int.fdiv (((m.receive : Int) - t3) * 65536 - m.correction + 32768) 65536) } }) ∧
    (∀ (m : FollowUp) (t2 c q : Int), ptpTaken s m.transport m.domain m.sdoId = true → fromMaster s m.source m.port = true →
      x.sync = some (m.seq, t2, c) → x.q = some q → x.st = 3 → x.ds ≠ [] →
      let mm := Int.fdiv ((t2 - m.origin - asymmetry) * 65536 - (c + m.correction) + 32768) 65536
      let d := Int.fdiv (mm + (q + asymmetry) + 1) 2
      let o := mm - x.dbar
      let ds := (d :: x.ds).take (regBits s 0x130018 23 17)
      let valid (t : State) : Prop :=
        exec (.followUp m) s = .next t ∧ t = { s with regs := t.regs, evt := t.evt, tim := t.tim } ∧ t.tim.offset = o ∧
          reg t 0x130060 = satAdd (reg s 0x130060) 1 ∧ t.tim.sync = none
      let acc := clamp (x.acc + o * gainI) (-128000000) 128000000
      let held := match x.large with | [] => x.dbar | _ => x.dbarHeld
      let heldDs := match x.large with | [] => x.ds | _ => x.dsHeld
      ((o.natAbs ≤ bound ∨ x.large.length < 2) →
        ∃ t, valid t ∧ t.tim.st = 3 ∧ t.tim.ns = x.ns ∧ t.tim.ds = ds ∧ t.tim.dbar = meanOf ds ∧ t.tim.acc = acc ∧
          t.tim.rate = clamp (acc + o * gainP) (-128000000) 128000000 ∧ t.evt = s.evt) ∧
      (bound < o.natAbs → x.large.length = 2 →
        let three := (o, d, mm) :: x.large
        let moved : Prop := ∀ e, e ∈ three → tolerance < (e.2.1 - held).natAbs
        (moved → ∃ t, valid t ∧ t.tim.st = 5 ∧ t.tim.rate = x.rate ∧ t.tim.ns = x.ns ∧ t.tim.dbar = held ∧
          t.tim.ds = heldDs ∧
          t.tim.pendStep = meanOf (three.map (fun e => e.2.2 - e.2.1)) ∧ Raised [236] s t) ∧
        (¬ moved → ∃ t, valid t ∧ t.tim.st = 3 ∧ t.tim.acc = x.acc ∧ t.tim.rate = x.rate ∧
          t.tim.ns = x.ns + BitVec.ofInt 64 (-(meanOf (three.map (·.1)))) ∧ Pending t 235)))

/-- The management port and SMBus: link changes, ARP, echo, and the six commands, a wrong packet error code being ignored
(R373, R375). An FRU read ends at byte 2 047 and TEMP_MAX is rounded down by the model's reading (log entry 87). -/
def Obligations.ManagementAndSmbus : Prop :=
  ∀ s : State, s.power.aon = true →
    let answers (i : Instr) (b : Bytes) : Prop := exec i s = .next { s with out := .smbReply b :: s.out }
    let status : Nat := 1 + 2 * b2n s.power.ready + 4 * (if s.thm.step = 0 then 0 else 1) + 8 * b2n s.power.shutdown +
      16 * b2n s.thm.latched
    (∀ speed : Fin 3,
      (s.tim.speed = speed.val → exec (.mgmtLinkChange speed) s = .next s) ∧
      (s.tim.speed ≠ speed.val → ∃ t, exec (.mgmtLinkChange speed) s = .next t ∧ Raised [239] s t ∧
        t = { s with regs := t.regs, evt := t.evt, tim := { s.tim with speed := speed.val } } ∧ SameRegsBut [] s t)) ∧
    (∀ (target : Word) (source : Dword) (payload : Bytes),
      (s.tim.speed ≠ 0 → target = reg s 0x130050 →
        exec (.arpRequest target source) s = .next { s with out := .arpReply source :: s.out } ∧
        exec (.icmpEcho target source payload) s = .next { s with out := .echoReply source payload :: s.out }) ∧
      (s.tim.speed = 0 ∨ target ≠ reg s 0x130050 →
        exec (.arpRequest target source) s = .next s ∧ exec (.icmpEcho target source payload) s = .next s)) ∧
    (∀ pec : Sys2Proof.Pec, pec ≠ .bad →
      answers (.smbStatus pec) (natLe status 2) ∧ answers (.smbVin pec) (natLe s.thm.vin 2) ∧ answers (.smbPower pec) (natLe s.thm.p 2) ∧
      (∀ h, s.thm.tempMax = some h → -524288 ≤ h → h < 524288 → ∃ b, answers (.smbTempMax pec) b ∧ sfield b 0 2 = Int.fdiv h 16) ∧
      (s.thm.tempMax = none → ∃ b : Bytes, b.length = 2 ∧
        exec (.smbTempMax pec) s = .next { s with out := .smbReply b :: s.out, free := s.free + 1 }) ∧
      (∀ (off : BitVec 16) (len : Nat), len ≤ 32 → off.toNat + len ≤ 2048 →
        answers (.smbFruRead off len pec) ((List.range len).map (fun i => Config.fru (off.toNat + i))))) ∧
    (∀ (v off : BitVec 16) (len : Nat),
      exec (.smbStatus .bad) s = .next s ∧ exec (.smbVin .bad) s = .next s ∧ exec (.smbPower .bad) s = .next s ∧
      exec (.smbTempMax .bad) s = .next s ∧ exec (.smbFruRead off len .bad) s = .next s ∧
      exec (.smbResetReq v .bad) s = .next s ∧ exec (.smbResetReq v .absent) s = .next s ∧
      (v ≠ 0x9D3C → exec (.smbResetReq v .good) s = .next s)) ∧
    (s.power.resetting = false → s.job.write = none →
      ∃ t, exec (.smbResetReq 0x9D3C .good) s = .next t ∧ t.power.resetPending = true ∧ t.power.resetting = true ∧
        t.power.ready = false ∧ t.power.lastKind = 2 ∧ reg t 0x130074 = satAdd (reg s 0x130074) 1 ∧ t.dram = s.dram ∧
        t.job.live = [] ∧ t.job.forage = none ∧ (s.job.live = [] → ∃ r, t.journal.head? = some r ∧ r.kind = 6))

/-- The event ring: its enable, the return of entries, and the writing of a held entry with its fields, the tail, PHASE
and ESEQ (R426, R428, R429). A vector's message follows its entries and keeps the moderation gap; a masked vector's is
left pending (R353, R430). Channel 2 carries the event ring by the model's reading (log entry 21). -/
def Obligations.EventRingAndMessages : Prop :=
  (
  ∀ s : State, RegsWf s →
    let x := s.evt
    let base := reg64 s 0x010000
    let log := regN s 0x010008 % 16
    (BarOpen s →
      (x.enabled = true → exec .evtRingEnable s = .next s) ∧
      (x.enabled = false → base % 64 ≠ 0 → exec .evtRingEnable s = .next { s with evt := { x with error := 1 } }) ∧
      (x.enabled = false → base % 64 = 0 → (log < 6 ∨ 14 < log) →
        exec .evtRingEnable s = .next { s with evt := { x with error := 2 } }) ∧
      (x.enabled = false → base % 64 = 0 → 6 ≤ log → log ≤ 14 →
        ∃ t, exec .evtRingEnable s = .next t ∧ t = { s with regs := t.regs, evt := t.evt } ∧
          t.evt = { x with enabled := true, error := 0, base := base, log2 := log, tail := 0, phase := true } ∧
          reg t 0x010010 = 0 ∧ ∀ off, off ≠ 0x010010 → reg t off = reg s off) ∧
      (∀ v : Word,
        ∃ t, exec (.evtRingHeadWrite v) s = .next t ∧ t = { s with regs := t.regs } ∧
          reg t 0x010010 &&& 0x3FFF = v &&& 0x3FFF ∧ ∀ off, off ≠ 0x010010 → reg t off = reg s off)) ∧
    (∀ h : HeldEvent, entryCanGo s = true → nextEntry s = some h →
      ∃ t b, exec .eventEntryWrite s = .next t ∧ t = { s with out := t.out, evt := t.evt } ∧
        .evtEntry (x.base + 32 * x.tail) b ∈ t.out ∧ b.length = 32 ∧ field b 0 2 = h.source % 65536 ∧
        bit (byteAt b 2) 0 = x.phase ∧ bit (byteAt b 2) 2 = h.test ∧ (bit (byteAt b 2) 1 = true ↔ 0 < x.lostSince) ∧
        field b 4 4 = h.stamp.toNat ∧ field b 12 4 = h.info % 2 ^ 32 ∧ field b 16 8 = h.cseq % 2 ^ 64 ∧
        field b 24 8 = x.eseq.toNat ∧ t.evt.eseq = x.eseq + 1 ∧ t.evt.lostSince = 0 ∧
        t.evt.tail = (x.tail + 1) % 2 ^ x.log2 ∧ (t.evt.tail ≠ 0 → t.evt.phase = x.phase) ∧
        (t.evt.tail = 0 → t.evt.phase = !x.phase) ∧ (∀ k, k ∈ t.evt.held ↔ k ∈ x.held ∧ k.id ≠ h.id)) ∧
    ((x.enabled = false ∨ reachable s = false ∨ evtFull s = true) → exec .eventEntryWrite s = .next s)) ∧
  (
  ∀ (vec : Fin 64) (s : State) (d : DueMessage) (rest : List DueMessage), readyMessages s vec.val = d :: rest →
    let v := s.hif.msix[vec]
    (reachable s = false ∨ gapOver s vec = false → exec (.msixMessage vec) s = .next s) ∧
    (reachable s = true → gapOver s vec = true → s.hif.msixOn = true →
      (s.hif.funcMask = false → v.mask = false →
        ∃ t, exec (.msixMessage vec) s = .next t ∧ t = { s with out := .msix v.addr v.data :: s.out, evt := t.evt } ∧
          t.evt.lastSent[vec] = some s.tim.up ∧ (∀ w : Fin 64, w ≠ vec → t.evt.lastSent[w] = s.evt.lastSent[w]) ∧
          d ∉ t.evt.due ∧ (∀ e, e ∈ t.evt.due → e ∈ s.evt.due) ∧ (∀ e, e ∈ s.evt.due → e.vec ≠ vec.val → e ∈ t.evt.due) ∧
          t.evt.held = s.evt.held) ∧
      (s.hif.funcMask = true ∨ v.mask = true →
        ∃ t, exec (.msixMessage vec) s = .next t ∧ t = { s with evt := { s.evt with due := t.evt.due }, hif := t.hif } ∧
          (t.hif.msix[vec]).pend = true ∧ d ∉ t.evt.due ∧ (∀ w : Fin 64, w ≠ vec → t.hif.msix[w] = s.hif.msix[w]))))

/-- A power-on starts everything but the journal, the flash, the calibration records and the guarded store afresh; a
module reset is requested by its key, halts the write, ends the other commands and then resets every domain but AON
(R312, R358, R359). The order of a start's records and what a reset keeps beside R358 are the model's readings (log
entries 77 and 78). -/
def Obligations.StartsAndModuleReset : Prop :=
  ∀ s : State, RegsWf s →
    let p := s.power
    let stored (t : State) : Prop :=
      t.sec.norA = s.sec.norA ∧ t.sec.norB = s.sec.norB ∧ t.sec.minSvn = s.sec.minSvn ∧ t.sec.gcount = s.sec.gcount ∧
        t.sec.hostKey = s.sec.hostKey ∧ t.sec.maintKey = s.sec.maintKey ∧ t.sec.substLimit = s.sec.substLimit ∧
        t.sec.route = s.sec.route ∧ t.sec.window = s.sec.window ∧ t.sec.active = s.sec.active ∧ t.sec.prop = none ∧
        t.cal.limits = s.cal.limits ∧
        (∀ q : Fin 5, q.val ≠ 2 → (t.cal.recs[q]).good = (s.cal.recs[q]).good ∧ (t.cal.recs[q]).count = (s.cal.recs[q]).count)
    let started (i : Start) (t : State) : Prop :=
      t.power.started = true ∧ t.power.ready = false ∧ t.power.resetting = true ∧ t.power.resetPending = false ∧
        t.job.write = none ∧ t.job.forage = none ∧ t.job.live = [] ∧ t.job.cmdOn = false ∧ t.job.cplOn = false ∧
        t.intake.bind = none ∧ t.pec.kernel.cur = none ∧ t.bmu.beam.cur = none ∧ t.bel.tiles = [] ∧ t.blk.st = 0 ∧
        t.seq.expose = false ∧ (∀ a : Fin 4, (t.axes[a]).count = 0 ∧ (t.axes[a]).referenced = false) ∧
        (∀ c : Fin 16, chPowered t c = true → (t.mem.ch[c]).st = 2 ∨ (t.mem.ch[c]).st = 7) ∧
        (i.sweeps = [] → ∀ c : Fin 16, chPowered t c = true → (t.mem.ch[c]).st = 2) ∧
        (∀ e : Fin 148, engPowered t e = true → (t.eng[e]).testing = false ∧ (∀ r, getG (t.eng[e]) r = 0) ∧
          reg t (engBase e + 0x18) = startSig t i e) ∧ t.pending = s.pending
    (∀ i : Start,
      (p.started = true ∨ (p.shutdown = true ∧ p.vin = true) → exec (.powerOn i) s = .next s) ∧
      (p.started = false → ¬ (p.shutdown = true ∧ p.vin = true) → p.seated = true →
        ∃ t, exec (.powerOn i) s = .next t ∧ started i t ∧ stored t ∧ t.power.lastKind = 1 ∧ t.tim.ns = 0 ∧ t.tim.rate = 0 ∧
          t.power.on = 0x0000FFFF00FFFF3F ∧ t.thm.latched = false ∧ t.power.shutdown = false)) ∧
    (∀ v : Word, HostOpen s →
      (v.toNat % 65536 ≠ 0x9D3C ∨ p.resetting = true → exec (.glbReset v) s = .next s) ∧
      (v.toNat % 65536 = 0x9D3C → p.resetting = false →
        ∃ t, exec (.glbReset v) s = .next t ∧ t.power.resetting = true ∧ t.power.ready = false ∧ t.power.lastKind = 2 ∧
          t.dram = s.dram ∧
          (s.job.write = none → t.power.resetPending = true ∧ t.job.live = [] ∧ t.job.forage = none ∧ t.sec.prop = none) ∧
          (∀ w, s.job.write = some w → w.ending = none →
            t.job.write = none ∨ ∃ v, t.job.write = some v ∧ v.ending.isSome = true))) ∧
    (∀ i : Start,
      (p.resetPending = false ∨ s.job.write.isSome = true → exec (.moduleResetProceed i) s = .next s) ∧
      (p.resetPending = true → s.job.write = none →
        ∃ t, exec (.moduleResetProceed i) s = .next t ∧ started i t ∧ stored t ∧ t.tim = s.tim ∧ t.power.on = p.on ∧
          t.hif.gen = s.hif.gen + 1 ∧ t.hif.linkUp = s.hif.linkUp ∧ t.job.id = s.job.id ∧ t.job.nextSeq = s.job.nextSeq ∧
          t.seq.ref = s.seq.ref ∧ t.journal = s.journal ∧ t.hive.log = [] ∧ t.seq.slow = false ∧ Pending t 41 ∧
          (s.seq.slow = true → Pending t 138) ∧
          (∀ g : Fin 4, powered s (20 + g.val) = true → Pending t 198 ∧ (s.mem.groups[g] ≠ .asleep → Pending t 197))))

/-- A function reset disables the rings, returns the stored BAR0 fields to their reset values save those kept, and keeps
every accepted command and the memory; a lost host link is one, counted as such (R22, R289, R356, R360). MSI-X and Bus
Master Enable return to reset by the PCIe specification (log entry 3); log entry 79 holds the model's readings. -/
def Obligations.FunctionResets : Prop :=
  ∀ s : State, RegsWf s →
    let cleared (t : State) (extra : List Nat) : Prop :=
      t.job.cmdOn = false ∧ t.job.cplOn = false ∧ t.job.cmdHead = 0 ∧ t.job.cmdTail = 0 ∧ t.job.cplHead = 0 ∧ t.job.cplTail = 0 ∧
        t.job.cplQ = [] ∧ t.job.live = s.job.live ∧ t.job.write = s.job.write ∧ t.job.forage = s.job.forage ∧
        t.job.nextSeq = s.job.nextSeq ∧ t.job.st = s.job.st ∧ t.job.slots = s.job.slots ∧ t.evt.enabled = false ∧
        t.evt.held = [] ∧ t.hif.gen = s.hif.gen + 1 ∧ t.hif.bme = false ∧ t.latch = [] ∧ t.dram = s.dram ∧ t.eng = s.eng ∧
        t.comb = s.comb ∧ t.axes = s.axes ∧
        t.seq = { s.seq with slow := t.seq.slow } ∧ (s.job.write = none → t.seq.slow = false) ∧ t.blk = s.blk ∧ t.bel = s.bel ∧ t.tim = s.tim ∧ t.sec = s.sec ∧
        t.power.lastKind = 3 ∧ t.power.on = s.power.on ∧ t.crc = State.reset.crc ∧ t.hif.timeout = 0 ∧
        (∃ r, t.journal.head? = some r ∧ r.kind = 6) ∧
        (∀ c : Fin 3, (t.dma[13 + c.val]).on = false ∧ (t.dma[13 + c.val]).desc = none) ∧
        (∀ f, f ∈ t.intake.frames ↔ f ∈ s.intake.frames ∧ f.st ≠ .fetching) ∧
        (∀ off, off ∉ extra → off ≠ 0x170024 → off ≠ 0x01001C → ¬ (0x010040 ≤ off ∧ off < 0x010060) →
          reg t off = RegMap.afterFunction off (reg s off)) ∧
        reg t 0x170024 = 1 ∧ Pending t 228 ∧ (Pending t 229 ↔ reachable s = true)
    (powered s 1 = true → ∃ t, exec .functionReset s = .next t ∧ cleared t [] ∧ t.hif.linkUp = s.hif.linkUp) ∧
    (powered s 1 = false → exec .functionReset s = .next s) ∧
    (s.hif.linkUp = true → ∃ t, exec .hostLinkDown s = .next t ∧ cleared t [0x170020] ∧ t.hif.linkUp = false ∧
      t.hif.width = 0 ∧ t.hif.speed = 0 ∧ reg t 0x170020 = 1 ∧ Pending t 225) ∧
    (s.hif.linkUp = false → exec .hostLinkDown s = .next s)

/-- The host link comes up, becomes reachable or unreachable, and its read errors are handled by channel (R349, R350, R356
to R358). The memory window: a read answers with the bytes of module DRAM, a write changes exactly its range, is
dropped while a job is open, and what cannot be served is an Unsupported Request; and the MSI-X table (R321, R352,
R353). What BIND_STREAM and SET_GUARDED reads do is the model's reading (log entry 27), and an access that cannot be
served is an Unsupported Request by its choice (log entry 80). -/
def Obligations.HostLinkAndWindow : Prop :=
  (
  ∀ s : State,
    let x := s.hif
    let quiet : Prop := ∀ v : Fin 64, (x.msix[v]).pend = false
    let onlyHif (t : State) : Prop := t = { s with regs := t.regs, evt := t.evt, out := t.out, hif := t.hif }
    let counted (t : State) : Prop := reg t 0x17002C = satAdd (reg s 0x17002C) 1
    exec .perstDeasserted s = .next { s with hif := { x with perstOff := true } } ∧
    (∀ gen width : Nat,
      (powered s 1 = true → x.linkUp = false →
        ∃ t, exec (.hostLinkUp gen width) s = .next t ∧ onlyHif t ∧ t.hif.linkUp = true ∧ t.hif.speed = gen ∧
          t.hif.width = width ∧ Raised (if gen < 5 ∨ width < 16 then [224, 227] else [224]) s t) ∧
      (powered s 1 = false ∨ x.linkUp = true → exec (.hostLinkUp gen width) s = .next s)) ∧
    (∀ bme d0 : Bool, powered s 1 = true →
      ∃ t, exec (.reachabilityChange bme d0) s = .next t ∧ onlyHif t ∧ t.hif.bme = bme ∧ t.hif.d0 = d0 ∧ t.hif.linkUp = x.linkUp ∧
        (quiet → t.hif = { x with bme := bme, d0 := d0 } ∧ t.out = s.out) ∧
        Raised (if reachable s = true ∧ (bme = false ∨ d0 = false) then [229] else []) s t) ∧
    (readsEntries s = true → ∃ t, exec (.hostCompletionError 0) s = .next t ∧ counted t ∧
      t = { s with regs := t.regs, job := { s.job with hostErr := true } }) ∧
    (exec (.hostCompletionError 1) s = .next s ∧ exec (.hostCompletionError 2) s = .next s) ∧
    (∀ c : Fin 16, 3 ≤ c.val → c.val ≤ 10 →
      ((s.dma[c]).page = none → exec (.hostCompletionError c) s = .next s) ∧
      (∀ p f, (s.dma[c]).page = some p → frameOf s p = some f → f.retry = false → reachable s = true →
        ∃ t, exec (.hostCompletionError c) s = .next t ∧ counted t ∧ Raised [32] s t ∧
          reg t 0x040024 = satAdd (reg s 0x040024) 1 ∧
          t = { s with regs := t.regs, evt := t.evt, intake := { s.intake with frames := t.intake.frames } } ∧
          ∃ g, g ∈ t.intake.frames ∧ g.page = p ∧ g.retry = true)) ∧
    (∀ c : Fin 16, c.val = 11 ∨ c.val = 12 → ∀ l, loadUnderWay s = some l → tableReads s c l.seq = true →
      ∃ t, exec (.hostCompletionError c) s = .next t ∧ counted t ∧ t.job.loadErr = some l.seq ∧ t.job.live = s.job.live ∧
        t = { s with regs := t.regs, dma := t.dma, job := t.job }) ∧
    (∀ (c : Fin 16) (h p : Nat), 13 ≤ c.val → (s.dma[c]).on = true → (s.dma[c]).st < 2 → (s.dma[c]).head = h → (s.dma[c]).tail = p →
      h ≠ p → reachable s = true →
      ∃ t, exec (.hostCompletionError c) s = .next t ∧ counted t ∧ Raised [22] s t ∧ (t.dma[c]).st = 4 ∧ (t.dma[c]).err = 2 ∧
        (t.dma[c]).head = h ∧ (t.dma[c]).desc = none ∧ (∀ k : Fin 16, k ≠ c → t.dma[k] = s.dma[k]) ∧
        t = { s with regs := t.regs, evt := t.evt, dma := t.dma }) ∧
    (∀ q, s.job.loadErr = some q → reachable s = true →
      (∃ t, exec (.tableLoadReread false) s = .next t ∧ t.job.loadErr = none ∧ t.job.live = s.job.live ∧ t.regs = s.regs ∧
        t.dram = s.dram ∧ t.journal = s.journal) ∧
      (∃ t, exec (.tableLoadReread true) s = .next t ∧ t.job.loadErr = none ∧ counted t ∧ t.dram = s.dram ∧
        t.job.live = s.job.live.filter (fun l => l.seq != q) ∧
        ∃ r, t.journal.head? = some r ∧ r.kind = 2 ∧ r.cseq = q ∧ r.status = 0xC)) ∧
    (reachable s = false → ∀ err, exec (.tableLoadReread err) s = .next s) ∧
    (s.job.hostErr = true → s.job.cmdOn = true → reachable s = true →
      (∃ t, exec (.cmdRingReread none) s = .next t ∧ counted t ∧ t = { s with regs := t.regs }) ∧
      ∀ (b : Bytes) (target : Byte), b.length = 64 →
        let good : State := { s with job := { s.job with hostErr := false } }
        ∃ t, exec (.cmdRingReread (some ⟨b, target⟩)) s = .next t ∧
          (s.job.retry = false → exec (.commandEntryRead ⟨b, target⟩) good = .next t) ∧
          (s.job.retry = true → exec (.cmdRetry ⟨b, target⟩) good = .next t))) ∧
  (
  ∀ s : State, powered s 1 = true →
    (∀ off len : Nat,
      let a := regN s 0x170004 % 1024 * 2 ^ 30 + off
      (rangeServed s a len = true → ∃ t, exec (.bar2Read off len) s = .next t ∧
        t.out = .readReply ((List.range len).map (fun i => dramByte s (a + i))) :: s.out ∧
        t = { s with regs := t.regs, evt := t.evt, out := t.out, mem := t.mem }) ∧
      (rangeServed s a len = false → ∃ t, exec (.bar2Read off len) s = .next t ∧ t.out = .unsupported :: s.out ∧
        t = { s with regs := t.regs, out := t.out } ∧ reg t 0x170028 = satAdd (reg s 0x170028) 1 ∧ SameRegsBut [0x170028] s t)) ∧
    (∀ (off : Nat) (data : Bytes),
      let a := regN s 0x170004 % 1024 * 2 ^ 30 + off
      (rangeServed s a data.length = true → s.job.st = 0 →
        DramWf s →
        ∃ t, exec (.bar2Write off data) s = .next t ∧ SameDramBut a data.length s t ∧
          (∀ i, i < data.length → dramByte t (a + i) = data.getD i 0) ∧
          t = { s with regs := t.regs, evt := t.evt, dram := t.dram, mem := t.mem }) ∧
      (a + data.length ≤ dramSize → s.job.st ≠ 0 →
        ∃ t, exec (.bar2Write off data) s = .next t ∧ t = { s with regs := t.regs, evt := t.evt } ∧ Raised [201] s t ∧
          reg t 0x100824 = satAdd (reg s 0x100824) 1 ∧ SameRegsBut [0x100824] s t)) ∧
    (∀ (v : Word) (n : Fin 64) (k : Fin 4) (off : BitVec 14), off.toNat / 16 = n.val → off.toNat % 16 / 4 = k.val →
      (∀ w : Fin 64, (s.hif.msix[w]).pend = false) →
      let x := s.hif.msix[n]
      ∃ t y, exec (.bar4Write (.table off v)) s = .next t ∧ t = { s with hif := { s.hif with msix := s.hif.msix.set n y } } ∧
        y.pend = false ∧ y.data = (if k.val = 2 then v else x.data) ∧
        y.mask = (if k.val = 3 then bit v.toNat 0 else x.mask) ∧
        y.addr % 2 ^ 32 = (if k.val = 0 then v.toNat / 4 * 4 else x.addr % 2 ^ 32) ∧
        y.addr / 2 ^ 32 = (if k.val = 1 then v.toNat else x.addr / 2 ^ 32)) ∧
    (∀ (n : Fin 64) (k : Fin 4),
      let x := s.hif.msix[n]
      let word : Nat := if k.val = 0 then x.addr % 2 ^ 32 else if k.val = 1 then x.addr / 2 ^ 32
        else if k.val = 2 then x.data.toNat else b2n x.mask
      exec (.bar4Write (.read (BitVec.ofNat 14 (16 * n.val + 4 * k.val)))) s =
        .next { s with out := .readReply (natLe word 4) :: s.out }) ∧
    (∃ b : Bytes, exec (.bar4Write (.read 0x2000)) s = .next { s with out := .readReply b :: s.out } ∧ b.length = 4 ∧
      ∀ k : Fin 64, k.val < 32 → bit (leNat b) k.val = (s.hif.msix[k]).pend) ∧
    (∀ n : Fin 64, reachable s = true → (s.hif.msix[n]).pend = true → (s.hif.msix[n]).mask = false →
      ∃ t, exec (.bar4Write (.control false true)) s = .next t ∧ t.hif.funcMask = false ∧ t.hif.msixOn = true ∧
        (t.hif.msix[n]).pend = false ∧ .msix (s.hif.msix[n]).addr (s.hif.msix[n]).data ∈ t.out ∧
        t = { s with out := t.out, evt := t.evt, hif := t.hif }))

/-- `HIF.DOMAIN_RESET` with its key resets the quadrants it names, then the domain, each with all that R358 puts in its
scope and nothing else; any other value, and a domain not allowed, does nothing but report the refusal (R39, R41,
R189, R358). A domain keeps its stored registers by the model's choice (log entry 39). -/
def Obligations.DomainResets : Prop :=
  ∀ (v : Word) (s : State), RegsWf s →
    let n := v.toNat
    let both (P : Host.Outcome State Fault Refusal → Prop) : Prop := P (exec (.quadReset v) s) ∧ P (exec (.domainReset v) s)
    let fresh (t : State) (k : Fin 148) : Prop :=
      (∀ r, getG (t.eng[k]) r = 0) ∧ (t.eng[k]).pc = progEntry (engImage s k) ∧ (t.eng[k]).held = none ∧ (t.eng[k]).gen = (s.eng[k]).gen + 1
    let same (t : State) : Prop :=
      t.dram = s.dram ∧ t.mem = s.mem ∧ t.power.on = s.power.on ∧ t.dma = s.dma ∧ t.tim = s.tim ∧ t.sec = s.sec ∧
        t.hif = s.hif ∧ t.pending = s.pending
    let named (q : Fin 4) : Prop := bit n (16 + q.val) = true
    let inQuad (q : Fin 4) (k : Fin 148) : Prop := (k.val < 144 ∧ k.val / 36 = q.val) ∨ k.val = 144 + q.val
    (n / 2 ^ 24 ≠ 0x9D ∨ ¬ HostOpen s → both (fun o => o = .next s)) ∧
    (n / 2 ^ 24 = 0x9D → HostOpen s → s.job.write = none →
      (bit n 15 = false → both (fun o => ∃ t, o = .next t ∧ same t ∧ t.axes = s.axes ∧ t.seq = s.seq ∧ t.job.live = s.job.live ∧
        ((∀ q, ¬ named q) → t = s) ∧
        (∀ q, named q → (∀ r : Fin 4, named r → r.val ≤ q.val) → t.power.lastKind = 4 ∧ t.power.lastDetail = q.val) ∧
        (∀ q, named q → (t.bmu.slices[q]).codes = [] ∧ (t.bmu.slices[q]).gen = (s.bmu.slices[q]).gen + 1 ∧
          (∀ k, inQuad q k → fresh t k) ∧ (∀ b, b ∈ t.bel.tiles → b.col / 10 ≠ q.val) ∧ Pending t 68 ∧ Pending t 112 ∧
          Pending t 175 ∧ Pending t 211) ∧
        (∀ q, ¬ named q → t.bmu.slices[q] = s.bmu.slices[q] ∧ (∀ k, inQuad q k → t.eng[k] = s.eng[k])))) ∧
      (bit n 15 = true → (∀ q, ¬ named q) →
        let d := n % 64
        let allowed : Prop := (3 ≤ d ∧ d ≤ 5) ∨ (8 ≤ d ∧ d ≤ 19) ∨ (32 ≤ d ∧ d ≤ 47)
        (¬ allowed → both (fun o => ∃ t, o = .next t ∧ t = { s with regs := t.regs, evt := t.evt } ∧ Raised [232] s t ∧
          regN t 0x17001C = 2 ^ 31 + d ∧ SameRegsBut [0x17001C] s t)) ∧
        (allowed → both (fun o => ∃ t, o = .next t ∧ same t ∧ t.power.lastKind = 5 ∧ t.power.lastDetail = d ∧
          (∃ r, r ∈ t.journal ∧ r.kind = 6) ∧
          (if d = 3 then t.eng = s.eng ∧ t.bmu = s.bmu ∧ t.bel = s.bel ∧ t.seq.expose = false ∧ t.seq.ref = s.seq.ref ∧
              (∀ a : Fin 4, (t.axes[a]).count = 0 ∧ (t.axes[a]).referenced = false) ∧ Pending t 140
           else if d = 4 then t.axes = s.axes ∧ t.bel = s.bel ∧ Pending t 112 ∧
              (∀ q : Fin 4, (t.bmu.slices[q]).codes = [] ∧ (t.bmu.slices[q]).gen = (s.bmu.slices[q]).gen + 1) ∧
              (∀ k : Fin 148, 144 ≤ k.val → fresh t k) ∧ (∀ k : Fin 148, k.val < 144 → t.eng[k] = s.eng[k])
           else if d = 5 then t.axes = s.axes ∧ t.bmu = s.bmu ∧ t.eng = s.eng ∧ Pending t 211 ∧
              (∀ b, b ∈ t.bel.tiles → 40 ≤ b.col)
           else if d < 20 then t.axes = s.axes ∧ t.bmu = s.bmu ∧ t.bel = s.bel ∧ t.blk = s.blk ∧ Pending t 68 ∧
              (∀ k : Fin 148, 8 + k.val / 12 = d → fresh t k) ∧ (∀ k : Fin 148, 8 + k.val / 12 ≠ d → t.eng[k] = s.eng[k])
           else t.axes = s.axes ∧ t.bmu = s.bmu ∧ t.bel = s.bel ∧ t.eng = s.eng ∧ t.blk.gen = s.blk.gen + 1 ∧
              t.blk.st = 9 ∧ (∀ p : Fin 16, t.blk.portGen[p] = s.blk.portGen[p] + (if p.val + 32 = d then 1 else 0)) ∧ Pending t 175))))) ∧
    (n / 2 ^ 24 = 0x9D → bit n 15 = true → ∀ t, exec (.quadReset (v &&& 0xFF0F0000)) s = .next t →
      both (fun o => o = exec (.domainReset (v &&& 0xFF00803F)) t)) ∧
    (HostOpen s → ∀ w, s.job.write = some w → w.ending = none → n / 2 ^ 24 = 0x9D →
      ((∃ q, named q) ∨ (bit n 15 = true ∧ (n % 64 = 3 ∨ n % 64 = 4 ∨ n % 64 = 5 ∨ (32 ≤ n % 64 ∧ n % 64 < 48)))) →
      both (fun o => ∃ t, o = .next t ∧ (t.job.write = none ∨ ∃ w, t.job.write = some w ∧ w.ending.isSome = true)))

/-- A domain's power: what may not be switched, what is refused and reported, the channels paused first, the switch-off
once they have drained, and the power-up (R307, R333, R362 to R364). That idle channels count as drained is the
model's reading (log entry 82). -/
def Obligations.DomainPower : Prop :=
  ∀ (d : Fin 64) (s : State), RegsWf s →
    let want : Bool := bit s.power.want.toNat d.val
    let fixed : Prop := ¬ ((2 ≤ d.val ∧ d.val ≤ 5) ∨ (8 ≤ d.val ∧ d.val ≤ 23) ∨ (32 ≤ d.val ∧ d.val ≤ 47))
    let barred : Prop :=
      ((d.val = 2 ∨ (20 ≤ d.val ∧ d.val ≤ 23)) ∧ s.job.st ≠ 0) ∨
        ((3 ≤ d.val ∧ d.val ≤ 5) ∧ (s.job.forage.isSome = true ∨ s.job.write.isSome = true))
    let bits64 (x y : BitVec 64) (on : Bool) : Prop :=
      bit x.toNat d.val = on ∧ ∀ k, k < 64 → k ≠ d.val → bit x.toNat k = bit y.toNat k
    let idle : Prop := ∀ c : Fin 16, (s.dma[c]).desc = none ∧ (s.dma[c]).page = none ∧ (s.dma[c]).owner = 0 ∧ (s.dma[c]).st = 0 ∧
      (s.dma[c]).byPower = false
    (HostOpen s →
      (fixed ∨ want = false → exec (.domainPowerDown d) s = .next s) ∧
      (¬ fixed → want = true → barred →
        ∃ t, exec (.domainPowerDown d) s = .next t ∧ t = { s with regs := t.regs, evt := t.evt } ∧ Raised [232] s t ∧
          regN t 0x17001C = 2 ^ 31 + d.val ∧ SameRegsBut [0x17001C] s t) ∧
      (¬ fixed → want = true → ¬ barred →
        ∃ t, exec (.domainPowerDown d) s = .next t ∧ bits64 t.power.want s.power.want false ∧ t.power.on = s.power.on ∧
          t = { s with regs := t.regs, evt := t.evt, power := t.power, dma := t.dma } ∧
          (∀ c : Fin 16, (s.dma[c]).st < 2 → (t.dma[c]).st < 2 ∨ (t.dma[c]).byPower = true) ∧
          (d.val = 2 → ∀ c : Fin 16, (t.dma[c]).byPower = true) ∧
          ((3 ≤ d.val ∧ d.val ≤ 19 ∧ d.val ≠ 4) ∨ 32 ≤ d.val → t.dma = s.dma)) ∧
      (∀ i : Start,
        (fixed ∨ want = true → exec (.domainPowerUp d i) s = .next s) ∧
        (¬ fixed → want = false →
          ∃ t, exec (.domainPowerUp d i) s = .next t ∧ bits64 t.power.want s.power.want true ∧
            bits64 t.power.on s.power.on true ∧ t.dram = s.dram ∧ (s.job.tests = [] → t.job.live = s.job.live) ∧
            (powered s d.val = false → Pending t 230) ∧
            (powered s d.val = false → 8 ≤ d.val → d.val ≤ 19 → s.job.tests = [] → ∀ e : Fin 148, 8 + e.val / 12 = d.val →
              (t.eng[e]).testing = false ∧ reg t (engBase e + 0x18) = startSig s i e ∧
              (t.eng[e]).failed = decide (startSig s i e ≠ rightSig s e)) ∧
            (powered s d.val = false → ∀ c : Fin 16, 20 + c.val / 4 = d.val →
              (t.mem.ch[c]).st = if (s.mem.ch[c]).st = 4 then 2 else (s.mem.ch[c]).st)))) ∧
    (¬ HostOpen s → exec (.domainPowerDown d) s = .next s ∧ ∀ i, exec (.domainPowerUp d i) s = .next s) ∧
    (fixed ∨ want = true ∨ powered s d.val = false → exec (.domainOff d) s = .next s) ∧
    (¬ fixed → want = false → powered s d.val = true → idle →
      ∃ t, exec (.domainOff d) s = .next t ∧ bits64 t.power.on s.power.on false ∧ t.power.want = s.power.want ∧ Pending t 231 ∧
        t.dram = s.dram ∧
        (d.val = 2 → t.crc = State.reset.crc) ∧ (d.val = 3 → ∀ a : Fin 4, (t.axes[a]).count = 0) ∧ (d.val = 5 → t.bel.tiles = []) ∧
        (8 ≤ d.val → d.val ≤ 19 → ∀ e : Fin 148, 8 + e.val / 12 = d.val → (t.eng[e]).held = none) ∧
        (∀ c : Fin 16, 20 + c.val / 4 = d.val → (t.mem.ch[c]).st ≠ 2))

/-- Enabling, restarting and returning the rings, the range of their indices, and STOP (R284 to R287, R301, R302; logs 13
and 22). A completion is posted at the tail of its ring with the bytes of its fields, the tail advances and PHASE
turns over at the wrap; a full ring keeps it and reports once (R288; log 21). Enables of a ring that is enabled, and
the channels of the rings, are the model's readings (log entries 13, 21 and 22). -/
def Obligations.CommandAndCompletionRings : Prop :=
  (
  ∀ s : State,
    let j := s.job
    let errorOf (base log : Nat) : Nat := if base % 64 ≠ 0 then 1 else if log < 4 ∨ 12 < log then 2 else 0
    let cmdErr := errorOf (regN s 0x020000 + 2 ^ 32 * regN s 0x020004) (regN s 0x020008 % 16)
    let cplErr := errorOf (regN s 0x020014 + 2 ^ 32 * regN s 0x020018) (regN s 0x02001C % 16)
    let outOfRange (i : Instr) : Prop :=
      ∃ t, exec i s = .next t ∧ t = { s with regs := t.regs, evt := t.evt, job := { j with error := 4 } } ∧ SameRegsBut [] s t ∧
        Raised [23] s t
    (HostOpen s → RegsWf s →
      (j.cmdOn = true → exec .cmdEnable s = .next s) ∧
      (j.cmdOn = false → cmdErr ≠ 0 → exec .cmdEnable s = .next { s with job := { j with error := cmdErr } }) ∧
      (j.cmdOn = false → cmdErr = 0 → exec .cmdEnable s = .next { s with job := { j with
        cmdOn := true, cmdBase := regN s 0x020000 + 2 ^ 32 * regN s 0x020004, cmdLog := regN s 0x020008 % 16,
        cmdHead := 0, cmdTail := 0, stopped := false, retry := false, hostErr := false, error := 0 } }) ∧
      (j.cplOn = true → exec .cplEnable s = .next s) ∧
      (j.cplOn = false → cplErr ≠ 0 → exec .cplEnable s = .next { s with job := { j with error := cplErr } }) ∧
      (j.cplOn = false → cplErr = 0 → exec .cplEnable s = .next { s with job := { j with
        cplOn := true, cplBase := regN s 0x020014 + 2 ^ 32 * regN s 0x020018, cplLog := regN s 0x02001C % 16,
        cplHead := 0, cplTail := 0, phase := true, cplFull := false, cplQ := [], error := 0 } }) ∧
      (j.stopped = false → exec .restart s = .next s) ∧
      (j.stopped = true → exec .restart s = .next { s with job := { j with
        stopped := false, retry := false, error := if j.error = 3 then 0 else j.error } }) ∧
      (∀ v : Word, j.cmdOn = true → j.cmdLog ≤ 12 →
        (v.toNat % 4096 < 2 ^ j.cmdLog → exec (.cmdTailDoorbell v) s = .next { s with job := { j with cmdTail := v.toNat % 4096 } }) ∧
        (2 ^ j.cmdLog ≤ v.toNat % 4096 → outOfRange (.cmdTailDoorbell v))) ∧
      (∀ v : Word, j.cplOn = true → j.cplLog ≤ 12 → j.cplHead < 2 ^ j.cplLog → j.cplTail < 2 ^ j.cplLog →
        let n := 2 ^ j.cplLog
        let i := v.toNat % 4096
        (i < n → (i + n - j.cplHead) % n ≤ (j.cplTail + n - j.cplHead) % n →
          exec (.cplHeadWrite v) s = .next { s with job := { j with cplHead := i } }) ∧
        (n ≤ i ∨ (j.cplTail + n - j.cplHead) % n < (i + n - j.cplHead) % n → outOfRange (.cplHeadWrite v))) ∧
      (writeLive s = false → exec .stop s = .next s) ∧
      (∀ w, j.write = some w → w.ending = none → w.causes = [] → (∀ p : Fin 16, (s.blk.ports[p]).final = none) →
        ∃ t c, exec .stop s = .next t ∧ t.job.write = some { w with causes := [c], ending := some c, st := .draining } ∧
          c.code = 0x12 ∧ c.status = 0xA ∧ t.seq.expose = false ∧ t.seq.left = 0 ∧ t.seq.st = 4 ∧ Pending t 10 ∧ Pending t 135 ∧
          regN t 0x0D014C = 7 ∧ t.job.live = j.live ∧ t.journal = s.journal ∧ t.dram = s.dram ∧ t.bel.tiles = [] ∧
          (∀ e : Fin 148, (∀ k, engTask (s.eng[e]) = some k → k.pass ≠ .write) → t.eng[e] = s.eng[e]) ∧
          ∀ (e : Fin 148) k, engTask (t.eng[e]) = some k → k.pass ≠ .write)) ∧
    (∀ v : Word, ¬ HostOpen s →
      ∀ i, i ∈ [Instr.cmdEnable, .cplEnable, .restart, .cmdTailDoorbell v, .cplHeadWrite v, .stop] → exec i s = .next s)) ∧
  (
  ∀ s : State, RegsWf s →
    let j := s.job
    let n := 2 ^ j.cplLog
    (j.cplQ = [] ∨ j.cplOn = false ∨ reachable s = false ∨ 2 ≤ (s.dma[(1 : Fin 16)]).st → exec .cplPost s = .next s) ∧
    (∀ c rest, j.cplQ = c :: rest → j.cplOn = true → reachable s = true → (s.dma[(1 : Fin 16)]).st < 2 →
      ((j.cplTail + 1) % n = j.cplHead → j.cplFull = true → exec .cplPost s = .next s) ∧
      ((j.cplTail + 1) % n = j.cplHead → j.cplFull = false →
        ∃ t, exec .cplPost s = .next t ∧ t = { s with regs := t.regs, evt := t.evt, job := { j with cplFull := true } } ∧
          SameRegsBut [] s t ∧ Raised [5] s t) ∧
      ((j.cplTail + 1) % n ≠ j.cplHead →
        ∃ t b, exec .cplPost s = .next t ∧
          t = { s with regs := t.regs, evt := t.evt, out := .cplEntry (j.cplBase + 64 * j.cplTail) b :: s.out, job := { j with
            cplTail := (j.cplTail + 1) % n, phase := if (j.cplTail + 1) % n = 0 then !j.phase else j.phase,
            cplQ := rest, cplFull := false } } ∧
          SameRegsBut [] s t ∧ Raised [0] s t ∧ b.length = 64 ∧
          field b 0 8 = c.seq % 2 ^ 64 ∧ byteAt b 8 = c.status % 256 ∧ byteAt b 9 = c.opcode % 256 ∧
          byteAt b 10 = b2n j.phase + 2 * b2n c.dup + 4 * b2n c.doubt ∧ byteAt b 11 = c.cause % 256 ∧
          field b 12 4 = c.code % 256 + 256 * (c.source % 256) + 65536 * (c.extra % 65536) ∧
          field b 16 8 = c.frontier % 2 ^ 64 ∧ field b 24 8 = c.lastSent % 2 ^ 64 ∧ field b 32 8 = c.arg0 % 2 ^ 64 ∧
          field b 40 8 = c.arg1 % 2 ^ 64 ∧ field b 48 4 = c.jidx % 2 ^ 32 ∧ field b 52 4 = c.stamp.toNat ∧ field b 56 8 = 0)))

/-- A BAR0 write of a register: stored fields by their access codes and ranges, no effect where there is no register, the
access is misaligned or the module is resetting, and the effect of the named command where there is one (R18, R19,
R359, R424, R455). A read answers with the addressed bytes of the register's value, a 64-bit quantity is read whole by
its low and then its high half, and the reporting registers show the state of their units (R19, R21, R22, R359).
Values out of range leave some whole writes without effect by the model's reading (log entry 84), and log entry 83
holds those of reads. -/
def Obligations.RegisterAccess : Prop :=
  (
  ∀ (off : BitVec 24) (v : Word) (s : State), RegsWf s →
    let o := off.toNat
    let n := v.toNat
    let old := regN s o
    let stored (P : Word → Prop) : Prop :=
      ∃ t, exec (.registerWrite off v) s = .next t ∧ t = { s with regs := t.regs } ∧ P (reg t o) ∧ ∀ k, k ≠ o → reg t k = reg s k
    let nothing : Prop := exec (.registerWrite off v) s = .next s
    let kept (hi lo least most new : Nat) : Nat :=
      if least ≤ bits new hi lo ∧ bits new hi lo ≤ most then bits new hi lo else bits old hi lo
    (o % 4 ≠ 0 → nothing) ∧ (¬ HostOpen s → nothing) ∧
    (s.power.resetting = true → o / 0x10000 ≠ 0 → o / 0x10000 ≠ 2 → o / 0x10000 ≠ 0x17 → nothing) ∧
    (BarOpen s → o % 4 = 0 →
      (o / 0x10000 = 6 ∨ o / 0x10000 = 7 ∨ 0x18 ≤ o / 0x10000 → nothing) ∧
      (o ∈ [0x010000, 0x010004, 0x0C0024, 0x130008, 0x13000C, 0x140080, 0x160104] → stored (· = v)) ∧
      (o ∈ [0x01001C, 0x020050, 0x020070, 0x0200A0, 0x040020, 0x0B0020, 0x0C003C, 0x0D0104, 0x100824, 0x170020, 0x170028] →
        stored (fun w => w = reg s o)) ∧
      (0x010040 ≤ o → o < 0x010060 → stored (fun w => w = reg s o &&& ~~~v)) ∧
      (0x010100 ≤ o → o < 0x010200 → stored (fun w => w &&& 0x3F3F3F3F = v &&& 0x3F3F3F3F)) ∧
      (o = 0x020048 → stored (fun w => bits w.toNat 6 0 = kept 6 0 50 100 n)) ∧
      (o = 0x040004 → stored (fun w => bits w.toNat 19 0 = bits n 19 0)) ∧
      (o = 0x05C024 → stored (fun w => bits w.toNat 16 0 = kept 16 0 100 100000 n)) ∧
      (o = 0x100814 → stored (fun w => bits w.toNat 13 0 = kept 13 0 1536 8192 n)) ∧
      (o = 0x0E8008 → stored (fun w => bits w.toNat 31 16 = kept 31 16 10 10000 n ∧ bits w.toNat 10 0 = kept 10 0 16 1024 n)) ∧
      (o = 0x110000 →
        (1 ≤ n % 256 ∧ n % 256 < n / 256 % 256 ∧ n / 256 % 256 ≤ 86 → stored (fun w => w.toNat % 65536 = n % 65536)) ∧
        (¬ (1 ≤ n % 256 ∧ n % 256 < n / 256 % 256 ∧ n / 256 % 256 ≤ 86) → nothing)) ∧
      (o = 0x150304 → ¬ (250 ≤ bits n 24 16 ∧ bits n 24 16 ≤ 420) → nothing) ∧
      (o = 0x170004 → stored (fun w => w.toNat % 1024 = n % 1024))) ∧
    (o = 0x000004 → exec (.registerWrite off v) s = exec (.glbReset v) s) ∧
    (o = 0x010080 → exec (.registerWrite off v) s = exec (.evtTest v) s) ∧
    (o = 0x02000C → exec (.registerWrite off v) s = exec (.cmdTailDoorbell v) s) ∧
    (o = 0x020024 → exec (.registerWrite off v) s = exec (.cplHeadWrite v) s) ∧
    (o = 0x130018 → exec (.registerWrite off v) s = exec (.ptpCtlWrite v) s) ∧
    (o = 0x170018 → exec (.registerWrite off v) s = exec (.domainReset v) s) ∧
    (∀ c : Fin 3, o = 0x030D14 + 0x100 * c.val → exec (.registerWrite off v) s = exec (.dmaTailDoorbell c v) s) ∧
    (∀ u : Fin 8, o = 0x120028 + 0x100 * u.val → exec (.registerWrite off v) s = exec (.crcFeedW u v) s)) ∧
  (
  ∀ (off : BitVec 24) (s : State), HostOpen s →
    let o := off.toNat
    let shows (v : Nat) : Prop :=
      ∃ t, exec (.latchingRead ⟨off, 4⟩) s = .next t ∧ t.out = .readReply (natLe v 4) :: s.out ∧
        t = { s with out := t.out, latch := t.latch }
    let p := s.power
    (o = 0x000008 → shows (b2n p.ready + 2 * b2n p.resetting)) ∧
    (o = 0x020010 → shows s.job.cmdHead) ∧
    (o = 0x020024 → s.latch = [] → shows s.job.cplHead) ∧
    (o = 0x170010 → shows (p.on.toNat % 2 ^ 32)) ∧
    (o = 0x170014 → s.latch = [] → shows (p.on.toNat / 2 ^ 32)) ∧
    (p.resetting = false →
      (o = 0x130000 → shows (s.tim.ns.toNat % 2 ^ 32)) ∧
      (o = 0x130004 → s.latch = [] → shows (s.tim.ns.toNat / 2 ^ 32)) ∧
      (o = 0x0C0004 → s.latch = [] → shows s.sec.substLimit) ∧
      (o = 0x14000C → s.latch = [] → shows s.sec.minSvn) ∧
      (∀ a : Fin 4, o = 0x0D0004 + 0x40 * a.val → s.latch = [] → shows (s.axes[a]).count.toNat) ∧
      (∀ i : Fin 8, o = 0x010040 + 4 * i.val → s.latch = [] → shows (regN s o))) ∧
    (∀ (len : Nat) (whole : BitVec 24), whole.toNat = o / 4 * 4 → 1 ≤ len → o % 4 + len ≤ 4 →
      ∃ v latch, exec (.latchingRead ⟨whole, 4⟩) s = .next { s with out := .readReply (natLe v 4) :: s.out, latch := latch } ∧
        exec (.latchingRead ⟨off, len⟩) s =
          .next { s with out := .readReply (slice (natLe v 4) (o % 4) len) :: s.out, latch := latch }) ∧
    (p.resetting = true → o = 0x010040 → s.latch = [] → shows 0) ∧
    (∀ (t u w : State) (hi : BitVec 24), o = 0x130000 → hi.toNat = o + 4 → p.resetting = false →
      exec (.latchingRead ⟨off, 4⟩) s = .next t → u.latch = t.latch → HostOpen u → exec (.latchingRead ⟨hi, 4⟩) u = .next w →
      w.out = .readReply (natLe (s.tim.ns.toNat / 2 ^ 32) 4) :: u.out ∧ w = { u with out := w.out }))

/-- A write to a field that only SET_GUARDED changes leaves it unchanged, is counted and raises event 240 (R23, R399). -/
def Obligations.GuardedWrites : Prop :=
  ∀ (off : BitVec 24) (v : Word) (s : State), RegsWf s → BarOpen s →
    off.toNat = 0x0C0004 ∨ off.toNat = 0x140004 ∨ off.toNat = 0x140008 →
    ∀ i, i = .registerWrite off v ∨ i = .guardedWriteRefused off v →
    ∃ t, exec i s = .next t ∧ t = { s with regs := t.regs, evt := t.evt } ∧ t.sec = s.sec ∧
      reg t 0x1400C0 = satAdd (reg s 0x1400C0) 1 ∧ SameRegsBut [0x1400C0] s t ∧ Raised [240] s t

/-- JOB_OPEN checks the state of the job, the pool, the regions and the memory in that order and opens the job; JOB_CLOSE
and FENCE wait for every earlier command (R86, R146, R293, R296, R303, R320). Reason 0x14 for the pool is the model's
reading (log entry 33). -/
def Obligations.JobOpenAndClose : Prop :=
  ∀ (s : State) (l : Live), RegsWf s →
    let q := l.seq
    let g := 2 ^ 30
    let at16 (o : Nat) : Nat × Nat := (regN s o % 2048 * g, regN s o / 65536 % 2048 * g)
    let pool : Nat × Nat := (regN s 0x040000 % 1024 * g, regN s 0x040004 % 2 ^ 20 * 1052672)
    let hive := at16 0x100810
    let hiveLog := regN s 0x110020 / 256 % 32
    let regions : List (Nat × Nat × Nat) :=
      [(0, g, g), ((at16 0x100800).1, (at16 0x100800).2, g), ((at16 0x100804).1, (at16 0x100804).2, 4 * g),
        ((at16 0x100808).1, (at16 0x100808).2, g), ((at16 0x10080C).1, (at16 0x10080C).2, byteAt l.entry 16 * 2 ^ 28),
        (pool.1, pool.2, 2048 * 1052672)] ++
      (if bit (regN s 0x110020) 0 then
        [(hive.1, if hive.2 = 0 then dramSize - hive.1 else hive.2, 64 * 2 ^ hiveLog + g)] else [])
    let poolOk : Prop := 2048 ≤ regN s 0x040004 % 2 ^ 20 ∧ pool.1 + pool.2 ≤ dramSize
    let regionsFit : Prop := (∀ r, r ∈ regions → r.1 + r.2.1 ≤ dramSize ∧ r.2.2 ≤ r.2.1) ∧
      regions.Pairwise (fun a b => a.1 + a.2.1 ≤ b.1 ∨ b.1 + b.2.1 ≤ a.1)
    let ready : Prop := ∀ c : Fin 16, (s.mem.ch[c]).st ≠ 6 ∧ (s.mem.ch[c]).st ≠ 7
    let quiet (t : State) : Prop :=
      t.eng = s.eng ∧ t.comb = s.comb ∧ t.bmu = s.bmu ∧ t.blk = s.blk ∧ t.seq = s.seq ∧ t.axes = s.axes ∧ t.job.write = s.job.write ∧
        t.job.nextSeq = s.job.nextSeq ∧ t.pending = s.pending
    let refused (reason : Nat) (events : List Nat) : Prop :=
      ∃ t, exec .jobOpen s = .next t ∧ quiet t ∧ Ended q { status := 4, code := reason, source := 8 } s t ∧ t.dram = s.dram ∧
        t.job.st = s.job.st ∧ t.job.id = s.job.id ∧ t.job.slots = s.job.slots ∧ t.intake = s.intake ∧ t.pec = s.pec ∧
        t.mem = s.mem ∧ t.hive = s.hive ∧ ∀ e, e ∈ events → Pending t e
    (StartsNext s 1 l →
      (s.job.st ≠ 0 → refused 1 []) ∧
      (s.job.st = 0 → ¬ poolOk → refused 0x14 [42, 200]) ∧
      (s.job.st = 0 → poolOk → ¬ regionsFit → refused 0x14 [200]) ∧
      (s.job.st = 0 → poolOk → regionsFit → ¬ ready → refused 0x12 []) ∧
      (s.job.st = 0 → poolOk → regionsFit → ready →
        ∃ t, exec .jobOpen s = .next t ∧ quiet t ∧ Ended q { status := 0 } s t ∧ t.job.st = 1 ∧ t.job.id = field l.entry 12 4 ∧
          t.job.slotMax = byteAt l.entry 16 ∧ t.job.slots = [] ∧ t.intake.frames = [] ∧ t.intake.bind = none ∧
          (∀ c : Fin 16, (t.dma[c]).page = none) ∧ t.intake.poolBase = pool.1 ∧ t.intake.poolFrames * 1052672 = pool.2 ∧
          t.pec.kernel.cur = none ∧ t.pec.kernel.pend = none ∧ t.pec.field.cur = none ∧ t.pec.field.pend = none ∧
          (s.hive.log2 = hiveLog → t.dram = s.dram) ∧ t.hive.log2 = hiveLog ∧ Pending t 6 ∧
          ∃ r, r ∈ t.journal ∧ r.kind = 7 ∧ r.cseq = q ∧ r.stamp = stamp s)) ∧
    (StartsNext s 2 l →
      (s.job.live.head? ≠ some l → (∀ x y, x ∈ s.job.live → y ∈ s.job.live → x.seq = y.seq → x = y) →
        exec .jobClose s = .next s) ∧
      (s.job.live.head? = some l →
        ∃ t, exec .jobClose s = .next t ∧ quiet t ∧ Ended q { status := 0 } s t ∧ t.job.st = 0 ∧ t.job.id = 0 ∧
          t.job.slots = [] ∧ t.intake.bind = none ∧ t.intake.frames = [] ∧ (∀ c : Fin 16, (t.dma[c]).page = none) ∧ t.pec = s.pec ∧ t.dram = s.dram ∧ t.mem = s.mem ∧
          Pending t 7 ∧ ∃ r, r ∈ t.journal ∧ r.kind = 7 ∧ r.cseq = q ∧ r.stamp = stamp s)) ∧
    (StartsNext s 10 l →
      (s.job.live.head? ≠ some l → (∀ x y, x ∈ s.job.live → y ∈ s.job.live → x.seq = y.seq → x = y) →
        exec .fence s = .next s) ∧
      (s.job.live.head? = some l →
        ∃ t, exec .fence s = .next t ∧ quiet t ∧ Ended q { status := 0 } s t ∧
          t = { s with regs := t.regs, evt := t.evt, out := t.out, journal := t.journal, job := t.job } ∧
          t.job = { s.job with live := t.job.live, cplQ := t.job.cplQ })) ∧
    ((¬ ∃ l, StartsNext s 1 l) → exec .jobOpen s = .next s) ∧ ((¬ ∃ l, StartsNext s 2 l) → exec .jobClose s = .next s) ∧
    ((¬ ∃ l, StartsNext s 10 l) → exec .fence s = .next s)

/-- An entry is taken in when its SEQ is the one expected, read again when it is not, and then a duplicate or a gap;
intake refuses by format, then by the state of the job, and accepts the rest (R285, R287, R290, R296). Entries that
are not 64 bytes stop as illFormed (log entry 34). -/
def Obligations.EntryIntake : Prop :=
  ∀ (b : Bytes) (target : Byte) (s : State), RegsWf s →
    let j := s.job
    let q := field b 0 8
    let op := byteAt b 8
    let expected : Prop := if j.nextSeq = 0 then q ≠ 0 else q = j.nextSeq
    let n := 2 ^ j.cmdLog
    let quiet (t : State) : Prop :=
      t.dram = s.dram ∧ t.eng = s.eng ∧ t.comb = s.comb ∧ t.intake = s.intake ∧ t.job.write = j.write ∧ t.job.forage = j.forage ∧
        t.job.slots = j.slots ∧ t.job.id = j.id ∧ t.sec = s.sec ∧ t.blk = s.blk ∧ t.seq = s.seq ∧ t.mem = s.mem
    let passed (t : State) : Prop := t.job.cmdHead = (j.cmdHead + 1) % n ∧ t.job.retry = false
    (b.length ≠ 64 → exec (.commandEntryRead ⟨b, target⟩) s = .fault .illFormed ∧ exec (.cmdRetry ⟨b, target⟩) s = .fault .illFormed) ∧
    (b.length = 64 →
      (¬ Reads s → exec (.commandEntryRead ⟨b, target⟩) s = .next s ∧ exec (.cmdRetry ⟨b, target⟩) s = .next s) ∧
      (j.retry = true → exec (.commandEntryRead ⟨b, target⟩) s = .next s) ∧ (j.retry = false → exec (.cmdRetry ⟨b, target⟩) s = .next s) ∧
      (Reads s → j.retry = false → ¬ expected →
        ∃ t, exec (.commandEntryRead ⟨b, target⟩) s = .next t ∧ t = { s with regs := t.regs, evt := t.evt, job := { j with retry := true } } ∧
          reg t 0x0200A0 = satAdd (reg s 0x0200A0) 1 ∧ SameRegsBut [0x0200A0] s t ∧ Raised [1] s t) ∧
      (Reads s → j.retry = true → ¬ expected → q < j.nextSeq →
        ∃ t, exec (.cmdRetry ⟨b, target⟩) s = .next t ∧ quiet t ∧ passed t ∧ t.journal = s.journal ∧ t.job.nextSeq = j.nextSeq ∧
          t.job.live = j.live ∧ reg t 0x0200A4 = satAdd (reg s 0x0200A4) 1 ∧ SameRegsBut [0x0200A4] s t ∧ Raised [2] s t ∧
          (j.cplOn = true → ∃ c, t.job.cplQ = j.cplQ ++ [c] ∧ c.seq = q ∧ c.status = 4 ∧ c.code = 0x13 ∧ c.dup = true)) ∧
      (Reads s → j.retry = true → ¬ expected → j.nextSeq ≤ q →
        ∃ t, exec (.cmdRetry ⟨b, target⟩) s = .next t ∧ quiet t ∧ t.job.cmdHead = j.cmdHead ∧ t.job.stopped = true ∧ t.job.error = 3 ∧
          t.journal = s.journal ∧ t.job.nextSeq = j.nextSeq ∧ t.job.live = j.live ∧ SameRegsBut [] s t ∧ Raised [3] s t ∧
          (j.cplOn = true → ∃ c, t.job.cplQ = j.cplQ ++ [c] ∧ c.seq = q ∧ c.status = 6 ∧ c.code = 0x33 ∧ c.arg0 = j.nextSeq)) ∧
      (Reads s → expected → ∀ i, (i = .commandEntryRead ⟨b, target⟩ ∧ j.retry = false) ∨ (i = .cmdRetry ⟨b, target⟩ ∧ j.retry = true) →
        let takes (e : End) (st : Nat) : Prop :=
          ∃ t, exec i s = .next t ∧ quiet t ∧ passed t ∧ TakenIn b e s t ∧ t.job.st = st
        let clean : Prop := byteAt b 9 = 0 ∧ zeros b 10 2 = true
        (op = 0 ∨ 11 < op → takes { status := 6, code := 0x30, source := 1 } j.st) ∧
        (op ∈ [1, 2, 3, 4, 8, 9, 10, 11] → zeros b 10 2 = false → takes { status := 6, code := 0x31, source := 1 } j.st) ∧
        (op = 1 → clean → zeros b 17 47 = true →
          (field b 12 4 = 0 ∨ byteAt b 16 < 2 ∨ 16 < byteAt b 16 → takes { status := 6, code := 0x32, source := 1 } j.st) ∧
          (field b 12 4 ≠ 0 → 2 ≤ byteAt b 16 → byteAt b 16 ≤ 16 → s.sec.recovery = false →
            (j.st = 0 → takes { status := 1 } 0) ∧ (j.st ≠ 0 → takes { status := 4, code := 1, source := 8 } j.st))) ∧
        (op = 2 → clean → zeros b 16 48 = true → s.sec.recovery = false →
          (j.st = 1 → field b 12 4 = j.id → takes { status := 1 } 2) ∧
          (j.st ≠ 1 ∨ field b 12 4 ≠ j.id → takes { status := 4, code := 1, source := 8 } j.st)) ∧
        (op = 10 → clean → zeros b 12 52 = true → s.sec.recovery = false → takes { status := 1 } j.st) ∧
        (op = 3 → clean → bodyReserved b = true →
          (byteAt b 16 = 6 ∧ target = 2 ∨ byteAt b 16 = 7 ∧ target = 1 →
            takes { status := 6, code := 0x34, source := 1 } j.st) ∧
          (1 ≤ byteAt b 16 → byteAt b 16 ≤ 5 → field b 24 8 % 64 ≠ 0 ∨ field b 32 4 % 64 ≠ 0 →
            ∃ t, exec i s = .next t ∧ quiet t ∧ passed t ∧ TakenIn b { status := 7, code := 1, source := 11 } s t ∧
              (t.dma[tableChan s]).st = 4 ∧ (t.dma[tableChan s]).err = 1 ∧ Pending t 13)) ∧
        (op = 5 ∨ op = 6 ∨ op = 7 →
          ∃ t, exec i s = .next t ∧ quiet t ∧ passed t ∧ t.job.atIntake = some { seq := q, entry := b, phase := .queued } ∧
            t.job.nextSeq = j.nextSeq ∧ t.job.live = j.live ∧ t.journal = s.journal ∧ t.regs = s.regs)))

/-- The intake of the stripe commands: the job and the memory, the forage slots, and for a write the wait for earlier
forages, the speed plan and the pages (R290, R294, R303, R304, R95). -/
def Obligations.StripeIntake : Prop :=
  ∀ (s : State) (b : Bytes) (q : Nat), RegsWf s → s.job.atIntake = some { seq := q, entry := b, phase := .queued } →
    let j := s.job
    let op := byteAt b 8
    let f := entryStripe b
    let own (x : Slot) : Bool := x.stripe == field b 16 4 % 2 ^ 20 && x.pass == byteAt b 20
    let ready : Prop := ∀ c : Fin 16, (s.mem.ch[c]).st ≠ 6 ∧ (s.mem.ch[c]).st ≠ 7
    let inJob : Prop := j.st = 1 ∧ field b 12 4 = j.id ∧ s.sec.recovery = false
    let i : Instr := if op = 5 then .forageStripe else if op = 6 then .writeStripe else .resumeStripe
    let takes (e : End) (slots : List Slot) : Prop :=
      ∃ t, exec i s = .next t ∧ TakenIn b e s t ∧ t.job.slots = slots ∧ t.job.st = j.st ∧ t.job.id = j.id ∧ t.dram = s.dram ∧
        t.eng = s.eng ∧ t.intake = s.intake ∧ t.job.write = j.write ∧ t.job.forage = j.forage ∧
        (e.status = 3 → Pending t 12)
    (op ≠ 5 → exec .forageStripe s = .next s) ∧ (op ≠ 6 → exec .writeStripe s = .next s) ∧
    (op ≠ 7 → exec .resumeStripe s = .next s) ∧
    (op = 5 ∨ op = 6 ∨ op = 7 →
      let free : Prop := op = 5 ∨ ∀ l, l ∈ j.live → byteAt l.entry 8 ≠ 5
      (¬ free → exec i s = .next s) ∧
      (free → zeros b 10 2 = false → takes { status := 6, code := 0x31, source := 1 } j.slots) ∧
      (free → formatRefusal b 0 = none →
        (¬ inJob → takes { status := 4, code := 1, source := 8 } j.slots) ∧
        (inJob → ¬ ready → takes { status := 4, code := 0x12, source := 8 } j.slots) ∧
        (inJob → ready → op = 5 →
          (j.slots.any own = true → takes { status := 1 }
            (j.slots.map (fun x => if own x = true ∧ x.claim = 0 then { x with claim := field b 0 8 } else x))) ∧
          (j.slots.any own = false → j.slotMax ≤ j.slots.length →
            takes { status := 3, code := 0x23, source := 8 } j.slots ∧
            ∀ t, exec i s = .next t → reg t 0x02007C = satAdd (reg s 0x02007C) 1) ∧
          (j.slots.any own = false → j.slots.length < j.slotMax →
            takes { status := 1 } (j.slots ++ [claimedSlot f (field b 0 8)]))) ∧
        (inJob → ready → op ≠ 5 →
          ((∀ x, x ∈ j.slots → own x = true → x.held = false) → takes { status := 1 } j.slots) ∧
          (∀ x, j.slots.find? (fun x => own x && x.held) = some x →
            let cost := qBar x (firstSegment f.named)
            let right := 2816 * workingNow s * [100, 88, 76, 63].getD s.thm.step 100 * (regN s 0x020048 % 128) *
              (if bit (byteAt b 9) 1 then 2 else 1)
            let enough : Prop :=
              x.pages.eraseDups.length + (s.intake.frames.filter (fun f => f.st == .directory)).length + 1024 ≤ s.intake.poolFrames
            (cost.1 * 128000000 ≤ right * f.plan → (x.pages = [] ∨ enough) → takes { status := 1 } j.slots) ∧
            (cost.1 * 128000000 ≤ right * f.plan → x.pages ≠ [] → ¬ enough →
              takes { status := 3, code := 0x22, source := 8 } j.slots) ∧
            (right * f.plan < cost.1 * 128000000 → 0 < right →
              takes { status := 3, code := 0x21, source := 8, arg0 := (cost.1 * 128000000 + right - 1) / right, arg1 := cost.2 }
                j.slots)))))

/-- A table, program or equalization set that passes the check of its kind becomes pending with DEFERRED; one that fails
is rejected with its code, leaving what is in force and pending as it was (R142, R172, R249, R292, R333, R422). The
order of codes is the model's reading (log entry 64). -/
def Obligations.TableLoads : Prop :=
  ∀ (s : State) (l : Live) (t : Bytes), RegsWf s → StartsNext s 3 l →
    let q := l.seq
    let kind := byteAt l.entry 16
    let loads : List Instr := [.loadTableKernel t, .loadTableField t, .loadTableBeam t, .loadTableMask t, .loadTableWeight t,
      .loadTableRasterProgram t, .loadTableCorrectionProgram t, .loadTableLinkEq t]
    let readable : Prop := reachable s = true ∧ ((s.dma[(11 : Fin 16)]).st < 2 ∨ (s.dma[(12 : Fin 16)]).st < 2) ∧
      s.job.loadErr = none ∧ ∀ c : Fin 16, (s.dma[c]).owner = 0
    let memory : Prop := (∀ c : Fin 16, (s.mem.ch[c]).st ≠ 6) ∧ ∀ g, g < 4 → groupOpen s g = true
    let others (u : State) : Prop :=
      u.eng = s.eng ∧ u.dram = s.dram ∧ u.axes = s.axes ∧ u.seq = s.seq ∧ u.blk = s.blk ∧ u.sec = s.sec ∧ u.intake = s.intake ∧
        u.job.st = s.job.st ∧ u.job.slots = s.job.slots ∧ u.job.write = s.job.write ∧ u.job.forage = s.job.forage
    let taken (i : Instr) (P : State → Prop) : Prop :=
      ∃ u, exec i s = .next u ∧ others u ∧ Ended q { status := 2 } s u ∧
        (u.dma[tableChan s]).cur = field l.entry 24 8 + t.length ∧ P u
    let rejected (i : Instr) (code source : Nat) (P : State → Prop) : Prop :=
      ∃ u, exec i s = .next u ∧ others u ∧ Ended q { status := 6, code := code, source := source } s u ∧ u.pec = s.pec ∧
        u.bmu = s.bmu ∧ u.comb = s.comb ∧ u.cal.eq = s.cal.eq ∧ P u
    let correction (i : Instr) (code : Option Nat) (P : State → Prop) : Prop :=
      (code = none → taken i (fun u => P u ∧ u.bmu = s.bmu ∧ u.comb = s.comb ∧ u.cal = s.cal)) ∧
      (∀ c, code = some c → rejected i c 3 (fun u =>
        Pending u 96 ∧ reg u 0x0B000C = BitVec.ofNat 32 c ∧ reg u 0x0B002C = satAdd (reg s 0x0B002C) 1))
    let beamMap (i : Instr) (code : Option (Nat × Option Nat)) (P : State → Prop) : Prop :=
      (code = none → taken i (fun u => P u ∧ u.pec = s.pec ∧ u.comb = s.comb ∧ u.cal = s.cal)) ∧
      (∀ c k, code = some (c, k) → rejected i c 4 (fun u =>
        Pending u 104 ∧ reg u 0x0C0018 = BitVec.ofNat 32 c ∧ reg u 0x0C003C = satAdd (reg s 0x0C003C) 1 ∧
        (k.isSome = true → Pending u 254)))
    let program (i : Instr) (target : Nat) (P : State → Prop) : Prop :=
      let other : Prop := (byteAt t 3 = 1 ∨ byteAt t 3 = 2) ∧ byteAt t 3 ≠ target
      (other → rejected i 0x34 1 (fun _ => True)) ∧
      (¬ other → progCode t target = none → taken i (fun u => P u ∧ u.pec = s.pec ∧ u.bmu = s.bmu ∧ u.cal = s.cal)) ∧
      (¬ other → ∀ c, progCode t target = some c → rejected i c 5 (fun u => Pending u 74 ∧ reg u 0x05C034 = BitVec.ofNat 32 c))
    (∀ k i, loads[k]? = some i → (kind ≠ k + 1 ∨ t.length ≠ field l.entry 32 4 ∨ ¬ readable) → exec i s = .next s) ∧
    (t.length = field l.entry 32 4 → readable → (∀ c : Fin 16, (s.mem.ch[c]).st ≠ 6) → ¬ memory →
      ∀ k i, loads[k]? = some i → kind = k + 1 →
        ∃ u, exec i s = .next u ∧ Ended q { status := 0xC } s u ∧ others u ∧ u.pec = s.pec ∧ u.bmu = s.bmu ∧ u.comb = s.comb) ∧
    (t.length = field l.entry 32 4 → readable → memory →
      (kind = 1 → correction (.loadTableKernel t) (kernelCode t) (fun u =>
          u.pec = { s.pec with kernel := { s.pec.kernel with pend := some t } }) ∧
        (t.length ≠ 384 → kernelCode t = some 8)) ∧
      (kind = 2 → correction (.loadTableField t) (fieldCode t) (fun u =>
          u.pec = { s.pec with field := { s.pec.field with pend := some t } }) ∧
        (t.length % 64 ≠ 0 → fieldCode t = some 8)) ∧
      (kind = 3 → beamMap (.loadTableBeam t) (beamCode s t) (fun u =>
          u.bmu = { s.bmu with beam := { s.bmu.beam with pend := some t } }) ∧
        (t.length ≠ 1048640 → beamCode s t = some (2, none))) ∧
      (kind = 4 → beamMap (.loadTableMask t) (maskCode s t) (fun u =>
          u.bmu = { s.bmu with mask := { s.bmu.mask with pend := some t } }) ∧
        (t.length ≠ 32832 → maskCode s t = some (2, none))) ∧
      (kind = 5 → beamMap (.loadTableWeight t) (weightCode t) (fun u =>
          u.bmu = { s.bmu with weight := { s.bmu.weight with pend := some t } }) ∧
        (t.length ≠ 192 → weightCode t = some (2, none))) ∧
      (kind = 6 → program (.loadTableRasterProgram t) 1 (fun u =>
          u.comb = { s.comb with re := { s.comb.re with pend := some t } })) ∧
      (kind = 7 → program (.loadTableCorrectionProgram t) 2 (fun u =>
          u.comb = { s.comb with ce := { s.comb.ce with pend := some t } })) ∧
      (kind = 8 →
        (eqCode s t = none → taken (.loadTableLinkEq t) (fun u =>
          u.cal = { s.cal with eq := some t } ∧ u.pec = s.pec ∧ u.bmu = s.bmu ∧ u.comb = s.comb)) ∧
        (∀ c, eqCode s t = some c → rejected (.loadTableLinkEq t) c 9 (fun u =>
          Pending u 254 ∧ (u.cal.recs[(4 : Fin 5)]).reject = c ∧ reg u 0x160110 = satAdd (reg s 0x160110) 1)) ∧
        (t.length ≠ 1216 → eqCode s t = some 4)))

/-- BIND_STREAM is refused beside a stripe command or for want of frames, names the first directory breach, and else binds
the stream, copies its directory and replaces every earlier binding (R82 to R87, R108). That the directory is one copy
in the pool is the model's reading (log entry 66). -/
def Obligations.StreamBinding : Prop :=
  ∀ (s : State) (l : Live) (pages cells : Bytes), RegsWf s → DramWf s → StartsNext s 4 l →
    let q := l.seq
    let n := field l.entry 24 8
    let m := field l.entry 40 4
    let i : Instr := .bindStream pages cells
    let need := (16 * n + 64 * m + 1052671) / 1052672
    let readable : Prop := reachable s = true ∧ ((s.dma[(11 : Fin 16)]).st < 2 ∨ (s.dma[(12 : Fin 16)]).st < 2) ∧
      s.job.loadErr = none ∧ ∀ c : Fin 16, (s.dma[c]).owner = 0
    let memory : Prop := (∀ c : Fin 16, (s.mem.ch[c]).st ≠ 6) ∧ ∀ g, g < 4 → groupOpen s g = true
    let idle : Prop := s.job.write = none ∧ s.job.forage = none
    let ends (e : End) (events : List Nat) : Prop :=
      ∃ u, exec i s = .next u ∧ Ended q e s u ∧ u.intake = s.intake ∧ u.job.slots = s.job.slots ∧ u.dram = s.dram ∧
        u.eng = s.eng ∧ u.job.st = s.job.st ∧ ∀ k, k ∈ events → Pending u k
    (¬ idle → ends { status := 4, code := 0x0F, source := 8 } []) ∧
    (idle → s.intake.poolFrames < 1024 + need → ends { status := 3, code := 0x25, source := 8 } [12]) ∧
    (idle → 1024 + need ≤ s.intake.poolFrames →
      (pages.length ≠ 16 * n ∨ cells.length ≠ 64 * m ∨ ¬ readable → exec i s = .next s) ∧
      (pages.length = 16 * n → cells.length = 64 * m → readable → memory →
        (∀ e, dirBreach pages cells = some e → e.status = 7 → ends e []) ∧
        (∀ e, dirBreach pages cells = some e → e.status ≠ 7 →
          ends e [35] ∧ ∀ u, exec i s = .next u → reg u 0x040044 = BitVec.ofNat 32 e.code ∧ reg u 0x040050 = BitVec.ofNat 32 e.arg1) ∧
        (∀ k, k < n → (∀ j, j < k → pageBreach pages n j = none) → field pages (16 * k) 8 % 64 ≠ 0 →
          ends { status := 7, code := 1, source := 11, arg1 := k } []) ∧
        (dirBreach pages cells = none →
          ∃ u b, exec i s = .next u ∧ Ended q { status := 0 } s u ∧ u.intake.bind = some b ∧ b.pages.length = n ∧
            b.cells.length = m ∧ b.digest = Check.crc32c n (pages ++ cells) ∧
            (∀ k e, b.pages[k]? = some e → e.addr = field pages (16 * k) 8 ∧ e.len = field pages (16 * k + 8) 4) ∧
            (∀ k e, b.cells[k]? = some e → e.id = field cells (64 * k) 4 ∧ e.depth = byteAt cells (64 * k + 4) ∧
              e.beginPage = field cells (64 * k + 8) 8 ∧ e.count = field cells (64 * k + 20) 4) ∧
            (u.dma[tableChan s]).cur = field l.entry 32 8 + 64 * m ∧ (∀ c : Fin 16, (u.dma[c]).page = none) ∧
            u.intake.frames.length = need ∧ (∀ f, f ∈ u.intake.frames → f.st = .directory) ∧
            SameDramBut s.intake.poolBase (16 * n + 64 * m) s u ∧
            (∀ a, a < 16 * n + 64 * m → dramByte u (s.intake.poolBase + a) = (pages ++ cells).getD a 0) ∧
            (s.intake.bind.isSome = true → ∀ x, x ∈ u.job.slots → x.valid = false) ∧ u.eng = s.eng ∧ u.comb = s.comb ∧
            u.job.st = s.job.st ∧ Pending u 39)))

/-- A forage starts on what is in force or is refused with its reason, and ends with its results in its slot or with the
failure it met (R144, R250, R293, R297, R303, R304, R308). What a failed forage leaves is the model's reading (log
entries 41 and 42). -/
def Obligations.ForageCommands : Prop :=
  (∀ (s : State) (l : Live), RegsWf s → StartsNext s 5 l →
    let q := l.seq
    let f := entryStripe l.entry
    let own (x : Slot) : Bool := x.stripe == f.stripe && x.pass == f.pass
    let fresh : Bool := s.job.write.isNone && (waitingWrite s).isNone
    let kernel := if fresh then s.pec.kernel.pend.or s.pec.kernel.cur else s.pec.kernel.cur
    let powers : Prop := powered s 5 = true ∧ (kernel.isSome = true → powered s 4 = true) ∧ workingRaster s ≠ 0
    let refused (reason : Nat) : Prop :=
      ∃ t, exec .forageStart s = .next t ∧ Ended q { status := 4, code := reason, source := 8 } s t ∧ Pending t 11 ∧
        t.job.forage = none ∧ t.job.write = s.job.write ∧ t.eng = s.eng ∧
        ((∀ x, x ∈ s.job.live → x.seq ≠ q → byteAt x.entry 8 = 5 → (entryStripe x.entry).stripe ≠ f.stripe) →
          t.job.slots = s.job.slots.filter (fun x => !own x))
    (s.job.forage.isSome = true ∨ soloWrite s = true → exec .forageStart s = .next s) ∧
    (s.job.forage = none → soloWrite s = false →
      (s.intake.bind = none → refused 4) ∧
      (s.intake.bind.isSome = true → ¬ powers → refused 5) ∧
      (s.intake.bind.isSome = true → powers →
        ∃ t g, exec .forageStart s = .next t ∧ t.job.forage = some g ∧ g.seq = q ∧ g.f = f ∧ g.kernel = kernel ∧
          g.corrected = kernel.isSome ∧ t.pec.kernel.cur = kernel ∧
          t.job.live = s.job.live.map (fun x => if x.seq = q then { x with phase := .running } else x) ∧
          (∀ x, x ∈ t.job.slots → own x = true → x.held = false ∧ x.valid = false ∧ x.sigs = [] ∧ x.dig = g.dig) ∧
          t.job.slots.filter (fun x => !own x) = s.job.slots.filter (fun x => !own x) ∧ t.intake.expF = Exp.start ∧
          t.job.write = s.job.write ∧ t.eng = s.eng ∧ t.journal = s.journal ∧ t.intake.bind = s.intake.bind))) ∧
  (∀ s : State, s.job.forage = none → exec .forageEnd s = .next s) ∧
  (∀ (s : State) (g : Forage), RegsWf s → s.job.forage = some g →
    let own (x : Slot) : Bool := x.stripe == g.f.stripe && x.pass == g.f.pass
    let alone : Prop := ∀ x, x ∈ s.job.live → x.seq ≠ g.seq → byteAt x.entry 8 = 5 → (entryStripe x.entry).stripe ≠ g.f.stripe
    let done (t : State) : Prop :=
      t.job.forage = none ∧ t.job.write = s.job.write ∧ t.blk = s.blk ∧ t.seq = s.seq ∧ t.dram = s.dram ∧
        (∀ k, k ∈ t.comb.tasks → k.pass = .write) ∧ t.intake.expW = s.intake.expW
    (g.fail = none → (s.job.slots.find? own = none ∨ forageDone s g = false) → exec .forageEnd s = .next s) ∧
    (∀ st code src extra a0 a1, g.fail = some (st, code, src, extra, a0, a1) →
      ∃ t, exec .forageEnd s = .next t ∧ done t ∧
        Ended g.seq { status := st, code := code, source := src, extra := extra, arg0 := a0, arg1 := a1 } s t ∧
        (alone → t.job.slots = s.job.slots.filter (fun x => !own x))) ∧
    (∀ x, g.fail = none → s.job.slots.find? own = some x → forageDone s g = true →
      (s.intake.expF.pages.length ≤ 16777216 →
        let right := 2816 * workingNow s * 100 * (regN s 0x020048 % 128)
        ∃ t n, exec .forageEnd s = .next t ∧ done t ∧
          Ended g.seq { status := 0, arg0 := n, arg1 := s.intake.expF.pages.length } s t ∧
          (0 < right → n = ((qBar x 0).1 * 128000000 + right - 1) / right) ∧
          (∀ y, y ∈ t.job.slots → own y = true → y.held = true ∧ y.valid = true ∧ y.pages = s.intake.expF.pages.map (·.page)) ∧
          t.job.slots.length = s.job.slots.length) ∧
      (16777216 < s.intake.expF.pages.length →
        ∃ t, exec .forageEnd s = .next t ∧ done t ∧ Pending t 12 ∧
          Ended g.seq { status := 3, code := 0x23, source := 8 } s t ∧
          (alone → t.job.slots = s.job.slots.filter (fun x => !own x)))))

/-- At a stripe boundary what is pending comes into force, the checks run in their order and the first that fails refuses
the write, results that differ from what is in force staying invalid; a flash program out of order is rejected, and
else the write executes with its records journalled (R24, R31, R196, R226, R298, R308, R309). The place of the program
check and of reason 0x12 is the model's reading (log entries 42 and 43). -/
def Obligations.StripeBoundary : Prop :=
  ∀ s : State, RegsWf s →
    (waitingWrite s = none ∨ boundaryFree s = false → exec .stripeBoundary s = .next s) ∧
    (∀ l, waitingWrite s = some l → boundaryFree s = true →
      let q := l.seq
      let f := entryStripe l.entry
      let u := boundaryForce s
      let slot := s.job.slots.find? (fun x => x.stripe == f.stripe && x.pass == f.pass && x.held)
      let resume : Bool := byteAt l.entry 8 == 7
      let runs : Bool := s.blk.st == 5 || s.blk.st == 6 || s.blk.st == 7
      let profileK : Bool := if runs then s.blk.profRun == 2 else bit (regN s 0x0E8000) 4
      let fast : Bool := if runs then s.blk.rateRun == 3 else bit (regN s 0x0E8000) 3
      let least : Nat × Nat := if profileK then (1864, 262) else if fast then (625, 80) else (1408, 198)
      let slotIs (p : Slot → Bool) : Bool := match slot with | some x => p x | none => false
      let reason : Nat :=
        if s.intake.bind.isNone || slotIs (fun x => !bindMatches u x) then 4
        else if slot.isNone then 2
        else if slotIs (fun x => !x.valid) then 3
        else if !domainsOn s then 5
        else if u.bmu.beam.cur.isNone then 6
        else if maskBreaks u then 7
        else if slotIs (fun x => x.dig.kernel != tableDigest u.pec.kernel.cur || x.dig.field != tableDigest u.pec.field.cur) then 8
        else if slotIs (fun x => x.dig.progRe != Check.imageDigest u.comb.re.cur || x.dig.progCe != Check.imageDigest u.comb.ce.cur) then 9
        else if resume && beamDiffers u f then 0xA
        else if resume && !resumeOk u l.entry then 0xE
        else if f.plan < least.1 || 5000 < f.plan then 0xB
        else if regN s 0x0E8000 / 4096 % 1024 < least.2 then 0xC
        else if s.blk.st ≠ 5 && s.blk.st ≠ 6 then 0xD
        else if s.mem.ch.toList.any (fun c => c.st == 6 || c.st == 7) then 0x12
        else 0
      u.pec.kernel.cur = s.pec.kernel.pend.or s.pec.kernel.cur ∧ u.pec.field.cur = s.pec.field.pend.or s.pec.field.cur ∧
      (s.cal.newLimits = none → u.bmu.beam.cur = s.bmu.beam.pend.or s.bmu.beam.cur ∧
        u.bmu.mask.cur = s.bmu.mask.pend.or s.bmu.mask.cur) ∧
      (∀ t, s.comb.re.pend = some t → u.comb.re.cur = t) ∧ (∀ t, s.comb.ce.pend = some t → u.comb.ce.cur = t) ∧
      (s.comb.re.pend = none → u.comb.re.cur = s.comb.re.cur) ∧ (s.comb.ce.pend = none → u.comb.ce.cur = s.comb.ce.cur) ∧
      (reason ≠ 0 →
        ∃ t e, exec .stripeBoundary s = .next t ∧ Ended q e s t ∧ e.status = 4 ∧ e.code = reason ∧ e.source = 8 ∧
          Pending t 11 ∧ t.job.write = none ∧ t.job.slots = s.job.slots.map (fun x =>
            if x.stripe == f.stripe && x.pass == f.pass && x.held && slotDiffers u x then { x with valid := false } else x) ∧ t.blk.st = s.blk.st ∧ t.seq = s.seq ∧
          (reason = 6 ∨ reason = 7 → Pending t 110) ∧ (reason = 8 → Pending t 101) ∧ (reason = 9 → Pending t 76) ∧
          (reason = 0xA → Pending t 109)) ∧
      (∀ word code, reason = 0 → seqCheck (loadSequencer f u).seq.params (loadSequencer f u).seq.prog = some (word, code) →
        ∃ t e, exec .stripeBoundary s = .next t ∧ Ended q e s t ∧ e.status = 6 ∧ e.code = code ∧ e.source = 7 ∧ Pending t 136 ∧
          t.seq.st = 5 ∧ t.job.write = none ∧ t.job.slots = s.job.slots) ∧
      (reason = 0 → seqCheck (loadSequencer f u).seq.params (loadSequencer f u).seq.prog = none →
        ∃ t w, exec .stripeBoundary s = .next t ∧ t.job.write = some w ∧ w.seq = q ∧ w.f = f ∧ w.next = 0 ∧ w.st = .fill ∧
          w.causes = [] ∧ w.ending = none ∧ w.armed = false ∧ w.resume = resume ∧ w.fireDelay = regN s 0x0E8000 / 4096 % 1024 ∧
          t.job.live = s.job.live.map (fun x => if x.seq = q then { x with phase := .running } else x) ∧
          t.bel.tiles = [] ∧ (∀ n : Fin 4, (t.bmu.slices[n]).next = 0 ∧ (t.bmu.slices[n]).codes = []) ∧
          t.blk.lastSent = none ∧ t.blk.frontier = none ∧ t.seq.st = 1 ∧ t.seq.pc = 0 ∧ regN t 0x0D010C = f.plan ∧
          Pending t 8 ∧ t.job.frontier = f.named ∧ t.job.slots = s.job.slots ∧
          (s.journal.length + 3 < 262144 → ∃ p tb st, t.journal = p :: tb :: st :: s.journal ∧ p.kind = 5 ∧ tb.kind = 4 ∧
            st.kind = 3 ∧ p.cseq = q ∧ tb.cseq = q ∧ st.cseq = q)))

/-- A calibration waits for or refuses beside a write, is refused while one of its target runs, and ends with its set
taken over or rejected; and the copy of a last good set (R192, R416, R417, R419, R420). The readings of log entry 73
are the model's. -/
def Obligations.SelfCalibration : Prop :=
  ∀ s : State, RegsWf s →
    let c := s.cal
    let sent (t : State) : Prop := t.dram = s.dram ∧ t.eng = s.eng ∧ t.blk = s.blk ∧ t.seq = s.seq ∧ t.bmu = s.bmu ∧ t.sec = s.sec
    let running (t : State) (q : Nat) : Prop :=
      t.job.live = s.job.live.map (fun x => if x.seq = q then { x with phase := .running } else x)
    let busy (i : Instr) (k : Fin 5) (q : Nat) : Prop :=
      ∃ t, exec i s = .next t ∧ Ended q { status := 4, code := 0x11, source := 8 } s t ∧ sent t ∧ (t.cal.recs[k]).reject = 5 ∧
        (t.cal.recs[k]).good = (c.recs[k]).good ∧ t.cal.tdcRun = c.tdcRun ∧ t.cal.sensRun = c.sensRun
    let stepOk (k : Fin 5) (t : State) : Prop := ∀ n : Fin 5, n ≠ k → t.cal.recs[n] = c.recs[n]
    (∀ l, StartsNext s 8 l →
      (byteAt l.entry 16 ≠ 1 → exec .calibrateTdc s = .next s) ∧ (byteAt l.entry 16 ≠ 2 → exec .calibrateSensors s = .next s) ∧
      (byteAt l.entry 16 = 1 →
        (c.tdcRun.isSome = true → busy .calibrateTdc 2 l.seq) ∧
        (c.tdcRun = none →
          (s.job.write = none → ∃ t, exec .calibrateTdc s = .next t ∧ running t l.seq ∧ sent t ∧ t.cal.tdcRun = some l.seq ∧
            ∀ a : Fin 4, (t.axes[a]).stale = true ∧ (t.axes[a]).count = (s.axes[a]).count) ∧
          (s.job.write.isSome = true → bit (byteAt l.entry 9) 0 = true → c.tdcWait = none →
            ∃ t, exec .calibrateTdc s = .next t ∧ sent t ∧ t.cal.tdcWait = some l.seq ∧ t.cal.tdcRun = none ∧ t.axes = s.axes ∧
              t.job.live = s.job.live.map (fun x => if x.seq = l.seq then { x with phase := .waiting } else x)) ∧
          (s.job.write.isSome = true → bit (byteAt l.entry 9) 0 = true → c.tdcWait.isSome = true → busy .calibrateTdc 2 l.seq) ∧
          (s.job.write.isSome = true → bit (byteAt l.entry 9) 0 = false →
            ∃ t, exec .calibrateTdc s = .next t ∧ Ended l.seq { status := 4, code := 0x15, source := 8 } s t ∧ t.cal = c))) ∧
      (byteAt l.entry 16 = 2 →
        (c.sensRun.isSome = true → busy .calibrateSensors 3 l.seq) ∧
        (c.sensRun = none → ∃ t, exec .calibrateSensors s = .next t ∧ running t l.seq ∧ sent t ∧ t.cal.sensRun = some l.seq ∧
          t.thm = s.thm ∧ t.axes = s.axes))) ∧
    (c.tdcRun = none → ∀ h, exec (.calibrationEnd (.tdc h)) s = .next s) ∧
    (c.sensRun = none → ∀ d n, exec (.calibrationEnd (.sensors d n)) s = .next s) ∧
    (∀ q h, c.tdcRun = some q → q ≠ 0 →
      let low := field c.limits 16 2
      let high := field c.limits 18 2
      let dev := field c.limits 20 2
      let within (n : Nat) : Prop := low * 2 ^ 20 ≤ n * 6400000 ∧ n * 6400000 ≤ high * 2 ^ 20 ∧
        n * 6400000 ≤ (20000 + dev) * 2 ^ 20 ∧ 20000 * 2 ^ 20 ≤ n * 6400000 + dev * 2 ^ 20
      let ends (e : End) (P : State → Prop) : Prop :=
        ∃ t, exec (.calibrationEnd (.tdc h)) s = .next t ∧ Ended q e s t ∧ sent t ∧ t.cal.tdcRun = none ∧ stepOk 2 t ∧ P t
      (h.length ≠ 320 ∨ h.sum < 2 ^ 20 → ends { status := 4, code := 3, source := 9 } (fun t =>
        (t.cal.recs[(2 : Fin 5)]).good = (c.recs[(2 : Fin 5)]).good ∧ (t.cal.recs[(2 : Fin 5)]).reject = 3 ∧ Pending t 254)) ∧
      (h.length = 320 → 2 ^ 20 ≤ h.sum → (∃ n, n ∈ h ∧ ¬ within n) → ends { status := 4, code := 1, source := 9 } (fun t =>
        (t.cal.recs[(2 : Fin 5)]).good = (c.recs[(2 : Fin 5)]).good ∧ (t.cal.recs[(2 : Fin 5)]).reject = 1 ∧ Pending t 254)) ∧
      (h.length = 320 → 2 ^ 20 ≤ h.sum → (∀ n, n ∈ h → within n) → ends { status := 0 } (fun t =>
        (t.cal.recs[(2 : Fin 5)]).good = h.flatMap (fun n => natLe (n * 6400000 / 2 ^ 20) 4) ∧
        (t.cal.recs[(2 : Fin 5)]).count = satAdd (c.recs[(2 : Fin 5)]).count 1 ∧ (t.cal.recs[(2 : Fin 5)]).stamp = stamp s ∧ Pending t 253))) ∧
    (∀ q (d : List Int) (n : List Nat), c.sensRun = some q → q ≠ 0 →
      (d.length ≠ 5 ∨ (∃ x, x ∈ d ∧ (x < -640 ∨ 2400 < x)) →
        ∃ t, exec (.calibrationEnd (.sensors d n)) s = .next t ∧ Ended q { status := 4, code := 3, source := 9 } s t ∧
          t.cal.sensRun = none ∧ t.thm.sensors = s.thm.sensors ∧ (t.cal.recs[(3 : Fin 5)]).reject = 3 ∧ Pending t 254) ∧
      (sensorsCode s d (newTrims s d n) = none → s.job.write = none →
        ∃ t, exec (.calibrationEnd (.sensors d n)) s = .next t ∧ Ended q { status := 0 } s t ∧ t.cal.sensRun = none ∧
          Pending t 253 ∧ (∀ k : Fin 48, 44 ≤ k.val → (t.thm.sensors[k]).n25 = (s.thm.sensors[k]).n25) ∧
          (∀ k : Fin 48, k.val < 44 → (s.thm.sensors[k]).k ≠ 0 → ((t.thm.sensors[k]).n25 : Int) =
            n.getD k.val 0 + ((d.getD (sensorDie k.val) 0 - 400) * 4096 + ((s.thm.sensors[k]).k / 2 : Nat)) / (s.thm.sensors[k]).k)) ∧
      (sensorsCode s d (newTrims s d n) = none → s.job.write.isSome = true →
        ∃ t, exec (.calibrationEnd (.sensors d n)) s = .next t ∧ Ended q { status := 0 } s t ∧ t.cal.sensRun = none ∧
          t.thm = s.thm ∧ t.cal.trims.isSome = true)) ∧
    (BarOpen s →
      let k := regN s 0x160100 % 8
      let dst := regN s 0x160104 + 2 ^ 32 * regN s 0x160108
      (c.copy.isSome = true ∨ 4 < k ∨ dst % 64 ≠ 0 ∨ dramSize < dst + (goodSet s k).length → exec .calCopyGo s = .next s) ∧
      (∀ n : Fin 5, n.val = k → c.copy = none → dst % 64 = 0 → dst + (c.recs[n]).good.length ≤ dramSize →
        exec .calCopyGo s = .next { s with cal := { c with copy := some (dst, (c.recs[n]).good) } })) ∧
    (c.copy = none → exec .calCopyEnd s = .next s) ∧
    (∀ dst b, c.copy = some (dst, b) → DramWf s → (∀ g, g < 4 → groupOpen s g = true) →
      (∀ k : Fin 16, (s.mem.ch[k]).st ≠ 6 ∧ (s.mem.ch[k]).st ≠ 7) →
      ∃ t, exec .calCopyEnd s = .next t ∧ t.cal = { c with copy := none } ∧ SameDramBut dst b.length s t ∧
        (∀ i, i < b.length → dramByte t (dst + i) = b.getD i 0) ∧
        t = { s with regs := t.regs, evt := t.evt, dram := t.dram, mem := t.mem, cal := t.cal })

/-- A descriptor ring of channels 13 to 15: its doorbell, its descriptors with their checks, a transfer's data and its
end, and RESTART (R183, R306, R354, R355). PAUSE stops a channel's reads, its drain leaves BYTES and CUR_HOST exact,
and a power-down pause past its limit halts the channel and fails the command that owns it (R307, R363, R364). TAIL
out of range and abandoned transfers are the model's readings (log entries 28 and 29). -/
def Obligations.DmaChannels : Prop :=
  (
  ∀ (k : Fin 3) (s : State), RegsWf s → DramWf s →
    let c : Fin 16 := ⟨13 + k.val, by omega⟩
    let x := s.dma[c]
    let onlyChan (t : State) (f : Chan) : Prop := t.dma[c] = f ∧ ∀ n : Fin 16, n ≠ c → t.dma[n] = s.dma[n]
    let takes : Prop := x.on = true ∧ x.st = 0 ∧ x.head ≠ x.tail ∧ reachable s = true
    (∀ v : Word, BarOpen s → x.on = true → x.log2 ≤ 10 →
      (2 ^ x.log2 ≤ v.toNat % 1024 → exec (.dmaTailDoorbell k v) s = .next s) ∧
      (v.toNat % 1024 < 2 ^ x.log2 → ∃ t, exec (.dmaTailDoorbell k v) s = .next t ∧ t = { s with dma := t.dma } ∧
        onlyChan t { x with tail := v.toNat % 1024 })) ∧
    (∀ d : Bytes, d.length ≠ 32 → exec (.dmaDescriptor k d) s = .fault .illFormed) ∧
    (∀ d : Bytes, d.length = 32 →
      let host := field d 0 8
      let dev := field d 8 8
      let len := field d 16 4
      let toHost := bit (byteAt d 20) 0
      let misaligned : Prop := host % 64 ≠ 0 ∨ len % 64 ≠ 0 ∨ (k.val ≠ 0 ∧ dev % 64 ≠ 0)
      let window : Prop := ∃ n, n < 4 ∧ 0x0C2000 + 0x4000 * n ≤ dev ∧ dev + len ≤ 0x0C2000 + 0x4000 * n + 8192
      let outside : Prop := len = 0 ∨ 4 ≤ byteAt d 20 ∨ zeros d 21 11 = false ∨
        (k.val = 0 ∧ (toHost = false ∨ ¬ window)) ∨ (k.val ≠ 0 ∧ (2 ^ 30 < len ∨ dramSize < dev + len))
      let served : Prop := k.val = 0 ∨ rangeServed s dev len = true
      let stops (code : Nat) : Prop :=
        ∃ t, exec (.dmaDescriptor k d) s = .next t ∧ t = { s with regs := t.regs, evt := t.evt, dma := t.dma } ∧ Raised [13] s t ∧
          SameRegsBut [] s t ∧ onlyChan t { x with st := 4, err := code }
      (¬ takes → exec (.dmaDescriptor k d) s = .next s) ∧
      (takes → misaligned → stops 1) ∧ (takes → ¬ misaligned → outside → stops 3) ∧
      (takes → ¬ misaligned → ¬ outside → ¬ served → exec (.dmaDescriptor k d) s = .next s) ∧
      (takes → ¬ misaligned → ¬ outside → served →
        ∃ t, exec (.dmaDescriptor k d) s = .next t ∧ t = { s with regs := t.regs, evt := t.evt, dma := t.dma, mem := t.mem } ∧
          onlyChan t { x with st := 1, err := 0, bytes := 0, cur := host, desc := some (host, dev, len, toHost, bit (byteAt d 20) 1) })) ∧
    (∀ data : Bytes, (x.desc = none ∨ x.st ≠ 1 ∨ reachable s = false) → exec (.dmaTransferEnd k data) s = .next s) ∧
    (∀ (data : Bytes) (host dev len : Nat) (toHost event : Bool), x.desc = some (host, dev, len, toHost, event) → x.st = 1 →
      reachable s = true → x.on = true →
      (toHost = false → data.length ≠ len → exec (.dmaTransferEnd k data) s = .next s) ∧
      (toHost = true ∨ data.length = len →
        ∃ t, exec (.dmaTransferEnd k data) s = .next t ∧
          onlyChan t { x with st := 0, desc := none, bytes := len, cur := host + len, head := (x.head + 1) % 2 ^ x.log2 } ∧
          Raised (if event then [16] else []) s t ∧ SameRegsBut [] s t ∧
          t = { s with regs := t.regs, evt := t.evt, out := t.out, dram := t.dram, dma := t.dma } ∧
          (toHost = false → t.out = s.out ∧ SameDramBut dev len s t ∧ ∀ i, i < len → dramByte t (dev + i) = data.getD i 0) ∧
          (toHost = true → SameDram s t ∧ ∃ b, t.out = .toHost host b :: s.out ∧
            (k.val ≠ 0 → b = (List.range len).map (fun i => dramByte s (dev + i)))))) ∧
    (BarOpen s →
      (x.st = 4 → ∃ t, exec (.dmaRestart k) s = .next t ∧ t = { s with dma := t.dma } ∧
        onlyChan t { x with st := 0, err := 0, desc := none }) ∧
      (x.st = 5 → x.byPower = false → ∃ t, exec (.dmaRestart k) s = .next t ∧ t = { s with dma := t.dma } ∧
        onlyChan t { x with st := if x.desc.isSome ∨ x.page.isSome then 1 else 0 }) ∧
      (x.st ≠ 4 → x.st ≠ 5 ∨ x.byPower = true → exec (.dmaRestart k) s = .next s))) ∧
  (
  ∀ (c : Fin 16) (s : State), RegsWf s →
    let x := s.dma[c]
    let fits (n : Nat) : Prop := ∀ h dev len th ev, x.desc = some (h, dev, len, th, ev) → n ≤ len
    let start (n : Nat) : Nat := match x.desc with | some d => d.1 | none => (ownerHost s x.owner n).getD (x.cur - x.bytes)
    let intoDram : Prop := ∃ h dev len ev, x.desc = some (h, dev, len, false, ev)
    let untouched (t : State) : Prop :=
      (∀ k : Fin 16, k ≠ c → t.dma[k] = s.dma[k]) ∧ (¬ intoDram → t.dram = s.dram ∧ t.free = s.free) ∧ t.eng = s.eng ∧
        t.intake = s.intake ∧ t.job.write = s.job.write
    (BarOpen s →
      (∃ t, exec (.dmaPause c true) s = .next t ∧ t = { s with dma := t.dma } ∧ (∀ k : Fin 16, k ≠ c → t.dma[k] = s.dma[k]) ∧
        (t.dma[c]).pause = true ∧ (t.dma[c]).st = (if x.st < 2 then 2 else x.st) ∧ (t.dma[c]).desc = x.desc ∧
        (t.dma[c]).bytes = x.bytes ∧ (t.dma[c]).page = x.page) ∧
      (∃ t, exec (.dmaPause c false) s = .next t ∧ t = { s with dma := t.dma } ∧ (∀ k : Fin 16, k ≠ c → t.dma[k] = s.dma[k]) ∧
        (t.dma[c]).pause = false ∧ (t.dma[c]).desc = x.desc ∧
        (t.dma[c]).st = (if (x.st = 2 ∨ x.st = 3) ∧ x.byPower = false then (if x.desc.isSome ∨ x.page.isSome then 1 else 0) else x.st))) ∧
    (∀ n, x.st ≠ 2 ∨ ¬ fits n → exec (.dmaPaused c n) s = .next s ∧ exec (.haltedPower c n) s = .next s) ∧
    (∀ n, x.st = 2 → fits n →
      (∃ t, exec (.dmaPaused c n) s = .next t ∧ untouched t ∧ t.dma[c] = { x with st := 3, bytes := n, cur := start n + n } ∧
        Raised [14] s t ∧ SameRegsBut [] s t ∧ t.job = s.job) ∧
      (x.byPower = false → exec (.haltedPower c n) s = .next s) ∧
      (x.byPower = true → x.owner = 0 →
        ∃ t, exec (.haltedPower c n) s = .next t ∧ untouched t ∧ t.dma[c] = { x with st := 5, bytes := n, cur := start n + n } ∧
          Raised [15] s t ∧ SameRegsBut [] s t ∧ t.job = s.job) ∧
      (x.byPower = true → x.owner ≠ 0 →
        ∃ t, exec (.haltedPower c n) s = .next t ∧ untouched t ∧ Pending t 15 ∧
          t.dma[c] = { x with st := 5, bytes := n, cur := start n + n, owner := 0 } ∧
          Ended x.owner { status := 0xC, source := 11, arg0 := n, arg1 := c.val } s t)))

/-- A page is read into a frame on an idle pager channel, a passing image becomes RESIDENT, a first failure is read again
and a second makes the page BAD for the command that needs it (R88 to R91, R94). Which free frame is taken is the
model's choice (log entry 70). -/
def Obligations.PageFetches : Prop :=
  ∀ (page : Nat) (s : State), RegsWf s → DramWf s →
    let x := s.intake
    let moves : Prop := powered s 2 = true ∧ reachable s = true ∧ (∀ g, g < 4 → groupOpen s g = true) ∧
      ∀ n : Fin 16, (s.mem.ch[n]).st ≠ 6 ∧ (s.mem.ch[n]).st ≠ 7
    let kept (t : State) : Prop := t.eng = s.eng ∧ t.comb = s.comb ∧ t.bel = s.bel ∧ t.seq = s.seq ∧ t.blk = s.blk ∧
      t.job.live = s.job.live ∧ t.pending = s.pending ∧ t.journal = s.journal
    (∀ cls, (boundPages s)[page]? = none ∨ fetchPass s page cls = none ∨ ¬ moves → exec (.pageFetch page cls) s = .next s) ∧
    (∀ cls e p c i, (boundPages s)[page]? = some e → fetchPass s page cls = some p → moves → (p, page) ∉ x.bad →
      frameOf s page = none → idlePager s = some c → freeFrame s = some i →
      ∃ t, exec (.pageFetch page cls) s = .next t ∧ kept t ∧ t.dram = s.dram ∧ 3 ≤ c ∧ c ≤ 10 ∧ i < x.poolFrames ∧
        reg t 0x040020 = satAdd (reg s 0x040020) 1 ∧ SameRegsBut [0x040020] s t ∧ Raised [] s t ∧
        (∃ f, t.intake.frames = x.frames ++ [f] ∧ f.idx = i ∧ f.st = .fetching ∧ f.page = page ∧ f.cls = cls ∧ f.pass = p ∧
          f.seq = passSeq s p ∧ f.retry = false) ∧
        (∀ k : Fin 16, k.val = c → (t.dma[k]).st = 1 ∧ (t.dma[k]).page = some page ∧ (t.dma[k]).cur = e.addr ∧ (t.dma[k]).bytes = 0) ∧
        (∀ k : Fin 16, k.val ≠ c → t.dma[k] = s.dma[k])) ∧
    (∀ cls e p c, (boundPages s)[page]? = some e → fetchPass s page cls = some p → moves → (p, page) ∉ x.bad →
      frameOf s page = none → idlePager s = some c → freeFrame s = none → victim s = none →
      ∃ t, exec (.pageFetch page cls) s = .next t ∧ kept t ∧ t.intake = x ∧ t.dma = s.dma ∧ Raised [37] s t ∧
        reg t 0x04003C = satAdd (reg s 0x04003C) 1) ∧
    (frameOf s page = none → ∀ b, exec (.pageFetchDone page b) s = .next s ∧ exec (.pageRetry page b) s = .next s) ∧
    (∀ f b, frameOf s page = some f → readGoes s f b = false →
      exec (.pageFetchDone page b) s = .next s ∧ exec (.pageRetry page b) s = .next s) ∧
    (∀ f b, frameOf s page = some f → readGoes s f b = true →
      (f.retry = true → exec (.pageFetchDone page b) s = .next s) ∧ (f.retry = false → exec (.pageRetry page b) s = .next s) ∧
      (∀ i, (i = .pageFetchDone page b ∧ f.retry = false) ∨ (i = .pageRetry page b ∧ f.retry = true) → imageOk b page = true →
        (∀ g, g ∈ x.frames → g.idx = f.idx → g = f) →
        ∃ t g, exec i s = .next t ∧ kept t ∧ g ∈ t.intake.frames ∧ g.page = page ∧ g.idx = f.idx ∧ g.st = .resident ∧
          SameDramBut (x.poolBase + 1052672 * f.idx) b.length s t ∧
          (∀ k, k < b.length → dramByte t (x.poolBase + 1052672 * f.idx + k) = b.getD k 0) ∧
          (∀ k : Fin 16, 3 ≤ k.val → k.val ≤ 10 → (t.dma[k]).page = some page → ∃ j : Fin 16, j.val < k.val ∧ (s.dma[j]).page = some page)) ∧
      (f.retry = false → imageOk b page = false → (∀ g, g ∈ x.frames → g.idx = f.idx → g = f) →
        ∃ t g, exec (.pageFetchDone page b) s = .next t ∧ kept t ∧ t.dram = s.dram ∧ g ∈ t.intake.frames ∧ g.idx = f.idx ∧
          g.st = .fetching ∧ g.retry = true ∧ t.dma = s.dma ∧ reg t 0x040024 = satAdd (reg s 0x040024) 1 ∧ Raised [32] s t) ∧
      (f.retry = true → imageOk b page = false → (f.seq = passSeq s f.pass → waitedFor s f.pass page = false) →
        ∃ t, exec (.pageRetry page b) s = .next t ∧ kept t ∧ t.dram = s.dram ∧
          (f.seq = passSeq s f.pass → (f.pass, page) ∈ t.intake.bad) ∧ (f.seq ≠ passSeq s f.pass → t.intake.bad = x.bad) ∧
          (∀ g, g ∈ t.intake.frames ↔ g ∈ x.frames ∧ g.idx ≠ f.idx) ∧ reg t 0x040028 = satAdd (reg s 0x040028) 1 ∧
          reg t 0x040020 = satAdd (reg s 0x040020) 1 ∧ Raised [33] s t))

/-- A decompressor waits for a page that is not there, decodes one that is RESIDENT into the content of its chain and ends
the command at the first fault; and a complete list stands in LIST and is handed to the schedulers once (R49, R54,
R80, R92, R96, R97, R105, R109). When a list is complete is the model's reading (log entry 69). -/
def Obligations.PageDecodes : Prop :=
  ∀ (d : Fin 4) (p : Pass) (page : Nat) (s : State), RegsWf s → DramWf s →
    let x := s.intake
    let goes : Prop := passGoes s p = true ∧ powered s 2 = true ∧ (∀ g, g < 4 → groupOpen s g = true) ∧
      ∀ n : Fin 16, (s.mem.ch[n]).st ≠ 6 ∧ (s.mem.ch[n]).st ≠ 7
    let kept (t : State) : Prop := t.eng = s.eng ∧ t.comb = s.comb ∧ t.bel = s.bel ∧ t.seq = s.seq ∧ t.blk = s.blk ∧
      t.job.write = s.job.write ∧ t.pending = s.pending
    ((boundPages s)[page]? = none ∨ ¬ goes → exec (.pageDecode d p page) s = .next s) ∧
    (∀ e, (boundPages s)[page]? = some e → goes → (p, page) ∉ x.bad → (∀ k : Fin 4, (x.dec[k]).saving = none) →
      (runGoes s d p page = false → isEntry s p page = false → exec (.pageDecode d p page) s = .next s) ∧
      ((x.dec[d]).run = none → isEntry s p page = true → frameOf s page = none →
        ∃ t r, exec (.pageDecode d p page) s = .next t ∧ kept t ∧ t.dram = s.dram ∧ t.intake.frames = x.frames ∧
          (t.intake.dec[d]).st = 5 ∧ (t.intake.dec[d]).run = some r ∧ r.pass = p ∧ r.next = page ∧ r.content = [] ∧
          r.chainStart = chainStartOf (boundPages s) page ∧ (∀ k : Fin 4, k ≠ d → t.intake.dec[k] = x.dec[k])) ∧
      (∀ f, frameOf s page = some f → f.st = .resident →
        let image := dramRead s (x.poolBase + 1052672 * f.idx) e.len
        let hist : Bytes := match (x.dec[d]).run with | some r => if r.pass = p ∧ r.next = page then r.content else [] | none => []
        let n := (boundPages s).length
        (imageOk image page = false → runGoes s d p page = true →
          ∃ t, exec (.pageDecode d p page) s = .next t ∧ kept t ∧ t.dram = s.dram ∧ Pending t 34 ∧
            (∀ g, g ∈ t.intake.frames ↔ g ∈ x.frames ∧ g.idx ≠ f.idx) ∧ (t.intake.dec[d]).st = 5) ∧
        (∀ code off, imageOk image page = true → (x.dec[d]).run = none → e.restart = true → p = .forage →
          isEntry s p page = true →
          decodePage image page n e.len e.restart e.last [] = .error (code, off) →
          ∃ t g, exec (.pageDecode d p page) s = .next t ∧ kept t ∧ t.job.forage = some g ∧ Pending t 35 ∧
            (∀ h, s.job.forage = some h → h.fail = none → g.fail = some (6, code, 2, 0, page, off)) ∧
            reg t 0x040044 = BitVec.ofNat 32 code ∧ reg t 0x040050 = BitVec.ofNat 32 off) ∧
        (∀ c, imageOk image page = true → (e.restart = true ∨ hist ≠ []) → ((x.dec[d]).run = none ∨ runGoes s d p page = true) →
          isEntry s p page = true ∨ runGoes s d p page = true → bits (passCtl s p) 7 4 = 0 →
          (p = .write → ∀ n : Fin 16, (s.blk.ports[n]).final = none) →
          decodePage image page n e.len e.restart e.last (if e.restart then [] else hist) = .ok c →
          ∃ t, exec (.pageDecode d p page) s = .next t ∧ t.dram = s.dram ∧
            (p = .forage ∨ writeLive t = true → t.eng = s.eng ∧ t.comb = s.comb ∧ (t.intake.dec[d]).st = 2 ∧
              (∃ r, (t.intake.dec[d]).run = some r ∧ r.pass = p ∧ r.next = page + 1 ∧ r.content = c ∧ r.pin = some page) ∧
              (∀ k : Fin 4, k ≠ d → t.intake.dec[k] = x.dec[k]))))) ∧
    (∀ (col seg : Int) (f : Stripe), passStripe s p = some f →
      let w := passExp s p
      let ready : Prop := passGoes s p = true ∧ tileWanted s p f col seg = true ∧ (col, seg) ∉ w.handed ∧
        listComplete w (tileExtent f (col, seg)) = true
      (¬ ready → exec (.tileListDone p col seg) s = .next s) ∧
      (ready →
        ∃ t l k, exec (.tileListDone p col seg) s = .next t ∧ t.comb.lists = s.comb.lists ++ [l] ∧ t.comb.tasks = s.comb.tasks ++ [k] ∧
          l.pass = p ∧ l.col = col ∧ l.seg = seg ∧ l.done = true ∧ k.pass = p ∧ k.col = col ∧ k.seg = seg ∧ k.avoid = [] ∧
          (p = .write → k.mode = 3) ∧ (col, seg) ∈ (passExp t p).handed ∧
          exec (.tileListDone p col seg) t = .next t ∧ t.eng = s.eng ∧ t.job.live = s.job.live ∧ t.regs = s.regs ∧
          (let image := listImage s p f l
           let unitAt (u : Nat) : Nat := s.mem.regions.list.1 * 2 ^ 30 + 65536 * u
           field image 0 8 = passTileId s p (col, seg) % 2 ^ 64 ∧ field image 8 4 = l.entries.length % 2 ^ 32 ∧
           l.units.Pairwise (· < ·) ∧ (∀ m u, m ∈ s.comb.lists → u ∈ m.units → u ∉ l.units) ∧
           (∀ a, (∀ u, u ∈ l.units → a < unitAt u ∨ unitAt (u + 1) ≤ a) → dramByte t a = dramByte s a) ∧
           (∀ k u j, l.units[k]? = some u → j < 65536 → 65536 * k + j < image.length →
             dramByte t (unitAt u + j) = image.getD (65536 * k + j) 0))))

/-- A record is taken only where the walk of its pass reads next; breaches of its operands, its place or its own validity
end the command with the fault code, the page and the offset (R61 to R64, R67, R69, R70, R75, R77, R80, R84, R456).
That a record is taken only where the walk reads, some codes, and the definitions behind the top cell, are the model's
readings (log entries 65, 68 and 109). -/
def Obligations.RecordFaults : Prop :=
  ∀ (p : Pass) (pos : RecPos) (ops : Bytes) (s : State), RegsWf s →
    (p = .write → ∀ n : Fin 16, (s.blk.ports[n]).final = none) →
    let x := passExp s p
    let records : List (Nat × Instr) := [(0x00, .nopRecord p pos ops), (0x10, .streamHeader p pos ops), (0x11, .streamEnd p pos ops),
      (0x20, .cellBegin p pos ops), (0x21, .cellEnd p pos ops), (0x30, .rect p pos ops), (0x31, .rectSame p pos ops),
      (0x32, .trapH p pos ops), (0x33, .trapV p pos ops), (0x34, .poly p pos ops), (0x35, .polyM p pos ops),
      (0x36, .curve p pos ops), (0x40, .sref p pos ops), (0x41, .aref p pos ops)]
    let here (op : Nat) : Prop := recordHere s p pos op ops = true ∧ ops.length < 65535
    let faults (i : Instr) (code : Nat) : Prop :=
      ∃ t, exec i s = .next t ∧ Pending t 35 ∧ reg t 0x040044 = BitVec.ofNat 32 code ∧ reg t 0x040048 = BitVec.ofNat 32 pos.page ∧
        reg t 0x040050 = BitVec.ofNat 32 pos.off ∧ t.dram = s.dram ∧ t.job.live = s.job.live ∧
        (p = .forage → passExp t p = x ∧ t.eng = s.eng ∧ ∃ g, t.job.forage = some g ∧ g.fail = some (6, code, 2, 0, pos.page, pos.off)) ∧
        (p = .write → passExp t p = Exp.start ∧ ∃ w c, t.job.write = some w ∧ w.ending.isSome = true ∧ c ∈ w.causes ∧
          c.status = 6 ∧ c.dcode = code ∧ c.dsource = 2)
    (∀ op i, (op, i) ∈ records → recordHere s p pos op ops = false → exec i s = .next s) ∧
    (here 0x30 → ∀ c, c ≠ 0 → readRect ops = .error c → faults (.rect p pos ops) c) ∧
    (here 0x36 → ∀ c, c ≠ 0 → readCurve ops = .error c → faults (.curve p pos ops) c) ∧
    (∀ op i, (op, i) ∈ records → 0x21 ≤ op → here op → x.header = false ∨ x.enter ≠ [] ∨ x.stack = [] →
      ((op = 0x21 ∧ ops = []) ∨ (op = 0x30 ∧ ∃ v, readRect ops = .ok (v, [])) ∨ (op = 0x31 ∧ ∃ v, svar2 ops = .ok (v, [])) ∨
        (op = 0x34 ∧ ∃ v, readPoly ops = .ok (v, [])) ∨ (op = 0x40 ∧ ∃ v, readSref ops = .ok (v, []) ∧ v.2.1 < 8)) →
      faults i (if x.header = true ∧ x.enter ≠ [] then 0x24 else 0x12)) ∧
    (∀ id o d, here 0x40 → readSref ops = .ok ((id, o, d), []) → 8 ≤ o → faults (.sref p pos ops) 0x12) ∧
    (∀ v f id, here 0x10 → readHeader ops = .ok ((v, f, id), []) →
      (pos ≠ ⟨0, 0⟩ ∨ v ≠ 1 ∨ 1 < f → faults (.streamHeader p pos ops) 0x12) ∧
      (pos = ⟨0, 0⟩ → v = 1 → f ≤ 1 → x.header = false → (∀ e, e ∈ boundCells s → e.id ≠ id) → faults (.streamHeader p pos ops) 0x25)) ∧
    (∀ id box, here 0x20 → readCell ops = .ok ((id, box), []) → x.header = true → x.enter = [] →
      (∀ c rest, x.stack = c :: rest → faults (.cellBegin p pos ops) 0x12) ∧
      (x.stack = [] →
        (∀ e, e ∈ boundCells s → e.beginPage = pos.page → e.beginOff = pos.off → e.id ≠ id ∨ e.box ≠ box →
          faults (.cellBegin p pos ops) 0x24) ∧
        ((∀ e, e ∈ boundCells s → e.beginPage = pos.page → e.beginOff ≠ pos.off) →
          (id = 0 ∨ 16777215 < id ∨ (∃ e, e ∈ boundCells s ∧ e.id = id) ∨ id ∈ x.extra → faults (.cellBegin p pos ops) 0x13) ∧
          (0 < id → id ≤ 16777215 → (∀ e, e ∈ boundCells s → e.id ≠ id) → id ∉ x.extra → box.x1 < box.x0 ∨ box.y1 < box.y0 →
            faults (.cellBegin p pos ops) 0x14)))) ∧
    (∀ c rest, x.header = true → x.enter = [] → x.stack = c :: rest →
      (∀ d w h, here 0x30 → readRect ops = .ok ((d, w, h), []) → w = 0 ∨ h = 0 → faults (.rect p pos ops) 0x15) ∧
      (∀ d, here 0x31 → svar2 ops = .ok (d, []) → c.lastW = 0 → faults (.rectSame p pos ops) 0x15) ∧
      (∀ d m n k l, here 0x32 → readTrap ops = .ok ((d, m, n, k, l), []) → m = 0 ∨ n + l = 0 → faults (.trapH p pos ops) 0x15) ∧
      (∀ d m n k l, here 0x33 → readTrap ops = .ok ((d, m, n, k, l), []) → m = 0 ∨ n + l = 0 → faults (.trapV p pos ops) 0x15) ∧
      (∀ n d l, here 0x34 → readPoly ops = .ok ((n, d, l), []) → n < 3 ∨ 4096 < n → faults (.poly p pos ops) 0x15) ∧
      (∀ n d l, here 0x35 → readPolyM ops = .ok ((n, d, l), []) → n < 4 ∨ 4096 < n ∨ n % 2 = 1 → faults (.polyM p pos ops) 0x15) ∧
      (∀ n d l bad, here 0x36 → readCurve ops = .ok ((n, d, l, bad), []) →
        let a : Int × Int := (c.cur.1 + d.1, c.cur.2 + d.2)
        (n < 2 ∨ 4096 < n → faults (.curve p pos ops) 0x15) ∧
        (∀ k, 2 ≤ n → n ≤ 4096 → (curveSegs a a l).findSome? (fun g => segFault g.1 g.2) = some k → faults (.curve p pos ops) k) ∧
        (2 ≤ n → n ≤ 4096 → (∀ g, g ∈ curveSegs a a l → segFault g.1 g.2 = none) →
          bad = true ∨ (∀ g, g ∈ curveSegs a a l → g.1.arc = false) → faults (.curve p pos ops) 0x15)) ∧
      (∀ id o d, here 0x40 → readSref ops = .ok ((id, o, d), []) → o < 8 → id = 0 ∨ id = c.at_.cell.id →
        faults (.sref p pos ops) 0x13) ∧
      (here 0x21 → ops = [] → c.indexed = true → c.count + 1 ≠ c.at_.cell.count ∨ pos.page ≠ c.at_.cell.endPage → faults (.cellEnd p pos ops) 0x24))

/-- A primitive moves the open cell's current point to its anchor and adds its placed vertices to the list of every tile
of the window that its box meets (R67, R71 to R79, R101 to R103). Log entry 69 holds the readings of the lists. -/
def Obligations.RecordShapes : Prop :=
  ∀ (p : Pass) (pos : RecPos) (ops : Bytes) (s : State) (c : OpenCell) (rest : List OpenCell),
    (p = .write → ∀ n : Fin 16, (s.blk.ports[n]).final = none) →
    let x := passExp s p
    let here (op : Nat) : Prop := recordHere s p pos op ops = true ∧ ops.length < 65535
    let anchor (d : Int × Int) : Int × Int := (c.cur.1 + d.1, c.cur.2 + d.2)
    let place (q : Int × Int) : Int × Int := placePoint c.at_.orient (c.at_.tx, c.at_.ty) q
    let fine (q : Int × Int) : Prop := pointOk q = true ∧ pointOk (place q) = true ∧ boxHolds c.at_.cell.box q = true
    let adds (i : Instr) (d : Int × Int) (points : List (Int × Int)) (e : LEntry) (b : Box) (w h : Nat) : Prop :=
      let lists := (if c.placed = true then passTiles s p b else []).foldl (fun l k => addTo p l (k, e)) x.lists
      (∀ q, q ∈ points → fine q) → (∀ l, l ∈ lists → listBytes l ≤ 16777216) →
      listUnits lists + listUnits (passExp s (if p = .write then .forage else .write)).lists + listUnits s.comb.lists ≤ listRoom s →
      ∃ t, exec i s = .next t ∧ t.dram = s.dram ∧ t.job.live = s.job.live ∧
        (p = .forage ∨ writeLive t = true → (passExp t p).lists = lists ∧
          (passExp t p).stack = { c with
            cur := anchor d, count := c.count + 1, next := posAfter s pos (1 + ops.length), lastW := w, lastH := h } :: rest ∧
          (passExp t p).enter = [] ∧ (passExp t p).header = true ∧ (passExp t p).handed = x.handed ∧ t.intake.dec = s.intake.dec ∧
          t.eng = s.eng ∧ t.comb = s.comb)
    x.header = true → x.enter = [] → x.stack = c :: rest →
    (∀ d w h, here 0x30 → readRect ops = .ok ((d, w, h), []) → 0 < w → w < 2 ^ 31 → 0 < h → h < 2 ^ 31 →
      let a := anchor d
      let b := boxOf (place a) (place (a.1 + w, a.2 + h))
      adds (.rect p pos ops) d [a, (a.1 + w, a.2 + h)] (.rect b) b w h) ∧
    (∀ d, here 0x31 → svar2 ops = .ok (d, []) → c.lastW ≠ 0 →
      let a := anchor d
      let b := boxOf (place a) (place (a.1 + c.lastW, a.2 + c.lastH))
      adds (.rectSame p pos ops) d [a, (a.1 + c.lastW, a.2 + c.lastH)] (.rect b) b c.lastW c.lastH) ∧
    (∀ d k wb dxt wt, here 0x32 → readTrap ops = .ok ((d, k, wb, dxt, wt), []) → 0 < k → 0 < wb + wt → k < 2 ^ 31 → wb < 2 ^ 31 →
      wt < 2 ^ 31 →
      let a := anchor d
      let pts := [a, (a.1 + wb, a.2), (a.1 + dxt + wt, a.2 + k), (a.1 + dxt, a.2 + k)]
      adds (.trapH p pos ops) d pts (.poly (pts.map place)) (pointsBox (pts.map place)) c.lastW c.lastH) ∧
    (∀ d k hl dyr hr, here 0x33 → readTrap ops = .ok ((d, k, hl, dyr, hr), []) → 0 < k → 0 < hl + hr → k < 2 ^ 31 → hl < 2 ^ 31 →
      hr < 2 ^ 31 →
      let a := anchor d
      let pts := [a, (a.1 + k, a.2 + dyr), (a.1 + k, a.2 + dyr + hr), (a.1, a.2 + hl)]
      adds (.trapV p pos ops) d pts (.poly (pts.map place)) (pointsBox (pts.map place)) c.lastW c.lastH) ∧
    (∀ n d l, here 0x34 → readPoly ops = .ok ((n, d, l), []) → polyOk n (polyPoints (anchor d) l) = true →
      let pts := polyPoints (anchor d) l
      adds (.poly p pos ops) d pts (.poly (pts.map place)) (pointsBox (pts.map place)) c.lastW c.lastH) ∧
    (∀ n d l, here 0x35 → readPolyM ops = .ok ((n, d, l), []) → polyMOk n (manhattan (anchor d).1 true (anchor d) l) = true →
      let pts := manhattan (anchor d).1 true (anchor d) l
      adds (.polyM p pos ops) d pts (.poly (pts.map place)) (pointsBox (pts.map place)) c.lastW c.lastH) ∧
    (∀ n d l, here 0x36 → readCurve ops = .ok ((n, d, l, false), []) → curveFault n (curveSegs (anchor d) (anchor d) l) false = none →
      let a := anchor d
      let segs := (curveSegs a a l).map (·.1)
      let placed := segs.map (fun g => { g with
        cx := (place (g.cx, g.cy)).1, cy := (place (g.cx, g.cy)).2, ex := (place (g.ex, g.ey)).1, ey := (place (g.ex, g.ey)).2 })
      adds (.curve p pos ops) d (a :: segs.flatMap (fun g => [(g.cx, g.cy), (g.ex, g.ey)])) (.curve (place a) placed)
        (pointsBox (place a :: placed.flatMap (fun g => [(g.cx, g.cy), (g.ex, g.ey)]))) c.lastW c.lastH)

/-- STREAM_HEADER opens the top cell, CELL_BEGIN and CELL_END open and close the cell entered, SREF and AREF enter the
copies that the window needs, and NOP and STREAM_END stand between (R63 to R65, R69 to R74, R84, R101, R102, R457).
Log entries 65, 68, 69 and 109 hold the readings of the walk. -/
def Obligations.RecordWalk : Prop :=
  ∀ (p : Pass) (pos : RecPos) (ops : Bytes) (s : State),
    (p = .write → ∀ n : Fin 16, (s.blk.ports[n]).final = none) →
    let x := passExp s p
    let here (op : Nat) : Prop := recordHere s p pos op ops = true ∧ ops.length < 65535
    let after := posAfter s pos (1 + ops.length)
    let goes (i : Instr) (P : Exp → Prop) : Prop :=
      ∃ t, exec i s = .next t ∧ t.dram = s.dram ∧ t.job.live = s.job.live ∧
        (p = .forage ∨ writeLive t = true → P (passExp t p) ∧ (passExp t p).handed = x.handed ∧ (passExp t p).pages = x.pages ∧
          t.intake.dec = s.intake.dec ∧ t.eng = s.eng ∧ t.comb = s.comb)
    (∀ f e, here 0x10 → pos = ⟨0, 0⟩ → readHeader ops = .ok ((1, f, e.id), []) → f ≤ 1 → x.header = false →
      (boundCells s).find? (fun y => y.id == e.id) = some e →
      goes (.streamHeader p pos ops) (fun y => y.header = true ∧ y.negative = (f == 1) ∧ y.top = e.id ∧ y.stack = x.stack ∧
        y.lists = x.lists ∧ y.enter = [{ cell := e, orient := 0, tx := 0, ty := 0, bracket := none }])) ∧
    (∀ pl more, here 0x20 → x.header = true → x.enter = pl :: more → readCell ops = .ok ((pl.cell.id, pl.cell.box), []) →
      pl.bracket = none → (∀ l, l ∈ x.lists → listBytes l ≤ 16777216) →
      goes (.cellBegin p pos ops) (fun y => y.enter = [] ∧ y.lists = x.lists ∧ ∃ c, y.stack = c :: x.stack ∧ c.at_ = pl ∧
        c.cur = (0, 0) ∧ c.count = 1 ∧ c.next = after ∧ c.rest = more ∧ c.lastW = 0 ∧ c.placed = true ∧ c.indexed = true)) ∧
    (∀ id box, here 0x20 → x.header = true → x.enter = [] → x.stack = [] → readCell ops = .ok ((id, box), []) →
      (∀ e, e ∈ boundCells s → e.beginPage = pos.page → e.beginOff ≠ pos.off) → 0 < id → id ≤ 16777215 →
      (∀ e, e ∈ boundCells s → e.id ≠ id) → id ∉ x.extra → box.x0 ≤ box.x1 → box.y0 ≤ box.y1 →
      goes (.cellBegin p pos ops) (fun y => y.enter = [] ∧ y.lists = x.lists ∧ y.extra = id :: x.extra ∧ ∃ c, y.stack = [c] ∧
        c.at_.cell.id = id ∧ c.at_.cell.box = box ∧ c.cur = (0, 0) ∧ c.count = 1 ∧ c.next = after ∧ c.lastW = 0 ∧
        c.placed = false ∧ c.indexed = false)) ∧
    (∀ c rest, here 0x21 → ops = [] → x.header = true → x.enter = [] → x.stack = c :: rest →
      (c.indexed = true → c.count + 1 = c.at_.cell.count ∧ pos.page = c.at_.cell.endPage ∧ c.depth = c.at_.cell.depth) → c.at_.bracket = none → (∀ l, l ∈ x.lists → listBytes l ≤ 16777216) →
      goes (.cellEnd p pos ops) (fun y => y.stack = rest ∧ y.enter = c.rest ∧ y.lists = x.lists ∧
        (rest = [] → y.topDone = true ∧ y.next = after) ∧ (rest ≠ [] → y.topDone = x.topDone))) ∧
    (∀ c rest, here 0x00 → ops = [] → x.header = true → x.enter = [] → x.stack = c :: rest →
      goes (.nopRecord p pos ops) (fun y => y.stack = { c with count := c.count + 1, next := after } :: rest ∧ y.lists = x.lists ∧
        y.enter = [])) ∧
    (here 0x00 → ops = [] → x.header = true → x.enter = [] → x.stack = [] →
      goes (.nopRecord p pos ops) (fun y => y = { x with next := after })) ∧
    (here 0x11 → uvar ops = .ok ((boundCells s).length + x.extra.length, []) → x.header = true → x.enter = [] → x.stack = [] → x.topDone = true →
      pos.page + 1 = (boundPages s).length → onlyNops s p after = true →
      goes (.streamEnd p pos ops) (fun y => y.ended = true ∧ y.next = after ∧ y.lists = x.lists)) ∧
    (∀ c rest id o d e, here 0x40 → readSref ops = .ok ((id, o, d), []) → o < 8 → x.header = true → x.enter = [] →
      x.stack = c :: rest → placeable s c pos id = some e →
      let a : Int × Int := (c.cur.1 + d.1, c.cur.2 + d.2)
      let t := placePoint c.at_.orient (c.at_.tx, c.at_.ty) a
      let box := placeBox (composeOrient c.at_.orient o) t e.box
      pointOk a = true → pointOk t = true → boxInside c.at_.cell.box (placeBox o a e.box) = true → x.stack.length < 16 →
      goes (.sref p pos ops) (fun y => y.lists = x.lists ∧
        y.stack = { c with cur := a, count := c.count + 1, depth := max c.depth (e.depth + 1), next := after } :: rest ∧
        (passTiles s p box = [] ∨ c.placed = false → y.enter = []) ∧
        (passTiles s p box ≠ [] → c.placed = true → ∃ pl, y.enter = [pl] ∧ pl.cell = e ∧ pl.orient = composeOrient c.at_.orient o ∧ pl.tx = t.1 ∧
          pl.ty = t.2))) ∧
    (∀ c rest id o d e m n va vb, here 0x41 → readAref ops = .ok (((id, o, d), m, n, va, vb), []) → o < 8 → x.header = true →
      x.enter = [] → x.stack = c :: rest → placeable s c pos id = some e → 0 < m → m < 2 ^ 20 → 0 < n → n < 2 ^ 20 →
      let at_ (i j : Nat) : Int × Int := (c.cur.1 + d.1 + i * va.1 + j * vb.1, c.cur.2 + d.2 + i * va.2 + j * vb.2)
      (∀ i j, i < m → j < n → pointOk (at_ i j) = true ∧ pointOk (placePoint c.at_.orient (c.at_.tx, c.at_.ty) (at_ i j)) = true ∧
        boxInside c.at_.cell.box (placeBox o (at_ i j) e.box) = true) → x.stack.length < 16 →
      goes (.aref p pos ops) (fun y => y.lists = x.lists ∧
        y.stack = { c with cur := (c.cur.1 + d.1, c.cur.2 + d.2), count := c.count + 1, depth := max c.depth (e.depth + 1), next := after } :: rest ∧
        (∀ pl, pl ∈ y.enter → pl.cell = e ∧ pl.orient = composeOrient c.at_.orient o ∧ ∃ i j, i < m ∧ j < n ∧
          (pl.tx, pl.ty) = placePoint c.at_.orient (c.at_.tx, c.at_.ty) (at_ i j)) ∧
        (∀ i j, i < m → j < n → c.placed = true →
          passTiles s p (placeBox (composeOrient c.at_.orient o) (placePoint c.at_.orient (c.at_.tx, c.at_.ty) (at_ i j)) e.box) ≠ [] →
          ∃ pl, pl ∈ y.enter ∧ (pl.tx, pl.ty) = placePoint c.at_.orient (c.at_.tx, c.at_.ty) (at_ i j))))

/-- Decoding the words of a well-formed Kolben instruction on its engine gives that instruction back, and a word that
decodes is the word of the instruction it gives (R264 to R266). -/
def Obligations.KolbenEncoding : Prop :=
  (∀ (i : Instr) (e : Fin 148), kEngine i = some e → i.wf = true →
    ∃ w0 w1, kWords i = some (w0, w1) ∧ w0 < 2 ^ 32 ∧ (w1.isSome = true ↔ 0x30 * 2 ^ 26 ≤ w0) ∧ (∀ n, w1 = some n → n < 2 ^ 32) ∧
      ∀ v : Word, w1 = none ∨ w1 = some v.toNat → kDecode e (BitVec.ofNat 32 w0) v = some i) ∧
  (∀ (e : Fin 148) (w v : Word) (i : Instr), kDecode e w v = some i →
    kEngine i = some e ∧ i.wf = true ∧
      kWords i = some (w.toNat, if 0x30 * 2 ^ 26 ≤ w.toNat then some v.toNat else none))

/-- Words written out from the formats and tables of the spec decode to the instructions they stand for, on the engines
that have them, and words that are undefined decode to none (R264 to R266, R270, R273 to R275, R279, R281). -/
def Obligations.KolbenWords : Prop :=
  kDecode 0 0x84010500 0 = some (.kSpan4 0 0 1) ∧ kDecode 0 0x2CA50001 0 = some (.kSubi 0 5 5 1) ∧
  kDecode 0 0x44A0FFFD 0 = some (.kBne 0 5 0 0xFFFD) ∧ kDecode 0 0x64042A05 0 = some (.kRshr 0 0 1 1 10) ∧
  kDecode 0 0x80680A01 0 = some (.kFip 0 3 8 true) ∧ kDecode 0 0x6804000C 0 = some (.kMsat 0 0 1) ∧
  kDecode 0 0xC0042300 0x0E000FFF = some (.kMulsh 0 0 1 1 3 14 0xFFF) ∧ kDecode 0 0x6818200D 0 = some (.kMcount 0 0 6 1) ∧
  kDecode 0 0x80C00B00 0 = some (.kCntAdd 0 6 0) ∧ kDecode 0 0x80010700 0 = some (.kOutRow 0 0 1) ∧
  kDecode 144 0x84010500 0 = none ∧ kDecode 144 0x80010700 0 = none ∧ kDecode 144 0x80C00B00 0 = none ∧
  kDecode 0 0x00000000 0 = some (.kNop 0) ∧ kDecode 0 0x00000001 0 = none ∧
  kDecode 7 0x04430800 0 = some (.kAdd 7 2 3 1) ∧ kDecode 7 0x0443080E 0 = none ∧
  kDecode 7 0x18220020 0 = none ∧ kDecode 7 0x5C050000 0 = some (.kJr 7 5) ∧ kDecode 7 0x6C086001 0 = some (.kVld 7 0 2 3 1) ∧
  kDecode 7 0xC4200000 0xDEADBEEF = some (.kLi 7 1 0xDEADBEEF) ∧ kDecode 7 0x80800205 0 = some (.kTaskGet 7 4 5) ∧
  kDecode 145 0x88630100 0 = some (.kDenLd 1 3 3) ∧ kDecode 7 0x88630100 0 = none ∧
  kDecode 147 0x94086418 0 = some (.kKdiv 3 0 2 3 4 3)

/-- Module DRAM, the stored registers and the engines' local memories keep their canonical form at every step. The
canonical form is the model's own. -/
def Obligations.StoresStayCanonical : Prop :=
  ∀ s t : State, DramWf s → RegsWf s → LocalWf s → step s = .next t → DramWf t ∧ RegsWf t ∧ LocalWf t

/-- At reset every store has its canonical form, nothing waits, and the values are those of the field tables (R22, R189,
R321, R358). What the spec does not give for reset stands in log entries 2 to 10; of these the statement names
unwritten memory as 0 (log entry 6), the empty journal (log entry 10), and a machine before its first start. -/
def Obligations.ResetValues : Prop :=
  let s := State.reset
  DramWf s ∧ RegsWf s ∧ LocalWf s ∧ s.pending = [] ∧ s.dram = [] ∧ s.journal = [] ∧ (∀ a, dramByte s a = 0) ∧
  regN s 0x020048 = 0x5A ∧ regN s 0x040000 = 0x40 ∧ regN s 0x040004 = 0x8000 ∧ regN s 0x0D0108 = 0x100 ∧ regN s 0x100800 = 0x00200001 ∧
  regN s 0x110000 = 0x2010 ∧ regN s 0x120010 = 0x82F63B78 ∧ regN s 0x150304 = 0x01A40000 ∧ regN s 0x170004 = 0 ∧
  s.job.st = 0 ∧ s.job.cmdOn = false ∧ s.job.cplOn = false ∧ s.job.write = none ∧ s.job.forage = none ∧ s.blk.st = 0 ∧
  s.tim.ns = 0 ∧ s.intake.bind = none ∧ s.bel.tiles = [] ∧ (∀ a : Fin 4, (s.axes[a]).count = 0 ∧ (s.axes[a]).referenced = false) ∧
  (∀ e : Fin 148, (s.eng[e]).held = none ∧ ∀ r, getG (s.eng[e]) r = 0) ∧ (∀ c : Fin 16, (s.dma[c]).st = 0)

/-- A write of a used source number to EVT.TEST raises that source as its unit would, with TEST in the entry and INFO and
CSEQ 0; it acts on no block and moves no counter but CNT_LOST (R431). -/
def Obligations.TestRaises : Prop :=
  ∀ (v : Word) (s : State),
    let src := v.toNat % 256
    let unit := raise src 0 0 s
    let plain (l : List HeldEvent) : List HeldEvent := l.map (fun h => { h with test := false })
    (¬ BarOpen s ∨ RegMap.usedSource src = false → exec (.evtTest v) s = .next s) ∧
    (BarOpen s → RegMap.usedSource src = true →
      ∃ t, exec (.evtTest v) s = .next t ∧ t = { s with regs := t.regs, evt := t.evt } ∧ t.regs = unit.regs ∧
        t.evt = { unit.evt with held := t.evt.held } ∧ plain t.evt.held = plain unit.evt.held ∧
        (RegsWf s → Raised [src] s t ∧ SameRegsBut [] s t) ∧
        (t.evt.held = s.evt.held ∨
          ∃ h, t.evt.held = s.evt.held ++ [h] ∧ h.source = src ∧ h.test = true ∧ h.info = 0 ∧ h.cseq = 0 ∧ h.stamp = stamp s) ∧
        (evtEnabled s src = true → s.evt.enabled = true → s.evt.held.length < 256 → t.evt.held ≠ s.evt.held))

/-- Clearing PENDING removes no entry and stops no message, clearing ENABLE stops those of later raises only, and setting
ENABLE forms no entry for an earlier raise (R425). -/
def Obligations.PendingAndEnable : Prop :=
  (∀ (off : BitVec 24) (v : Word) (s : State), BarOpen s → RegsWf s → off.toNat % 4 = 0 → 0x010040 ≤ off.toNat → off.toNat < 0x010080 →
    ∃ t, exec (.registerWrite off v) s = .next t ∧ t = { s with regs := t.regs } ∧
      (∀ k, k ≠ off.toNat → reg t k = reg s k) ∧
      ∀ src, src < 256 → RegMap.usedSource src = true →
        (off.toNat = 0x010040 + 4 * (src / 32) → (Pending t src ↔ Pending s src ∧ bit v.toNat (src % 32) = false)) ∧
        (off.toNat = 0x010060 + 4 * (src / 32) → evtEnabled t src = bit v.toNat (src % 32))) ∧
  (∀ (src info cseq : Nat) (s : State), evtEnabled s src = false → (raise src info cseq s).evt = s.evt)
end

