-- ==== Sys2Proof/Machine/LineCode.lean ====
section
/-!
DEFINITION. The line code of a lane of the blanker link (R214, R215; 08_blanker_link): 66-bit blocks with their sync
header, the self-synchronizing scrambler, and block lock from the sync headers. The link's commands and outputs speak of
payloads and of block lock; these functions say what bits they stand for.
-/

namespace Sys2Proof.Machine

open Sys2Proof.Bits

/-- The bits of octets as they are sent: each octet least significant bit first, payload byte 0 first (R214). -/
def octetBits (b : Bytes) : List Bool := b.flatMap (fun x => (List.range 8).map (fun i => bit x.toNat i))

/-- The octets of received bits. -/
def bitOctets : List Bool → Bytes
  | b0 :: b1 :: b2 :: b3 :: b4 :: b5 :: b6 :: b7 :: r =>
    BitVec.ofNat 8 (((List.range 8).zip [b0, b1, b2, b3, b4, b5, b6, b7]).map (fun p => if p.2 then 2 ^ p.1 else 0)).sum ::
      bitOctets r
  | _ => []

/-- The bits a scrambler holds, the last one sent or received first: those at 39 and 58 enter the next bit. -/
abbrev Scrambler := List Bool

/-- What the scrambler adds to the next bit: 1 + x^39 + x^58 (R214). -/
def scrambleBit (h : Scrambler) : Bool := h.getD 38 false != h.getD 57 false

/-- Bits scrambled: each bit sent enters the scrambler. -/
def scramble : Scrambler → List Bool → List Bool × Scrambler
  | h, [] => ([], h)
  | h, b :: r =>
    let x := b != scrambleBit h
    let y := scramble ((x :: h).take 58) r
    (x :: y.1, y.2)

/-- Bits descrambled: each bit received enters the descrambler, so it falls into step by itself. -/
def descramble : Scrambler → List Bool → List Bool × Scrambler
  | h, [] => ([], h)
  | h, x :: r =>
    let b := x != scrambleBit h
    let y := descramble ((x :: h).take 58) r
    (b :: y.1, y.2)

/-- The sync header of a block, bit by bit as sent: 0b01 for a data block, 0b10 for a control block, the left bit of each
first as Clause 49 sends it (PRESUMED, log 112). -/
def syncHeader (control : Bool) : List Bool := if control then [true, false] else [false, true]

/-- A block of eight payload bytes on the line: the sync header first, unscrambled, then the payload, scrambled (R214). -/
def lineBlock (control : Bool) (payload : Bytes) (h : Scrambler) : List Bool × Scrambler :=
  let y := scramble h (octetBits payload)
  (syncHeader control ++ y.1, y.2)

/-- A received block of 66 bits: whether it is a control block, its payload, and the descrambler after it; none where the
sync header is invalid. -/
def readBlock (b : List Bool) (h : Scrambler) : Option (Bool × Bytes × Scrambler) :=
  match b with
  | a :: c :: r =>
    let y := descramble h r
    if a = c then none else some (a, bitOctets y.1, y.2)
  | _ => none

/-- What a receiver keeps of the sync headers: block lock, and the headers of the last blocks, the newest first. -/
structure BlockLock where
  locked : Bool
  /-- While not locked, the valid headers in a row; while locked, whether each of the last 64 blocks had a valid one. -/
  good : Nat
  last : List Bool
  deriving DecidableEq, Repr

/-- A sync header is received: lock comes after 64 consecutive valid ones, and goes after 16 invalid ones within 64 blocks
(R214). -/
def lockStep (x : BlockLock) (valid : Bool) : BlockLock :=
  if x.locked then
    let l := (valid :: x.last).take 64
    if 16 ≤ (l.filter (!·)).length then { locked := false, good := 0, last := [] } else { x with last := l }
  else
    let n := if valid then x.good + 1 else 0
    if 64 ≤ n then { locked := true, good := 0, last := [] } else { x with good := n }


end Sys2Proof.Machine
end

