-- ==== Sys2Proof/Laws/Link.lean ====
section
/-!
SUPPORT. The line code of the blanker link: what a descrambler makes of scrambled bits.
-/

namespace Sys2Proof.Machine

/-- A descrambler in step gives back the bits that were scrambled, and stays in step (R214). -/
theorem descramble_scramble (b : List Bool) (h : Scrambler) :
    descramble h (scramble h b).1 = (b, (scramble h b).2) := by
  induction b generalizing h with
  | nil => rfl
  | cons x r ih =>
    have e : ((x != scrambleBit h) != scrambleBit h) = x := by cases x <;> cases scrambleBit h <;> rfl
    simp [scramble, descramble, ih, e]

end Sys2Proof.Machine
end

