-- ==== Sys2Proof/Laws/Sparse.lean ====
section
/-!
SUPPORT. The laws of the sparse map: a read after a write, and that every write keeps the canonical form.
-/

namespace Sys2Proof.Sparse

variable {α : Type} [DecidableEq α]

theorem above_weaken (d : Nat → α) (l : List (Nat × α)) (lo k : Nat) (h : above d (some k) l = true) (hk : lo ≤ k) :
    above d (some lo) l = true := by
  cases l with
  | nil => rfl
  | cons e r =>
    obtain ⟨a, v⟩ := e
    simp only [above, Bool.and_eq_true, decide_eq_true_eq] at h ⊢
    exact ⟨⟨by omega, h.1.2⟩, h.2⟩

theorem above_none (d : Nat → α) (l : List (Nat × α)) (k : Nat) (h : above d (some k) l = true) :
    above d none l = true := by
  cases l with
  | nil => rfl
  | cons e r =>
    obtain ⟨a, v⟩ := e
    simp only [above, Bool.and_eq_true, decide_eq_true_eq] at h ⊢
    exact ⟨⟨trivial, h.1.2⟩, h.2⟩

theorem get_below (d : Nat → α) (l : List (Nat × α)) (lo k : Nat) (h : above d (some lo) l = true) (hk : k ≤ lo) :
    get d l k = d k := by
  induction l generalizing lo with
  | nil => rfl
  | cons e r ih =>
    obtain ⟨a, v⟩ := e
    simp only [above, Bool.and_eq_true, decide_eq_true_eq] at h
    simp only [get]
    rw [if_neg (by omega)]
    exact ih a h.2 (by omega)

/-- A read after a write, on a map whose addresses rise. -/
theorem get_set_above (d : Nat → α) (l : List (Nat × α)) (lo : Option Nat) (k j : Nat) (v : α)
    (h : above d lo l = true) : get d (set d l k v) j = if j = k then v else get d l j := by
  induction l generalizing lo with
  | nil =>
    simp only [set]
    split
    · rename_i hv; simp only [get]; split
      · rename_i e; rw [e]; exact hv.symm
      · rfl
    · rfl
  | cons e r ih =>
    obtain ⟨a, w⟩ := e
    simp only [above, Bool.and_eq_true, decide_eq_true_eq] at h
    obtain ⟨⟨_, hw⟩, hr⟩ := h
    simp only [set]
    split
    · rename_i hlt
      split
      · rename_i hv
        split
        · rename_i e; subst e
          have hb : get d r j = d j := get_below d r a j hr (by omega)
          simp only [get]; rw [if_neg (by omega), hb, hv]
        · rfl
      · rfl
    · split
      · rename_i hk; subst hk
        split
        · rename_i hv
          split
          · rename_i e; subst e; rw [get_below d r j j hr (le_refl _), hv]
          · rename_i hj; simp only [get]; rw [if_neg hj]
        · simp only [get]; split
          · rfl
          · rfl
      · rename_i h1 h2
        simp only [get]
        split
        · rename_i e; subst e; rw [if_neg (by omega)]
        · exact ih (some a) hr

/-- Writing keeps the canonical form above any address below the one written. -/
theorem above_set (d : Nat → α) (l : List (Nat × α)) (lo : Option Nat) (k : Nat) (v : α)
    (h : above d lo l = true) (hk : ∀ m, lo = some m → m < k) : above d lo (set d l k v) = true := by
  induction l generalizing lo with
  | nil =>
    simp only [set]
    split
    · rfl
    · rename_i hv
      simp only [above, Bool.and_eq_true, decide_eq_true_eq]
      refine ⟨⟨?_, hv⟩, trivial⟩
      cases lo with
      | none => rfl
      | some m => simpa using hk m rfl
  | cons e r ih =>
    obtain ⟨a, w⟩ := e
    have h0 := h
    simp only [above, Bool.and_eq_true, decide_eq_true_eq] at h
    obtain ⟨⟨hlo, hw⟩, hr⟩ := h
    simp only [set]
    split
    · rename_i hlt
      split
      · exact h0
      · rename_i hv
        simp only [above, Bool.and_eq_true, decide_eq_true_eq]
        refine ⟨⟨?_, hv⟩, ⟨hlt, hw⟩, hr⟩
        cases lo with
        | none => rfl
        | some m => simpa using hk m rfl
    · split
      · rename_i hk2; subst hk2
        split
        · cases lo with
          | none => exact above_none d r k hr
          | some m => exact above_weaken d r m k hr (Nat.le_of_lt (hk m rfl))
        · rename_i hv
          simp only [above, Bool.and_eq_true, decide_eq_true_eq]
          exact ⟨⟨hlo, hv⟩, hr⟩
      · rename_i h1 h2
        simp only [above, Bool.and_eq_true, decide_eq_true_eq]
        exact ⟨⟨hlo, hw⟩, ih (some a) hr (by intro m hm; cases hm; omega)⟩

/-- Every write keeps the canonical form. -/
@[simp] theorem wf_set (d : Nat → α) (l : List (Nat × α)) (k : Nat) (v : α) (h : wf d l = true) :
    wf d (set d l k v) = true := above_set d l none k v h (by intro m hm; cases hm)

/-- A read after a write gives the value written there and the earlier value elsewhere. -/
theorem get_set (d : Nat → α) (l : List (Nat × α)) (k j : Nat) (v : α) (h : wf d l = true) :
    get d (set d l k v) j = if j = k then v else get d l j := get_set_above d l none k j v h

/-- Writing a run keeps the canonical form. -/
@[simp] theorem wf_setRun (d : Nat → α) (l : List (Nat × α)) (k : Nat) (vs : List α) (h : wf d l = true) :
    wf d (setRun d l k vs) = true := by
  induction vs generalizing l k with
  | nil => exact h
  | cons v vs ih => exact ih _ _ (wf_set d l k v h)

/-- A read after a run has been written. -/
theorem get_setRun (d : Nat → α) (l : List (Nat × α)) (k j : Nat) (vs : List α) (h : wf d l = true) :
    get d (setRun d l k vs) j = if h : k ≤ j ∧ j < k + vs.length then vs[j - k] else get d l j := by
  induction vs generalizing l k with
  | nil => simp [setRun]
  | cons v vs ih =>
    simp only [setRun]
    rw [ih _ _ (wf_set d l k v h), get_set d l k j v h]
    by_cases hj : j = k
    · subst hj; simp
    · by_cases hr : k + 1 ≤ j ∧ j < k + 1 + vs.length
      · have h2 : k ≤ j ∧ j < k + (v :: vs).length := by simp only [List.length_cons]; omega
        rw [dif_pos hr, dif_pos h2]
        have e : j - k = (j - (k + 1)) + 1 := by omega
        simp [e]
      · have h2 : ¬ (k ≤ j ∧ j < k + (v :: vs).length) := by simp only [List.length_cons]; omega
        rw [dif_neg hr, dif_neg h2, if_neg hj]

/-- Filtering keeps the addresses rising. -/
theorem above_filter (d : Nat → α) (l : List (Nat × α)) (lo : Option Nat) (p : Nat × α → Bool)
    (h : above d lo l = true) : above d lo (l.filter p) = true := by
  induction l generalizing lo with
  | nil => rfl
  | cons e r ih =>
    obtain ⟨a, w⟩ := e
    simp only [above, Bool.and_eq_true, decide_eq_true_eq] at h
    obtain ⟨⟨hlo, hw⟩, hr⟩ := h
    simp only [List.filter_cons]
    split
    · simp only [above, Bool.and_eq_true, decide_eq_true_eq]
      exact ⟨⟨hlo, hw⟩, ih (some a) hr⟩
    · have h2 := ih (some a) hr
      cases lo with
      | none => exact above_none d _ a h2
      | some m => exact above_weaken d _ m a h2 (by simp at hlo; omega)

/-- Dropping entries keeps the canonical form. -/
@[simp] theorem wf_filter (d : Nat → α) (l : List (Nat × α)) (p : Nat × α → Bool) (h : wf d l = true) :
    wf d (l.filter p) = true := above_filter d l none p h

end Sys2Proof.Sparse
end

