-- ==== Sys2Proof/Laws/State.lean ====
section
/-!
SUPPORT. The state after each plain update: one lemma per field the update leaves alone, and one for the field it
changes.
-/

namespace Sys2Proof.Machine

/-! ### What an update changes -/

theorem setReg_regs (o v s) : (setReg o v s).regs = Sparse.set RegMap.reset s.regs o v := rfl
theorem dramWrite_dram (a b s) : (dramWrite a b s).dram = Sparse.setRun dramDefault s.dram a b := rfl
@[simp] theorem send_out (o s) : (send o s).out = o :: s.out := rfl
@[simp] theorem freeNext_free (s) : (freeNext s).free = s.free + 1 := rfl
@[simp] theorem updHif_hif (f s) : (updHif f s).hif = f s.hif := rfl
@[simp] theorem updCrc_crc (u f s) : (updCrc u f s).crc = upd s.crc u.val f := rfl
@[simp] theorem updChan_dma (c f s) : (updChan c f s).dma = upd s.dma c f := rfl
@[simp] theorem updEng_eng (e f s) : (updEng e f s).eng = upd s.eng e.val f := rfl
@[simp] theorem updSec_sec (f s) : (updSec f s).sec = f s.sec := rfl
@[simp] theorem updThm_thm (f s) : (updThm f s).thm = f s.thm := rfl
@[simp] theorem updJob_job (f s) : (updJob f s).job = f s.job := rfl
@[simp] theorem updAxis_axes (a f s) : (updAxis a f s).axes = upd s.axes a.val f := rfl
@[simp] theorem updPower_power (f s) : (updPower f s).power = f s.power := rfl
@[simp] theorem updTim_tim (f s) : (updTim f s).tim = f s.tim := rfl

/-! ### Vectors -/

/-- A read of a vector after one entry has changed. -/
@[simp] theorem upd_get {α : Type} {n : Nat} (v : Vector α n) (i : Nat) (f : α → α) (j : Nat) (h : j < n) :
    (upd v i f)[j] = if i = j then f v[j] else v[j] := by
  unfold upd
  split
  · rw [Vector.getElem_set]
    split
    · rename_i e; subst e; rfl
    · rfl
  · rw [if_neg (by omega)]

theorem upd_fin {α : Type} {n : Nat} (v : Vector α n) (i j : Fin n) (f : α → α) :
    (upd v i.val f)[j] = if i = j then f v[j] else v[j] := by
  have h := upd_get v i.val f j.val j.isLt
  simp only [Fin.getElem_fin, h, Fin.ext_iff]

/-! ### What an update leaves alone -/

@[simp] theorem setReg_pending (o v s) : (setReg o v s).pending = s.pending := rfl
@[simp] theorem setReg_free (o v s) : (setReg o v s).free = s.free := rfl
@[simp] theorem setReg_out (o v s) : (setReg o v s).out = s.out := rfl
@[simp] theorem setReg_latch (o v s) : (setReg o v s).latch = s.latch := rfl
@[simp] theorem setReg_dram (o v s) : (setReg o v s).dram = s.dram := rfl
@[simp] theorem setReg_journal (o v s) : (setReg o v s).journal = s.journal := rfl
@[simp] theorem setReg_power (o v s) : (setReg o v s).power = s.power := rfl
@[simp] theorem setReg_hif (o v s) : (setReg o v s).hif = s.hif := rfl
@[simp] theorem setReg_evt (o v s) : (setReg o v s).evt = s.evt := rfl
@[simp] theorem setReg_job (o v s) : (setReg o v s).job = s.job := rfl
@[simp] theorem setReg_dma (o v s) : (setReg o v s).dma = s.dma := rfl
@[simp] theorem setReg_intake (o v s) : (setReg o v s).intake = s.intake := rfl
@[simp] theorem setReg_eng (o v s) : (setReg o v s).eng = s.eng := rfl
@[simp] theorem setReg_comb (o v s) : (setReg o v s).comb = s.comb := rfl
@[simp] theorem setReg_pec (o v s) : (setReg o v s).pec = s.pec := rfl
@[simp] theorem setReg_bmu (o v s) : (setReg o v s).bmu = s.bmu := rfl
@[simp] theorem setReg_axes (o v s) : (setReg o v s).axes = s.axes := rfl
@[simp] theorem setReg_seq (o v s) : (setReg o v s).seq = s.seq := rfl
@[simp] theorem setReg_blk (o v s) : (setReg o v s).blk = s.blk := rfl
@[simp] theorem setReg_mem (o v s) : (setReg o v s).mem = s.mem := rfl
@[simp] theorem setReg_bel (o v s) : (setReg o v s).bel = s.bel := rfl
@[simp] theorem setReg_hive (o v s) : (setReg o v s).hive = s.hive := rfl
@[simp] theorem setReg_crc (o v s) : (setReg o v s).crc = s.crc := rfl
@[simp] theorem setReg_tim (o v s) : (setReg o v s).tim = s.tim := rfl
@[simp] theorem setReg_sec (o v s) : (setReg o v s).sec = s.sec := rfl
@[simp] theorem setReg_thm (o v s) : (setReg o v s).thm = s.thm := rfl
@[simp] theorem setReg_cal (o v s) : (setReg o v s).cal = s.cal := rfl
@[simp] theorem setRegN_pending (o v s) : (setRegN o v s).pending = s.pending := rfl
@[simp] theorem setRegN_free (o v s) : (setRegN o v s).free = s.free := rfl
@[simp] theorem setRegN_out (o v s) : (setRegN o v s).out = s.out := rfl
@[simp] theorem setRegN_latch (o v s) : (setRegN o v s).latch = s.latch := rfl
@[simp] theorem setRegN_dram (o v s) : (setRegN o v s).dram = s.dram := rfl
@[simp] theorem setRegN_journal (o v s) : (setRegN o v s).journal = s.journal := rfl
@[simp] theorem setRegN_power (o v s) : (setRegN o v s).power = s.power := rfl
@[simp] theorem setRegN_hif (o v s) : (setRegN o v s).hif = s.hif := rfl
@[simp] theorem setRegN_evt (o v s) : (setRegN o v s).evt = s.evt := rfl
@[simp] theorem setRegN_job (o v s) : (setRegN o v s).job = s.job := rfl
@[simp] theorem setRegN_dma (o v s) : (setRegN o v s).dma = s.dma := rfl
@[simp] theorem setRegN_intake (o v s) : (setRegN o v s).intake = s.intake := rfl
@[simp] theorem setRegN_eng (o v s) : (setRegN o v s).eng = s.eng := rfl
@[simp] theorem setRegN_comb (o v s) : (setRegN o v s).comb = s.comb := rfl
@[simp] theorem setRegN_pec (o v s) : (setRegN o v s).pec = s.pec := rfl
@[simp] theorem setRegN_bmu (o v s) : (setRegN o v s).bmu = s.bmu := rfl
@[simp] theorem setRegN_axes (o v s) : (setRegN o v s).axes = s.axes := rfl
@[simp] theorem setRegN_seq (o v s) : (setRegN o v s).seq = s.seq := rfl
@[simp] theorem setRegN_blk (o v s) : (setRegN o v s).blk = s.blk := rfl
@[simp] theorem setRegN_mem (o v s) : (setRegN o v s).mem = s.mem := rfl
@[simp] theorem setRegN_bel (o v s) : (setRegN o v s).bel = s.bel := rfl
@[simp] theorem setRegN_hive (o v s) : (setRegN o v s).hive = s.hive := rfl
@[simp] theorem setRegN_crc (o v s) : (setRegN o v s).crc = s.crc := rfl
@[simp] theorem setRegN_tim (o v s) : (setRegN o v s).tim = s.tim := rfl
@[simp] theorem setRegN_sec (o v s) : (setRegN o v s).sec = s.sec := rfl
@[simp] theorem setRegN_thm (o v s) : (setRegN o v s).thm = s.thm := rfl
@[simp] theorem setRegN_cal (o v s) : (setRegN o v s).cal = s.cal := rfl
@[simp] theorem setReg64_pending (o v s) : (setReg64 o v s).pending = s.pending := rfl
@[simp] theorem setReg64_free (o v s) : (setReg64 o v s).free = s.free := rfl
@[simp] theorem setReg64_out (o v s) : (setReg64 o v s).out = s.out := rfl
@[simp] theorem setReg64_latch (o v s) : (setReg64 o v s).latch = s.latch := rfl
@[simp] theorem setReg64_dram (o v s) : (setReg64 o v s).dram = s.dram := rfl
@[simp] theorem setReg64_journal (o v s) : (setReg64 o v s).journal = s.journal := rfl
@[simp] theorem setReg64_power (o v s) : (setReg64 o v s).power = s.power := rfl
@[simp] theorem setReg64_hif (o v s) : (setReg64 o v s).hif = s.hif := rfl
@[simp] theorem setReg64_evt (o v s) : (setReg64 o v s).evt = s.evt := rfl
@[simp] theorem setReg64_job (o v s) : (setReg64 o v s).job = s.job := rfl
@[simp] theorem setReg64_dma (o v s) : (setReg64 o v s).dma = s.dma := rfl
@[simp] theorem setReg64_intake (o v s) : (setReg64 o v s).intake = s.intake := rfl
@[simp] theorem setReg64_eng (o v s) : (setReg64 o v s).eng = s.eng := rfl
@[simp] theorem setReg64_comb (o v s) : (setReg64 o v s).comb = s.comb := rfl
@[simp] theorem setReg64_pec (o v s) : (setReg64 o v s).pec = s.pec := rfl
@[simp] theorem setReg64_bmu (o v s) : (setReg64 o v s).bmu = s.bmu := rfl
@[simp] theorem setReg64_axes (o v s) : (setReg64 o v s).axes = s.axes := rfl
@[simp] theorem setReg64_seq (o v s) : (setReg64 o v s).seq = s.seq := rfl
@[simp] theorem setReg64_blk (o v s) : (setReg64 o v s).blk = s.blk := rfl
@[simp] theorem setReg64_mem (o v s) : (setReg64 o v s).mem = s.mem := rfl
@[simp] theorem setReg64_bel (o v s) : (setReg64 o v s).bel = s.bel := rfl
@[simp] theorem setReg64_hive (o v s) : (setReg64 o v s).hive = s.hive := rfl
@[simp] theorem setReg64_crc (o v s) : (setReg64 o v s).crc = s.crc := rfl
@[simp] theorem setReg64_tim (o v s) : (setReg64 o v s).tim = s.tim := rfl
@[simp] theorem setReg64_sec (o v s) : (setReg64 o v s).sec = s.sec := rfl
@[simp] theorem setReg64_thm (o v s) : (setReg64 o v s).thm = s.thm := rfl
@[simp] theorem setReg64_cal (o v s) : (setReg64 o v s).cal = s.cal := rfl
@[simp] theorem setRegBits_pending (o hi lo v s) : (setRegBits o hi lo v s).pending = s.pending := rfl
@[simp] theorem setRegBits_free (o hi lo v s) : (setRegBits o hi lo v s).free = s.free := rfl
@[simp] theorem setRegBits_out (o hi lo v s) : (setRegBits o hi lo v s).out = s.out := rfl
@[simp] theorem setRegBits_latch (o hi lo v s) : (setRegBits o hi lo v s).latch = s.latch := rfl
@[simp] theorem setRegBits_dram (o hi lo v s) : (setRegBits o hi lo v s).dram = s.dram := rfl
@[simp] theorem setRegBits_journal (o hi lo v s) : (setRegBits o hi lo v s).journal = s.journal := rfl
@[simp] theorem setRegBits_power (o hi lo v s) : (setRegBits o hi lo v s).power = s.power := rfl
@[simp] theorem setRegBits_hif (o hi lo v s) : (setRegBits o hi lo v s).hif = s.hif := rfl
@[simp] theorem setRegBits_evt (o hi lo v s) : (setRegBits o hi lo v s).evt = s.evt := rfl
@[simp] theorem setRegBits_job (o hi lo v s) : (setRegBits o hi lo v s).job = s.job := rfl
@[simp] theorem setRegBits_dma (o hi lo v s) : (setRegBits o hi lo v s).dma = s.dma := rfl
@[simp] theorem setRegBits_intake (o hi lo v s) : (setRegBits o hi lo v s).intake = s.intake := rfl
@[simp] theorem setRegBits_eng (o hi lo v s) : (setRegBits o hi lo v s).eng = s.eng := rfl
@[simp] theorem setRegBits_comb (o hi lo v s) : (setRegBits o hi lo v s).comb = s.comb := rfl
@[simp] theorem setRegBits_pec (o hi lo v s) : (setRegBits o hi lo v s).pec = s.pec := rfl
@[simp] theorem setRegBits_bmu (o hi lo v s) : (setRegBits o hi lo v s).bmu = s.bmu := rfl
@[simp] theorem setRegBits_axes (o hi lo v s) : (setRegBits o hi lo v s).axes = s.axes := rfl
@[simp] theorem setRegBits_seq (o hi lo v s) : (setRegBits o hi lo v s).seq = s.seq := rfl
@[simp] theorem setRegBits_blk (o hi lo v s) : (setRegBits o hi lo v s).blk = s.blk := rfl
@[simp] theorem setRegBits_mem (o hi lo v s) : (setRegBits o hi lo v s).mem = s.mem := rfl
@[simp] theorem setRegBits_bel (o hi lo v s) : (setRegBits o hi lo v s).bel = s.bel := rfl
@[simp] theorem setRegBits_hive (o hi lo v s) : (setRegBits o hi lo v s).hive = s.hive := rfl
@[simp] theorem setRegBits_crc (o hi lo v s) : (setRegBits o hi lo v s).crc = s.crc := rfl
@[simp] theorem setRegBits_tim (o hi lo v s) : (setRegBits o hi lo v s).tim = s.tim := rfl
@[simp] theorem setRegBits_sec (o hi lo v s) : (setRegBits o hi lo v s).sec = s.sec := rfl
@[simp] theorem setRegBits_thm (o hi lo v s) : (setRegBits o hi lo v s).thm = s.thm := rfl
@[simp] theorem setRegBits_cal (o hi lo v s) : (setRegBits o hi lo v s).cal = s.cal := rfl
@[simp] theorem count_pending (o n s) : (count o n s).pending = s.pending := rfl
@[simp] theorem count_free (o n s) : (count o n s).free = s.free := rfl
@[simp] theorem count_out (o n s) : (count o n s).out = s.out := rfl
@[simp] theorem count_latch (o n s) : (count o n s).latch = s.latch := rfl
@[simp] theorem count_dram (o n s) : (count o n s).dram = s.dram := rfl
@[simp] theorem count_journal (o n s) : (count o n s).journal = s.journal := rfl
@[simp] theorem count_power (o n s) : (count o n s).power = s.power := rfl
@[simp] theorem count_hif (o n s) : (count o n s).hif = s.hif := rfl
@[simp] theorem count_evt (o n s) : (count o n s).evt = s.evt := rfl
@[simp] theorem count_job (o n s) : (count o n s).job = s.job := rfl
@[simp] theorem count_dma (o n s) : (count o n s).dma = s.dma := rfl
@[simp] theorem count_intake (o n s) : (count o n s).intake = s.intake := rfl
@[simp] theorem count_eng (o n s) : (count o n s).eng = s.eng := rfl
@[simp] theorem count_comb (o n s) : (count o n s).comb = s.comb := rfl
@[simp] theorem count_pec (o n s) : (count o n s).pec = s.pec := rfl
@[simp] theorem count_bmu (o n s) : (count o n s).bmu = s.bmu := rfl
@[simp] theorem count_axes (o n s) : (count o n s).axes = s.axes := rfl
@[simp] theorem count_seq (o n s) : (count o n s).seq = s.seq := rfl
@[simp] theorem count_blk (o n s) : (count o n s).blk = s.blk := rfl
@[simp] theorem count_mem (o n s) : (count o n s).mem = s.mem := rfl
@[simp] theorem count_bel (o n s) : (count o n s).bel = s.bel := rfl
@[simp] theorem count_hive (o n s) : (count o n s).hive = s.hive := rfl
@[simp] theorem count_crc (o n s) : (count o n s).crc = s.crc := rfl
@[simp] theorem count_tim (o n s) : (count o n s).tim = s.tim := rfl
@[simp] theorem count_sec (o n s) : (count o n s).sec = s.sec := rfl
@[simp] theorem count_thm (o n s) : (count o n s).thm = s.thm := rfl
@[simp] theorem count_cal (o n s) : (count o n s).cal = s.cal := rfl
@[simp] theorem dramWrite_pending (a b s) : (dramWrite a b s).pending = s.pending := rfl
@[simp] theorem dramWrite_free (a b s) : (dramWrite a b s).free = s.free := rfl
@[simp] theorem dramWrite_out (a b s) : (dramWrite a b s).out = s.out := rfl
@[simp] theorem dramWrite_regs (a b s) : (dramWrite a b s).regs = s.regs := rfl
@[simp] theorem dramWrite_latch (a b s) : (dramWrite a b s).latch = s.latch := rfl
@[simp] theorem dramWrite_journal (a b s) : (dramWrite a b s).journal = s.journal := rfl
@[simp] theorem dramWrite_power (a b s) : (dramWrite a b s).power = s.power := rfl
@[simp] theorem dramWrite_hif (a b s) : (dramWrite a b s).hif = s.hif := rfl
@[simp] theorem dramWrite_evt (a b s) : (dramWrite a b s).evt = s.evt := rfl
@[simp] theorem dramWrite_job (a b s) : (dramWrite a b s).job = s.job := rfl
@[simp] theorem dramWrite_dma (a b s) : (dramWrite a b s).dma = s.dma := rfl
@[simp] theorem dramWrite_intake (a b s) : (dramWrite a b s).intake = s.intake := rfl
@[simp] theorem dramWrite_eng (a b s) : (dramWrite a b s).eng = s.eng := rfl
@[simp] theorem dramWrite_comb (a b s) : (dramWrite a b s).comb = s.comb := rfl
@[simp] theorem dramWrite_pec (a b s) : (dramWrite a b s).pec = s.pec := rfl
@[simp] theorem dramWrite_bmu (a b s) : (dramWrite a b s).bmu = s.bmu := rfl
@[simp] theorem dramWrite_axes (a b s) : (dramWrite a b s).axes = s.axes := rfl
@[simp] theorem dramWrite_seq (a b s) : (dramWrite a b s).seq = s.seq := rfl
@[simp] theorem dramWrite_blk (a b s) : (dramWrite a b s).blk = s.blk := rfl
@[simp] theorem dramWrite_mem (a b s) : (dramWrite a b s).mem = s.mem := rfl
@[simp] theorem dramWrite_bel (a b s) : (dramWrite a b s).bel = s.bel := rfl
@[simp] theorem dramWrite_hive (a b s) : (dramWrite a b s).hive = s.hive := rfl
@[simp] theorem dramWrite_crc (a b s) : (dramWrite a b s).crc = s.crc := rfl
@[simp] theorem dramWrite_tim (a b s) : (dramWrite a b s).tim = s.tim := rfl
@[simp] theorem dramWrite_sec (a b s) : (dramWrite a b s).sec = s.sec := rfl
@[simp] theorem dramWrite_thm (a b s) : (dramWrite a b s).thm = s.thm := rfl
@[simp] theorem dramWrite_cal (a b s) : (dramWrite a b s).cal = s.cal := rfl
@[simp] theorem send_pending (o s) : (send o s).pending = s.pending := rfl
@[simp] theorem send_free (o s) : (send o s).free = s.free := rfl
@[simp] theorem send_regs (o s) : (send o s).regs = s.regs := rfl
@[simp] theorem send_latch (o s) : (send o s).latch = s.latch := rfl
@[simp] theorem send_dram (o s) : (send o s).dram = s.dram := rfl
@[simp] theorem send_journal (o s) : (send o s).journal = s.journal := rfl
@[simp] theorem send_power (o s) : (send o s).power = s.power := rfl
@[simp] theorem send_hif (o s) : (send o s).hif = s.hif := rfl
@[simp] theorem send_evt (o s) : (send o s).evt = s.evt := rfl
@[simp] theorem send_job (o s) : (send o s).job = s.job := rfl
@[simp] theorem send_dma (o s) : (send o s).dma = s.dma := rfl
@[simp] theorem send_intake (o s) : (send o s).intake = s.intake := rfl
@[simp] theorem send_eng (o s) : (send o s).eng = s.eng := rfl
@[simp] theorem send_comb (o s) : (send o s).comb = s.comb := rfl
@[simp] theorem send_pec (o s) : (send o s).pec = s.pec := rfl
@[simp] theorem send_bmu (o s) : (send o s).bmu = s.bmu := rfl
@[simp] theorem send_axes (o s) : (send o s).axes = s.axes := rfl
@[simp] theorem send_seq (o s) : (send o s).seq = s.seq := rfl
@[simp] theorem send_blk (o s) : (send o s).blk = s.blk := rfl
@[simp] theorem send_mem (o s) : (send o s).mem = s.mem := rfl
@[simp] theorem send_bel (o s) : (send o s).bel = s.bel := rfl
@[simp] theorem send_hive (o s) : (send o s).hive = s.hive := rfl
@[simp] theorem send_crc (o s) : (send o s).crc = s.crc := rfl
@[simp] theorem send_tim (o s) : (send o s).tim = s.tim := rfl
@[simp] theorem send_sec (o s) : (send o s).sec = s.sec := rfl
@[simp] theorem send_thm (o s) : (send o s).thm = s.thm := rfl
@[simp] theorem send_cal (o s) : (send o s).cal = s.cal := rfl
@[simp] theorem freeNext_pending (s) : (freeNext s).pending = s.pending := rfl
@[simp] theorem freeNext_out (s) : (freeNext s).out = s.out := rfl
@[simp] theorem freeNext_regs (s) : (freeNext s).regs = s.regs := rfl
@[simp] theorem freeNext_latch (s) : (freeNext s).latch = s.latch := rfl
@[simp] theorem freeNext_dram (s) : (freeNext s).dram = s.dram := rfl
@[simp] theorem freeNext_journal (s) : (freeNext s).journal = s.journal := rfl
@[simp] theorem freeNext_power (s) : (freeNext s).power = s.power := rfl
@[simp] theorem freeNext_hif (s) : (freeNext s).hif = s.hif := rfl
@[simp] theorem freeNext_evt (s) : (freeNext s).evt = s.evt := rfl
@[simp] theorem freeNext_job (s) : (freeNext s).job = s.job := rfl
@[simp] theorem freeNext_dma (s) : (freeNext s).dma = s.dma := rfl
@[simp] theorem freeNext_intake (s) : (freeNext s).intake = s.intake := rfl
@[simp] theorem freeNext_eng (s) : (freeNext s).eng = s.eng := rfl
@[simp] theorem freeNext_comb (s) : (freeNext s).comb = s.comb := rfl
@[simp] theorem freeNext_pec (s) : (freeNext s).pec = s.pec := rfl
@[simp] theorem freeNext_bmu (s) : (freeNext s).bmu = s.bmu := rfl
@[simp] theorem freeNext_axes (s) : (freeNext s).axes = s.axes := rfl
@[simp] theorem freeNext_seq (s) : (freeNext s).seq = s.seq := rfl
@[simp] theorem freeNext_blk (s) : (freeNext s).blk = s.blk := rfl
@[simp] theorem freeNext_mem (s) : (freeNext s).mem = s.mem := rfl
@[simp] theorem freeNext_bel (s) : (freeNext s).bel = s.bel := rfl
@[simp] theorem freeNext_hive (s) : (freeNext s).hive = s.hive := rfl
@[simp] theorem freeNext_crc (s) : (freeNext s).crc = s.crc := rfl
@[simp] theorem freeNext_tim (s) : (freeNext s).tim = s.tim := rfl
@[simp] theorem freeNext_sec (s) : (freeNext s).sec = s.sec := rfl
@[simp] theorem freeNext_thm (s) : (freeNext s).thm = s.thm := rfl
@[simp] theorem freeNext_cal (s) : (freeNext s).cal = s.cal := rfl
@[simp] theorem setPendingBit_pending (k s) : (setPendingBit k s).pending = s.pending := rfl
@[simp] theorem setPendingBit_free (k s) : (setPendingBit k s).free = s.free := rfl
@[simp] theorem setPendingBit_out (k s) : (setPendingBit k s).out = s.out := rfl
@[simp] theorem setPendingBit_latch (k s) : (setPendingBit k s).latch = s.latch := rfl
@[simp] theorem setPendingBit_dram (k s) : (setPendingBit k s).dram = s.dram := rfl
@[simp] theorem setPendingBit_journal (k s) : (setPendingBit k s).journal = s.journal := rfl
@[simp] theorem setPendingBit_power (k s) : (setPendingBit k s).power = s.power := rfl
@[simp] theorem setPendingBit_hif (k s) : (setPendingBit k s).hif = s.hif := rfl
@[simp] theorem setPendingBit_evt (k s) : (setPendingBit k s).evt = s.evt := rfl
@[simp] theorem setPendingBit_job (k s) : (setPendingBit k s).job = s.job := rfl
@[simp] theorem setPendingBit_dma (k s) : (setPendingBit k s).dma = s.dma := rfl
@[simp] theorem setPendingBit_intake (k s) : (setPendingBit k s).intake = s.intake := rfl
@[simp] theorem setPendingBit_eng (k s) : (setPendingBit k s).eng = s.eng := rfl
@[simp] theorem setPendingBit_comb (k s) : (setPendingBit k s).comb = s.comb := rfl
@[simp] theorem setPendingBit_pec (k s) : (setPendingBit k s).pec = s.pec := rfl
@[simp] theorem setPendingBit_bmu (k s) : (setPendingBit k s).bmu = s.bmu := rfl
@[simp] theorem setPendingBit_axes (k s) : (setPendingBit k s).axes = s.axes := rfl
@[simp] theorem setPendingBit_seq (k s) : (setPendingBit k s).seq = s.seq := rfl
@[simp] theorem setPendingBit_blk (k s) : (setPendingBit k s).blk = s.blk := rfl
@[simp] theorem setPendingBit_mem (k s) : (setPendingBit k s).mem = s.mem := rfl
@[simp] theorem setPendingBit_bel (k s) : (setPendingBit k s).bel = s.bel := rfl
@[simp] theorem setPendingBit_hive (k s) : (setPendingBit k s).hive = s.hive := rfl
@[simp] theorem setPendingBit_crc (k s) : (setPendingBit k s).crc = s.crc := rfl
@[simp] theorem setPendingBit_tim (k s) : (setPendingBit k s).tim = s.tim := rfl
@[simp] theorem setPendingBit_sec (k s) : (setPendingBit k s).sec = s.sec := rfl
@[simp] theorem setPendingBit_thm (k s) : (setPendingBit k s).thm = s.thm := rfl
@[simp] theorem setPendingBit_cal (k s) : (setPendingBit k s).cal = s.cal := rfl
@[simp] theorem setPhase_pending (q p s) : (setPhase q p s).pending = s.pending := rfl
@[simp] theorem setPhase_free (q p s) : (setPhase q p s).free = s.free := rfl
@[simp] theorem setPhase_out (q p s) : (setPhase q p s).out = s.out := rfl
@[simp] theorem setPhase_regs (q p s) : (setPhase q p s).regs = s.regs := rfl
@[simp] theorem setPhase_latch (q p s) : (setPhase q p s).latch = s.latch := rfl
@[simp] theorem setPhase_dram (q p s) : (setPhase q p s).dram = s.dram := rfl
@[simp] theorem setPhase_journal (q p s) : (setPhase q p s).journal = s.journal := rfl
@[simp] theorem setPhase_power (q p s) : (setPhase q p s).power = s.power := rfl
@[simp] theorem setPhase_hif (q p s) : (setPhase q p s).hif = s.hif := rfl
@[simp] theorem setPhase_evt (q p s) : (setPhase q p s).evt = s.evt := rfl
@[simp] theorem setPhase_dma (q p s) : (setPhase q p s).dma = s.dma := rfl
@[simp] theorem setPhase_intake (q p s) : (setPhase q p s).intake = s.intake := rfl
@[simp] theorem setPhase_eng (q p s) : (setPhase q p s).eng = s.eng := rfl
@[simp] theorem setPhase_comb (q p s) : (setPhase q p s).comb = s.comb := rfl
@[simp] theorem setPhase_pec (q p s) : (setPhase q p s).pec = s.pec := rfl
@[simp] theorem setPhase_bmu (q p s) : (setPhase q p s).bmu = s.bmu := rfl
@[simp] theorem setPhase_axes (q p s) : (setPhase q p s).axes = s.axes := rfl
@[simp] theorem setPhase_seq (q p s) : (setPhase q p s).seq = s.seq := rfl
@[simp] theorem setPhase_blk (q p s) : (setPhase q p s).blk = s.blk := rfl
@[simp] theorem setPhase_mem (q p s) : (setPhase q p s).mem = s.mem := rfl
@[simp] theorem setPhase_bel (q p s) : (setPhase q p s).bel = s.bel := rfl
@[simp] theorem setPhase_hive (q p s) : (setPhase q p s).hive = s.hive := rfl
@[simp] theorem setPhase_crc (q p s) : (setPhase q p s).crc = s.crc := rfl
@[simp] theorem setPhase_tim (q p s) : (setPhase q p s).tim = s.tim := rfl
@[simp] theorem setPhase_sec (q p s) : (setPhase q p s).sec = s.sec := rfl
@[simp] theorem setPhase_thm (q p s) : (setPhase q p s).thm = s.thm := rfl
@[simp] theorem setPhase_cal (q p s) : (setPhase q p s).cal = s.cal := rfl
@[simp] theorem startTdc_pending (q s) : (startTdc q s).pending = s.pending := rfl
@[simp] theorem startTdc_free (q s) : (startTdc q s).free = s.free := rfl
@[simp] theorem startTdc_out (q s) : (startTdc q s).out = s.out := rfl
@[simp] theorem startTdc_regs (q s) : (startTdc q s).regs = s.regs := rfl
@[simp] theorem startTdc_latch (q s) : (startTdc q s).latch = s.latch := rfl
@[simp] theorem startTdc_dram (q s) : (startTdc q s).dram = s.dram := rfl
@[simp] theorem startTdc_journal (q s) : (startTdc q s).journal = s.journal := rfl
@[simp] theorem startTdc_power (q s) : (startTdc q s).power = s.power := rfl
@[simp] theorem startTdc_hif (q s) : (startTdc q s).hif = s.hif := rfl
@[simp] theorem startTdc_evt (q s) : (startTdc q s).evt = s.evt := rfl
@[simp] theorem startTdc_job (q s) : (startTdc q s).job = s.job := rfl
@[simp] theorem startTdc_dma (q s) : (startTdc q s).dma = s.dma := rfl
@[simp] theorem startTdc_intake (q s) : (startTdc q s).intake = s.intake := rfl
@[simp] theorem startTdc_eng (q s) : (startTdc q s).eng = s.eng := rfl
@[simp] theorem startTdc_comb (q s) : (startTdc q s).comb = s.comb := rfl
@[simp] theorem startTdc_pec (q s) : (startTdc q s).pec = s.pec := rfl
@[simp] theorem startTdc_bmu (q s) : (startTdc q s).bmu = s.bmu := rfl
@[simp] theorem startTdc_seq (q s) : (startTdc q s).seq = s.seq := rfl
@[simp] theorem startTdc_blk (q s) : (startTdc q s).blk = s.blk := rfl
@[simp] theorem startTdc_mem (q s) : (startTdc q s).mem = s.mem := rfl
@[simp] theorem startTdc_bel (q s) : (startTdc q s).bel = s.bel := rfl
@[simp] theorem startTdc_hive (q s) : (startTdc q s).hive = s.hive := rfl
@[simp] theorem startTdc_crc (q s) : (startTdc q s).crc = s.crc := rfl
@[simp] theorem startTdc_tim (q s) : (startTdc q s).tim = s.tim := rfl
@[simp] theorem startTdc_sec (q s) : (startTdc q s).sec = s.sec := rfl
@[simp] theorem startTdc_thm (q s) : (startTdc q s).thm = s.thm := rfl
@[simp] theorem updHif_pending (f s) : (updHif f s).pending = s.pending := rfl
@[simp] theorem updHif_free (f s) : (updHif f s).free = s.free := rfl
@[simp] theorem updHif_out (f s) : (updHif f s).out = s.out := rfl
@[simp] theorem updHif_regs (f s) : (updHif f s).regs = s.regs := rfl
@[simp] theorem updHif_latch (f s) : (updHif f s).latch = s.latch := rfl
@[simp] theorem updHif_dram (f s) : (updHif f s).dram = s.dram := rfl
@[simp] theorem updHif_journal (f s) : (updHif f s).journal = s.journal := rfl
@[simp] theorem updHif_power (f s) : (updHif f s).power = s.power := rfl
@[simp] theorem updHif_evt (f s) : (updHif f s).evt = s.evt := rfl
@[simp] theorem updHif_job (f s) : (updHif f s).job = s.job := rfl
@[simp] theorem updHif_dma (f s) : (updHif f s).dma = s.dma := rfl
@[simp] theorem updHif_intake (f s) : (updHif f s).intake = s.intake := rfl
@[simp] theorem updHif_eng (f s) : (updHif f s).eng = s.eng := rfl
@[simp] theorem updHif_comb (f s) : (updHif f s).comb = s.comb := rfl
@[simp] theorem updHif_pec (f s) : (updHif f s).pec = s.pec := rfl
@[simp] theorem updHif_bmu (f s) : (updHif f s).bmu = s.bmu := rfl
@[simp] theorem updHif_axes (f s) : (updHif f s).axes = s.axes := rfl
@[simp] theorem updHif_seq (f s) : (updHif f s).seq = s.seq := rfl
@[simp] theorem updHif_blk (f s) : (updHif f s).blk = s.blk := rfl
@[simp] theorem updHif_mem (f s) : (updHif f s).mem = s.mem := rfl
@[simp] theorem updHif_bel (f s) : (updHif f s).bel = s.bel := rfl
@[simp] theorem updHif_hive (f s) : (updHif f s).hive = s.hive := rfl
@[simp] theorem updHif_crc (f s) : (updHif f s).crc = s.crc := rfl
@[simp] theorem updHif_tim (f s) : (updHif f s).tim = s.tim := rfl
@[simp] theorem updHif_sec (f s) : (updHif f s).sec = s.sec := rfl
@[simp] theorem updHif_thm (f s) : (updHif f s).thm = s.thm := rfl
@[simp] theorem updHif_cal (f s) : (updHif f s).cal = s.cal := rfl
@[simp] theorem updCrc_pending (u f s) : (updCrc u f s).pending = s.pending := rfl
@[simp] theorem updCrc_free (u f s) : (updCrc u f s).free = s.free := rfl
@[simp] theorem updCrc_out (u f s) : (updCrc u f s).out = s.out := rfl
@[simp] theorem updCrc_regs (u f s) : (updCrc u f s).regs = s.regs := rfl
@[simp] theorem updCrc_latch (u f s) : (updCrc u f s).latch = s.latch := rfl
@[simp] theorem updCrc_dram (u f s) : (updCrc u f s).dram = s.dram := rfl
@[simp] theorem updCrc_journal (u f s) : (updCrc u f s).journal = s.journal := rfl
@[simp] theorem updCrc_power (u f s) : (updCrc u f s).power = s.power := rfl
@[simp] theorem updCrc_hif (u f s) : (updCrc u f s).hif = s.hif := rfl
@[simp] theorem updCrc_evt (u f s) : (updCrc u f s).evt = s.evt := rfl
@[simp] theorem updCrc_job (u f s) : (updCrc u f s).job = s.job := rfl
@[simp] theorem updCrc_dma (u f s) : (updCrc u f s).dma = s.dma := rfl
@[simp] theorem updCrc_intake (u f s) : (updCrc u f s).intake = s.intake := rfl
@[simp] theorem updCrc_eng (u f s) : (updCrc u f s).eng = s.eng := rfl
@[simp] theorem updCrc_comb (u f s) : (updCrc u f s).comb = s.comb := rfl
@[simp] theorem updCrc_pec (u f s) : (updCrc u f s).pec = s.pec := rfl
@[simp] theorem updCrc_bmu (u f s) : (updCrc u f s).bmu = s.bmu := rfl
@[simp] theorem updCrc_axes (u f s) : (updCrc u f s).axes = s.axes := rfl
@[simp] theorem updCrc_seq (u f s) : (updCrc u f s).seq = s.seq := rfl
@[simp] theorem updCrc_blk (u f s) : (updCrc u f s).blk = s.blk := rfl
@[simp] theorem updCrc_mem (u f s) : (updCrc u f s).mem = s.mem := rfl
@[simp] theorem updCrc_bel (u f s) : (updCrc u f s).bel = s.bel := rfl
@[simp] theorem updCrc_hive (u f s) : (updCrc u f s).hive = s.hive := rfl
@[simp] theorem updCrc_tim (u f s) : (updCrc u f s).tim = s.tim := rfl
@[simp] theorem updCrc_sec (u f s) : (updCrc u f s).sec = s.sec := rfl
@[simp] theorem updCrc_thm (u f s) : (updCrc u f s).thm = s.thm := rfl
@[simp] theorem updCrc_cal (u f s) : (updCrc u f s).cal = s.cal := rfl
@[simp] theorem updChan_pending (c f s) : (updChan c f s).pending = s.pending := rfl
@[simp] theorem updChan_free (c f s) : (updChan c f s).free = s.free := rfl
@[simp] theorem updChan_out (c f s) : (updChan c f s).out = s.out := rfl
@[simp] theorem updChan_regs (c f s) : (updChan c f s).regs = s.regs := rfl
@[simp] theorem updChan_latch (c f s) : (updChan c f s).latch = s.latch := rfl
@[simp] theorem updChan_dram (c f s) : (updChan c f s).dram = s.dram := rfl
@[simp] theorem updChan_journal (c f s) : (updChan c f s).journal = s.journal := rfl
@[simp] theorem updChan_power (c f s) : (updChan c f s).power = s.power := rfl
@[simp] theorem updChan_hif (c f s) : (updChan c f s).hif = s.hif := rfl
@[simp] theorem updChan_evt (c f s) : (updChan c f s).evt = s.evt := rfl
@[simp] theorem updChan_job (c f s) : (updChan c f s).job = s.job := rfl
@[simp] theorem updChan_intake (c f s) : (updChan c f s).intake = s.intake := rfl
@[simp] theorem updChan_eng (c f s) : (updChan c f s).eng = s.eng := rfl
@[simp] theorem updChan_comb (c f s) : (updChan c f s).comb = s.comb := rfl
@[simp] theorem updChan_pec (c f s) : (updChan c f s).pec = s.pec := rfl
@[simp] theorem updChan_bmu (c f s) : (updChan c f s).bmu = s.bmu := rfl
@[simp] theorem updChan_axes (c f s) : (updChan c f s).axes = s.axes := rfl
@[simp] theorem updChan_seq (c f s) : (updChan c f s).seq = s.seq := rfl
@[simp] theorem updChan_blk (c f s) : (updChan c f s).blk = s.blk := rfl
@[simp] theorem updChan_mem (c f s) : (updChan c f s).mem = s.mem := rfl
@[simp] theorem updChan_bel (c f s) : (updChan c f s).bel = s.bel := rfl
@[simp] theorem updChan_hive (c f s) : (updChan c f s).hive = s.hive := rfl
@[simp] theorem updChan_crc (c f s) : (updChan c f s).crc = s.crc := rfl
@[simp] theorem updChan_tim (c f s) : (updChan c f s).tim = s.tim := rfl
@[simp] theorem updChan_sec (c f s) : (updChan c f s).sec = s.sec := rfl
@[simp] theorem updChan_thm (c f s) : (updChan c f s).thm = s.thm := rfl
@[simp] theorem updChan_cal (c f s) : (updChan c f s).cal = s.cal := rfl
@[simp] theorem updEng_pending (e f s) : (updEng e f s).pending = s.pending := rfl
@[simp] theorem updEng_free (e f s) : (updEng e f s).free = s.free := rfl
@[simp] theorem updEng_out (e f s) : (updEng e f s).out = s.out := rfl
@[simp] theorem updEng_regs (e f s) : (updEng e f s).regs = s.regs := rfl
@[simp] theorem updEng_latch (e f s) : (updEng e f s).latch = s.latch := rfl
@[simp] theorem updEng_dram (e f s) : (updEng e f s).dram = s.dram := rfl
@[simp] theorem updEng_journal (e f s) : (updEng e f s).journal = s.journal := rfl
@[simp] theorem updEng_power (e f s) : (updEng e f s).power = s.power := rfl
@[simp] theorem updEng_hif (e f s) : (updEng e f s).hif = s.hif := rfl
@[simp] theorem updEng_evt (e f s) : (updEng e f s).evt = s.evt := rfl
@[simp] theorem updEng_job (e f s) : (updEng e f s).job = s.job := rfl
@[simp] theorem updEng_dma (e f s) : (updEng e f s).dma = s.dma := rfl
@[simp] theorem updEng_intake (e f s) : (updEng e f s).intake = s.intake := rfl
@[simp] theorem updEng_comb (e f s) : (updEng e f s).comb = s.comb := rfl
@[simp] theorem updEng_pec (e f s) : (updEng e f s).pec = s.pec := rfl
@[simp] theorem updEng_bmu (e f s) : (updEng e f s).bmu = s.bmu := rfl
@[simp] theorem updEng_axes (e f s) : (updEng e f s).axes = s.axes := rfl
@[simp] theorem updEng_seq (e f s) : (updEng e f s).seq = s.seq := rfl
@[simp] theorem updEng_blk (e f s) : (updEng e f s).blk = s.blk := rfl
@[simp] theorem updEng_mem (e f s) : (updEng e f s).mem = s.mem := rfl
@[simp] theorem updEng_bel (e f s) : (updEng e f s).bel = s.bel := rfl
@[simp] theorem updEng_hive (e f s) : (updEng e f s).hive = s.hive := rfl
@[simp] theorem updEng_crc (e f s) : (updEng e f s).crc = s.crc := rfl
@[simp] theorem updEng_tim (e f s) : (updEng e f s).tim = s.tim := rfl
@[simp] theorem updEng_sec (e f s) : (updEng e f s).sec = s.sec := rfl
@[simp] theorem updEng_thm (e f s) : (updEng e f s).thm = s.thm := rfl
@[simp] theorem updEng_cal (e f s) : (updEng e f s).cal = s.cal := rfl
@[simp] theorem updSec_pending (f s) : (updSec f s).pending = s.pending := rfl
@[simp] theorem updSec_free (f s) : (updSec f s).free = s.free := rfl
@[simp] theorem updSec_out (f s) : (updSec f s).out = s.out := rfl
@[simp] theorem updSec_regs (f s) : (updSec f s).regs = s.regs := rfl
@[simp] theorem updSec_latch (f s) : (updSec f s).latch = s.latch := rfl
@[simp] theorem updSec_dram (f s) : (updSec f s).dram = s.dram := rfl
@[simp] theorem updSec_journal (f s) : (updSec f s).journal = s.journal := rfl
@[simp] theorem updSec_power (f s) : (updSec f s).power = s.power := rfl
@[simp] theorem updSec_hif (f s) : (updSec f s).hif = s.hif := rfl
@[simp] theorem updSec_evt (f s) : (updSec f s).evt = s.evt := rfl
@[simp] theorem updSec_job (f s) : (updSec f s).job = s.job := rfl
@[simp] theorem updSec_dma (f s) : (updSec f s).dma = s.dma := rfl
@[simp] theorem updSec_intake (f s) : (updSec f s).intake = s.intake := rfl
@[simp] theorem updSec_eng (f s) : (updSec f s).eng = s.eng := rfl
@[simp] theorem updSec_comb (f s) : (updSec f s).comb = s.comb := rfl
@[simp] theorem updSec_pec (f s) : (updSec f s).pec = s.pec := rfl
@[simp] theorem updSec_bmu (f s) : (updSec f s).bmu = s.bmu := rfl
@[simp] theorem updSec_axes (f s) : (updSec f s).axes = s.axes := rfl
@[simp] theorem updSec_seq (f s) : (updSec f s).seq = s.seq := rfl
@[simp] theorem updSec_blk (f s) : (updSec f s).blk = s.blk := rfl
@[simp] theorem updSec_mem (f s) : (updSec f s).mem = s.mem := rfl
@[simp] theorem updSec_bel (f s) : (updSec f s).bel = s.bel := rfl
@[simp] theorem updSec_hive (f s) : (updSec f s).hive = s.hive := rfl
@[simp] theorem updSec_crc (f s) : (updSec f s).crc = s.crc := rfl
@[simp] theorem updSec_tim (f s) : (updSec f s).tim = s.tim := rfl
@[simp] theorem updSec_thm (f s) : (updSec f s).thm = s.thm := rfl
@[simp] theorem updSec_cal (f s) : (updSec f s).cal = s.cal := rfl
@[simp] theorem updLane_pending (w f s) : (updLane w f s).pending = s.pending := rfl
@[simp] theorem updLane_free (w f s) : (updLane w f s).free = s.free := rfl
@[simp] theorem updLane_out (w f s) : (updLane w f s).out = s.out := rfl
@[simp] theorem updLane_regs (w f s) : (updLane w f s).regs = s.regs := rfl
@[simp] theorem updLane_latch (w f s) : (updLane w f s).latch = s.latch := rfl
@[simp] theorem updLane_dram (w f s) : (updLane w f s).dram = s.dram := rfl
@[simp] theorem updLane_journal (w f s) : (updLane w f s).journal = s.journal := rfl
@[simp] theorem updLane_power (w f s) : (updLane w f s).power = s.power := rfl
@[simp] theorem updLane_hif (w f s) : (updLane w f s).hif = s.hif := rfl
@[simp] theorem updLane_evt (w f s) : (updLane w f s).evt = s.evt := rfl
@[simp] theorem updLane_job (w f s) : (updLane w f s).job = s.job := rfl
@[simp] theorem updLane_dma (w f s) : (updLane w f s).dma = s.dma := rfl
@[simp] theorem updLane_intake (w f s) : (updLane w f s).intake = s.intake := rfl
@[simp] theorem updLane_eng (w f s) : (updLane w f s).eng = s.eng := rfl
@[simp] theorem updLane_comb (w f s) : (updLane w f s).comb = s.comb := rfl
@[simp] theorem updLane_pec (w f s) : (updLane w f s).pec = s.pec := rfl
@[simp] theorem updLane_bmu (w f s) : (updLane w f s).bmu = s.bmu := rfl
@[simp] theorem updLane_axes (w f s) : (updLane w f s).axes = s.axes := rfl
@[simp] theorem updLane_seq (w f s) : (updLane w f s).seq = s.seq := rfl
@[simp] theorem updLane_mem (w f s) : (updLane w f s).mem = s.mem := rfl
@[simp] theorem updLane_bel (w f s) : (updLane w f s).bel = s.bel := rfl
@[simp] theorem updLane_hive (w f s) : (updLane w f s).hive = s.hive := rfl
@[simp] theorem updLane_crc (w f s) : (updLane w f s).crc = s.crc := rfl
@[simp] theorem updLane_tim (w f s) : (updLane w f s).tim = s.tim := rfl
@[simp] theorem updLane_sec (w f s) : (updLane w f s).sec = s.sec := rfl
@[simp] theorem updLane_thm (w f s) : (updLane w f s).thm = s.thm := rfl
@[simp] theorem updLane_cal (w f s) : (updLane w f s).cal = s.cal := rfl
@[simp] theorem updThm_pending (f s) : (updThm f s).pending = s.pending := rfl
@[simp] theorem updThm_free (f s) : (updThm f s).free = s.free := rfl
@[simp] theorem updThm_out (f s) : (updThm f s).out = s.out := rfl
@[simp] theorem updThm_regs (f s) : (updThm f s).regs = s.regs := rfl
@[simp] theorem updThm_latch (f s) : (updThm f s).latch = s.latch := rfl
@[simp] theorem updThm_dram (f s) : (updThm f s).dram = s.dram := rfl
@[simp] theorem updThm_journal (f s) : (updThm f s).journal = s.journal := rfl
@[simp] theorem updThm_power (f s) : (updThm f s).power = s.power := rfl
@[simp] theorem updThm_hif (f s) : (updThm f s).hif = s.hif := rfl
@[simp] theorem updThm_evt (f s) : (updThm f s).evt = s.evt := rfl
@[simp] theorem updThm_job (f s) : (updThm f s).job = s.job := rfl
@[simp] theorem updThm_dma (f s) : (updThm f s).dma = s.dma := rfl
@[simp] theorem updThm_intake (f s) : (updThm f s).intake = s.intake := rfl
@[simp] theorem updThm_eng (f s) : (updThm f s).eng = s.eng := rfl
@[simp] theorem updThm_comb (f s) : (updThm f s).comb = s.comb := rfl
@[simp] theorem updThm_pec (f s) : (updThm f s).pec = s.pec := rfl
@[simp] theorem updThm_bmu (f s) : (updThm f s).bmu = s.bmu := rfl
@[simp] theorem updThm_axes (f s) : (updThm f s).axes = s.axes := rfl
@[simp] theorem updThm_seq (f s) : (updThm f s).seq = s.seq := rfl
@[simp] theorem updThm_blk (f s) : (updThm f s).blk = s.blk := rfl
@[simp] theorem updThm_mem (f s) : (updThm f s).mem = s.mem := rfl
@[simp] theorem updThm_bel (f s) : (updThm f s).bel = s.bel := rfl
@[simp] theorem updThm_hive (f s) : (updThm f s).hive = s.hive := rfl
@[simp] theorem updThm_crc (f s) : (updThm f s).crc = s.crc := rfl
@[simp] theorem updThm_tim (f s) : (updThm f s).tim = s.tim := rfl
@[simp] theorem updThm_sec (f s) : (updThm f s).sec = s.sec := rfl
@[simp] theorem updThm_cal (f s) : (updThm f s).cal = s.cal := rfl
@[simp] theorem updSlot_pending (g f s) : (updSlot g f s).pending = s.pending := rfl
@[simp] theorem updSlot_free (g f s) : (updSlot g f s).free = s.free := rfl
@[simp] theorem updSlot_out (g f s) : (updSlot g f s).out = s.out := rfl
@[simp] theorem updSlot_regs (g f s) : (updSlot g f s).regs = s.regs := rfl
@[simp] theorem updSlot_latch (g f s) : (updSlot g f s).latch = s.latch := rfl
@[simp] theorem updSlot_dram (g f s) : (updSlot g f s).dram = s.dram := rfl
@[simp] theorem updSlot_journal (g f s) : (updSlot g f s).journal = s.journal := rfl
@[simp] theorem updSlot_power (g f s) : (updSlot g f s).power = s.power := rfl
@[simp] theorem updSlot_hif (g f s) : (updSlot g f s).hif = s.hif := rfl
@[simp] theorem updSlot_evt (g f s) : (updSlot g f s).evt = s.evt := rfl
@[simp] theorem updSlot_dma (g f s) : (updSlot g f s).dma = s.dma := rfl
@[simp] theorem updSlot_intake (g f s) : (updSlot g f s).intake = s.intake := rfl
@[simp] theorem updSlot_eng (g f s) : (updSlot g f s).eng = s.eng := rfl
@[simp] theorem updSlot_comb (g f s) : (updSlot g f s).comb = s.comb := rfl
@[simp] theorem updSlot_pec (g f s) : (updSlot g f s).pec = s.pec := rfl
@[simp] theorem updSlot_bmu (g f s) : (updSlot g f s).bmu = s.bmu := rfl
@[simp] theorem updSlot_axes (g f s) : (updSlot g f s).axes = s.axes := rfl
@[simp] theorem updSlot_seq (g f s) : (updSlot g f s).seq = s.seq := rfl
@[simp] theorem updSlot_blk (g f s) : (updSlot g f s).blk = s.blk := rfl
@[simp] theorem updSlot_mem (g f s) : (updSlot g f s).mem = s.mem := rfl
@[simp] theorem updSlot_bel (g f s) : (updSlot g f s).bel = s.bel := rfl
@[simp] theorem updSlot_hive (g f s) : (updSlot g f s).hive = s.hive := rfl
@[simp] theorem updSlot_crc (g f s) : (updSlot g f s).crc = s.crc := rfl
@[simp] theorem updSlot_tim (g f s) : (updSlot g f s).tim = s.tim := rfl
@[simp] theorem updSlot_sec (g f s) : (updSlot g f s).sec = s.sec := rfl
@[simp] theorem updSlot_thm (g f s) : (updSlot g f s).thm = s.thm := rfl
@[simp] theorem updSlot_cal (g f s) : (updSlot g f s).cal = s.cal := rfl
@[simp] theorem updMem_pending (c f s) : (updMem c f s).pending = s.pending := rfl
@[simp] theorem updMem_free (c f s) : (updMem c f s).free = s.free := rfl
@[simp] theorem updMem_out (c f s) : (updMem c f s).out = s.out := rfl
@[simp] theorem updMem_regs (c f s) : (updMem c f s).regs = s.regs := rfl
@[simp] theorem updMem_latch (c f s) : (updMem c f s).latch = s.latch := rfl
@[simp] theorem updMem_dram (c f s) : (updMem c f s).dram = s.dram := rfl
@[simp] theorem updMem_journal (c f s) : (updMem c f s).journal = s.journal := rfl
@[simp] theorem updMem_power (c f s) : (updMem c f s).power = s.power := rfl
@[simp] theorem updMem_hif (c f s) : (updMem c f s).hif = s.hif := rfl
@[simp] theorem updMem_evt (c f s) : (updMem c f s).evt = s.evt := rfl
@[simp] theorem updMem_job (c f s) : (updMem c f s).job = s.job := rfl
@[simp] theorem updMem_dma (c f s) : (updMem c f s).dma = s.dma := rfl
@[simp] theorem updMem_intake (c f s) : (updMem c f s).intake = s.intake := rfl
@[simp] theorem updMem_eng (c f s) : (updMem c f s).eng = s.eng := rfl
@[simp] theorem updMem_comb (c f s) : (updMem c f s).comb = s.comb := rfl
@[simp] theorem updMem_pec (c f s) : (updMem c f s).pec = s.pec := rfl
@[simp] theorem updMem_bmu (c f s) : (updMem c f s).bmu = s.bmu := rfl
@[simp] theorem updMem_axes (c f s) : (updMem c f s).axes = s.axes := rfl
@[simp] theorem updMem_seq (c f s) : (updMem c f s).seq = s.seq := rfl
@[simp] theorem updMem_blk (c f s) : (updMem c f s).blk = s.blk := rfl
@[simp] theorem updMem_bel (c f s) : (updMem c f s).bel = s.bel := rfl
@[simp] theorem updMem_hive (c f s) : (updMem c f s).hive = s.hive := rfl
@[simp] theorem updMem_crc (c f s) : (updMem c f s).crc = s.crc := rfl
@[simp] theorem updMem_tim (c f s) : (updMem c f s).tim = s.tim := rfl
@[simp] theorem updMem_sec (c f s) : (updMem c f s).sec = s.sec := rfl
@[simp] theorem updMem_thm (c f s) : (updMem c f s).thm = s.thm := rfl
@[simp] theorem updMem_cal (c f s) : (updMem c f s).cal = s.cal := rfl
@[simp] theorem updGroupCh_pending (g f s) : (updGroupCh g f s).pending = s.pending := rfl
@[simp] theorem updGroupCh_free (g f s) : (updGroupCh g f s).free = s.free := rfl
@[simp] theorem updGroupCh_out (g f s) : (updGroupCh g f s).out = s.out := rfl
@[simp] theorem updGroupCh_regs (g f s) : (updGroupCh g f s).regs = s.regs := rfl
@[simp] theorem updGroupCh_latch (g f s) : (updGroupCh g f s).latch = s.latch := rfl
@[simp] theorem updGroupCh_dram (g f s) : (updGroupCh g f s).dram = s.dram := rfl
@[simp] theorem updGroupCh_journal (g f s) : (updGroupCh g f s).journal = s.journal := rfl
@[simp] theorem updGroupCh_power (g f s) : (updGroupCh g f s).power = s.power := rfl
@[simp] theorem updGroupCh_hif (g f s) : (updGroupCh g f s).hif = s.hif := rfl
@[simp] theorem updGroupCh_evt (g f s) : (updGroupCh g f s).evt = s.evt := rfl
@[simp] theorem updGroupCh_job (g f s) : (updGroupCh g f s).job = s.job := rfl
@[simp] theorem updGroupCh_dma (g f s) : (updGroupCh g f s).dma = s.dma := rfl
@[simp] theorem updGroupCh_intake (g f s) : (updGroupCh g f s).intake = s.intake := rfl
@[simp] theorem updGroupCh_eng (g f s) : (updGroupCh g f s).eng = s.eng := rfl
@[simp] theorem updGroupCh_comb (g f s) : (updGroupCh g f s).comb = s.comb := rfl
@[simp] theorem updGroupCh_pec (g f s) : (updGroupCh g f s).pec = s.pec := rfl
@[simp] theorem updGroupCh_bmu (g f s) : (updGroupCh g f s).bmu = s.bmu := rfl
@[simp] theorem updGroupCh_axes (g f s) : (updGroupCh g f s).axes = s.axes := rfl
@[simp] theorem updGroupCh_seq (g f s) : (updGroupCh g f s).seq = s.seq := rfl
@[simp] theorem updGroupCh_blk (g f s) : (updGroupCh g f s).blk = s.blk := rfl
@[simp] theorem updGroupCh_bel (g f s) : (updGroupCh g f s).bel = s.bel := rfl
@[simp] theorem updGroupCh_hive (g f s) : (updGroupCh g f s).hive = s.hive := rfl
@[simp] theorem updGroupCh_crc (g f s) : (updGroupCh g f s).crc = s.crc := rfl
@[simp] theorem updGroupCh_tim (g f s) : (updGroupCh g f s).tim = s.tim := rfl
@[simp] theorem updGroupCh_sec (g f s) : (updGroupCh g f s).sec = s.sec := rfl
@[simp] theorem updGroupCh_thm (g f s) : (updGroupCh g f s).thm = s.thm := rfl
@[simp] theorem updGroupCh_cal (g f s) : (updGroupCh g f s).cal = s.cal := rfl
@[simp] theorem updFrame_pending (i f s) : (updFrame i f s).pending = s.pending := rfl
@[simp] theorem updFrame_free (i f s) : (updFrame i f s).free = s.free := rfl
@[simp] theorem updFrame_out (i f s) : (updFrame i f s).out = s.out := rfl
@[simp] theorem updFrame_regs (i f s) : (updFrame i f s).regs = s.regs := rfl
@[simp] theorem updFrame_latch (i f s) : (updFrame i f s).latch = s.latch := rfl
@[simp] theorem updFrame_dram (i f s) : (updFrame i f s).dram = s.dram := rfl
@[simp] theorem updFrame_journal (i f s) : (updFrame i f s).journal = s.journal := rfl
@[simp] theorem updFrame_power (i f s) : (updFrame i f s).power = s.power := rfl
@[simp] theorem updFrame_hif (i f s) : (updFrame i f s).hif = s.hif := rfl
@[simp] theorem updFrame_evt (i f s) : (updFrame i f s).evt = s.evt := rfl
@[simp] theorem updFrame_job (i f s) : (updFrame i f s).job = s.job := rfl
@[simp] theorem updFrame_dma (i f s) : (updFrame i f s).dma = s.dma := rfl
@[simp] theorem updFrame_eng (i f s) : (updFrame i f s).eng = s.eng := rfl
@[simp] theorem updFrame_comb (i f s) : (updFrame i f s).comb = s.comb := rfl
@[simp] theorem updFrame_pec (i f s) : (updFrame i f s).pec = s.pec := rfl
@[simp] theorem updFrame_bmu (i f s) : (updFrame i f s).bmu = s.bmu := rfl
@[simp] theorem updFrame_axes (i f s) : (updFrame i f s).axes = s.axes := rfl
@[simp] theorem updFrame_seq (i f s) : (updFrame i f s).seq = s.seq := rfl
@[simp] theorem updFrame_blk (i f s) : (updFrame i f s).blk = s.blk := rfl
@[simp] theorem updFrame_mem (i f s) : (updFrame i f s).mem = s.mem := rfl
@[simp] theorem updFrame_bel (i f s) : (updFrame i f s).bel = s.bel := rfl
@[simp] theorem updFrame_hive (i f s) : (updFrame i f s).hive = s.hive := rfl
@[simp] theorem updFrame_crc (i f s) : (updFrame i f s).crc = s.crc := rfl
@[simp] theorem updFrame_tim (i f s) : (updFrame i f s).tim = s.tim := rfl
@[simp] theorem updFrame_sec (i f s) : (updFrame i f s).sec = s.sec := rfl
@[simp] theorem updFrame_thm (i f s) : (updFrame i f s).thm = s.thm := rfl
@[simp] theorem updFrame_cal (i f s) : (updFrame i f s).cal = s.cal := rfl
@[simp] theorem updDec_pending (d f s) : (updDec d f s).pending = s.pending := rfl
@[simp] theorem updDec_free (d f s) : (updDec d f s).free = s.free := rfl
@[simp] theorem updDec_out (d f s) : (updDec d f s).out = s.out := rfl
@[simp] theorem updDec_regs (d f s) : (updDec d f s).regs = s.regs := rfl
@[simp] theorem updDec_latch (d f s) : (updDec d f s).latch = s.latch := rfl
@[simp] theorem updDec_dram (d f s) : (updDec d f s).dram = s.dram := rfl
@[simp] theorem updDec_journal (d f s) : (updDec d f s).journal = s.journal := rfl
@[simp] theorem updDec_power (d f s) : (updDec d f s).power = s.power := rfl
@[simp] theorem updDec_hif (d f s) : (updDec d f s).hif = s.hif := rfl
@[simp] theorem updDec_evt (d f s) : (updDec d f s).evt = s.evt := rfl
@[simp] theorem updDec_job (d f s) : (updDec d f s).job = s.job := rfl
@[simp] theorem updDec_dma (d f s) : (updDec d f s).dma = s.dma := rfl
@[simp] theorem updDec_eng (d f s) : (updDec d f s).eng = s.eng := rfl
@[simp] theorem updDec_comb (d f s) : (updDec d f s).comb = s.comb := rfl
@[simp] theorem updDec_pec (d f s) : (updDec d f s).pec = s.pec := rfl
@[simp] theorem updDec_bmu (d f s) : (updDec d f s).bmu = s.bmu := rfl
@[simp] theorem updDec_axes (d f s) : (updDec d f s).axes = s.axes := rfl
@[simp] theorem updDec_seq (d f s) : (updDec d f s).seq = s.seq := rfl
@[simp] theorem updDec_blk (d f s) : (updDec d f s).blk = s.blk := rfl
@[simp] theorem updDec_mem (d f s) : (updDec d f s).mem = s.mem := rfl
@[simp] theorem updDec_bel (d f s) : (updDec d f s).bel = s.bel := rfl
@[simp] theorem updDec_hive (d f s) : (updDec d f s).hive = s.hive := rfl
@[simp] theorem updDec_crc (d f s) : (updDec d f s).crc = s.crc := rfl
@[simp] theorem updDec_tim (d f s) : (updDec d f s).tim = s.tim := rfl
@[simp] theorem updDec_sec (d f s) : (updDec d f s).sec = s.sec := rfl
@[simp] theorem updDec_thm (d f s) : (updDec d f s).thm = s.thm := rfl
@[simp] theorem updDec_cal (d f s) : (updDec d f s).cal = s.cal := rfl
@[simp] theorem updJob_pending (f s) : (updJob f s).pending = s.pending := rfl
@[simp] theorem updJob_free (f s) : (updJob f s).free = s.free := rfl
@[simp] theorem updJob_out (f s) : (updJob f s).out = s.out := rfl
@[simp] theorem updJob_regs (f s) : (updJob f s).regs = s.regs := rfl
@[simp] theorem updJob_latch (f s) : (updJob f s).latch = s.latch := rfl
@[simp] theorem updJob_dram (f s) : (updJob f s).dram = s.dram := rfl
@[simp] theorem updJob_journal (f s) : (updJob f s).journal = s.journal := rfl
@[simp] theorem updJob_power (f s) : (updJob f s).power = s.power := rfl
@[simp] theorem updJob_hif (f s) : (updJob f s).hif = s.hif := rfl
@[simp] theorem updJob_evt (f s) : (updJob f s).evt = s.evt := rfl
@[simp] theorem updJob_dma (f s) : (updJob f s).dma = s.dma := rfl
@[simp] theorem updJob_intake (f s) : (updJob f s).intake = s.intake := rfl
@[simp] theorem updJob_eng (f s) : (updJob f s).eng = s.eng := rfl
@[simp] theorem updJob_comb (f s) : (updJob f s).comb = s.comb := rfl
@[simp] theorem updJob_pec (f s) : (updJob f s).pec = s.pec := rfl
@[simp] theorem updJob_bmu (f s) : (updJob f s).bmu = s.bmu := rfl
@[simp] theorem updJob_axes (f s) : (updJob f s).axes = s.axes := rfl
@[simp] theorem updJob_seq (f s) : (updJob f s).seq = s.seq := rfl
@[simp] theorem updJob_blk (f s) : (updJob f s).blk = s.blk := rfl
@[simp] theorem updJob_mem (f s) : (updJob f s).mem = s.mem := rfl
@[simp] theorem updJob_bel (f s) : (updJob f s).bel = s.bel := rfl
@[simp] theorem updJob_hive (f s) : (updJob f s).hive = s.hive := rfl
@[simp] theorem updJob_crc (f s) : (updJob f s).crc = s.crc := rfl
@[simp] theorem updJob_tim (f s) : (updJob f s).tim = s.tim := rfl
@[simp] theorem updJob_sec (f s) : (updJob f s).sec = s.sec := rfl
@[simp] theorem updJob_thm (f s) : (updJob f s).thm = s.thm := rfl
@[simp] theorem updJob_cal (f s) : (updJob f s).cal = s.cal := rfl
@[simp] theorem updAxis_pending (a f s) : (updAxis a f s).pending = s.pending := rfl
@[simp] theorem updAxis_free (a f s) : (updAxis a f s).free = s.free := rfl
@[simp] theorem updAxis_out (a f s) : (updAxis a f s).out = s.out := rfl
@[simp] theorem updAxis_regs (a f s) : (updAxis a f s).regs = s.regs := rfl
@[simp] theorem updAxis_latch (a f s) : (updAxis a f s).latch = s.latch := rfl
@[simp] theorem updAxis_dram (a f s) : (updAxis a f s).dram = s.dram := rfl
@[simp] theorem updAxis_journal (a f s) : (updAxis a f s).journal = s.journal := rfl
@[simp] theorem updAxis_power (a f s) : (updAxis a f s).power = s.power := rfl
@[simp] theorem updAxis_hif (a f s) : (updAxis a f s).hif = s.hif := rfl
@[simp] theorem updAxis_evt (a f s) : (updAxis a f s).evt = s.evt := rfl
@[simp] theorem updAxis_job (a f s) : (updAxis a f s).job = s.job := rfl
@[simp] theorem updAxis_dma (a f s) : (updAxis a f s).dma = s.dma := rfl
@[simp] theorem updAxis_intake (a f s) : (updAxis a f s).intake = s.intake := rfl
@[simp] theorem updAxis_eng (a f s) : (updAxis a f s).eng = s.eng := rfl
@[simp] theorem updAxis_comb (a f s) : (updAxis a f s).comb = s.comb := rfl
@[simp] theorem updAxis_pec (a f s) : (updAxis a f s).pec = s.pec := rfl
@[simp] theorem updAxis_bmu (a f s) : (updAxis a f s).bmu = s.bmu := rfl
@[simp] theorem updAxis_seq (a f s) : (updAxis a f s).seq = s.seq := rfl
@[simp] theorem updAxis_blk (a f s) : (updAxis a f s).blk = s.blk := rfl
@[simp] theorem updAxis_mem (a f s) : (updAxis a f s).mem = s.mem := rfl
@[simp] theorem updAxis_bel (a f s) : (updAxis a f s).bel = s.bel := rfl
@[simp] theorem updAxis_hive (a f s) : (updAxis a f s).hive = s.hive := rfl
@[simp] theorem updAxis_crc (a f s) : (updAxis a f s).crc = s.crc := rfl
@[simp] theorem updAxis_tim (a f s) : (updAxis a f s).tim = s.tim := rfl
@[simp] theorem updAxis_sec (a f s) : (updAxis a f s).sec = s.sec := rfl
@[simp] theorem updAxis_thm (a f s) : (updAxis a f s).thm = s.thm := rfl
@[simp] theorem updAxis_cal (a f s) : (updAxis a f s).cal = s.cal := rfl
@[simp] theorem updPower_pending (f s) : (updPower f s).pending = s.pending := rfl
@[simp] theorem updPower_free (f s) : (updPower f s).free = s.free := rfl
@[simp] theorem updPower_out (f s) : (updPower f s).out = s.out := rfl
@[simp] theorem updPower_regs (f s) : (updPower f s).regs = s.regs := rfl
@[simp] theorem updPower_latch (f s) : (updPower f s).latch = s.latch := rfl
@[simp] theorem updPower_dram (f s) : (updPower f s).dram = s.dram := rfl
@[simp] theorem updPower_journal (f s) : (updPower f s).journal = s.journal := rfl
@[simp] theorem updPower_hif (f s) : (updPower f s).hif = s.hif := rfl
@[simp] theorem updPower_evt (f s) : (updPower f s).evt = s.evt := rfl
@[simp] theorem updPower_job (f s) : (updPower f s).job = s.job := rfl
@[simp] theorem updPower_dma (f s) : (updPower f s).dma = s.dma := rfl
@[simp] theorem updPower_intake (f s) : (updPower f s).intake = s.intake := rfl
@[simp] theorem updPower_eng (f s) : (updPower f s).eng = s.eng := rfl
@[simp] theorem updPower_comb (f s) : (updPower f s).comb = s.comb := rfl
@[simp] theorem updPower_pec (f s) : (updPower f s).pec = s.pec := rfl
@[simp] theorem updPower_bmu (f s) : (updPower f s).bmu = s.bmu := rfl
@[simp] theorem updPower_axes (f s) : (updPower f s).axes = s.axes := rfl
@[simp] theorem updPower_seq (f s) : (updPower f s).seq = s.seq := rfl
@[simp] theorem updPower_blk (f s) : (updPower f s).blk = s.blk := rfl
@[simp] theorem updPower_mem (f s) : (updPower f s).mem = s.mem := rfl
@[simp] theorem updPower_bel (f s) : (updPower f s).bel = s.bel := rfl
@[simp] theorem updPower_hive (f s) : (updPower f s).hive = s.hive := rfl
@[simp] theorem updPower_crc (f s) : (updPower f s).crc = s.crc := rfl
@[simp] theorem updPower_tim (f s) : (updPower f s).tim = s.tim := rfl
@[simp] theorem updPower_sec (f s) : (updPower f s).sec = s.sec := rfl
@[simp] theorem updPower_thm (f s) : (updPower f s).thm = s.thm := rfl
@[simp] theorem updPower_cal (f s) : (updPower f s).cal = s.cal := rfl
@[simp] theorem updTim_pending (f s) : (updTim f s).pending = s.pending := rfl
@[simp] theorem updTim_free (f s) : (updTim f s).free = s.free := rfl
@[simp] theorem updTim_out (f s) : (updTim f s).out = s.out := rfl
@[simp] theorem updTim_regs (f s) : (updTim f s).regs = s.regs := rfl
@[simp] theorem updTim_latch (f s) : (updTim f s).latch = s.latch := rfl
@[simp] theorem updTim_dram (f s) : (updTim f s).dram = s.dram := rfl
@[simp] theorem updTim_journal (f s) : (updTim f s).journal = s.journal := rfl
@[simp] theorem updTim_power (f s) : (updTim f s).power = s.power := rfl
@[simp] theorem updTim_hif (f s) : (updTim f s).hif = s.hif := rfl
@[simp] theorem updTim_evt (f s) : (updTim f s).evt = s.evt := rfl
@[simp] theorem updTim_job (f s) : (updTim f s).job = s.job := rfl
@[simp] theorem updTim_dma (f s) : (updTim f s).dma = s.dma := rfl
@[simp] theorem updTim_intake (f s) : (updTim f s).intake = s.intake := rfl
@[simp] theorem updTim_eng (f s) : (updTim f s).eng = s.eng := rfl
@[simp] theorem updTim_comb (f s) : (updTim f s).comb = s.comb := rfl
@[simp] theorem updTim_pec (f s) : (updTim f s).pec = s.pec := rfl
@[simp] theorem updTim_bmu (f s) : (updTim f s).bmu = s.bmu := rfl
@[simp] theorem updTim_axes (f s) : (updTim f s).axes = s.axes := rfl
@[simp] theorem updTim_seq (f s) : (updTim f s).seq = s.seq := rfl
@[simp] theorem updTim_blk (f s) : (updTim f s).blk = s.blk := rfl
@[simp] theorem updTim_mem (f s) : (updTim f s).mem = s.mem := rfl
@[simp] theorem updTim_bel (f s) : (updTim f s).bel = s.bel := rfl
@[simp] theorem updTim_hive (f s) : (updTim f s).hive = s.hive := rfl
@[simp] theorem updTim_crc (f s) : (updTim f s).crc = s.crc := rfl
@[simp] theorem updTim_sec (f s) : (updTim f s).sec = s.sec := rfl
@[simp] theorem updTim_thm (f s) : (updTim f s).thm = s.thm := rfl
@[simp] theorem updTim_cal (f s) : (updTim f s).cal = s.cal := rfl
@[simp] theorem dropReads_pending (s) : (dropReads s).pending = s.pending := rfl
@[simp] theorem dropReads_free (s) : (dropReads s).free = s.free := rfl
@[simp] theorem dropReads_out (s) : (dropReads s).out = s.out := rfl
@[simp] theorem dropReads_regs (s) : (dropReads s).regs = s.regs := rfl
@[simp] theorem dropReads_latch (s) : (dropReads s).latch = s.latch := rfl
@[simp] theorem dropReads_dram (s) : (dropReads s).dram = s.dram := rfl
@[simp] theorem dropReads_journal (s) : (dropReads s).journal = s.journal := rfl
@[simp] theorem dropReads_power (s) : (dropReads s).power = s.power := rfl
@[simp] theorem dropReads_hif (s) : (dropReads s).hif = s.hif := rfl
@[simp] theorem dropReads_evt (s) : (dropReads s).evt = s.evt := rfl
@[simp] theorem dropReads_job (s) : (dropReads s).job = s.job := rfl
@[simp] theorem dropReads_intake (s) : (dropReads s).intake = s.intake := rfl
@[simp] theorem dropReads_eng (s) : (dropReads s).eng = s.eng := rfl
@[simp] theorem dropReads_comb (s) : (dropReads s).comb = s.comb := rfl
@[simp] theorem dropReads_pec (s) : (dropReads s).pec = s.pec := rfl
@[simp] theorem dropReads_bmu (s) : (dropReads s).bmu = s.bmu := rfl
@[simp] theorem dropReads_axes (s) : (dropReads s).axes = s.axes := rfl
@[simp] theorem dropReads_seq (s) : (dropReads s).seq = s.seq := rfl
@[simp] theorem dropReads_blk (s) : (dropReads s).blk = s.blk := rfl
@[simp] theorem dropReads_mem (s) : (dropReads s).mem = s.mem := rfl
@[simp] theorem dropReads_bel (s) : (dropReads s).bel = s.bel := rfl
@[simp] theorem dropReads_hive (s) : (dropReads s).hive = s.hive := rfl
@[simp] theorem dropReads_crc (s) : (dropReads s).crc = s.crc := rfl
@[simp] theorem dropReads_tim (s) : (dropReads s).tim = s.tim := rfl
@[simp] theorem dropReads_sec (s) : (dropReads s).sec = s.sec := rfl
@[simp] theorem dropReads_thm (s) : (dropReads s).thm = s.thm := rfl
@[simp] theorem dropReads_cal (s) : (dropReads s).cal = s.cal := rfl
@[simp] theorem stopRuns_pending (p s) : (stopRuns p s).pending = s.pending := rfl
@[simp] theorem stopRuns_free (p s) : (stopRuns p s).free = s.free := rfl
@[simp] theorem stopRuns_out (p s) : (stopRuns p s).out = s.out := rfl
@[simp] theorem stopRuns_regs (p s) : (stopRuns p s).regs = s.regs := rfl
@[simp] theorem stopRuns_latch (p s) : (stopRuns p s).latch = s.latch := rfl
@[simp] theorem stopRuns_dram (p s) : (stopRuns p s).dram = s.dram := rfl
@[simp] theorem stopRuns_journal (p s) : (stopRuns p s).journal = s.journal := rfl
@[simp] theorem stopRuns_power (p s) : (stopRuns p s).power = s.power := rfl
@[simp] theorem stopRuns_hif (p s) : (stopRuns p s).hif = s.hif := rfl
@[simp] theorem stopRuns_evt (p s) : (stopRuns p s).evt = s.evt := rfl
@[simp] theorem stopRuns_job (p s) : (stopRuns p s).job = s.job := rfl
@[simp] theorem stopRuns_dma (p s) : (stopRuns p s).dma = s.dma := rfl
@[simp] theorem stopRuns_eng (p s) : (stopRuns p s).eng = s.eng := rfl
@[simp] theorem stopRuns_comb (p s) : (stopRuns p s).comb = s.comb := rfl
@[simp] theorem stopRuns_pec (p s) : (stopRuns p s).pec = s.pec := rfl
@[simp] theorem stopRuns_bmu (p s) : (stopRuns p s).bmu = s.bmu := rfl
@[simp] theorem stopRuns_axes (p s) : (stopRuns p s).axes = s.axes := rfl
@[simp] theorem stopRuns_seq (p s) : (stopRuns p s).seq = s.seq := rfl
@[simp] theorem stopRuns_blk (p s) : (stopRuns p s).blk = s.blk := rfl
@[simp] theorem stopRuns_mem (p s) : (stopRuns p s).mem = s.mem := rfl
@[simp] theorem stopRuns_bel (p s) : (stopRuns p s).bel = s.bel := rfl
@[simp] theorem stopRuns_hive (p s) : (stopRuns p s).hive = s.hive := rfl
@[simp] theorem stopRuns_crc (p s) : (stopRuns p s).crc = s.crc := rfl
@[simp] theorem stopRuns_tim (p s) : (stopRuns p s).tim = s.tim := rfl
@[simp] theorem stopRuns_sec (p s) : (stopRuns p s).sec = s.sec := rfl
@[simp] theorem stopRuns_thm (p s) : (stopRuns p s).thm = s.thm := rfl
@[simp] theorem stopRuns_cal (p s) : (stopRuns p s).cal = s.cal := rfl
@[simp] theorem updTile_pending (c g f s) : (updTile c g f s).pending = s.pending := rfl
@[simp] theorem updTile_free (c g f s) : (updTile c g f s).free = s.free := rfl
@[simp] theorem updTile_out (c g f s) : (updTile c g f s).out = s.out := rfl
@[simp] theorem updTile_regs (c g f s) : (updTile c g f s).regs = s.regs := rfl
@[simp] theorem updTile_latch (c g f s) : (updTile c g f s).latch = s.latch := rfl
@[simp] theorem updTile_dram (c g f s) : (updTile c g f s).dram = s.dram := rfl
@[simp] theorem updTile_journal (c g f s) : (updTile c g f s).journal = s.journal := rfl
@[simp] theorem updTile_power (c g f s) : (updTile c g f s).power = s.power := rfl
@[simp] theorem updTile_hif (c g f s) : (updTile c g f s).hif = s.hif := rfl
@[simp] theorem updTile_evt (c g f s) : (updTile c g f s).evt = s.evt := rfl
@[simp] theorem updTile_job (c g f s) : (updTile c g f s).job = s.job := rfl
@[simp] theorem updTile_dma (c g f s) : (updTile c g f s).dma = s.dma := rfl
@[simp] theorem updTile_intake (c g f s) : (updTile c g f s).intake = s.intake := rfl
@[simp] theorem updTile_eng (c g f s) : (updTile c g f s).eng = s.eng := rfl
@[simp] theorem updTile_comb (c g f s) : (updTile c g f s).comb = s.comb := rfl
@[simp] theorem updTile_pec (c g f s) : (updTile c g f s).pec = s.pec := rfl
@[simp] theorem updTile_bmu (c g f s) : (updTile c g f s).bmu = s.bmu := rfl
@[simp] theorem updTile_axes (c g f s) : (updTile c g f s).axes = s.axes := rfl
@[simp] theorem updTile_seq (c g f s) : (updTile c g f s).seq = s.seq := rfl
@[simp] theorem updTile_blk (c g f s) : (updTile c g f s).blk = s.blk := rfl
@[simp] theorem updTile_mem (c g f s) : (updTile c g f s).mem = s.mem := rfl
@[simp] theorem updTile_hive (c g f s) : (updTile c g f s).hive = s.hive := rfl
@[simp] theorem updTile_crc (c g f s) : (updTile c g f s).crc = s.crc := rfl
@[simp] theorem updTile_tim (c g f s) : (updTile c g f s).tim = s.tim := rfl
@[simp] theorem updTile_sec (c g f s) : (updTile c g f s).sec = s.sec := rfl
@[simp] theorem updTile_thm (c g f s) : (updTile c g f s).thm = s.thm := rfl
@[simp] theorem updTile_cal (c g f s) : (updTile c g f s).cal = s.cal := rfl
@[simp] theorem updExp_pending (p f s) : (updExp p f s).pending = s.pending := by cases p <;> rfl
@[simp] theorem updExp_free (p f s) : (updExp p f s).free = s.free := by cases p <;> rfl
@[simp] theorem updExp_out (p f s) : (updExp p f s).out = s.out := by cases p <;> rfl
@[simp] theorem updExp_regs (p f s) : (updExp p f s).regs = s.regs := by cases p <;> rfl
@[simp] theorem updExp_latch (p f s) : (updExp p f s).latch = s.latch := by cases p <;> rfl
@[simp] theorem updExp_dram (p f s) : (updExp p f s).dram = s.dram := by cases p <;> rfl
@[simp] theorem updExp_journal (p f s) : (updExp p f s).journal = s.journal := by cases p <;> rfl
@[simp] theorem updExp_power (p f s) : (updExp p f s).power = s.power := by cases p <;> rfl
@[simp] theorem updExp_hif (p f s) : (updExp p f s).hif = s.hif := by cases p <;> rfl
@[simp] theorem updExp_evt (p f s) : (updExp p f s).evt = s.evt := by cases p <;> rfl
@[simp] theorem updExp_job (p f s) : (updExp p f s).job = s.job := by cases p <;> rfl
@[simp] theorem updExp_dma (p f s) : (updExp p f s).dma = s.dma := by cases p <;> rfl
@[simp] theorem updExp_eng (p f s) : (updExp p f s).eng = s.eng := by cases p <;> rfl
@[simp] theorem updExp_comb (p f s) : (updExp p f s).comb = s.comb := by cases p <;> rfl
@[simp] theorem updExp_pec (p f s) : (updExp p f s).pec = s.pec := by cases p <;> rfl
@[simp] theorem updExp_bmu (p f s) : (updExp p f s).bmu = s.bmu := by cases p <;> rfl
@[simp] theorem updExp_axes (p f s) : (updExp p f s).axes = s.axes := by cases p <;> rfl
@[simp] theorem updExp_seq (p f s) : (updExp p f s).seq = s.seq := by cases p <;> rfl
@[simp] theorem updExp_blk (p f s) : (updExp p f s).blk = s.blk := by cases p <;> rfl
@[simp] theorem updExp_mem (p f s) : (updExp p f s).mem = s.mem := by cases p <;> rfl
@[simp] theorem updExp_bel (p f s) : (updExp p f s).bel = s.bel := by cases p <;> rfl
@[simp] theorem updExp_hive (p f s) : (updExp p f s).hive = s.hive := by cases p <;> rfl
@[simp] theorem updExp_crc (p f s) : (updExp p f s).crc = s.crc := by cases p <;> rfl
@[simp] theorem updExp_tim (p f s) : (updExp p f s).tim = s.tim := by cases p <;> rfl
@[simp] theorem updExp_sec (p f s) : (updExp p f s).sec = s.sec := by cases p <;> rfl
@[simp] theorem updExp_thm (p f s) : (updExp p f s).thm = s.thm := by cases p <;> rfl
@[simp] theorem updExp_cal (p f s) : (updExp p f s).cal = s.cal := by cases p <;> rfl

end Sys2Proof.Machine
end

