-- ==== Sys2Proof/Laws/Ops.lean ====
section
/-!
SUPPORT. What the shared operations do: the register file after a write, a raise and a count, module DRAM after a
write, BAR0 writes, the journal and completions; and the fields each operation leaves alone.
-/

namespace Sys2Proof.Machine

@[simp] theorem writeStored_pending (o v s) : (writeStored o v s).pending = s.pending := by unfold writeStored; (repeat' split) <;> simp
@[simp] theorem writeStored_free (o v s) : (writeStored o v s).free = s.free := by unfold writeStored; (repeat' split) <;> simp
@[simp] theorem writeStored_out (o v s) : (writeStored o v s).out = s.out := by unfold writeStored; (repeat' split) <;> simp
@[simp] theorem writeStored_latch (o v s) : (writeStored o v s).latch = s.latch := by unfold writeStored; (repeat' split) <;> simp
@[simp] theorem writeStored_dram (o v s) : (writeStored o v s).dram = s.dram := by unfold writeStored; (repeat' split) <;> simp
@[simp] theorem writeStored_journal (o v s) : (writeStored o v s).journal = s.journal := by unfold writeStored; (repeat' split) <;> simp
@[simp] theorem writeStored_power (o v s) : (writeStored o v s).power = s.power := by unfold writeStored; (repeat' split) <;> simp
@[simp] theorem writeStored_hif (o v s) : (writeStored o v s).hif = s.hif := by unfold writeStored; (repeat' split) <;> simp
@[simp] theorem writeStored_evt (o v s) : (writeStored o v s).evt = s.evt := by unfold writeStored; (repeat' split) <;> simp
@[simp] theorem writeStored_job (o v s) : (writeStored o v s).job = s.job := by unfold writeStored; (repeat' split) <;> simp
@[simp] theorem writeStored_dma (o v s) : (writeStored o v s).dma = s.dma := by unfold writeStored; (repeat' split) <;> simp
@[simp] theorem writeStored_intake (o v s) : (writeStored o v s).intake = s.intake := by unfold writeStored; (repeat' split) <;> simp
@[simp] theorem writeStored_eng (o v s) : (writeStored o v s).eng = s.eng := by unfold writeStored; (repeat' split) <;> simp
@[simp] theorem writeStored_comb (o v s) : (writeStored o v s).comb = s.comb := by unfold writeStored; (repeat' split) <;> simp
@[simp] theorem writeStored_pec (o v s) : (writeStored o v s).pec = s.pec := by unfold writeStored; (repeat' split) <;> simp
@[simp] theorem writeStored_bmu (o v s) : (writeStored o v s).bmu = s.bmu := by unfold writeStored; (repeat' split) <;> simp
@[simp] theorem writeStored_axes (o v s) : (writeStored o v s).axes = s.axes := by unfold writeStored; (repeat' split) <;> simp
@[simp] theorem writeStored_seq (o v s) : (writeStored o v s).seq = s.seq := by unfold writeStored; (repeat' split) <;> simp
@[simp] theorem writeStored_blk (o v s) : (writeStored o v s).blk = s.blk := by unfold writeStored; (repeat' split) <;> simp
@[simp] theorem writeStored_mem (o v s) : (writeStored o v s).mem = s.mem := by unfold writeStored; (repeat' split) <;> simp
@[simp] theorem writeStored_bel (o v s) : (writeStored o v s).bel = s.bel := by unfold writeStored; (repeat' split) <;> simp
@[simp] theorem writeStored_hive (o v s) : (writeStored o v s).hive = s.hive := by unfold writeStored; (repeat' split) <;> simp
@[simp] theorem writeStored_crc (o v s) : (writeStored o v s).crc = s.crc := by unfold writeStored; (repeat' split) <;> simp
@[simp] theorem writeStored_tim (o v s) : (writeStored o v s).tim = s.tim := by unfold writeStored; (repeat' split) <;> simp
@[simp] theorem writeStored_sec (o v s) : (writeStored o v s).sec = s.sec := by unfold writeStored; (repeat' split) <;> simp
@[simp] theorem writeStored_thm (o v s) : (writeStored o v s).thm = s.thm := by unfold writeStored; (repeat' split) <;> simp
@[simp] theorem writeStored_cal (o v s) : (writeStored o v s).cal = s.cal := by unfold writeStored; (repeat' split) <;> simp
@[simp] theorem oweMessage_pending (k a s) : (oweMessage k a s).pending = s.pending := rfl
@[simp] theorem oweMessage_free (k a s) : (oweMessage k a s).free = s.free := rfl
@[simp] theorem oweMessage_out (k a s) : (oweMessage k a s).out = s.out := rfl
@[simp] theorem oweMessage_regs (k a s) : (oweMessage k a s).regs = s.regs := rfl
@[simp] theorem oweMessage_latch (k a s) : (oweMessage k a s).latch = s.latch := rfl
@[simp] theorem oweMessage_dram (k a s) : (oweMessage k a s).dram = s.dram := rfl
@[simp] theorem oweMessage_journal (k a s) : (oweMessage k a s).journal = s.journal := rfl
@[simp] theorem oweMessage_power (k a s) : (oweMessage k a s).power = s.power := rfl
@[simp] theorem oweMessage_hif (k a s) : (oweMessage k a s).hif = s.hif := rfl
@[simp] theorem oweMessage_job (k a s) : (oweMessage k a s).job = s.job := rfl
@[simp] theorem oweMessage_dma (k a s) : (oweMessage k a s).dma = s.dma := rfl
@[simp] theorem oweMessage_intake (k a s) : (oweMessage k a s).intake = s.intake := rfl
@[simp] theorem oweMessage_eng (k a s) : (oweMessage k a s).eng = s.eng := rfl
@[simp] theorem oweMessage_comb (k a s) : (oweMessage k a s).comb = s.comb := rfl
@[simp] theorem oweMessage_pec (k a s) : (oweMessage k a s).pec = s.pec := rfl
@[simp] theorem oweMessage_bmu (k a s) : (oweMessage k a s).bmu = s.bmu := rfl
@[simp] theorem oweMessage_axes (k a s) : (oweMessage k a s).axes = s.axes := rfl
@[simp] theorem oweMessage_seq (k a s) : (oweMessage k a s).seq = s.seq := rfl
@[simp] theorem oweMessage_blk (k a s) : (oweMessage k a s).blk = s.blk := rfl
@[simp] theorem oweMessage_mem (k a s) : (oweMessage k a s).mem = s.mem := rfl
@[simp] theorem oweMessage_bel (k a s) : (oweMessage k a s).bel = s.bel := rfl
@[simp] theorem oweMessage_hive (k a s) : (oweMessage k a s).hive = s.hive := rfl
@[simp] theorem oweMessage_crc (k a s) : (oweMessage k a s).crc = s.crc := rfl
@[simp] theorem oweMessage_tim (k a s) : (oweMessage k a s).tim = s.tim := rfl
@[simp] theorem oweMessage_sec (k a s) : (oweMessage k a s).sec = s.sec := rfl
@[simp] theorem oweMessage_thm (k a s) : (oweMessage k a s).thm = s.thm := rfl
@[simp] theorem oweMessage_cal (k a s) : (oweMessage k a s).cal = s.cal := rfl
@[simp] theorem formEntry_pending (src i q t s) : (formEntry src i q t s).pending = s.pending := by unfold formEntry; (repeat' split) <;> simp
@[simp] theorem formEntry_free (src i q t s) : (formEntry src i q t s).free = s.free := by unfold formEntry; (repeat' split) <;> simp
@[simp] theorem formEntry_out (src i q t s) : (formEntry src i q t s).out = s.out := by unfold formEntry; (repeat' split) <;> simp
@[simp] theorem formEntry_latch (src i q t s) : (formEntry src i q t s).latch = s.latch := by unfold formEntry; (repeat' split) <;> simp
@[simp] theorem formEntry_dram (src i q t s) : (formEntry src i q t s).dram = s.dram := by unfold formEntry; (repeat' split) <;> simp
@[simp] theorem formEntry_journal (src i q t s) : (formEntry src i q t s).journal = s.journal := by unfold formEntry; (repeat' split) <;> simp
@[simp] theorem formEntry_power (src i q t s) : (formEntry src i q t s).power = s.power := by unfold formEntry; (repeat' split) <;> simp
@[simp] theorem formEntry_hif (src i q t s) : (formEntry src i q t s).hif = s.hif := by unfold formEntry; (repeat' split) <;> simp
@[simp] theorem formEntry_job (src i q t s) : (formEntry src i q t s).job = s.job := by unfold formEntry; (repeat' split) <;> simp
@[simp] theorem formEntry_dma (src i q t s) : (formEntry src i q t s).dma = s.dma := by unfold formEntry; (repeat' split) <;> simp
@[simp] theorem formEntry_intake (src i q t s) : (formEntry src i q t s).intake = s.intake := by unfold formEntry; (repeat' split) <;> simp
@[simp] theorem formEntry_eng (src i q t s) : (formEntry src i q t s).eng = s.eng := by unfold formEntry; (repeat' split) <;> simp
@[simp] theorem formEntry_comb (src i q t s) : (formEntry src i q t s).comb = s.comb := by unfold formEntry; (repeat' split) <;> simp
@[simp] theorem formEntry_pec (src i q t s) : (formEntry src i q t s).pec = s.pec := by unfold formEntry; (repeat' split) <;> simp
@[simp] theorem formEntry_bmu (src i q t s) : (formEntry src i q t s).bmu = s.bmu := by unfold formEntry; (repeat' split) <;> simp
@[simp] theorem formEntry_axes (src i q t s) : (formEntry src i q t s).axes = s.axes := by unfold formEntry; (repeat' split) <;> simp
@[simp] theorem formEntry_seq (src i q t s) : (formEntry src i q t s).seq = s.seq := by unfold formEntry; (repeat' split) <;> simp
@[simp] theorem formEntry_blk (src i q t s) : (formEntry src i q t s).blk = s.blk := by unfold formEntry; (repeat' split) <;> simp
@[simp] theorem formEntry_mem (src i q t s) : (formEntry src i q t s).mem = s.mem := by unfold formEntry; (repeat' split) <;> simp
@[simp] theorem formEntry_bel (src i q t s) : (formEntry src i q t s).bel = s.bel := by unfold formEntry; (repeat' split) <;> simp
@[simp] theorem formEntry_hive (src i q t s) : (formEntry src i q t s).hive = s.hive := by unfold formEntry; (repeat' split) <;> simp
@[simp] theorem formEntry_crc (src i q t s) : (formEntry src i q t s).crc = s.crc := by unfold formEntry; (repeat' split) <;> simp
@[simp] theorem formEntry_tim (src i q t s) : (formEntry src i q t s).tim = s.tim := by unfold formEntry; (repeat' split) <;> simp
@[simp] theorem formEntry_sec (src i q t s) : (formEntry src i q t s).sec = s.sec := by unfold formEntry; (repeat' split) <;> simp
@[simp] theorem formEntry_thm (src i q t s) : (formEntry src i q t s).thm = s.thm := by unfold formEntry; (repeat' split) <;> simp
@[simp] theorem formEntry_cal (src i q t s) : (formEntry src i q t s).cal = s.cal := by unfold formEntry; (repeat' split) <;> simp
@[simp] theorem raiseAs_pending (t src i q s) : (raiseAs t src i q s).pending = s.pending := by unfold raiseAs; (repeat' split) <;> simp
@[simp] theorem raiseAs_free (t src i q s) : (raiseAs t src i q s).free = s.free := by unfold raiseAs; (repeat' split) <;> simp
@[simp] theorem raiseAs_out (t src i q s) : (raiseAs t src i q s).out = s.out := by unfold raiseAs; (repeat' split) <;> simp
@[simp] theorem raiseAs_latch (t src i q s) : (raiseAs t src i q s).latch = s.latch := by unfold raiseAs; (repeat' split) <;> simp
@[simp] theorem raiseAs_dram (t src i q s) : (raiseAs t src i q s).dram = s.dram := by unfold raiseAs; (repeat' split) <;> simp
@[simp] theorem raiseAs_journal (t src i q s) : (raiseAs t src i q s).journal = s.journal := by unfold raiseAs; (repeat' split) <;> simp
@[simp] theorem raiseAs_power (t src i q s) : (raiseAs t src i q s).power = s.power := by unfold raiseAs; (repeat' split) <;> simp
@[simp] theorem raiseAs_hif (t src i q s) : (raiseAs t src i q s).hif = s.hif := by unfold raiseAs; (repeat' split) <;> simp
@[simp] theorem raiseAs_job (t src i q s) : (raiseAs t src i q s).job = s.job := by unfold raiseAs; (repeat' split) <;> simp
@[simp] theorem raiseAs_dma (t src i q s) : (raiseAs t src i q s).dma = s.dma := by unfold raiseAs; (repeat' split) <;> simp
@[simp] theorem raiseAs_intake (t src i q s) : (raiseAs t src i q s).intake = s.intake := by unfold raiseAs; (repeat' split) <;> simp
@[simp] theorem raiseAs_eng (t src i q s) : (raiseAs t src i q s).eng = s.eng := by unfold raiseAs; (repeat' split) <;> simp
@[simp] theorem raiseAs_comb (t src i q s) : (raiseAs t src i q s).comb = s.comb := by unfold raiseAs; (repeat' split) <;> simp
@[simp] theorem raiseAs_pec (t src i q s) : (raiseAs t src i q s).pec = s.pec := by unfold raiseAs; (repeat' split) <;> simp
@[simp] theorem raiseAs_bmu (t src i q s) : (raiseAs t src i q s).bmu = s.bmu := by unfold raiseAs; (repeat' split) <;> simp
@[simp] theorem raiseAs_axes (t src i q s) : (raiseAs t src i q s).axes = s.axes := by unfold raiseAs; (repeat' split) <;> simp
@[simp] theorem raiseAs_seq (t src i q s) : (raiseAs t src i q s).seq = s.seq := by unfold raiseAs; (repeat' split) <;> simp
@[simp] theorem raiseAs_blk (t src i q s) : (raiseAs t src i q s).blk = s.blk := by unfold raiseAs; (repeat' split) <;> simp
@[simp] theorem raiseAs_mem (t src i q s) : (raiseAs t src i q s).mem = s.mem := by unfold raiseAs; (repeat' split) <;> simp
@[simp] theorem raiseAs_bel (t src i q s) : (raiseAs t src i q s).bel = s.bel := by unfold raiseAs; (repeat' split) <;> simp
@[simp] theorem raiseAs_hive (t src i q s) : (raiseAs t src i q s).hive = s.hive := by unfold raiseAs; (repeat' split) <;> simp
@[simp] theorem raiseAs_crc (t src i q s) : (raiseAs t src i q s).crc = s.crc := by unfold raiseAs; (repeat' split) <;> simp
@[simp] theorem raiseAs_tim (t src i q s) : (raiseAs t src i q s).tim = s.tim := by unfold raiseAs; (repeat' split) <;> simp
@[simp] theorem raiseAs_sec (t src i q s) : (raiseAs t src i q s).sec = s.sec := by unfold raiseAs; (repeat' split) <;> simp
@[simp] theorem raiseAs_thm (t src i q s) : (raiseAs t src i q s).thm = s.thm := by unfold raiseAs; (repeat' split) <;> simp
@[simp] theorem raiseAs_cal (t src i q s) : (raiseAs t src i q s).cal = s.cal := by unfold raiseAs; (repeat' split) <;> simp
@[simp] theorem raise_pending (src i q s) : (raise src i q s).pending = s.pending := by simp [raise]
@[simp] theorem raise_free (src i q s) : (raise src i q s).free = s.free := by simp [raise]
@[simp] theorem raise_out (src i q s) : (raise src i q s).out = s.out := by simp [raise]
@[simp] theorem raise_latch (src i q s) : (raise src i q s).latch = s.latch := by simp [raise]
@[simp] theorem raise_dram (src i q s) : (raise src i q s).dram = s.dram := by simp [raise]
@[simp] theorem raise_journal (src i q s) : (raise src i q s).journal = s.journal := by simp [raise]
@[simp] theorem raise_power (src i q s) : (raise src i q s).power = s.power := by simp [raise]
@[simp] theorem raise_hif (src i q s) : (raise src i q s).hif = s.hif := by simp [raise]
@[simp] theorem raise_job (src i q s) : (raise src i q s).job = s.job := by simp [raise]
@[simp] theorem raise_dma (src i q s) : (raise src i q s).dma = s.dma := by simp [raise]
@[simp] theorem raise_intake (src i q s) : (raise src i q s).intake = s.intake := by simp [raise]
@[simp] theorem raise_eng (src i q s) : (raise src i q s).eng = s.eng := by simp [raise]
@[simp] theorem raise_comb (src i q s) : (raise src i q s).comb = s.comb := by simp [raise]
@[simp] theorem raise_pec (src i q s) : (raise src i q s).pec = s.pec := by simp [raise]
@[simp] theorem raise_bmu (src i q s) : (raise src i q s).bmu = s.bmu := by simp [raise]
@[simp] theorem raise_axes (src i q s) : (raise src i q s).axes = s.axes := by simp [raise]
@[simp] theorem raise_seq (src i q s) : (raise src i q s).seq = s.seq := by simp [raise]
@[simp] theorem raise_blk (src i q s) : (raise src i q s).blk = s.blk := by simp [raise]
@[simp] theorem raise_mem (src i q s) : (raise src i q s).mem = s.mem := by simp [raise]
@[simp] theorem raise_bel (src i q s) : (raise src i q s).bel = s.bel := by simp [raise]
@[simp] theorem raise_hive (src i q s) : (raise src i q s).hive = s.hive := by simp [raise]
@[simp] theorem raise_crc (src i q s) : (raise src i q s).crc = s.crc := by simp [raise]
@[simp] theorem raise_tim (src i q s) : (raise src i q s).tim = s.tim := by simp [raise]
@[simp] theorem raise_sec (src i q s) : (raise src i q s).sec = s.sec := by simp [raise]
@[simp] theorem raise_thm (src i q s) : (raise src i q s).thm = s.thm := by simp [raise]
@[simp] theorem raise_cal (src i q s) : (raise src i q s).cal = s.cal := by simp [raise]
@[simp] theorem exportLog_pending (k b s) : (exportLog k b s).pending = s.pending := by unfold exportLog; (repeat' split) <;> simp
@[simp] theorem exportLog_free (k b s) : (exportLog k b s).free = s.free := by unfold exportLog; (repeat' split) <;> simp
@[simp] theorem exportLog_regs (k b s) : (exportLog k b s).regs = s.regs := by unfold exportLog; (repeat' split) <;> simp
@[simp] theorem exportLog_latch (k b s) : (exportLog k b s).latch = s.latch := by unfold exportLog; (repeat' split) <;> simp
@[simp] theorem exportLog_dram (k b s) : (exportLog k b s).dram = s.dram := by unfold exportLog; (repeat' split) <;> simp
@[simp] theorem exportLog_journal (k b s) : (exportLog k b s).journal = s.journal := by unfold exportLog; (repeat' split) <;> simp
@[simp] theorem exportLog_power (k b s) : (exportLog k b s).power = s.power := by unfold exportLog; (repeat' split) <;> simp
@[simp] theorem exportLog_hif (k b s) : (exportLog k b s).hif = s.hif := by unfold exportLog; (repeat' split) <;> simp
@[simp] theorem exportLog_evt (k b s) : (exportLog k b s).evt = s.evt := by unfold exportLog; (repeat' split) <;> simp
@[simp] theorem exportLog_job (k b s) : (exportLog k b s).job = s.job := by unfold exportLog; (repeat' split) <;> simp
@[simp] theorem exportLog_dma (k b s) : (exportLog k b s).dma = s.dma := by unfold exportLog; (repeat' split) <;> simp
@[simp] theorem exportLog_intake (k b s) : (exportLog k b s).intake = s.intake := by unfold exportLog; (repeat' split) <;> simp
@[simp] theorem exportLog_eng (k b s) : (exportLog k b s).eng = s.eng := by unfold exportLog; (repeat' split) <;> simp
@[simp] theorem exportLog_comb (k b s) : (exportLog k b s).comb = s.comb := by unfold exportLog; (repeat' split) <;> simp
@[simp] theorem exportLog_pec (k b s) : (exportLog k b s).pec = s.pec := by unfold exportLog; (repeat' split) <;> simp
@[simp] theorem exportLog_bmu (k b s) : (exportLog k b s).bmu = s.bmu := by unfold exportLog; (repeat' split) <;> simp
@[simp] theorem exportLog_axes (k b s) : (exportLog k b s).axes = s.axes := by unfold exportLog; (repeat' split) <;> simp
@[simp] theorem exportLog_seq (k b s) : (exportLog k b s).seq = s.seq := by unfold exportLog; (repeat' split) <;> simp
@[simp] theorem exportLog_blk (k b s) : (exportLog k b s).blk = s.blk := by unfold exportLog; (repeat' split) <;> simp
@[simp] theorem exportLog_mem (k b s) : (exportLog k b s).mem = s.mem := by unfold exportLog; (repeat' split) <;> simp
@[simp] theorem exportLog_bel (k b s) : (exportLog k b s).bel = s.bel := by unfold exportLog; (repeat' split) <;> simp
@[simp] theorem exportLog_hive (k b s) : (exportLog k b s).hive = s.hive := by unfold exportLog; (repeat' split) <;> simp
@[simp] theorem exportLog_crc (k b s) : (exportLog k b s).crc = s.crc := by unfold exportLog; (repeat' split) <;> simp
@[simp] theorem exportLog_tim (k b s) : (exportLog k b s).tim = s.tim := by unfold exportLog; (repeat' split) <;> simp
@[simp] theorem exportLog_sec (k b s) : (exportLog k b s).sec = s.sec := by unfold exportLog; (repeat' split) <;> simp
@[simp] theorem exportLog_thm (k b s) : (exportLog k b s).thm = s.thm := by unfold exportLog; (repeat' split) <;> simp
@[simp] theorem exportLog_cal (k b s) : (exportLog k b s).cal = s.cal := by unfold exportLog; (repeat' split) <;> simp
@[simp] theorem journalPut_pending (r s) : (journalPut r s).pending = s.pending := by simp [journalPut]
@[simp] theorem journalPut_free (r s) : (journalPut r s).free = s.free := by simp [journalPut]
@[simp] theorem journalPut_regs (r s) : (journalPut r s).regs = s.regs := by simp [journalPut]
@[simp] theorem journalPut_latch (r s) : (journalPut r s).latch = s.latch := by simp [journalPut]
@[simp] theorem journalPut_dram (r s) : (journalPut r s).dram = s.dram := by simp [journalPut]
@[simp] theorem journalPut_power (r s) : (journalPut r s).power = s.power := by simp [journalPut]
@[simp] theorem journalPut_hif (r s) : (journalPut r s).hif = s.hif := by simp [journalPut]
@[simp] theorem journalPut_evt (r s) : (journalPut r s).evt = s.evt := by simp [journalPut]
@[simp] theorem journalPut_job (r s) : (journalPut r s).job = s.job := by simp [journalPut]
@[simp] theorem journalPut_dma (r s) : (journalPut r s).dma = s.dma := by simp [journalPut]
@[simp] theorem journalPut_intake (r s) : (journalPut r s).intake = s.intake := by simp [journalPut]
@[simp] theorem journalPut_eng (r s) : (journalPut r s).eng = s.eng := by simp [journalPut]
@[simp] theorem journalPut_comb (r s) : (journalPut r s).comb = s.comb := by simp [journalPut]
@[simp] theorem journalPut_pec (r s) : (journalPut r s).pec = s.pec := by simp [journalPut]
@[simp] theorem journalPut_bmu (r s) : (journalPut r s).bmu = s.bmu := by simp [journalPut]
@[simp] theorem journalPut_axes (r s) : (journalPut r s).axes = s.axes := by simp [journalPut]
@[simp] theorem journalPut_seq (r s) : (journalPut r s).seq = s.seq := by simp [journalPut]
@[simp] theorem journalPut_blk (r s) : (journalPut r s).blk = s.blk := by simp [journalPut]
@[simp] theorem journalPut_mem (r s) : (journalPut r s).mem = s.mem := by simp [journalPut]
@[simp] theorem journalPut_bel (r s) : (journalPut r s).bel = s.bel := by simp [journalPut]
@[simp] theorem journalPut_hive (r s) : (journalPut r s).hive = s.hive := by simp [journalPut]
@[simp] theorem journalPut_crc (r s) : (journalPut r s).crc = s.crc := by simp [journalPut]
@[simp] theorem journalPut_tim (r s) : (journalPut r s).tim = s.tim := by simp [journalPut]
@[simp] theorem journalPut_sec (r s) : (journalPut r s).sec = s.sec := by simp [journalPut]
@[simp] theorem journalPut_thm (r s) : (journalPut r s).thm = s.thm := by simp [journalPut]
@[simp] theorem journalPut_cal (r s) : (journalPut r s).cal = s.cal := by simp [journalPut]
@[simp] theorem journalCopies_pending (n s) : (journalCopies n s).pending = s.pending := by
  induction n generalizing s with
  | zero => rfl
  | succ k ih => unfold journalCopies; split <;> simp [ih]
@[simp] theorem journalCopies_free (n s) : (journalCopies n s).free = s.free := by
  induction n generalizing s with
  | zero => rfl
  | succ k ih => unfold journalCopies; split <;> simp [ih]
@[simp] theorem journalCopies_latch (n s) : (journalCopies n s).latch = s.latch := by
  induction n generalizing s with
  | zero => rfl
  | succ k ih => unfold journalCopies; split <;> simp [ih]
@[simp] theorem journalCopies_dram (n s) : (journalCopies n s).dram = s.dram := by
  induction n generalizing s with
  | zero => rfl
  | succ k ih => unfold journalCopies; split <;> simp [ih]
@[simp] theorem journalCopies_power (n s) : (journalCopies n s).power = s.power := by
  induction n generalizing s with
  | zero => rfl
  | succ k ih => unfold journalCopies; split <;> simp [ih]
@[simp] theorem journalCopies_hif (n s) : (journalCopies n s).hif = s.hif := by
  induction n generalizing s with
  | zero => rfl
  | succ k ih => unfold journalCopies; split <;> simp [ih]
@[simp] theorem journalCopies_job (n s) : (journalCopies n s).job = s.job := by
  induction n generalizing s with
  | zero => rfl
  | succ k ih => unfold journalCopies; split <;> simp [ih]
@[simp] theorem journalCopies_dma (n s) : (journalCopies n s).dma = s.dma := by
  induction n generalizing s with
  | zero => rfl
  | succ k ih => unfold journalCopies; split <;> simp [ih]
@[simp] theorem journalCopies_intake (n s) : (journalCopies n s).intake = s.intake := by
  induction n generalizing s with
  | zero => rfl
  | succ k ih => unfold journalCopies; split <;> simp [ih]
@[simp] theorem journalCopies_eng (n s) : (journalCopies n s).eng = s.eng := by
  induction n generalizing s with
  | zero => rfl
  | succ k ih => unfold journalCopies; split <;> simp [ih]
@[simp] theorem journalCopies_comb (n s) : (journalCopies n s).comb = s.comb := by
  induction n generalizing s with
  | zero => rfl
  | succ k ih => unfold journalCopies; split <;> simp [ih]
@[simp] theorem journalCopies_pec (n s) : (journalCopies n s).pec = s.pec := by
  induction n generalizing s with
  | zero => rfl
  | succ k ih => unfold journalCopies; split <;> simp [ih]
@[simp] theorem journalCopies_bmu (n s) : (journalCopies n s).bmu = s.bmu := by
  induction n generalizing s with
  | zero => rfl
  | succ k ih => unfold journalCopies; split <;> simp [ih]
@[simp] theorem journalCopies_axes (n s) : (journalCopies n s).axes = s.axes := by
  induction n generalizing s with
  | zero => rfl
  | succ k ih => unfold journalCopies; split <;> simp [ih]
@[simp] theorem journalCopies_seq (n s) : (journalCopies n s).seq = s.seq := by
  induction n generalizing s with
  | zero => rfl
  | succ k ih => unfold journalCopies; split <;> simp [ih]
@[simp] theorem journalCopies_blk (n s) : (journalCopies n s).blk = s.blk := by
  induction n generalizing s with
  | zero => rfl
  | succ k ih => unfold journalCopies; split <;> simp [ih]
@[simp] theorem journalCopies_mem (n s) : (journalCopies n s).mem = s.mem := by
  induction n generalizing s with
  | zero => rfl
  | succ k ih => unfold journalCopies; split <;> simp [ih]
@[simp] theorem journalCopies_bel (n s) : (journalCopies n s).bel = s.bel := by
  induction n generalizing s with
  | zero => rfl
  | succ k ih => unfold journalCopies; split <;> simp [ih]
@[simp] theorem journalCopies_hive (n s) : (journalCopies n s).hive = s.hive := by
  induction n generalizing s with
  | zero => rfl
  | succ k ih => unfold journalCopies; split <;> simp [ih]
@[simp] theorem journalCopies_crc (n s) : (journalCopies n s).crc = s.crc := by
  induction n generalizing s with
  | zero => rfl
  | succ k ih => unfold journalCopies; split <;> simp [ih]
@[simp] theorem journalCopies_tim (n s) : (journalCopies n s).tim = s.tim := by
  induction n generalizing s with
  | zero => rfl
  | succ k ih => unfold journalCopies; split <;> simp [ih]
@[simp] theorem journalCopies_sec (n s) : (journalCopies n s).sec = s.sec := by
  induction n generalizing s with
  | zero => rfl
  | succ k ih => unfold journalCopies; split <;> simp [ih]
@[simp] theorem journalCopies_thm (n s) : (journalCopies n s).thm = s.thm := by
  induction n generalizing s with
  | zero => rfl
  | succ k ih => unfold journalCopies; split <;> simp [ih]
@[simp] theorem journalCopies_cal (n s) : (journalCopies n s).cal = s.cal := by
  induction n generalizing s with
  | zero => rfl
  | succ k ih => unfold journalCopies; split <;> simp [ih]
@[simp] theorem journalCopy_pending (s) : (journalCopy s).pending = s.pending := by simp [journalCopy]
@[simp] theorem journalCopy_free (s) : (journalCopy s).free = s.free := by simp [journalCopy]
@[simp] theorem journalCopy_latch (s) : (journalCopy s).latch = s.latch := by simp [journalCopy]
@[simp] theorem journalCopy_dram (s) : (journalCopy s).dram = s.dram := by simp [journalCopy]
@[simp] theorem journalCopy_power (s) : (journalCopy s).power = s.power := by simp [journalCopy]
@[simp] theorem journalCopy_hif (s) : (journalCopy s).hif = s.hif := by simp [journalCopy]
@[simp] theorem journalCopy_job (s) : (journalCopy s).job = s.job := by simp [journalCopy]
@[simp] theorem journalCopy_dma (s) : (journalCopy s).dma = s.dma := by simp [journalCopy]
@[simp] theorem journalCopy_intake (s) : (journalCopy s).intake = s.intake := by simp [journalCopy]
@[simp] theorem journalCopy_eng (s) : (journalCopy s).eng = s.eng := by simp [journalCopy]
@[simp] theorem journalCopy_comb (s) : (journalCopy s).comb = s.comb := by simp [journalCopy]
@[simp] theorem journalCopy_pec (s) : (journalCopy s).pec = s.pec := by simp [journalCopy]
@[simp] theorem journalCopy_bmu (s) : (journalCopy s).bmu = s.bmu := by simp [journalCopy]
@[simp] theorem journalCopy_axes (s) : (journalCopy s).axes = s.axes := by simp [journalCopy]
@[simp] theorem journalCopy_seq (s) : (journalCopy s).seq = s.seq := by simp [journalCopy]
@[simp] theorem journalCopy_blk (s) : (journalCopy s).blk = s.blk := by simp [journalCopy]
@[simp] theorem journalCopy_mem (s) : (journalCopy s).mem = s.mem := by simp [journalCopy]
@[simp] theorem journalCopy_bel (s) : (journalCopy s).bel = s.bel := by simp [journalCopy]
@[simp] theorem journalCopy_hive (s) : (journalCopy s).hive = s.hive := by simp [journalCopy]
@[simp] theorem journalCopy_crc (s) : (journalCopy s).crc = s.crc := by simp [journalCopy]
@[simp] theorem journalCopy_tim (s) : (journalCopy s).tim = s.tim := by simp [journalCopy]
@[simp] theorem journalCopy_sec (s) : (journalCopy s).sec = s.sec := by simp [journalCopy]
@[simp] theorem journalCopy_thm (s) : (journalCopy s).thm = s.thm := by simp [journalCopy]
@[simp] theorem journalCopy_cal (s) : (journalCopy s).cal = s.cal := by simp [journalCopy]
@[simp] theorem journalAdd_pending (a b c d e f g s) : (journalAdd a b c d e f g s).pending = s.pending := by simp [journalAdd]
@[simp] theorem journalAdd_free (a b c d e f g s) : (journalAdd a b c d e f g s).free = s.free := by simp [journalAdd]
@[simp] theorem journalAdd_latch (a b c d e f g s) : (journalAdd a b c d e f g s).latch = s.latch := by simp [journalAdd]
@[simp] theorem journalAdd_dram (a b c d e f g s) : (journalAdd a b c d e f g s).dram = s.dram := by simp [journalAdd]
@[simp] theorem journalAdd_power (a b c d e f g s) : (journalAdd a b c d e f g s).power = s.power := by simp [journalAdd]
@[simp] theorem journalAdd_hif (a b c d e f g s) : (journalAdd a b c d e f g s).hif = s.hif := by simp [journalAdd]
@[simp] theorem journalAdd_job (a b c d e f g s) : (journalAdd a b c d e f g s).job = s.job := by simp [journalAdd]
@[simp] theorem journalAdd_dma (a b c d e f g s) : (journalAdd a b c d e f g s).dma = s.dma := by simp [journalAdd]
@[simp] theorem journalAdd_intake (a b c d e f g s) : (journalAdd a b c d e f g s).intake = s.intake := by simp [journalAdd]
@[simp] theorem journalAdd_eng (a b c d e f g s) : (journalAdd a b c d e f g s).eng = s.eng := by simp [journalAdd]
@[simp] theorem journalAdd_comb (a b c d e f g s) : (journalAdd a b c d e f g s).comb = s.comb := by simp [journalAdd]
@[simp] theorem journalAdd_pec (a b c d e f g s) : (journalAdd a b c d e f g s).pec = s.pec := by simp [journalAdd]
@[simp] theorem journalAdd_bmu (a b c d e f g s) : (journalAdd a b c d e f g s).bmu = s.bmu := by simp [journalAdd]
@[simp] theorem journalAdd_axes (a b c d e f g s) : (journalAdd a b c d e f g s).axes = s.axes := by simp [journalAdd]
@[simp] theorem journalAdd_seq (a b c d e f g s) : (journalAdd a b c d e f g s).seq = s.seq := by simp [journalAdd]
@[simp] theorem journalAdd_blk (a b c d e f g s) : (journalAdd a b c d e f g s).blk = s.blk := by simp [journalAdd]
@[simp] theorem journalAdd_mem (a b c d e f g s) : (journalAdd a b c d e f g s).mem = s.mem := by simp [journalAdd]
@[simp] theorem journalAdd_bel (a b c d e f g s) : (journalAdd a b c d e f g s).bel = s.bel := by simp [journalAdd]
@[simp] theorem journalAdd_hive (a b c d e f g s) : (journalAdd a b c d e f g s).hive = s.hive := by simp [journalAdd]
@[simp] theorem journalAdd_crc (a b c d e f g s) : (journalAdd a b c d e f g s).crc = s.crc := by simp [journalAdd]
@[simp] theorem journalAdd_tim (a b c d e f g s) : (journalAdd a b c d e f g s).tim = s.tim := by simp [journalAdd]
@[simp] theorem journalAdd_sec (a b c d e f g s) : (journalAdd a b c d e f g s).sec = s.sec := by simp [journalAdd]
@[simp] theorem journalAdd_thm (a b c d e f g s) : (journalAdd a b c d e f g s).thm = s.thm := by simp [journalAdd]
@[simp] theorem journalAdd_cal (a b c d e f g s) : (journalAdd a b c d e f g s).cal = s.cal := by simp [journalAdd]
@[simp] theorem complete_pending (c s) : (complete c s).pending = s.pending := by unfold complete; (repeat' split) <;> simp
@[simp] theorem complete_free (c s) : (complete c s).free = s.free := by unfold complete; (repeat' split) <;> simp
@[simp] theorem complete_out (c s) : (complete c s).out = s.out := by unfold complete; (repeat' split) <;> simp
@[simp] theorem complete_regs (c s) : (complete c s).regs = s.regs := by unfold complete; (repeat' split) <;> simp
@[simp] theorem complete_latch (c s) : (complete c s).latch = s.latch := by unfold complete; (repeat' split) <;> simp
@[simp] theorem complete_dram (c s) : (complete c s).dram = s.dram := by unfold complete; (repeat' split) <;> simp
@[simp] theorem complete_journal (c s) : (complete c s).journal = s.journal := by unfold complete; (repeat' split) <;> simp
@[simp] theorem complete_power (c s) : (complete c s).power = s.power := by unfold complete; (repeat' split) <;> simp
@[simp] theorem complete_hif (c s) : (complete c s).hif = s.hif := by unfold complete; (repeat' split) <;> simp
@[simp] theorem complete_evt (c s) : (complete c s).evt = s.evt := by unfold complete; (repeat' split) <;> simp
@[simp] theorem complete_dma (c s) : (complete c s).dma = s.dma := by unfold complete; (repeat' split) <;> simp
@[simp] theorem complete_intake (c s) : (complete c s).intake = s.intake := by unfold complete; (repeat' split) <;> simp
@[simp] theorem complete_eng (c s) : (complete c s).eng = s.eng := by unfold complete; (repeat' split) <;> simp
@[simp] theorem complete_comb (c s) : (complete c s).comb = s.comb := by unfold complete; (repeat' split) <;> simp
@[simp] theorem complete_pec (c s) : (complete c s).pec = s.pec := by unfold complete; (repeat' split) <;> simp
@[simp] theorem complete_bmu (c s) : (complete c s).bmu = s.bmu := by unfold complete; (repeat' split) <;> simp
@[simp] theorem complete_axes (c s) : (complete c s).axes = s.axes := by unfold complete; (repeat' split) <;> simp
@[simp] theorem complete_seq (c s) : (complete c s).seq = s.seq := by unfold complete; (repeat' split) <;> simp
@[simp] theorem complete_blk (c s) : (complete c s).blk = s.blk := by unfold complete; (repeat' split) <;> simp
@[simp] theorem complete_mem (c s) : (complete c s).mem = s.mem := by unfold complete; (repeat' split) <;> simp
@[simp] theorem complete_bel (c s) : (complete c s).bel = s.bel := by unfold complete; (repeat' split) <;> simp
@[simp] theorem complete_hive (c s) : (complete c s).hive = s.hive := by unfold complete; (repeat' split) <;> simp
@[simp] theorem complete_crc (c s) : (complete c s).crc = s.crc := by unfold complete; (repeat' split) <;> simp
@[simp] theorem complete_tim (c s) : (complete c s).tim = s.tim := by unfold complete; (repeat' split) <;> simp
@[simp] theorem complete_sec (c s) : (complete c s).sec = s.sec := by unfold complete; (repeat' split) <;> simp
@[simp] theorem complete_thm (c s) : (complete c s).thm = s.thm := by unfold complete; (repeat' split) <;> simp
@[simp] theorem complete_cal (c s) : (complete c s).cal = s.cal := by unfold complete; (repeat' split) <;> simp
@[simp] theorem budgetNote_pending (e c q s) : (budgetNote e c q s).pending = s.pending := by unfold budgetNote; (repeat' split) <;> simp
@[simp] theorem budgetNote_free (e c q s) : (budgetNote e c q s).free = s.free := by unfold budgetNote; (repeat' split) <;> simp
@[simp] theorem budgetNote_out (e c q s) : (budgetNote e c q s).out = s.out := by unfold budgetNote; (repeat' split) <;> simp
@[simp] theorem budgetNote_latch (e c q s) : (budgetNote e c q s).latch = s.latch := by unfold budgetNote; (repeat' split) <;> simp
@[simp] theorem budgetNote_dram (e c q s) : (budgetNote e c q s).dram = s.dram := by unfold budgetNote; (repeat' split) <;> simp
@[simp] theorem budgetNote_journal (e c q s) : (budgetNote e c q s).journal = s.journal := by unfold budgetNote; (repeat' split) <;> simp
@[simp] theorem budgetNote_power (e c q s) : (budgetNote e c q s).power = s.power := by unfold budgetNote; (repeat' split) <;> simp
@[simp] theorem budgetNote_hif (e c q s) : (budgetNote e c q s).hif = s.hif := by unfold budgetNote; (repeat' split) <;> simp
@[simp] theorem budgetNote_job (e c q s) : (budgetNote e c q s).job = s.job := by unfold budgetNote; (repeat' split) <;> simp
@[simp] theorem budgetNote_dma (e c q s) : (budgetNote e c q s).dma = s.dma := by unfold budgetNote; (repeat' split) <;> simp
@[simp] theorem budgetNote_intake (e c q s) : (budgetNote e c q s).intake = s.intake := by unfold budgetNote; (repeat' split) <;> simp
@[simp] theorem budgetNote_eng (e c q s) : (budgetNote e c q s).eng = s.eng := by unfold budgetNote; (repeat' split) <;> simp
@[simp] theorem budgetNote_comb (e c q s) : (budgetNote e c q s).comb = s.comb := by unfold budgetNote; (repeat' split) <;> simp
@[simp] theorem budgetNote_pec (e c q s) : (budgetNote e c q s).pec = s.pec := by unfold budgetNote; (repeat' split) <;> simp
@[simp] theorem budgetNote_bmu (e c q s) : (budgetNote e c q s).bmu = s.bmu := by unfold budgetNote; (repeat' split) <;> simp
@[simp] theorem budgetNote_axes (e c q s) : (budgetNote e c q s).axes = s.axes := by unfold budgetNote; (repeat' split) <;> simp
@[simp] theorem budgetNote_seq (e c q s) : (budgetNote e c q s).seq = s.seq := by unfold budgetNote; (repeat' split) <;> simp
@[simp] theorem budgetNote_blk (e c q s) : (budgetNote e c q s).blk = s.blk := by unfold budgetNote; (repeat' split) <;> simp
@[simp] theorem budgetNote_mem (e c q s) : (budgetNote e c q s).mem = s.mem := by unfold budgetNote; (repeat' split) <;> simp
@[simp] theorem budgetNote_bel (e c q s) : (budgetNote e c q s).bel = s.bel := by unfold budgetNote; (repeat' split) <;> simp
@[simp] theorem budgetNote_hive (e c q s) : (budgetNote e c q s).hive = s.hive := by unfold budgetNote; (repeat' split) <;> simp
@[simp] theorem budgetNote_crc (e c q s) : (budgetNote e c q s).crc = s.crc := by unfold budgetNote; (repeat' split) <;> simp
@[simp] theorem budgetNote_tim (e c q s) : (budgetNote e c q s).tim = s.tim := by unfold budgetNote; (repeat' split) <;> simp
@[simp] theorem budgetNote_sec (e c q s) : (budgetNote e c q s).sec = s.sec := by unfold budgetNote; (repeat' split) <;> simp
@[simp] theorem budgetNote_thm (e c q s) : (budgetNote e c q s).thm = s.thm := by unfold budgetNote; (repeat' split) <;> simp
@[simp] theorem budgetNote_cal (e c q s) : (budgetNote e c q s).cal = s.cal := by unfold budgetNote; (repeat' split) <;> simp
@[simp] theorem finish_pending (q e s) : (finish q e s).pending = s.pending := by simp [finish]
@[simp] theorem finish_free (q e s) : (finish q e s).free = s.free := by simp [finish]
@[simp] theorem finish_latch (q e s) : (finish q e s).latch = s.latch := by simp [finish]
@[simp] theorem finish_dram (q e s) : (finish q e s).dram = s.dram := by simp [finish]
@[simp] theorem finish_power (q e s) : (finish q e s).power = s.power := by simp [finish]
@[simp] theorem finish_hif (q e s) : (finish q e s).hif = s.hif := by simp [finish]
@[simp] theorem finish_dma (q e s) : (finish q e s).dma = s.dma := by simp [finish]
@[simp] theorem finish_intake (q e s) : (finish q e s).intake = s.intake := by simp [finish]
@[simp] theorem finish_eng (q e s) : (finish q e s).eng = s.eng := by simp [finish]
@[simp] theorem finish_comb (q e s) : (finish q e s).comb = s.comb := by simp [finish]
@[simp] theorem finish_pec (q e s) : (finish q e s).pec = s.pec := by simp [finish]
@[simp] theorem finish_bmu (q e s) : (finish q e s).bmu = s.bmu := by simp [finish]
@[simp] theorem finish_axes (q e s) : (finish q e s).axes = s.axes := by simp [finish]
@[simp] theorem finish_seq (q e s) : (finish q e s).seq = s.seq := by simp [finish]
@[simp] theorem finish_blk (q e s) : (finish q e s).blk = s.blk := by simp [finish]
@[simp] theorem finish_mem (q e s) : (finish q e s).mem = s.mem := by simp [finish]
@[simp] theorem finish_bel (q e s) : (finish q e s).bel = s.bel := by simp [finish]
@[simp] theorem finish_hive (q e s) : (finish q e s).hive = s.hive := by simp [finish]
@[simp] theorem finish_crc (q e s) : (finish q e s).crc = s.crc := by simp [finish]
@[simp] theorem finish_tim (q e s) : (finish q e s).tim = s.tim := by simp [finish]
@[simp] theorem finish_sec (q e s) : (finish q e s).sec = s.sec := by simp [finish]
@[simp] theorem finish_thm (q e s) : (finish q e s).thm = s.thm := by simp [finish]
@[simp] theorem finish_cal (q e s) : (finish q e s).cal = s.cal := by simp [finish]

/-! ### The register file -/

/-- A stored register after another has been written. -/
theorem reg_setReg (s : State) (o off : Nat) (v : Word) (h : Sparse.wf RegMap.reset s.regs = true) :
    reg (setReg o v s) off = if off = o then v else reg s off := Sparse.get_set RegMap.reset s.regs o off v h

/-- Writing a register keeps the register file canonical. -/
theorem setReg_wf (s : State) (o : Nat) (v : Word) (h : Sparse.wf RegMap.reset s.regs = true) :
    Sparse.wf RegMap.reset (setReg o v s).regs = true := Sparse.wf_set RegMap.reset s.regs o v h

/-- A counter after it has been counted. -/
theorem reg_count (s : State) (o off n : Nat) (h : Sparse.wf RegMap.reset s.regs = true) :
    reg (count o n s) off = if off = o then Bits.satAdd (reg s off) n else reg s off := by
  unfold count
  rw [reg_setReg s o off _ h]
  split
  · rename_i e; rw [e]
  · rfl

/-- A raise writes no register but PENDING of its source and `EVT.CNT_LOST` (R424, R429). -/
theorem reg_raise (s : State) (src info cseq off : Nat) (h : Sparse.wf RegMap.reset s.regs = true)
    (h1 : off ≠ 0x010040 + 4 * (src / 32)) (h2 : off ≠ 0x01001C) : reg (raise src info cseq s) off = reg s off := by
  have hp : reg (setPendingBit src s) off = reg s off := by
    unfold setPendingBit; rw [reg_setReg _ _ _ _ h, if_neg h1]
  have hw : Sparse.wf RegMap.reset (setPendingBit src s).regs = true := setReg_wf _ _ _ h
  unfold raise raiseAs
  split
  · dsimp only
    split
    · unfold formEntry
      split
      · exact hp
      · split
        · exact hp
        · rw [reg_count]
          · rw [if_neg h2]; exact hp
          · exact hw
    · exact hp
  · rfl

/-- A raise keeps the register file canonical. -/
theorem raise_wf (s : State) (src info cseq : Nat) (h : Sparse.wf RegMap.reset s.regs = true) :
    Sparse.wf RegMap.reset (raise src info cseq s).regs = true := by
  have hw : Sparse.wf RegMap.reset (setPendingBit src s).regs = true := setReg_wf _ _ _ h
  unfold raise raiseAs
  split
  · dsimp only
    split
    · unfold formEntry
      split
      · exact hw
      · split
        · exact hw
        · exact setReg_wf _ _ _ hw
    · exact hw
  · exact h

/-- A raise of a used source sets its PENDING bit (R424). -/
theorem raise_setsPending (s : State) (src info cseq : Nat) (h : Sparse.wf RegMap.reset s.regs = true)
    (hu : RegMap.usedSource src = true) (hs : src < 256) :
    reg (raise src info cseq s) (0x010040 + 4 * (src / 32)) =
      reg s (0x010040 + 4 * (src / 32)) ||| BitVec.ofNat 32 (2 ^ (src % 32)) := by
  have hp : reg (setPendingBit src s) (0x010040 + 4 * (src / 32)) =
      reg s (0x010040 + 4 * (src / 32)) ||| BitVec.ofNat 32 (2 ^ (src % 32)) := by
    unfold setPendingBit; rw [reg_setReg _ _ _ _ h, if_pos rfl]
  have hw : Sparse.wf RegMap.reset (setPendingBit src s).regs = true := setReg_wf _ _ _ h
  unfold raise raiseAs
  rw [if_pos hu]
  dsimp only
  split
  · unfold formEntry
    split
    · exact hp
    · split
      · exact hp
      · rw [reg_count]
        · rw [if_neg (by omega)]; exact hp
        · exact hw
  · exact hp

/-! ### Module DRAM -/

/-- A DRAM byte after a write. -/
theorem dramByte_write (s : State) (a j : Nat) (b : Bytes) (h : Sparse.wf dramDefault s.dram = true) :
    dramByte (dramWrite a b s) j = if h : a ≤ j ∧ j < a + b.length then b[j - a] else dramByte s j :=
  Sparse.get_setRun dramDefault s.dram a j b h

/-- A DRAM write keeps the canonical form. -/
theorem dramWrite_wf (s : State) (a : Nat) (b : Bytes) (h : Sparse.wf dramDefault s.dram = true) :
    Sparse.wf dramDefault (dramWrite a b s).dram = true := Sparse.wf_setRun dramDefault s.dram a b h

/-! ### BAR0 writes -/

/-- A BAR0 write acts where RESETTING is clear and HIF has power (R359). -/
theorem barWrite_open (f : State → State) (s : State) (h1 : s.power.resetting = false)
    (h2 : Bits.bit s.power.on.toNat 1 = true) : barWrite f s = f s := by
  simp [barWrite, hifWrite, h1, h2]

/-- While RESETTING is set a BAR0 write of a unit has no effect (R359). -/
theorem barWrite_resetting (f : State → State) (s : State) (h : s.power.resetting = true) : barWrite f s = s := by
  simp [barWrite, h]

/-- A BAR0 write of the GLB, HIF or JOB block acts where HIF has power. -/
theorem hifWrite_open (f : State → State) (s : State) (h : Bits.bit s.power.on.toNat 1 = true) : hifWrite f s = f s := by
  simp [hifWrite, h]

/-! ### Completions -/

/-- A finished command is no longer live, and every other one is. -/
theorem finish_live (q : Nat) (e : End) (s : State) :
    (finish q e s).job.live = s.job.live.filter (fun l => l.seq != q) := by
  unfold finish complete
  dsimp only
  split <;> simp

end Sys2Proof.Machine
end

