-- ==== Sys2Proof/Machine/Correction.lean ====
section
/-!
DEFINITION. The factors of a stripe as functions of its density map and of the tables in force (R147 to R151, R153;
05_proximity_correction). The correction engines run the program in force; Yunaeth's program computes these factors, and
host software that loads another must make it compute the same. What the engines store is what their instructions form;
these functions say what it has to be.
-/

namespace Sys2Proof.Machine

open Sys2Proof.Bits

/-- A quantity on the cells of one level, by column and row. -/
abbrev Cells := Int → Int → Nat

/-- The dose-weighted density (R147 step 1). -/
def weighted (rho k : Cells) : Cells := fun u v => (rho u v * k u v + 8192) / 2 ^ 14

/-- A level of the pyramid from level 0 (R147 step 2). -/
def pyramid (q : Cells) : Nat → Cells
  | 0 => q
  | l + 1 => fun u v =>
    let p := pyramid q l
    (p (2 * u) (2 * v) + p (2 * u + 1) (2 * v) + p (2 * u) (2 * v + 1) + p (2 * u + 1) (2 * v + 1) + 2) / 4

/-- The sum of a symmetric kernel of radius `r` over a line of cells, rounded (R142, R148). -/
def tapFilter (tap : Nat → Nat) (r : Nat) (x : Int → Nat) : Nat :=
  (((List.range (2 * r + 1)).map (fun (i : Nat) =>
    let n := (i : Int) - r
    tap n.natAbs * x n)).sum + 32768) / 2 ^ 16

/-- A kernel applied along u and then along v (R148, R150). -/
def blurred (tap : Nat → Nat) (r : Nat) (q : Cells) : Cells := fun u v =>
  tapFilter tap r (fun n => tapFilter tap r (fun m => q (u + m) (v + n)))

/-- A weight of unsigned 0.16 applied, rounded (R148, R150). -/
def scaled (eta : Nat) (w : Cells) : Cells := fun u v => (eta * w u v + 32768) / 2 ^ 16

/-- A result expanded by one level (R149). -/
def expandOne (p : Cells) : Cells := fun u v =>
  let a := fdiv u 2
  let b := fdiv v 2
  let dx := 2 * fmod u 2 - 1
  let dy := 2 * fmod v 2 - 1
  (9 * p a b + 3 * p (a + dx) b + 3 * p a (b + dy) + p (a + dx) (b + dy) + 8) / 2 ^ 4

/-- A result at a level expanded to level 0 (R149). -/
def expanded : Nat → Cells → Cells
  | 0, p => p
  | l + 1, p => expanded l (expandOne p)

/-- LEVEL of term `g` of a kernel table (R141). -/
def termLevel (k : Bytes) (g : Nat) : Nat := byteAt k (32 + 40 * g)

/-- The contribution of term `g` to the background (R147 step 3, R148, R149). -/
def termAt (k : Bytes) (g : Nat) (q : Cells) : Cells :=
  let a := 32 + 40 * g
  let l := termLevel k g
  expanded l (scaled (field k (a + 2) 2) (blurred (fun n => field k (a + 4 + 2 * n) 2) (byteAt k (a + 1)) (pyramid q l)))

/-- The fog of the field cells (R150). -/
def fieldFog (k : Bytes) (t : Option Bytes) : Cells :=
  scaled (field k 192 2) (blurred (fun n => field k (196 + 2 * n) 2) (byteAt k 6) (fun p q => (fieldCell t p q).1))

/-- The fog of a level-0 cell of a stripe: that of the field cell that holds its centre pixel (R138, R150). -/
def fogAt (k : Bytes) (t : Option Bytes) (f : Stripe) : Cells := fun u v =>
  match t with
  | none => 0
  | some b =>
    if byteAt k 6 = 0 then 0
    else
      let c := absPixel f (128 * u + 64) (128 * v + 64)
      fieldFog k t (fdiv (c.1 - sfield b 4 4) 8192) (fdiv (c.2 - sfield b 8 4) 8192)

/-- The background (R147 step 4). -/
def background (k : Bytes) (fog q : Cells) : Cells := fun u v =>
  min (((List.range (byteAt k 3)).map (fun g => termAt k g q u v)).sum + fog u v) 16777215

/-- A factor from the background of its cell (R151). -/
def factorOf (k : Bytes) (b : Nat) : Nat :=
  let d := field k 8 4 + b
  max (field k 16 2) (min (field k 18 2) ((field k 12 4 * 16384 + d / 2) / d))

/-- The factors after `n` iterations, over a density map; a cell outside the window keeps 16 384 (R147). -/
def factorsAfter (k : Bytes) (fog rho : Cells) (inside : Int → Int → Bool) : Nat → Cells
  | 0 => fun _ _ => 16384
  | n + 1 => fun u v =>
    if inside u v then factorOf k (background k fog (weighted rho (factorsAfter k fog rho inside n)) u v) else 16384

/-- The factor of a level-0 cell of the stripe of a pass (R146, R147, R153). -/
def rightFactor (s : State) (p : Pass) (f : Stripe) : Cells := fun u v =>
  match passKernel s p with
  | none => 16384
  | some k =>
    factorsAfter k (fogAt k (passField s p) f) (fun a b => (cellDensity s p f a b).1) (inWindow s p f) (byteAt k 4) u v

/-- Do the correction engines compute as R154 asks of every program: is every factor of the factor store that of R147 to
R151? -/
def factorsRight (s : State) (p : Pass) : Bool :=
  match passStripe s p with
  | none => true
  | some f => s.comb.factors.all (fun x => x.1.1 != p || x.2 == rightFactor s p f x.1.2.1 x.1.2.2)

end Sys2Proof.Machine
end

