-- ==== Sys2Proof/Tests/Slice0.lean ====
section
/-!
SUPPORT. Tests: the smoke test of WellFormed, words of the spec that decode, small steps, and for each statement of
Certificates/Slice0/Obligations.lean that has hypotheses concrete states and operands that meet them, clause by clause.
-/

namespace Sys2Proof.Tests

set_option Elab.async false

open Sys2Proof Sys2Proof.Machine Sys2Proof.Bits

/-! ### Small states -/

/-- A program image of eight NOP words (R248) for target `t`. -/
def image (t : Byte) : Bytes := [0x4B, 0x50, 1, t] ++ natLe 8 2 ++ natLe 0 2 ++ List.replicate 56 0 ++ List.replicate 64 0

/-- A module that is started and READY, with small programs in force. -/
def base : State :=
  let s := State.reset
  let p := { s.power with started := true, ready := true, resetting := false }
  let re := { s.comb.re with cur := image 1 }
  let ce := { s.comb.ce with cur := image 2 }
  { s with power := p, comb := { s.comb with re := re, ce := ce }, eng := Vector.replicate 148 (Engine.fresh (image 1)) }

/-- The same with the host reachable. -/
def host : State := { base with hif := { base.hif with linkUp := true, bme := true } }

/-- An engine with registers G1 to G31 as given. -/
def withG (l : List Word) (x : Engine) : Engine := { x with g := Vector.ofFn (fun i : Fin 32 => l.getD i.val 0) }

/-- `s` with engine `e` changed. -/
def onEng (e : Nat) (f : Engine → Engine) (s : State) : State := { s with eng := upd s.eng e f }

/-- A stripe of four segments. -/
def stripe0 : Stripe :=
  { stripe := 3, pass := 1, dir := 0, plan := 800, x := 0, y := 0, segs := 4, s0 := 0, xref := 0, named := none }

/-- Digests of nothing. -/
def dig0 : Digests := { bind := 0, pages := 0, cells := 0, kernel := 0, field := 0, progRe := 0, progCe := 0 }

/-- A forage of that stripe that executes, with a kernel table. -/
def forage0 : Forage :=
  { seq := 9, f := stripe0, slot := 0, dig := dig0, bankRe := false, bankCe := false, firsts := [], corrected := true,
    kernel := some (List.replicate 384 0), field := none, fail := none }

/-- A write of that stripe that executes. -/
def write0 : Write :=
  { seq := 9, resume := false, f := stripe0, st := .running, sFirst := 0, next := 0, lastInstant := 0, ceiling := 0, causes := [],
    ending := none, fireDelay := 300, ackLag := 100, drainUs := 100, clampHalt := false, armGuard := 0, low := 1, high := 8,
    digs := dig0, beamDig := 0, maskDig := 0, weightDig := 0, bankRe := false, bankCe := false, firsts := [], ceReady := true, armed := false,
    never := [] }

/-- The module with the forage, and with the write, executing. -/
def foraging : State := { host with job := { host.job with st := 1, id := 7, forage := some forage0 } }
def writing : State := { host with job := { host.job with st := 1, id := 7, write := some write0 } }

def task0 : Task :=
  { pass := .forage, mode := 1, col := 0, seg := 0, margin := false, second := false, avoid := [], faulted := [] }

def held0 : Held :=
  { task := task0, entries := [], entryCount := 0, rows := [], covRow := 0, cover := [], factors := [], factLoaded := false,
    getRow := 0, hits := [], fill := none, used := [], sums := [0, 0, 0], fieldOut := 0, facs := [], slots := 0, bank := false,
    negative := false, dir := false, col0 := 0, row0 := 0, spillLen := 0, spillBase := 0, spilled := 0 }

def fill0 : Fill :=
  { key := [1], hash := 0, row0 := 0, col0 := 0, width := 1, height := 1, xOff := 0, yOff := 0, rows := [[0]], put := 255,
    dropped := false, cls := .forage }

/-- Engine `e` of the foraging module holds `h`. -/
def holding (e : Nat) (h : Held) : State := onEng e (fun x => { x with held := some h }) foraging

/-- `s` with a region of 1 GiB for coverage. -/
def roomy (s : State) : State := { s with mem := { s.mem with regions := { s.mem.regions with cover := (1, 1) } } }


/-- A command entry: sequence number, opcode, flags, and the bytes from 12 on; 64 bytes in all. -/
def entryOf (seq op flags : Nat) (body : Bytes) : Bytes :=
  (natLe seq 8 ++ [BitVec.ofNat 8 op, BitVec.ofNat 8 flags, 0, 0] ++ body ++ List.replicate 64 0).take 64

/-- The module whose next command to start is that entry. -/
def queued (s : State) (e : Bytes) : State :=
  { s with job := { s.job with live := [{ seq := field e 0 8, entry := e, phase := .queued }] } }

/-- `s` with memory channel `c` changed. -/
def onMem (c : Nat) (f : MemCh → MemCh) (s : State) : State := { s with mem := { s.mem with ch := upd s.mem.ch c f } }

/-- Every channel trained. -/
def trained : State := { base with mem := { base.mem with ch := base.mem.ch.map (fun x => { x with st := 2 }) } }

theorem starts (s : State) (e : Bytes) (op : Nat) (h : byteAt e 8 = op) (hr : s.power.ready = true)
    (hp : s.power.resetPending = false) (hb : powered s 2 = true) :
    StartsNext (queued s e) op { seq := field e 0 8, entry := e, phase := .queued } :=
  ⟨⟨[], [], rfl, fun _ hx => absurd hx (List.not_mem_nil)⟩, rfl, h, hr, hp, hb⟩

/-- A forage slot that holds a signature for one tile. -/
def slot0 (sig : Word) : Slot :=
  { stripe := 3, pass := 1, claim := 0, held := true, valid := true, dig := dig0, sigs := [((10, 39), sig)], slots := [],
    density := [], pages := [], segs := 11, corrected := false }


/-! ### WellFormed: an ill-formed term for each check -/

/-- A start in which nothing fails and every TDC tap has the same hits. -/
def start0 : Start := { sweeps := [], signatures := [], torn := 0, tdcHits := List.replicate 320 3277 }

theorem test_wf_start : Instr.wf (.powerOn { start0 with tdcHits := [] }) = false ∧
    Instr.wf (.moduleResetProceed { start0 with sweeps := [⟨0, 0, false, [(16, 0)]⟩] }) = false ∧
    Instr.wf (.domainPowerUp 8 { start0 with sweeps := [⟨0, 0, false, [(0, 128)]⟩] }) = false ∧
    Instr.wf (.thermalRestart { start0 with tdcHits := [] }) = false ∧ Instr.wf (.powerOn start0) = true := by decide +kernel

theorem test_wf_entries : Instr.wf (.hostLinkUp 2 16) = false ∧ Instr.wf (.hostLinkUp 5 2) = false ∧
    Instr.wf (.cmdRingReread (some ⟨[], 0⟩)) = false ∧ Instr.wf (.commandEntryRead ⟨[], 0⟩) = false ∧ Instr.wf (.cmdRetry ⟨[], 0⟩) = false ∧
    Instr.wf (.dmaDescriptor 0 []) = false ∧ Instr.wf (.dmaTransferEnd 0 [0]) = false ∧
    Instr.wf (.acknowledgementFrame 0 [] [] []) = false ∧ Instr.wf (.sensorGateEnd []) = false ∧
    Instr.wf (.sensorGateEnd (List.replicate 48 1048576)) = false ∧ Instr.wf (.dqsTrack 0 []) = false ∧
    Instr.wf (.quoteReq 0 0 []) = false := by decide +kernel

theorem test_wf_kolben : Instr.wf (.kVshli 0 0 0 0 12) = false ∧ Instr.wf (.kVshri 143 0 0 0 12) = false ∧
    Instr.wf (.kVshli 144 0 0 0 12) = true ∧ Instr.wf (.kMulsh 0 0 0 0 0 0 0x1000) = false ∧
    Instr.wf (.kVbci 0 0 0 0x1000) = false ∧ Instr.wf (.kCovRow 0 1 1) = false ∧ Instr.wf (.kHiveGet 0 1 1) = false ∧
    Instr.wf (.kCntAdd 0 0 1) = false ∧ Instr.wf (.kCntAdd 144 0 0) = false ∧ Instr.wf (.kSpan4 0 2 2) = false ∧
    Instr.wf (.kTapu 0 0 0 0 0 17) = false ∧ Instr.wf (.kTapu 0 0 0 0 0 (-17)) = false ∧
    Instr.wf (.kTapu 0 0 0 0 0 (-16)) = true := by decide +kernel

/-! ### Words of the spec's encodings (R264, R270, R273, R275, R281) -/

theorem test_decode_words : kDecode 7 0x04430800 0 = some (.kAdd 7 2 3 1) ∧
    kDecode 7 0xC4200000 0xDEADBEEF = some (.kLi 7 1 0xDEADBEEF) ∧ kDecode 7 0x6C086001 0 = some (.kVld 7 0 2 3 1) ∧
    kDecode 7 0x80800205 0 = some (.kTaskGet 7 4 5) ∧ kDecode 147 0x94086418 0 = some (.kKdiv 3 0 2 3 4 3) ∧
    kDecode 7 0x0443080E 0 = none := by decide +kernel

/-! ### Witnesses: Kolben engines -/

theorem witness_steps : (State.reset.pending = [] ∧ State.reset.power.aon = true ∧ RegsWf State.reset) ∧
    (∃ s : State, s.pending = [] ∧ s.power.aon = false) :=
  ⟨by unfold RegsWf; decide +kernel, ⟨{ State.reset with power := { State.reset.power with aon := false } }, by decide +kernel⟩⟩

theorem witness_engines_run : EngineRuns base 0 1 ∧ EngineRuns base 143 2 ∧ EngineRuns base 147 2 := by
  unfold EngineRuns; decide +kernel

/-- The branch lands at its own word's neighbour, and JR at word 7. -/
theorem witness_branches : kGo base 0 = true ∧
    (0 : Int) ≤ (base.eng[0].pc : Int) + 1 + (-1 : BitVec 16).toInt ∧
    ((base.eng[0].pc : Int) + 1 + (-1 : BitVec 16).toInt < progCount (engProg base 0)) ∧
    secondWords (engProg base 0) 0 (progCount (engProg base 0)) = [] ∧
    (getG (onEng 0 (withG [0, 7]) base).eng[0] 1).toNat < progCount (engProg (onEng 0 (withG [0, 7]) base) 0) := by
  decide +kernel

/-- A local access at the last word of raster memory, and one past it, and one that is misaligned. -/
theorem witness_local : kGo base 0 = true ∧ LocalWf base ∧ RegsWf base ∧ (base.eng[0]).pc < 2048 ∧
    (let x := (onEng 0 (withG [0, 196604, 196608, 196416]) base).eng[0]
     ((getG x 1).toNat + 4 ≤ localSize 0 ∧ (getG x 1).toNat % 4 = 0) ∧ (localSize 0 < (getG x 2).toNat + 4) ∧
     ((getG x 3).toNat % 64 = 0 ∧ (getG x 3).toNat + 192 ≤ localSize 0)) ∧
    (engTask (base.eng[0])).isNone = true ∧ ((0 : Nat) + 1) % 2 ≠ 0 := by
  unfold LocalWf RegsWf; decide +kernel


/-! ### Witnesses: tasks, streams, spans, corrections, schedulers -/

theorem witness_task_wait :
    (EngineRuns base 0 1 ∧ EngineRuns base 147 1 ∧ RegsWf base ∧ (base.eng[147]).held = none ∧ (base.eng[147]).assigned = none) ∧
    (let s := onEng 147 (fun x => { x with assigned := some { task0 with mode := 2 } }) foraging
     EngineRuns s 147 1 ∧ (s.eng[147]).assigned.isSome = true) ∧
    (let s := onEng 143 (fun x => { x with assigned := some { task0 with mode := 3, pass := .write } }) writing
     EngineRuns s 143 1 ∧ factorsReady s { task0 with mode := 3, pass := .write } = true) := by
  unfold EngineRuns RegsWf; decide +kernel

theorem witness_task_done :
    (let s := roomy (holding 143 { held0 with rows := List.replicate 256 [] })
     EngineRuns s 143 1 ∧ RegsWf s ∧ ∃ h, (s.eng[(143 : Fin 148)]).held = some h ∧ h.rows.length = 256 ∧ coverWaits s 143 h = false) ∧
    (let s := holding 144 held0
     EngineRuns s 144 1 ∧ RegsWf s ∧ ∃ h, (s.eng[(144 : Fin 148)]).held = some h ∧ coverWaits s 144 h = false) := by
  unfold EngineRuns RegsWf
  exact ⟨⟨by decide +kernel, by decide +kernel, _, rfl, by decide +kernel, by decide +kernel⟩,
    ⟨by decide +kernel, by decide +kernel, _, rfl, by decide +kernel⟩⟩

/-- An entry of each length ends exactly at the end of raster memory; the last rows of the stores. -/
theorem witness_streams :
    (let s := onEng 143 (withG [0, 0, 0, 0, 0, 196584]) (holding 143 { held0 with entries := [.rect ⟨0, 0, 32, 32⟩, .hiveClose] })
     EngineRuns s 143 1 ∧ LocalWf s ∧ (getG (s.eng[143]) 5).toNat % 8 = 0 ∧
       (getG (s.eng[143]) 5).toNat + entryLen (.rect ⟨0, 0, 32, 32⟩) ≤ 196608) ∧
    (let h : Held := { held0 with task := { task0 with mode := 2 }, factors := List.replicate 16 16384, covRow := 255,
                                  rows := List.replicate 255 [], factLoaded := true }
     EngineRuns (holding 0 h) 0 1 ∧ LocalWf (holding 0 h) ∧ h.factors.length = 16 ∧ h.covRow < 256 ∧ h.rows.length < 256) ∧
    (let s := onEng 0 (fun x => { x with v := x.v.set 0 (List.replicate 128 2048) }) (holding 0 { held0 with rows := List.replicate 255 [] })
     EngineRuns s 0 1 ∧ LocalWf s ∧ ∀ l, l < 128 → lane0 (s.eng[0]) 0 l ≤ 2048) ∧
    (let h : Held := { held0 with task := { task0 with mode := 3 }, getRow := 255, fill := some fill0 }
     EngineRuns (holding 0 h) 0 1 ∧ LocalWf (holding 0 h) ∧ h.getRow < 256 ∧ fill0.put < 256) := by
  unfold EngineRuns LocalWf; decide +kernel

/-- The first and last row of the tile, an empty and a full row count, a valid arc, one with W too small, and room for crossings. -/
theorem witness_spans :
    let s := onEng 0 (fun x => { withG [0, 255, 4095, 0, 0, 0, 0, 64, 64, 64, 1024, 1023] x with
      span := { x.span with row := some 0, count := 63 } }) (holding 0 held0)
    let x := s.eng[0]
    EngineRuns s 0 1 ∧ RegsWf s ∧ held0.row0 ≤ (getG x 3).toInt ∧ held0.row0 ≤ (getG x 1).toInt ∧ (getG x 1).toInt < held0.row0 + 256 ∧
    x.span.row = some 0 ∧ (getG x 2).toNat ≤ 4095 ∧ x.span.count < 64 ∧
    arcValid { x0 := 0, y0 := 0, x1 := 0, y1 := 64, x2 := 64, y2 := 64, w := 1024 } = true ∧
    arcValid { x0 := 0, y0 := 0, x1 := 0, y1 := 64, x2 := 64, y2 := 64, w := 1023 } = false ∧
    x.span.xs.length + (clipCrossings held0 (rowCrossings 0 0 (lineCross 0 0 64 64))).length ≤ 8192 := by
  unfold EngineRuns RegsWf; decide +kernel

/-- A correction engine holds a block; the first lane's cell lies in the window and the last lane's too. -/
theorem witness_corrections : let s := holding 144 { held0 with task := { task0 with mode := 2 } }
    EngineRuns s (ceEng 0) 1 ∧ passStripe s .forage = some stripe0 ∧ inWindow s .forage stripe0 0 0 = true ∧
    inWindow s .forage stripe0 63 7 = true ∧ inWindow s .forage stripe0 0 8 = false ∧
    (∀ l : Nat, l < 64 → lane0 (s.eng[144]) 0 l ≤ 65535) ∧
    (-16 : Int) ≤ (16 : BitVec 6).toInt ∧ (-16 : Int) ≤ (-16 : BitVec 6).toInt := by
  unfold EngineRuns; decide +kernel

/-- A waiting task; the four starts of a pass, its first block and its last; an engine with a task to fail back. -/
theorem witness_scheduling :
    (let s : State := { foraging with comb := { foraging.comb with tasks := [task0] } }
     taskFree s task0 = true ∧ engineFor s task0 = some 0 ∧ (s.eng[0]).waiting = false) ∧
    (passCorrects foraging .forage = true ∧ engWorking foraging 144 = true ∧ engTask (foraging.eng[144]) = none ∧
     ceNext foraging .forage = none ∧ foraging.comb.ceAgain = []) ∧
    (let s : State := { foraging with comb := { foraging.comb with ceNextF := some 3 } }
     ceNext s .forage = some 3 ∧ startsDone s .forage = true ∧ 3 < ceBlocks s .forage ∧ engWorking s 147 = true ∧
     engTask (s.eng[147]) = none ∧ (147 : Int) = 144 + ((3 : Int) - passMargin s .forage) % 4) := by decide +kernel

theorem witness_engine_resets : BarOpen base ∧ RegsWf base ∧ engPowered base 0 = true ∧ engPowered base 147 = true ∧
    powered base (8 + 11) = true ∧ engTask ((holding 0 held0).eng[0]) = some task0 ∧ faultedBefore 0 8 task0 = false ∧
    ((holding 0 held0).eng[0]).pc < 2048 ∧ RegsWf (holding 0 held0) := by
  unfold BarOpen HostOpen RegsWf; decide +kernel


/-! ### Witnesses: self-tests, bellows, stage, sequencer, flashes -/

/-- A self-test of no engine, of the first and the last of the raster engines and of the last correction engine. -/
def testNone : Bytes := entryOf 5 9 0 []
def testSome : Bytes := entryOf 5 9 0 ([0, 0, 0, 0, 1] ++ List.replicate 16 0 ++ [0x80, 8])

theorem witness_self_tests :
    StartsNext (queued base testNone) 9 { seq := 5, entry := testNone, phase := .queued } ∧
    StartsNext (queued writing testSome) 9 { seq := 5, entry := testSome, phase := .queued } ∧
    testList testNone = [] ∧ testList testSome = [0, 143, 147] ∧ RegsWf (queued writing testSome) ∧
    allSparable { writing with regs := [(0x05C020, 144)] } [] (testList testSome) = false ∧
    RegsWf { writing with regs := [(0x05C020, 144)] } ∧
    (let s := onEng 147 (fun x => { x with testing := true }) base
     RegsWf s ∧ (s.eng[147]).testing = true ∧ engPowered s 147 = true ∧ s.job.tests = []) ∧
    ∃ sig, sig ≠ rightSig base 147 :=
  ⟨starts base testNone 9 (by decide +kernel) rfl rfl (by decide +kernel),
    starts writing testSome 9 (by decide +kernel) rfl rfl (by decide +kernel), by decide +kernel, by decide +kernel,
    by unfold RegsWf; decide +kernel, by decide +kernel, by unfold RegsWf; decide +kernel, by unfold RegsWf; decide +kernel,
    rightSig base 147 + 1, by intro h; simpa using congrArg (· - rightSig base 147) h⟩

/-- A tile of the bellows. -/
def tile0 (col seg : Nat) (released : Bool) : BTile :=
  { col := col, seg := seg, engine := 5, second := false, released := released, never := false, rows := [[1, 2]], used := [] }

/-- The writing module with one tile in the bellows and that slot. -/
def tiled (second : Bool) (sig : Word) : State :=
  let w : Write := { write0 with f := { stripe0 with segs := 11 } }
  { writing with job := { writing.job with write := some w, slots := [slot0 sig] },
                 bel := { writing.bel with tiles := [{ tile0 39 10 false with second := second }] } }

theorem witness_bellows :
    let sig := Check.crc32c (tileId 1 39 10 3) (tileBytes [[1, 2]])
    forageSig (tiled false sig) stripe0 39 10 = some sig ∧ forageSig (tiled true (sig + 1)) stripe0 39 10 ≠ some sig ∧
    (tileAt (tiled true (sig + 1)) 39 10).map (fun b => b.second && !b.released && !b.never && b.used.isEmpty) = some true ∧
    RegsWf (tiled true (sig + 1)) ∧ write0.next < firstGather 0 none 10 ∧ (tiled true (sig + 1)).seq.st ≠ 1 := by
  unfold RegsWf; decide +kernel

/-- A fill in the queue: the cache off, and on with room for it and no such key. -/
def filled (on : Bool) : State :=
  { base with comb := { base.comb with fills := [fill0] },
              hive := { on := on, log2 := 6, base := 0, size := 8192, ptr := 0, log := [] } }

theorem witness_hive : RegsWf (filled true) ∧ (filled true).hive.on = true ∧ (filled false).hive.on = false ∧
    (let entry := compress 2 fill0.width fill0.xOff fill0.yOff 0 fill0.key fill0.hash.toNat fill0.rows
     entry.length ≤ regBits (filled true) 0x110020 23 16 * 1024 ∧ entry.length ≤ logSize (filled true)) ∧
    hiveHas { filled true with comb := { (filled true).comb with fills := [] } } fill0.key = false ∧
    BarOpen base ∧ RegsWf base ∧ DramWf base := by
  unfold BarOpen HostOpen RegsWf DramWf; decide +kernel

/-- `s` with axis `a` changed. -/
def onAxis (a : Nat) (f : Axis → Axis) (s : State) : State := { s with axes := upd s.axes a f }

/-- Both senses of a step, both phases of a pair, and an index edge at each side of the window's edge. -/
theorem witness_edges : powered base 3 = true ∧ RegsWf base ∧
    edgeActive base.axes[0] false true = true ∧ edgeDelta base.axes[0] false true = some 1 ∧
    edgeDelta base.axes[0] false false = some (-1) ∧ base.seq.expose = false ∧ timing base = false ∧
    timing { base with seq := { base.seq with ref := true } } = true ∧
    (let x := (onAxis 3 (fun x => { x with ctl := 0x00080002 }) base).axes[3]
     edgeActive x true true = true ∧ edgeDelta x true false = some (-1)) ∧
    ((true : Bool) ≠ bit (base.axes[0]).ctl.toNat 4) ∧
    (∀ p, p ∈ [((4 : Nat), true), (5, false)] →
      let x := (onAxis 1 (fun x => { x with ctl := 0x00080201, period := 100, count := BitVec.ofNat 32 (100 + p.1) }) base).axes[1]
      bits x.ctl.toNat 9 8 = 2 ∧
        decide ((x.count.toInt - nearest x.expect.toInt x.period.toNat x.count.toInt).natAbs ≤ x.tol.toNat) = p.2) := by
  unfold RegsWf; decide +kernel

/-- An axis that a write uses and one that none does, a moving axis, the tool reference present, and a linked module. -/
theorem witness_stage : RegsWf base ∧ BarOpen base ∧ axisUsed base 0 = false ∧
    axisUsed { writing with seq := { writing.seq with prog := [0x0100000000000000] } } 0 = true ∧
    (let s := onAxis 0 (fun x => { x with still := false }) { base with seq := { base.seq with ref := true } }
     (s.axes[0]).still = false ∧ timing s = true ∧ s.seq.ref = true ∧ s.job.write = none) := by
  unfold BarOpen HostOpen RegsWf; decide +kernel

/-- The writing module at a program of one word. -/
def atWord (st : Nat) (word : Dword) : State :=
  { writing with seq := { writing.seq with st := st, prog := [word] } }

/-- The module with every tile of the stripe released and both axes referenced, at ARM. -/
def armed0 : State :=
  let s := atWord 1 0x0500000000000000
  { onAxis 1 (fun x => { x with referenced := true }) (onAxis 0 (fun x => { x with referenced := true }) s) with
    bel := { s.bel with tiles := (List.range 4).flatMap (fun g => (List.range 40).map (fun c => tile0 c g true)) },
    blk := { s.blk with st := 5 } }

theorem witness_sequencer :
    (∀ op, op < 8 → seqOp (seqWord (atWord 1 (BitVec.ofNat 64 (op * 2 ^ 56))) 0) = op) ∧
    (∀ op, op < 8 → RegsWf (atWord 3 (BitVec.ofNat 64 (op * 2 ^ 56)))) ∧
    armReady armed0 = true ∧ armFails armed0 write0 = none ∧ RegsWf armed0 ∧
    (∀ p, p < 16 → (portAck armed0 p).final = none) := by
  unfold RegsWf; decide +kernel

/-- A flash that is due at tick 512, with every slice past it. -/
def due0 : State :=
  let s := onAxis 0 (fun x => { x with edges := [{ count := 5, t := 0, up := true, n := 1 }] }) writing
  { s with seq := { s.seq with st := 3, left := 1, ref := true, xsrc := none },
           bmu := { s.bmu with slices := Vector.replicate 4 { gen := 0, next := 1, codes := [] } } }

theorem witness_flash : commitDue due0 write0 512 = some 327680 ∧ commitDue due0 write0 256 = none ∧
    commitCauses due0 write0 512 (yCorr 0 327680 due0.seq.target) (xCorr due0 512) = [] ∧ dueCauses write0 = [] := by
  decide +kernel

theorem witness_codes : (writing.bmu.slices[3]).next < flashesOf stripe0.segs ∧ (writing.bmu.slices[3]).next < write0.next + 16 ∧
    sliceReady armed0 write0 3 0 = true ∧ sliceReady writing { write0 with f := { stripe0 with named := some 0 } } 3 0 = true ∧
    writing.bmu.armed = false ∧ BarOpen base ∧ RegsWf base ∧ 268435456 ≤ 2 * (4096 * 8192 * 4 : Nat) := by
  unfold BarOpen HostOpen RegsWf; decide +kernel


/-! ### Witnesses: check-value units, link, heat and supply, memory, quotes -/

/-- `s` with check-value unit `u` changed. -/
def onCrc (u : Nat) (f : CrcUnit → CrcUnit) (s : State) : State := { s with crc := upd s.crc u f }

/-- A DRAM feed under way in unit 7 with 128 bytes left. -/
def feeding : State := onCrc 7 (fun x => { x with busy := true, src := 64, left := 128 }) base

theorem witness_check_units : BarOpen base ∧ RegsWf base ∧ (base.crc[0]).busy = false ∧
    ((2 : Nat) ^ 8 - 1 = (255 : Word).toNat ∧ (2 : Nat) ^ 8 ≤ (256 : Word).toNat ∧ (65535 : Word).toNat < 2 ^ 16 ∧
      (2 : Nat) ^ 16 ≤ (65536 : Word).toNat) ∧
    BarOpen feeding ∧ (feeding.crc[7]).busy = true ∧ 128 ≤ (feeding.crc[7]).left ∧ bit (regN feeding (crcBase 7)) 7 = false ∧
    (let s : State := { feeding with regs := [(crcBase 7, 0x80)] }
     RegsWf s ∧ bit (regN s (crcBase 7)) 7 = true) := by
  unfold BarOpen HostOpen RegsWf; decide +kernel

/-- Both variants have 512 GiB of DRAM at least. -/
theorem dram_least : 2 ^ 39 ≤ dramSize := by unfold dramSize; split <;> decide

/-- Words that ask for one control, each MODE, and a range of 64 bytes, of 2^30 at the end of 512 GiB, and one that is too short. -/
theorem witness_check_control : (0x10 : Word) &&& 0x60 = 0 ∧ (0x13 : Word).toNat % 4 = 3 ∧ (0x20 : Word) &&& 0x50 = 0 ∧
    (0x40 : Word) &&& 0x30 = 0 ∧
    (let src := crcBase 0 + 0x38
     let len := crcBase 0 + 0x40
     let top : State := { base with regs := [(src, 0xC0000000), (src + 4, 0x7F), (len, 0x40000000)] }
     let none' : State := { base with regs := [(len, 0)] }
     RegsWf top ∧ RegsWf none' ∧ reg64 base src % 64 = 0 ∧ regN base len = 64 ∧ reg64 top src % 64 = 0 ∧ regN top len = 2 ^ 30 ∧
     reg64 top src + regN top len = 2 ^ 39 ∧ regN none' len = 0) := by
  unfold RegsWf; decide +kernel

/-- `s` with the link changed. -/
def onBlk (f : Blk → Blk) (s : State) : State := { s with blk := f s.blk }

/-- Every lane locked. -/
def locked (st : Nat) (b : Blk) : Blk :=
  { b with st := st, rateRun := 2, profRun := 1, lanes := Vector.replicate 288 { absent := false, lock := true, reported := true } }

theorem witness_training : RegsWf base ∧ BarOpen base ∧ (1 : Word) &&& 6 = 0 ∧ writing.job.write.isSome = true ∧
    base.cal.eq = none ∧ (∀ p : Fin 16, powered base (32 + p.val) = true) ∧ linkRuns base = false ∧
    (∀ q : Fin 16, (lane base (laneOf q.val 17)).absent = false ∧ (lane base (laneOf q.val 17)).lock = false) ∧
    (∀ st, st ∈ [1, 2, 3, 4, 9] → RegsWf (onBlk (locked st) base) ∧ (onBlk (locked st) base).blk.st = st ∧
      ∀ q : Fin 16, (lane (onBlk (locked st) base) (laneOf q.val 17)).lock = true) := by
  unfold BarOpen HostOpen RegsWf; decide +kernel

/-- All sixteen answer 7, all but one had; the rate, framing and limits that follow from the CAPS. -/
theorem witness_caps :
    let b : Blk := { locked 3 base.blk with caps := Vector.replicate 16 (some 7) }
    (∀ q : Fin 16, (b.caps[q]).isSome = true) ∧ bit (7 : Byte).toNat 2 = true ∧ bit (7 : Byte).toNat 1 = true ∧
    b.rateMax = true ∧ b.profile = false ∧ (∀ k, k ∈ [0, 3] → bit (9 : Byte).toNat k = true) ∧ bit (7 : Byte).toNat 3 = false ∧
    (base.blk.caps[15]).isSome = false ∧
    (let c : Blk := { locked 4 base.blk with atSpare := true }
     c.atSpare = true ∧ c.waking = false ∧ base.job.write = none ∧ ∀ n : Fin 288, (c.lanes[n]).absent = false) := by decide +kernel

/-- The link running with a write, and draining. -/
def linked : State := onBlk (fun b => { locked 5 b with lastSent := some 20, ports := Vector.replicate 16 { a := some 9, final := none } }) host
def drained : State :=
  { onBlk (locked 8) writing with
    regs := [(0x0E8000, 1638408)], job := { writing.job with write := some { write0 with st := .draining } } }

theorem witness_link : RegsWf linked ∧ linkRuns linked = true ∧ linked.blk.profRun ≠ 2 ∧ counted linked 15 = true ∧
    counted base 15 = false ∧ base.blk.st ≠ 6 ∧ linked.job.write = none ∧
    ackBelow (execOf 8) (linked.blk.ports[15]).a = true ∧ ackBelow (execOf 9) (linked.blk.ports[15]).a = false ∧
    ackBelow (execOf 20) (linked.blk.ports[15]).a = false ∧ ackBad linked 15 20 = false ∧ ackBad linked 15 21 = true ∧
    draining linked = false ∧ (∃ v : Word, v ≠ 0) := by
  unfold RegsWf
  and_intros <;> first | exact ⟨1, by decide⟩ | decide +kernel

theorem witness_drain_rest : RegsWf drained ∧ draining drained = true ∧ drained.power.resetPending = false ∧ drained.job.tests = [] ∧
    drained.cal.tdcWait = none ∧ drained.blk.st = 8 ∧ bit (regN drained 0x0E8000) 5 = false ∧
    BarOpen linked ∧ (2 : Word) &&& 5 = 0 ∧ linked.blk.st = 5 ∧ linked.job.write = none ∧ (4 : Word) &&& 3 = 0 ∧
    (onBlk (locked 6) base).blk.st = 6 ∧ BarOpen (onBlk (locked 6) base) ∧
    (onBlk (locked 7) base).blk.st = 7 ∧ (onBlk (locked 7) base).blk.atSpare = false := by
  unfold BarOpen HostOpen RegsWf; decide +kernel

/-- Sensors with the trims given: a count of 2 000 reads 25 °C with `k` 0 and 115 °C with 4 096. -/
def sensing (k : Nat) : State :=
  { base with thm := { base.thm with sensors := Vector.replicate 48 (Sensor.start 3440 k) } }

/-- What a gate of 2 000 counts on every sensor leaves: the sensors that are valid, the highest reading and the shutdown. -/
def gated (s : State) : Nat × Int × Bool :=
  match exec (.sensorGateEnd (List.replicate 48 2000)) s with
  | .next t => ((t.thm.sensors.toList.filter (·.valid)).length, (t.thm.sensors.toList.map (·.t)).foldl max 0, t.power.shutdown)
  | _ => (0, 0, false)

theorem witness_heat : (sensing 0).power.aon = true ∧ (sensing 0).cal.sensRun = none ∧ (sensing 0).cal.tdcRun = none ∧ RegsWf (sensing 0) ∧
    gated (sensing 0) = (48, 400, false) ∧ gated (sensing 4096) = (48, 1840, true) ∧ (sensing 4096).power.shutdown = false ∧
    (sensing 0).thm.thermal ≤ 3 ∧ (sensing 0).thm.hold = false ∧
    (let s : State := { sensing 0 with thm := { (sensing 0).thm with thermal := 3, power := 3 } }
     0 < s.thm.thermal ∧ ∀ n : Fin 48, (s.thm.sensors[n]).t < 1440) ∧
    ([1, 2, 3] : List Int).Perm [1, 2, 3] ∧ ([1, 2, 3] : List Int).Pairwise (· ≤ ·) := by
  unfold RegsWf
  and_intros <;> first | exact List.Perm.refl _ | decide +kernel

theorem witness_supply : base.thm.warn = false ∧
    (let s : State := { sensing 0 with power := { base.power with shutdown := true, started := false } }
     s.power.shutdown = true ∧ s.thm.latched = false ∧ s.power.vin = true ∧ s.power.seated = true ∧
     ∀ n : Fin 48, (s.thm.sensors[n]).valid = true → (s.thm.sensors[n]).t < 1360) ∧
    (let p : Power := { base.power with ready := false }
     p.started = true ∧ p.resetPending = false ∧ p.main = true ∧ p.aon = true) ∧
    base.power.removing = false ∧ base.power.seated = true ∧ { base.power with removing := true }.removing = true := by decide +kernel

/-- Debts at both bounds, a full table, a count one short of the threshold, and a group asleep and waking. -/
theorem witness_refresh : refreshes trained 15 = true ∧ refreshes base 15 = false ∧ chReady trained 15 = true ∧
    bankDebt ((onMem 15 (fun x => { x with debt := [(63, 4), (0, -4)] }) trained).mem.ch[15]) 63 = 4 ∧
    bankDebt ((onMem 15 (fun x => { x with debt := [(63, 4), (0, -4)] }) trained).mem.ch[15]) 0 = -4 ∧
    (let x := (onMem 0 (fun x => { x with rat := [(63, (List.range 512).map (fun r => (r, 2047)))] }) trained).mem.ch[0]
     (bankRat x 63).length = 512 ∧ rowCount 511 (bankRat x 63) + 1 = x.threshold ∧ rowCount 512 (bankRat x 63) = 0) ∧
    base.job.st = 0 ∧ powered base 23 = true ∧ trained.mem.groups[3] = .ready ∧
    regBits { base with regs := [(0x100818, 1)] } 0x100818 19 0 ≠ 0 ∧
    (({ trained with mem := { trained.mem with groups := Vector.replicate 4 .exiting, waits := Vector.replicate 4 [15, 14] } } :
      State).mem.groups[3]) = .exiting := by decide +kernel

theorem witness_memory_errors : RegsWf trained ∧ lineHere trained 0 ⟨0, false, 0⟩ = true ∧ lineHere trained 15 ⟨0xF00, true, 5⟩ = true ∧
    lineHere trained 1 ⟨0, false, 0⟩ = false ∧ writeLive trained = false ∧ trained.job.forage = none ∧
    foraging.power.resetPending = false ∧ write0.ending = none ∧ regBits trained 0x10081C 7 0 ≠ 0 ∧ dramChannel 0xF00 = 15 := by
  unfold RegsWf; decide +kernel

/-- Quotes asked for at the module: none, four of the port behind the one being taken, and one of the host. -/
theorem witness_quotes :
    let port : QuoteReq := { host := false, tag := 1, source := 2, nonce := List.replicate 32 0 }
    BarOpen base ∧ base.sec.quotes = [] ∧ 4 ≤ (((List.replicate 5 port).tail.filter (fun r => !r.host)).length) ∧
    ¬ 4 ≤ (((List.replicate 4 port).tail.filter (fun r => !r.host)).length) ∧ port.nonce.length = 32 ∧
    (∀ n : Fin 8, (base.sec.m[n]).length = 48) ∧ (1024 : BitVec 16).toNat % 1024 = 0 ∧ (1023 : BitVec 16).toNat % 1024 ≠ 0 ∧
    base.sec.prop = none := by
  unfold BarOpen HostOpen; decide +kernel


/-! ### Witnesses: guarded settings, time and servo, management, events, starts, the host, domains -/

/-- A statement of action `a` that sets the window to 32 seconds (R398, R401), on the device with serial number 5 and guard count 0. -/
def value0 : Bytes := natLe 32 2
def stmt0 (a : Byte) : Bytes :=
  natLe 0x5447 2 ++ [1, a] ++ natLe 8 2 ++ [0, 0] ++ natLe 5 8 ++ natLe 1 8 ++ natLe 2 4 ++ [0, 0, 0, 0] ++ Check.sha384 value0 ++
    List.replicate 48 0

/-- For each action a key and the signature of its statement under it, computed outside Lean by the equations of ECDSA on P-384. -/
def keys (a : Nat) : Bytes × Bytes :=
  if a = 1 then (natLe 0xe8950a8cf62f780663d056e0bab8bb6106746be968de556bdadcfe46dee6a45bf74dbc9ed9b7d78edcfe6562af8b65dcb43cf2f80cd18926f89892920c8e567b9d8a372b6c7df96968bf323928b1e84e0dc90d932dc80a5f6f5e6665616861b5 96,
    natLe 0x18d07aa70e1f7e434b560000cc25c2eb924f8be90229e80c0a0e3ccb0449b2ef30e169c6d82dda4a51d288ed46f1e97718d07aa70e1f7e434b560000cc25c2eb924f8be90229e80c0a0e3ccb0449b2ef30e169c6d82dda4a51d288ed46f1e977 96)
  else if a = 2 then (natLe 0x0bffb02c361c1d1a94623c5f57548b2b877359766d835e9e9e94ff72dd36e2c97fb2ae8eb6ebc650ef93d9038b2d3ea93a2d2086beba8df5361a3cb91d3d76158af142d30fcb69a2df22abf622b475521b9d2e6fad5ab74600ac502538ff7bd3 96,
    natLe 0x7448fe068cb27633bd3f7403f7f56309bf75fe99cd8557355ef306350a00d2cc2171f63a08027f0bf8b4278a6eeaad397448fe068cb27633bd3f7403f7f56309bf75fe99cd8557355ef306350a00d2cc2171f63a08027f0bf8b4278a6eeaad39 96)
  else if a = 3 then (natLe 0xa4b93d00040601348aa4237f1a5b7add076f071e2b2bf3d2ec721148aa0e68422199e35781111c0e91c8f8a0382a83cca788d1635451618afd7e9c877d0d16ae23c6fe3d1e4e18adbf9b6de9b56df997d671a6faa2f270e0c8100dae54ee69ee 96,
    natLe 0x6636e2145126a59f10508e14ec004d598ea25aabb781b1c800c22ba2caa45e033a6e8c3c938f5a43b14fc277f74f32416636e2145126a59f10508e14ec004d598ea25aabb781b1c800c22ba2caa45e033a6e8c3c938f5a43b14fc277f74f3241 96)
  else (natLe 0x8dc5459b8b12c1e92322df9b4d4c1d39938d8c8a7548531b6a32b59206d9e6a28309f84a706b4da27a253bacb05dd5b72473d65568e67edd83580fbbd610210935548e98df6a9686f4502a35dc891693255114fed317ece229db1a3d93c833d9 96,
    natLe 0x2db68bfeee2f2dfc1d8ea7e69147c212de7212a9502fe40cabc243bf0251faa9a044e57b3e803f42faad561807cbea362db68bfeee2f2dfc1d8ea7e69147c212de7212a9502fe40cabc243bf0251faa9a044e57b3e803f42faad561807cbea36 96)


/-- The module as device 5 with the keys of a statement's signer enrolled. -/
def enrolled0 (a : Nat) : State :=
  { host with sec := { host.sec with serial := 5, hostKey := (keys a).1, maintKey := (keys a).1 } }

/-- An open proposal of that setting. -/
def prop0 : Proposal := { seq := 4, stmt := stmt0 1, sig := (keys 1).2, value := value0, opened := 0, window := 300, writing := false }

/-- The block of a SET_GUARDED, and its entry. -/
def guardBlock (a : Byte) : Bytes := stmt0 a ++ (keys a.toNat).2 ++ List.replicate 32 0 ++ value0 ++ List.replicate 62 0
def guardEntry (a : Byte) : Bytes :=
  entryOf 5 11 0 ([0, 0, 0, 0, a, 0, 8, 0] ++ natLe 2 4 ++ List.replicate 8 0 ++ natLe 320 4)

theorem witness_signatures : Ecdsa.verify (keys 1).1 (stmt0 1) (keys 1).2 = true ∧ Ecdsa.verify (keys 2).1 (stmt0 2) (keys 2).2 = true ∧
    Ecdsa.verify (keys 3).1 (stmt0 3) (keys 3).2 = true ∧ Ecdsa.verify (keys 4).1 (stmt0 4) (keys 4).2 = true := by decide +kernel

theorem witness_proposal : let s := queued (enrolled0 1) (guardEntry 1)
    RegsWf s ∧ (startable s 11).isSome = true ∧ entryKind16 (guardEntry 1) = 1 ∧ (guardBlock 1).length = field (guardEntry 1) 32 4 ∧
    tableReadable s = true ∧ s.sec.prop = none ∧ s.sec.hostKey ≠ [] ∧ field (guardEntry 1) 18 2 = 8 ∧
    stmtForm (slice (guardBlock 1) 0 128) 1 8 (field (guardEntry 1) 20 4) = true ∧
    field (stmt0 1) 8 8 = s.sec.serial.toNat ∧ field (stmt0 1) 16 8 = s.sec.gcount + 1 ∧
    slice (stmt0 1) 32 48 = Check.sha384 (slice (guardBlock 1) 256 2) ∧ slice (guardBlock 1) 128 96 = (keys 1).2 := by
  unfold RegsWf; decide +kernel

/-- The firmware image of a write that has been approved verifies against a fused key that no proof can see. -/
theorem witness_firmware :
    let p : Proposal := { prop0 with writing := true, stmt := natLe 0x5447 2 ++ [1, 1, 3, 0] }
    p.writing = true ∧ stmtSetting p.stmt = 3 ∧ prop0.writing = false ∧ RegsWf (enrolled0 1) := by
  unfold RegsWf; decide +kernel

/-- Every action over the host, at each route, and the two of the management port. -/
theorem witness_decisions : let s (a : Byte) (route : Nat) : State :=
      let t := queued (enrolled0 a.toNat) (guardEntry a)
      { t with sec := { t.sec with prop := some prop0, route := route } }
    (∀ a, a ∈ [2, 3, 4] → RegsWf (s a 1) ∧ (startable (s a 1) 11).isSome = true ∧ tableReadable (s a 1) = true ∧
      (guardBlock a).length = field (guardEntry a) 32 4 ∧ entryKind16 (guardEntry a) = a.toNat ∧
      slice (guardBlock a) 0 128 = withAction a.toNat prop0.stmt ∧ slice (guardBlock a) 128 96 = (keys a.toNat).2 ∧
      (stmt0 a ++ (keys a.toNat).2).length = 224) ∧
    settingState (s 2 1) prop0 = true ∧ settingValue (s 2 1) prop0 = true ∧ settingValue (s 2 1) { prop0 with value := natLe 9 2 } = false ∧
    (s 2 0).sec.route = 0 ∧ (s 2 2).sec.route = 2 ∧ stmtSetting prop0.stmt ≠ 3 := by
  unfold RegsWf; decide +kernel

def announce0 : Announce :=
  { transport := 0, domain := 0, sdoId := 0, source := 1, port := 1, priority1 := 128, clockClass := 6, accuracy := 0x21, variance := 0,
    priority2 := 128, grandmaster := 1, steps := 254 }

/-- The servo enabled in state `st`, with a master and no message under way; up to two large offsets. -/
def served (st n : Nat) : State :=
  let x := { base.tim with st := st, speed := 2, master := some announce0, heard := [announce0], sync := some (7, 1000, 0) }
  { base with tim := { x with req := some (3, 1000), q := some 65536, ds := [65536], large := List.replicate n (1, 1, 1) } }

/-- The domain number in force. -/
def domain0 : Nat := regBits base 0x130018 16 9

theorem witness_servo : RegsWf (served 3 2) ∧ BarOpen (served 5 0) ∧ base.tim.st = 0 ∧ base.power.aon = true ∧
    ptpTaken (served 3 2) 0 domain0 0 = true ∧ ptpTaken (served 3 2) 0 domain0 1 = false ∧ ptpTaken (served 3 2) 1 domain0 0 = false ∧ announce0.steps < 255 ∧
    fromMaster (served 3 2) 1 1 = true ∧ fromMaster (served 3 2) 1 2 = false ∧ (served 3 2).tim.large.length = 2 ∧
    (∀ k, k ∈ (served 4 0).tim.heard → fromMaster (served 4 0) k.source k.port = true) ∧ (served 3 0).tim.speed ≠ 0 ∧
    (served 3 2).tim.ds ≠ [] ∧ ([3, -4] : List Int) ≠ [] := by
  unfold BarOpen HostOpen RegsWf
  and_intros <;> decide +kernel

/-- The state of the servo and whether the time has stepped, after a step. -/
def servoAfter : Host.Outcome State Fault Refusal → Nat × Bool
  | .next t => (t.tim.st, t.tim.ns != base.tim.ns)
  | _ => (0, false)

/-- A small offset corrects the rate, a large one waits for its third, which steps or, with a path change, ends in SUSPECT. -/
theorem witness_follow_up :
    let m (origin : Nat) : Instr :=
      .followUp { transport := 0, domain := domain0, sdoId := 0, source := 1, port := 1, seq := 7, origin := origin, correction := 0 }
    servoAfter (exec (m 998) (served 3 0)) = (3, false) ∧ servoAfter (exec (m 500000) (served 3 1)) = (3, false) ∧
    servoAfter (exec (m 500000) (served 3 2)) = (3, true) ∧
    servoAfter (exec (m 500000) { served 3 2 with tim := { (served 3 2).tim with
      q := some 2000000000, large := List.replicate 2 (1, 1000000000, 1) } }) = (5, false) := by decide +kernel

theorem witness_management : base.power.aon = true ∧ base.tim.speed = 0 ∧ (served 3 0).tim.speed = 2 ∧
    ((0 : BitVec 16).toNat + 32 ≤ 2048) ∧ ((2016 : BitVec 16).toNat + 32 ≤ 2048) ∧ base.power.resetting = false ∧ base.job.write = none ∧
    base.job.live = [] ∧ base.thm.tempMax = none ∧ (-524288 : Int) ≤ -524288 := by decide +kernel

/-- An event ring of 64 entries with entries held, empty, at its wrap, and full. -/
def ringing (tail : Nat) : State :=
  let h : HeldEvent := { id := 0, source := 5, test := false, stamp := 0, info := 0, cseq := 0 }
  let d : DueMessage := { vec := 63, instant := 0, after := [1] }
  { host with regs := [(0x010010, 1), (0x010060, 0x20)],
              evt := { host.evt with enabled := true, tail := tail, held := [h], due := [d] } }

theorem witness_event_ring : RegsWf (ringing 63) ∧ entryCanGo (ringing 63) = true ∧ (nextEntry (ringing 63)).isSome = true ∧
    evtFull (ringing 0) = true ∧ evtFull (ringing 1) = false ∧ BarOpen base ∧ base.evt.enabled = false ∧
    (let s : State := { base with regs := [(0x010008, 14)] }
     RegsWf s ∧ reg64 s 0x010000 % 64 = 0 ∧ regN s 0x010008 % 16 = 14) ∧
    (let s : State := { base with regs := [(0x010000, 32), (0x010008, 5)] }
     RegsWf s ∧ reg64 s 0x010000 % 64 ≠ 0 ∧ regN s 0x010008 % 16 < 6) := by
  unfold BarOpen HostOpen RegsWf; decide +kernel

/-- A message of vector 63 that is ready, unmasked and masked, at its gap and one nanosecond before it. -/
theorem witness_messages : let s (up : Nat) : State := { ringing 1 with
      hif := { host.hif with msixOn := true }, regs := [(0x010018, 1)], tim := { host.tim with up := up },
      evt := { (ringing 1).evt with lastSent := Vector.replicate 64 (some 0) } }
    readyMessages (s 1000) 63 = [{ vec := 63, instant := 0, after := [1] }] ∧ reachable (s 1000) = true ∧ gapOver (s 1000) 63 = true ∧
    gapOver (s 999) 63 = false ∧ ((s 1000).hif.msix[63]).mask = true ∧ reachable base = false ∧ (s 1000).hif.funcMask = false := by
  decide +kernel

theorem witness_starts : RegsWf State.reset ∧ State.reset.power.started = false ∧ State.reset.power.shutdown = false ∧
    State.reset.power.seated = true ∧ base.power.started = true ∧ HostOpen base ∧ (0x9D3C : Word).toNat % 65536 = 0x9D3C ∧
    (0x9D3D : Word).toNat % 65536 ≠ 0x9D3C ∧ base.power.resetting = false ∧
    (let s : State := { base with power := { base.power with resetPending := true, resetting := true } }
     s.power.resetPending = true ∧ s.job.write = none ∧ RegsWf s) ∧ RegsWf base ∧ powered base 1 = true ∧
    base.hif.linkUp = false ∧ host.hif.linkUp = true ∧ RegsWf host := by
  unfold HostOpen RegsWf; decide +kernel

/-- A binding of one page, with the page in a frame and on channel 3. -/
def bound (retry : Bool) (st : FrameSt) : State :=
  { foraging with
    intake := { foraging.intake with
      poolFrames := 4, bind := some { digest := 0, pages := [{ addr := 64, len := 20, restart := true, last := true }], cells := [] },
      frames := [{ idx := 0, st := st, page := 0, used := 0, retry := retry, cls := .demandForage, pass := .forage, seq := 9 }] },
    dma := upd foraging.dma 3 (fun x => { x with st := 1, page := some 0 }) }

theorem witness_host_link : powered base 1 = true ∧ base.hif.linkUp = false ∧ reachable host = true ∧
    (∀ v : Fin 64, (host.hif.msix[v]).pend = false) ∧
    readsEntries { host with job := { host.job with cmdOn := true, cmdTail := 1 } } = true ∧
    (∃ f, frameOf (bound false .fetching) 0 = some f ∧ f.retry = false) ∧ ((bound false .fetching).dma[3]).page = some 0 ∧
    (loadUnderWay (queued host (entryOf 5 3 0 []))).isSome = true ∧ tableReadable host = true ∧
    (let s : State := { host with dma := upd host.dma 15 (fun x => { x with on := true, tail := 1 }) }
     (s.dma[15]).on = true ∧ (s.dma[15]).st < 2 ∧ (s.dma[15]).head ≠ (s.dma[15]).tail) ∧
    (let s : State := { host with job := { host.job with hostErr := true, cmdOn := true, loadErr := some 5 } }
     s.job.hostErr = true ∧ s.job.cmdOn = true ∧ s.job.loadErr = some 5) :=
  by and_intros <;> first | exact ⟨_, rfl, rfl⟩ | decide +kernel

/-- Ranges at the first byte and just below 512 GiB are served, one past every variant's memory is not, and messages wait. -/
theorem witness_window : (∀ a, a ∈ [(0 : Nat), 2 ^ 39 - 64] → (List.range (min 16 ((64 + 255) / 256 + 1))).all (fun i =>
      chReady trained (Fin.ofNat 16 (dramChannel (a + 256 * i)))) = true) ∧
    trained.job.st = 0 ∧ foraging.job.st ≠ 0 ∧ DramWf trained ∧ (16 : BitVec 14).toNat / 16 = 1 ∧ (1023 : BitVec 14).toNat / 16 = 63 ∧
    (let s : State := { host with hif := { host.hif with msix := Vector.replicate 64 { addr := 0, data := 0, mask := false, pend := true } } }
     reachable s = true ∧ (s.hif.msix[63]).pend = true ∧ (s.hif.msix[63]).mask = false ∧ powered s 1 = true) := by
  unfold DramWf; decide +kernel

/-- Each kind of domain by its number, the quadrants, a wrong key, and a domain that may not be reset. -/
theorem witness_domain_resets : RegsWf base ∧ HostOpen base ∧ base.job.write = none ∧ (0x9D0F0000 : Word).toNat / 2 ^ 24 = 0x9D ∧
    (0x9C008003 : Word).toNat / 2 ^ 24 ≠ 0x9D ∧ bit (0x9D0F0000 : Word).toNat 15 = false ∧ bit (0x9D008003 : Word).toNat 15 = true ∧
    (∀ q : Fin 4, bit (0x9D0F0000 : Word).toNat (16 + q.val) = true ∧ bit (0x9D008003 : Word).toNat (16 + q.val) = false) ∧
    (∀ d, d ∈ [3, 4, 5, 8, 19, 32, 47] → (0x9D008000 + d) % 64 = d) ∧ HostOpen writing ∧ write0.ending = none := by
  unfold HostOpen RegsWf; decide +kernel

/-- Domains that may be switched and one that may not, with and without a job, and one asked to be off that still has power. -/
theorem witness_domain_power : RegsWf base ∧ HostOpen base ∧ bit base.power.want.toNat 2 = true ∧ bit base.power.want.toNat 47 = true ∧
    base.job.st = 0 ∧ foraging.job.st ≠ 0 ∧ foraging.job.forage.isSome = true ∧
    (let s : State := { base with power := { base.power with want := base.power.want &&& ~~~0x10000000000 } }
     bit s.power.want.toNat 40 = false ∧ powered s 40 = true ∧ RegsWf s ∧
     ∀ c : Fin 16, (s.dma[c]).desc = none ∧ (s.dma[c]).page = none ∧ (s.dma[c]).owner = 0 ∧ (s.dma[c]).st = 0 ∧ (s.dma[c]).byPower = false) ∧
    (let s : State := { base with power := { base.power with on := 1, want := 3 } }
     powered s 8 = false ∧ bit s.power.want.toNat 8 = false ∧ powered s 20 = false ∧ HostOpen { s with power := { s.power with on := 3 } } ∧
     ¬ HostOpen s) := by
  unfold HostOpen RegsWf; decide +kernel


/-! ### Witnesses: rings, registers, commands -/

/-- The rings enabled with the given indices, and a completion to post. -/
def ringed (head tail : Nat) : State :=
  let c : Cpl :=
    { seq := 5, status := 0, opcode := 10, dup := false, doubt := false, cause := 0, code := 0, source := 0, extra := 0, frontier := 0,
      lastSent := 0, arg0 := 0, arg1 := 0, jidx := 0, stamp := 0, final := true }
  { host with job := { host.job with
      cmdOn := true, cmdTail := 1, cplOn := true, cplLog := 12, cplHead := head, cplTail := tail, cplQ := [c] } }

theorem witness_rings : HostOpen base ∧ RegsWf base ∧ base.job.cmdOn = false ∧ base.job.stopped = false ∧ writeLive base = false ∧
    regN base 0x020000 % 64 = 0 ∧ regN base 0x020008 % 16 = 4 ∧
    (let s : State := { base with regs := [(0x020000, 64), (0x020008, 12)] }
     RegsWf s ∧ regN s 0x020000 % 64 = 0 ∧ regN s 0x020008 % 16 = 12) ∧
    regN { base with regs := [(0x020000, 32)] } 0x020000 % 64 ≠ 0 ∧ regN { base with regs := [(0x020008, 13)] } 0x020008 % 16 = 13 ∧
    (ringed 0 5).job.cmdLog ≤ 12 ∧ (4095 : Word).toNat % 4096 < 2 ^ (ringed 0 5).job.cplLog ∧
    (let s := ringed 4090 3
     (3 + 4096 - s.job.cplHead) % 4096 ≤ (s.job.cplTail + 4096 - s.job.cplHead) % 4096 ∧
       (s.job.cplTail + 4096 - s.job.cplHead) % 4096 < (4 + 4096 - s.job.cplHead) % 4096) ∧
    (∀ p : Fin 16, (writing.blk.ports[p]).final = none) ∧ ¬ HostOpen { base with power := { base.power with on := 1 } } := by
  unfold HostOpen RegsWf; decide +kernel

/-- Room at the tail, the wrap of the ring, and a ring that is full. -/
theorem witness_posts : RegsWf (ringed 1 4095) ∧ (ringed 1 4095).job.cplQ ≠ [] ∧ reachable (ringed 1 4095) = true ∧
    ((ringed 1 4095).dma[1]).st < 2 ∧ ((ringed 1 4095).job.cplTail + 1) % 2 ^ 12 = 0 ∧
    ((ringed 0 4095).job.cplTail + 1) % 2 ^ 12 = (ringed 0 4095).job.cplHead ∧ (ringed 0 4095).job.cplFull = false := by
  unfold RegsWf; decide +kernel

/-- Accesses that meet each clause, and the two halves of the time. -/
theorem witness_registers : RegsWf base ∧ HostOpen base ∧ BarOpen base ∧ (0x010042 : BitVec 24).toNat % 4 ≠ 0 ∧
    (0x010080 : BitVec 24).toNat / 0x10000 = 1 ∧ (0x060000 : BitVec 24).toNat / 0x10000 = 6 ∧ (0xFFFFFC : BitVec 24).toNat / 0x10000 = 0xFF ∧
    (let s : State := { base with power := { base.power with resetting := true } }
     s.power.resetting = true ∧ HostOpen s) ∧
    (1 ≤ (0x5655 : Nat) % 256 ∧ (0x5655 : Nat) % 256 < 0x5655 / 256 % 256 ∧ (0x5655 : Nat) / 256 % 256 ≤ 86) ∧
    ¬ (250 ≤ bits 0x00F90000 24 16) ∧ base.latch = [] ∧ base.power.resetting = false ∧
    (∀ a : Fin 4, (0x0D0004 + 0x40 * a.val) % 4 = 0) := by
  unfold BarOpen HostOpen RegsWf; decide +kernel

theorem witness_time_halves :
    (match exec (.latchingRead ⟨0x130000, 4⟩) base with
      | .next t => bit t.power.on.toNat 1 && (match exec (.latchingRead ⟨0x130004, 4⟩) t with
        | .next _ => true
        | _ => false)
      | _ => false) = true := by decide +kernel

theorem witness_guarded : RegsWf base ∧ BarOpen base ∧ (0x0C0004 : BitVec 24).toNat = 0x0C0004 ∧ (0x140004 : BitVec 24).toNat = 0x140004 ∧
    (0x140008 : BitVec 24).toNat = 0x140008 := by
  unfold BarOpen HostOpen RegsWf; decide +kernel

/-- JOB_OPEN of job 7 with 16 forage slots, JOB_CLOSE, FENCE, and another command ahead of them. -/
def openEntry : Bytes := entryOf 5 1 0 (natLe 7 4 ++ [16])
def closeEntry : Bytes := entryOf 5 2 0 (natLe 7 4)
def fenceEntry : Bytes := entryOf 5 10 0 []

/-- A started command in front of the queue. -/
def behind (s : State) : State :=
  { s with job := { s.job with live := { seq := 4, entry := entryOf 4 8 0 [], phase := .running } :: s.job.live } }

theorem witness_job_commands :
    StartsNext (queued base openEntry) 1 { seq := 5, entry := openEntry, phase := .queued } ∧
    StartsNext (queued base closeEntry) 2 { seq := 5, entry := closeEntry, phase := .queued } ∧
    StartsNext (behind (queued base fenceEntry)) 10 { seq := 5, entry := fenceEntry, phase := .queued } ∧ RegsWf (queued base openEntry) ∧
    (behind (queued base fenceEntry)).job.live.head? ≠ some { seq := 5, entry := fenceEntry, phase := .queued } ∧
    (let l := (behind (queued base fenceEntry)).job.live
     l.all (fun x => l.all (fun y => x.seq != y.seq || x == y)) = true) :=
  ⟨starts base openEntry 1 (by decide +kernel) rfl rfl (by decide +kernel),
    starts base closeEntry 2 (by decide +kernel) rfl rfl (by decide +kernel),
    ⟨⟨[{ seq := 4, entry := entryOf 4 8 0 [], phase := .running }], [], by decide +kernel, by decide +kernel⟩, rfl, by decide +kernel, rfl,
      rfl, by decide +kernel⟩, by unfold RegsWf; decide +kernel, by decide +kernel,
    by decide +kernel⟩


/-- The regions of JOB_OPEN as the registers of `s` give them, each with the least size it needs. -/
def regionsOf (s : State) : List (Nat × Nat × Nat) :=
  [(0, 2 ^ 30, 2 ^ 30)] ++ [(0x100800, 2 ^ 30), (0x100804, 4 * 2 ^ 30), (0x100808, 2 ^ 30), (0x10080C, 16 * 2 ^ 28)].map
    (fun r => (regN s r.1 % 2048 * 2 ^ 30, regN s r.1 / 65536 % 2048 * 2 ^ 30, r.2)) ++
  [(regN s 0x040000 % 1024 * 2 ^ 30, regN s 0x040004 % 2 ^ 20 * 1052672, 0)]

/-- With the hive cache off the pool and the regions that the registers give at reset fit; a pool of 2 047 frames does not,
nor a region of 0 bytes. -/
theorem witness_regions : let s : State := { base with regs := [(0x110020, 0)] }
    2048 ≤ regN s 0x040004 % 2 ^ 20 ∧ (∀ r, r ∈ regionsOf s → r.1 + r.2.1 ≤ 2 ^ 39 ∧ r.2.2 ≤ r.2.1) ∧
    (regionsOf s).Pairwise (fun a b => a.1 + a.2.1 ≤ b.1 ∨ b.1 + b.2.1 ≤ a.1) ∧ bit (regN s 0x110020) 0 = false ∧ RegsWf s ∧
    regN { base with regs := [(0x040004, 2047)] } 0x040004 % 2 ^ 20 < 2048 ∧
    regN { base with regs := [(0x100800, 1)] } 0x100800 / 65536 % 2048 * 2 ^ 30 < 2 ^ 30 ∧
    (∀ c : Fin 16, (s.mem.ch[c]).st ≠ 6 ∧ (s.mem.ch[c]).st ≠ 7) := by
  unfold RegsWf; decide +kernel

/-- The module at the head of its command ring, expecting sequence number `n`. -/
def reading (n : Nat) (retry : Bool) : State :=
  { host with job := { host.job with cmdOn := true, cmdTail := 1, cplOn := true, nextSeq := n, retry := retry } }

theorem reads_head (n : Nat) (r : Bool) : Reads (reading n r) :=
  ⟨rfl, by change (0 : Nat) ≠ 1; decide, rfl, rfl, rfl, rfl, by change (0 : Nat) < 64; decide, rfl, rfl,
    by change powered base 2 = true; decide +kernel, rfl, by change (0 : Nat) < 2; decide⟩

theorem witness_intake : RegsWf (reading 5 true) ∧ base.job.cmdOn = false ∧
    (∀ e, e ∈ [openEntry, closeEntry, fenceEntry, entryOf 5 5 0 [], entryOf 5 0 0 [], entryOf 5 12 0 []] →
      e.length = 64 ∧ field e 0 8 = (reading 5 true).job.nextSeq) ∧
    field (entryOf 4 10 0 []) 0 8 < (reading 5 true).job.nextSeq ∧ (reading 5 true).job.nextSeq ≤ field (entryOf 6 10 0 []) 0 8 ∧
    (byteAt openEntry 9 = 0 ∧ zeros openEntry 10 2 = true ∧ zeros openEntry 17 47 = true ∧ field openEntry 12 4 ≠ 0 ∧
      byteAt openEntry 16 = 16 ∧ zeros closeEntry 16 48 = true ∧ zeros fenceEntry 12 52 = true) ∧
    byteAt (entryOf 5 1 0 (natLe 7 4 ++ [17])) 16 = 17 ∧ byteAt (entryOf 5 1 0 (natLe 7 4 ++ [1])) 16 = 1 ∧
    field (entryOf 5 1 0 []) 12 4 = 0 ∧ host.sec.recovery = false := by
  unfold RegsWf; decide +kernel

/-- A stripe command of job 7 for stripe 3, pass 1, four segments, at a plan. -/
def stripeEntry (op plan : Nat) : Bytes :=
  entryOf 5 op 0 (natLe 7 4 ++ natLe 3 4 ++ [1, 0] ++ natLe plan 2 ++ List.replicate 8 0 ++ natLe 4 4 ++ List.replicate 8 0)

/-- The module with that entry at intake. -/
def atIntake (op plan : Nat) (slots : List Slot) : State :=
  { host with job := { host.job with
      st := 1, id := 7, slotMax := 2, slots := slots, atIntake := some { seq := 5, entry := stripeEntry op plan, phase := .queued } } }

theorem witness_stripe_intake : RegsWf (atIntake 5 0 []) ∧ (atIntake 5 0 []).job.st = 1 ∧
    field (stripeEntry 5 0) 12 4 = (atIntake 5 0 []).job.id ∧ (atIntake 5 0 []).sec.recovery = false ∧
    formatRefusal (stripeEntry 5 0) 0 = none ∧ formatRefusal (stripeEntry 6 2000) 0 = none ∧
    (∀ c : Fin 16, (host.mem.ch[c]).st ≠ 6 ∧ (host.mem.ch[c]).st ≠ 7) ∧
    (let own (x : Slot) : Bool := x.stripe == field (stripeEntry 6 2000) 16 4 % 2 ^ 20 && x.pass == byteAt (stripeEntry 6 2000) 20
     [slot0 0].any own = true ∧ ([slot0 0].find? (fun x => own x && x.held)).isSome = true ∧
       [{ slot0 0 with stripe := 4 }, { slot0 0 with stripe := 5 }].any own = false) ∧
    (qBar (slot0 0) 0).1 * 128000000 ≤ 2816 * workingNow host * 100 * (regN host 0x020048 % 128) * 2000 ∧
    0 < 2816 * workingNow host * 100 * (regN host 0x020048 % 128) ∧
    2816 * workingNow host * 100 * (regN host 0x020048 % 128) * 2000 <
      (qBar { slot0 0 with slots := (List.range 4).map (fun g => (g, 10 ^ 9)) } 0).1 * 128000000 := by
  unfold RegsWf; decide +kernel


/-- Tables that pass their checks: a kernel of no terms, a field of one cell, a table of weights, an equalization set. -/
def kernel0 : Bytes := [0x43, 0x4B, 1, 0, 1, 1, 0, 0] ++ natLe 1 4 ++ natLe 1 4 ++ List.replicate 368 0
def field0 : Bytes := [0x44, 0x46, 1, 0] ++ List.replicate 8 0 ++ natLe 1 2 ++ natLe 1 2 ++ List.replicate 48 0
def weight0 : Bytes :=
  [0x53, 0x57, 1] ++ List.replicate 61 0 ++ List.replicate 8 0 ++ (List.range 15).flatMap (fun k =>
    let m := k + 1
    let top : Nat := if bit m 0 then 0 else if bit m 1 then 1 else if bit m 2 then 2 else 3
    (List.range 4).flatMap (fun n => natLe (if n = top then 32765 else 0) 2))
def eq0 : Bytes := [0x45, 0x51, 1] ++ List.replicate 61 0 ++ (List.range 288).flatMap (fun w => if w % 18 = 17 then [0, 0, 0, 0] else [0, 32, 0, 0])

/-- LOAD_TABLE of a kind and a length. -/
def loadEntry (kind len : Nat) : Bytes := entryOf 5 3 0 ([0, 0, 0, 0, BitVec.ofNat 8 kind] ++ List.replicate 15 0 ++ natLe len 4)

theorem witness_tables :
    StartsNext (queued host (loadEntry 1 384)) 3 { seq := 5, entry := loadEntry 1 384, phase := .queued } ∧ RegsWf host ∧
    byteAt (loadEntry 8 1216) 16 = 8 ∧ field (loadEntry 8 1216) 32 4 = 1216 ∧ reachable host = true ∧ (host.dma[11]).st < 2 ∧
    host.job.loadErr = none ∧ (∀ c : Fin 16, (host.dma[c]).owner = 0 ∧ (host.mem.ch[c]).st ≠ 6) ∧
    (∀ d, d < 24 → 20 ≤ d → powered host d = true) ∧
    (let s : State := { host with power := { host.power with on := 6 } }
     powered s 20 = false ∧ s.job.loadErr = none ∧ powered s 2 = true) :=
  ⟨starts host (loadEntry 1 384) 3 (by decide +kernel) rfl rfl (by decide +kernel), by unfold RegsWf; decide +kernel, by decide +kernel⟩

theorem witness_table_checks : kernelCode kernel0 = none ∧ kernel0.length = 384 ∧ fieldCode field0 = none ∧ field0.length = 64 ∧
    weightCode weight0 = none ∧ weight0.length = 192 ∧ eqCode host eq0 = none ∧ eq0.length = 1216 ∧ progCode (image 1) 1 = none ∧
    progCode (image 2) 2 = none ∧ byteAt (image 2) 3 ≠ 1 ∧ kernelCode (kernel0.drop 1) = some 8 ∧ (progCode [] 1).isSome = true ∧
    (maskCode host []).isSome = true ∧ (beamCode host []).isSome = true ∧ (weightCode []).isSome = true ∧ (eqCode host []).isSome = true := by
  decide +kernel


/-! ### Witnesses: streams, stripes, calibration, DMA, pages, records -/

/-- BIND_STREAM of one page and one cell, and their table and index. -/
def bindEntry : Bytes := entryOf 5 4 0 (List.replicate 12 0 ++ natLe 1 8 ++ List.replicate 8 0 ++ natLe 1 4)
def pageTable (addr : Nat) : Bytes := natLe addr 8 ++ natLe 64 4 ++ [3, 0, 0, 0]
def cellIndex : Bytes :=
  natLe 1 4 ++ [1, 0, 0, 0] ++ natLe 0 8 ++ natLe 4 4 ++ natLe 3 4 ++ natLe 0 8 ++ natLe 0 8 ++ natLe 64 4 ++ natLe 64 4 ++ List.replicate 16 0

/-- The module with a pool of `n` frames. -/
def pooled (n : Nat) : State := { host with job := { host.job with st := 1, id := 7 }, intake := { host.intake with poolFrames := n } }

theorem witness_bind :
    StartsNext (queued (pooled 1025) bindEntry) 4 { seq := 5, entry := bindEntry, phase := .queued } ∧ RegsWf (pooled 1025) ∧
    DramWf (pooled 1025) ∧ (pooled 1025).job.write = none ∧ (pooled 1025).job.forage = none ∧ writing.job.write.isSome = true ∧
    field bindEntry 24 8 = 1 ∧ field bindEntry 40 4 = 1 ∧ (16 * 1 + 64 * 1 + 1052671) / 1052672 = 1 ∧
    (pageTable 64).length = 16 ∧ cellIndex.length = 64 ∧ dirBreach (pageTable 64) cellIndex = none ∧
    (dirBreach (pageTable 32) cellIndex).map (·.status) = some 7 ∧ field (pageTable 32) 0 8 % 64 ≠ 0 ∧
    ((dirBreach (pageTable 64) (List.replicate 64 0)).map (fun e => decide (e.status ≠ 7))) = some true :=
  ⟨starts (pooled 1025) bindEntry 4 (by decide +kernel) rfl rfl (by decide +kernel), by unfold RegsWf; decide +kernel,
    by unfold DramWf; decide +kernel, by decide +kernel⟩

/-- A binding of one page and one cell of 64 by 64. -/
def cell0 : CellEnt := { id := 1, depth := 2, beginPage := 0, beginOff := 4, count := 3, endPage := 0, box := ⟨0, 0, 64, 64⟩ }
def cell1 : CellEnt := { id := 2, depth := 1, beginPage := 0, beginOff := 0, count := 2, endPage := 0, box := ⟨0, 0, 8, 8⟩ }
def bind0 : Binding := { digest := 0, pages := [{ addr := 64, len := 64, restart := true, last := true }], cells := [cell0, cell1] }

/-- A forage command that may start, on an empty binding and on one with a slot claimed. -/
def forageable (b : Option Binding) : State :=
  let s := queued (pooled 4) (entryOf 5 5 0 (natLe 7 4 ++ natLe 3 4 ++ [1, 0]))
  { s with intake := { s.intake with bind := b } }

theorem witness_forage_start :
    StartsNext (forageable (some bind0)) 5 { seq := 5, entry := entryOf 5 5 0 (natLe 7 4 ++ natLe 3 4 ++ [1, 0]), phase := .queued } ∧
    RegsWf (forageable none) ∧ (forageable none).intake.bind = none ∧ (forageable (some bind0)).intake.bind.isSome = true ∧
    soloWrite (forageable none) = false ∧ powered (forageable none) 5 = true ∧ powered (forageable none) 4 = true ∧
    workingRaster (forageable none) ≠ 0 :=
  ⟨⟨⟨[], [], rfl, fun _ hx => absurd hx (List.not_mem_nil)⟩, rfl, by decide +kernel, rfl, rfl, by decide +kernel⟩,
    by unfold RegsWf; decide +kernel, by decide +kernel⟩

/-- A forage whose walk has ended with every tile handed over and signed. -/
def foraged : State :=
  let f : Stripe := { stripe0 with segs := 1 }
  let tiles : List (Int × Int) := (List.range 40).map (fun (c : Nat) => ((c : Int), (0 : Int)))
  let slot : Slot := { slot0 0 with segs := 1, claim := 9, held := false, valid := false, sigs := (List.range 40).map (fun c => ((0, c), 0)) }
  let x : Exp := { Exp.start with header := true, topDone := true, ended := true, handed := tiles }
  let job := { foraging.job with forage := some { forage0 with f := f, kernel := none }, slots := [slot] }
  { foraging with job := job, intake := { foraging.intake with expF := x, bind := some bind0 } }

theorem witness_forage_end : RegsWf foraged ∧
    (match foraged.job.forage with | some g => g.fail.isNone && forageDone foraged g | none => false) = true ∧
    foraged.job.slots.length = 1 ∧ foraged.intake.expF.pages.length ≤ 16777216 ∧ forageDone foraging forage0 = false ∧
    ({ forage0 with fail := some (3, 0x24, 8, 0, 0, 0) } : Forage).fail.isSome = true := by
  unfold RegsWf; decide +kernel

/-- The module at the stripe boundary of a write at a plan, with the words of the flash program that differ from
the program of reset, a binding and forage results. -/
def boundary (plan : Nat) (prog : List (Nat × Word)) (b : Option Binding) : State :=
  let s0 := onBlk (locked 5) (queued (pooled 4) (stripeEntry 6 plan))
  let s1 := { s0 with regs := prog, intake := { s0.intake with bind := b }, bmu := { s0.bmu with beam := { cur := some [], pend := none } } }
  let s := { s1 with comb := { s1.comb with re := { s1.comb.re with cur := [1] }, ce := { s1.comb.ce with cur := [2] } } }
  { s with job := { s.job with slots := [{ slot0 0 with segs := 4, dig := digestsNow s }] } }

theorem witness_boundary : RegsWf (boundary 2000 [] (some bind0)) ∧ (waitingWrite (boundary 2000 [] (some bind0))).isSome = true ∧
    boundaryFree (boundary 2000 [] (some bind0)) = true ∧
    boundaryRefusal (boundaryForce (boundary 2000 [] (some bind0))) (stripeEntry 6 2000) = none ∧
    boundaryRefusal (boundaryForce (boundary 2000 [] none)) (stripeEntry 6 2000) = some (4, none) ∧
    (let u := loadSequencer (entryStripe (stripeEntry 6 2000)) (boundaryForce (boundary 2000 [] (some bind0)))
     seqCheck u.seq.params u.seq.prog = none) ∧
    (let u := loadSequencer (entryStripe (stripeEntry 6 2000)) (boundaryForce (boundary 2000 [(0x0D0404, 0x08000000)] (some bind0)))
     (seqCheck u.seq.params u.seq.prog).isSome = true) ∧
    (∀ p, p ∈ [(1407, some (0xB, none)), (1408, none), (5000, none), (5001, some (0xB, none))] →
      boundaryRefusal (boundaryForce (boundary p.1 [] (some bind0))) (stripeEntry 6 p.1) = p.2) := by
  unfold RegsWf; decide +kernel

/-- CALIBRATE of a target, with and without WAIT. -/
def calEntry (flags target : Nat) : Bytes := entryOf 5 8 flags ([0, 0, 0, 0, BitVec.ofNat 8 target])

/-- The module with calibrations running for command 9. -/
def calibrating : State := { base with cal := { base.cal with tdcRun := some 9, sensRun := some 9 } }

theorem witness_calibrate :
    StartsNext (queued base (calEntry 0 1)) 8 { seq := 5, entry := calEntry 0 1, phase := .queued } ∧
    StartsNext (queued writing (calEntry 1 1)) 8 { seq := 5, entry := calEntry 1 1, phase := .queued } ∧
    StartsNext (queued { writing with cal := { writing.cal with tdcWait := some 9 } } (calEntry 1 1)) 8
      { seq := 5, entry := calEntry 1 1, phase := .queued } ∧
    byteAt (calEntry 0 2) 16 = 2 ∧ bit (byteAt (calEntry 1 1) 9) 0 = true ∧ bit (byteAt (calEntry 0 1) 9) 0 = false ∧ RegsWf base ∧
    base.cal.tdcRun = none ∧ base.cal.tdcWait = none ∧ base.cal.sensRun = none ∧ calibrating.cal.tdcRun = some 9 ∧ (9 : Nat) ≠ 0 :=
  ⟨starts base (calEntry 0 1) 8 (by decide +kernel) rfl rfl (by decide +kernel),
    starts writing (calEntry 1 1) 8 (by decide +kernel) rfl rfl (by decide +kernel),
    starts _ (calEntry 1 1) 8 (by decide +kernel) rfl rfl (by decide +kernel), by unfold RegsWf; decide +kernel⟩

/-- Hits that agree, one tap outside its limits, and too few; the limits of 12 ps and 40 ps at their edges. -/
theorem witness_tdc : let low := field base.cal.limits 16 2
    let high := field base.cal.limits 18 2
    let dev := field base.cal.limits 20 2
    let within (n : Nat) : Bool := decide (low * 2 ^ 20 ≤ n * 6400000 ∧ n * 6400000 ≤ high * 2 ^ 20 ∧
      n * 6400000 ≤ (20000 + dev) * 2 ^ 20 ∧ 20000 * 2 ^ 20 ≤ n * 6400000 + dev * 2 ^ 20)
    (List.replicate 320 3277).length = 320 ∧ 2 ^ 20 ≤ (List.replicate 320 3277).sum ∧ (List.replicate 320 3276).sum < 2 ^ 20 ∧
    within 3277 = true ∧ within 0 = false ∧ within 1967 = true ∧ within 1966 = false ∧ within 5324 = true ∧ within 5325 = false := by
  decide +kernel

/-- Sensors whose trims a calibration keeps in limits, a diode out of range, and the good set to be copied. -/
def trimmed : State :=
  { calibrating with thm := { base.thm with sensors := Vector.replicate 48 (Sensor.start 200000 300) } }

theorem witness_sensor_calibration :
    sensorsCode trimmed (List.replicate 5 400) (newTrims trimmed (List.replicate 5 400) (List.replicate 48 200000)) = none ∧
    (sensorsCode trimmed (List.replicate 4 400) []).isSome = true ∧ (2401 : Int) > 2400 ∧ trimmed.job.write = none ∧
    BarOpen base ∧ regN base 0x160100 % 8 = 0 ∧ base.cal.copy = none ∧ (base.cal.recs[0]).good.length = 0 ∧
    regN { base with regs := [(0x160100, 5)] } 0x160100 % 8 = 5 ∧ DramWf base ∧ (∀ d, d < 24 → 20 ≤ d → powered base d = true) := by
  unfold BarOpen HostOpen DramWf; decide +kernel

/-- A channel of 13 to 15 with descriptors waiting, and one that moves 64 bytes. -/
def chan (c : Nat) (st : Nat) (desc : Option (Nat × Nat × Nat × Bool × Bool)) : State :=
  { trained with hif := host.hif, dma := upd base.dma c (fun x => { x with on := true, log2 := 10, tail := 1, st := st, desc := desc }) }

/-- Descriptors: 64 bytes to the host, misaligned, of no bytes, and of one bank too many. -/
def desc0 (addr len flags : Nat) : Bytes := natLe addr 8 ++ natLe 128 8 ++ natLe len 4 ++ natLe flags 4 ++ List.replicate 8 0

theorem witness_dma : RegsWf (chan 14 0 none) ∧ DramWf (chan 14 0 none) ∧ BarOpen (chan 14 0 none) ∧ ((chan 14 0 none).dma[14]).log2 ≤ 10 ∧
    (1023 : Word).toNat % 1024 < 2 ^ ((chan 14 0 none).dma[14]).log2 ∧ ((chan 14 0 none).dma[14]).head ≠ ((chan 14 0 none).dma[14]).tail ∧
    reachable (chan 14 0 none) = true ∧ (∀ c : Fin 16, ((chan 14 0 none).mem.ch[c]).st ≠ 6 ∧ ((chan 14 0 none).mem.ch[c]).st ≠ 7) ∧
    (desc0 0 64 1).length = 32 ∧ field (desc0 0 64 1) 16 4 % 64 = 0 ∧ byteAt (desc0 0 64 1) 20 < 4 ∧ zeros (desc0 0 64 1) 21 11 = true ∧
    field (desc0 32 64 1) 0 8 % 64 ≠ 0 ∧ field (desc0 0 0 1) 16 4 = 0 ∧ 4 ≤ byteAt (desc0 0 64 4) 20 ∧
    ((chan 15 1 (some (0, 128, 64, false, true))).dma[15]).desc.isSome = true ∧ (List.replicate 64 (0 : Byte)).length = 64 ∧
    ((chan 13 4 none).dma[13]).st = 4 ∧ ((chan 13 5 none).dma[13]).st = 5 ∧ ((chan 13 2 none).dma[13]).st = 2 := by
  unfold BarOpen HostOpen RegsWf DramWf; decide +kernel

/-- A pause of a power-down on a channel that a command owns, at every byte count that fits. -/
theorem witness_pauses : let s : State := { chan 11 2 (some (0, 0, 64, true, false)) with
      dma := upd (chan 11 2 (some (0, 0, 64, true, false))).dma 11 (fun x => { x with byPower := true, owner := 9 }) }
    RegsWf s ∧ (s.dma[11]).st = 2 ∧ (s.dma[11]).byPower = true ∧ (s.dma[11]).owner = 9 ∧ (0 : Nat) ≤ 64 ∧ (64 : Nat) ≤ 64 ∧
    ((chan 11 2 none).dma[11]).byPower = false ∧ ((chan 11 2 none).dma[11]).owner = 0 := by
  unfold RegsWf; decide +kernel


/-! ### Witnesses: pages and records -/

/-- A page image (R51 to R56): a restart that is the last page, its content stored in one block, padded to 64 bytes. -/
def pageOf (content : Bytes) : Bytes :=
  let body := natLe 0x5747 2 ++ [1, 3] ++ natLe (content.length + 4) 4 ++ natLe content.length 4 ++ natLe 0 4 ++
    natLe (content.length - 1) 4 ++ content
  let all := body ++ natLe (Check.crc32c 0 body).toNat 4
  all ++ List.replicate (64 - all.length) 0

/-- The content of a stream of one cell with one rectangle (R61 to R69). -/
def content0 : Bytes := [0x10, 1, 0, 1, 0x20, 1, 0, 0, 0x80, 1, 0x80, 1, 0x30, 4, 6, 2, 4, 0x21]

/-- A result is the value given. -/
def gives {ε α : Type} [DecidableEq α] (r : Except ε α) (v : α) : Bool := match r with | .ok x => x == v | .error _ => false

/-- The foraging module with that page in frame 0 in a state, and in DRAM from the pool's base on. -/
def paged (retry : Bool) (st : FrameSt) : State :=
  let s := { bound retry st with dram := Sparse.setRun dramDefault [] 0 (pageOf content0) }
  let s := { s with mem := { trained.mem with regions := { trained.mem.regions with list := (0, 1) } } }
  { s with intake := { s.intake with bind := some bind0 } }

theorem witness_page_images : imageOk (pageOf content0) 0 = true ∧ imageOk (pageOf content0) 1 = false ∧ (pageOf content0).length = 64 ∧
    gives (decodePage (pageOf content0) 0 1 64 true true []) content0 = true ∧
    (match decodePage (pageOf content0) 0 1 64 true false [] with | .error e => e.1 == 0x23 | .ok _ => false) = true := by
  decide +kernel

theorem witness_fetch : RegsWf (paged false .fetching) ∧ DramWf (paged false .fetching) ∧ (boundPages (paged false .fetching))[0]?.isSome = true ∧
    (boundPages (paged false .fetching))[1]? = none ∧ powered (paged false .fetching) 2 = true ∧ reachable (paged false .fetching) = true ∧
    (∀ c : Fin 16, ((paged false .fetching).mem.ch[c]).st = 2) ∧ (∀ d, d < 24 → 20 ≤ d → powered (paged false .fetching) d = true) ∧
    (frameOf (paged false .fetching) 0).isSome = true ∧
    ((frameOf (paged false .fetching) 0).any (fun f => readGoes (paged false .fetching) f (pageOf content0))) = true ∧
    ((frameOf (paged true .fetching) 0).any (fun f => f.retry && readGoes (paged true .fetching) f (pageOf content0))) = true ∧
    waitedFor (paged true .fetching) .forage 0 = false ∧ imageOk (List.replicate 64 0) 0 = false := by
  unfold RegsWf DramWf; decide +kernel

/-- A page that the forage waits for, with a channel idle and a frame free, and with none. -/
theorem witness_demand : let s (frames : Nat) : State :=
      { host with
        job := foraging.job
        intake := { host.intake with
          poolFrames := frames, bind := some bind0
          dec := upd host.intake.dec 0 (fun x => { x with
            st := 5, run := some { pass := .forage, chainStart := 0, next := 0, content := [], before := [], pin := none, scan := Scan.start 0 } }) } }
    fetchPass (s 4) 0 .demandForage = some .forage ∧ frameOf (s 4) 0 = none ∧ idlePager (s 4) = some 3 ∧ freeFrame (s 4) = some 0 ∧
    freeFrame (s 0) = none ∧ victim (s 0) = none ∧ (s 4).intake.bad = [] ∧ fetchPass (s 4) 0 .demandWrite = none := by decide +kernel

theorem witness_decode : RegsWf (paged false .resident) ∧ DramWf (paged false .resident) ∧ passGoes (paged false .resident) .forage = true ∧
    passGoes (paged false .resident) .write = false ∧ isEntry (paged false .resident) .forage 0 = true ∧
    ((paged false .resident).intake.dec[0]).run = none ∧ (frameOf (paged false .resident) 0).map (·.st) = some .resident ∧
    frameOf { paged false .resident with intake := { (paged false .resident).intake with frames := [] } } 0 = none ∧
    bits (passCtl (paged false .resident) .forage) 7 4 = 8 ∧
    dramRead (paged false .resident) (paged false .resident).intake.poolBase 64 = pageOf content0 ∧
    (paged false .resident).intake.bad = [] := by
  unfold RegsWf DramWf; decide +kernel

/-- The walk of the forage, with decompressor 0 holding the content of page 0. -/
def walk (content : Bytes) (x : Exp) : State :=
  let s := paged false .resident
  let run : Run := { pass := .forage, chainStart := 0, next := 1, content := content, before := [], pin := some 0, scan := Scan.start 0 }
  { s with intake := { s.intake with expF := x, dec := upd s.intake.dec 0 (fun d => { d with st := 2, run := some run }) } }

/-- Cell 1 entered and open with its next record at offset `off` and `count` records taken, and a walk inside it. -/
def place0 : Placement := { cell := cell0, orient := 0, tx := 0, ty := 0, bracket := none }
def open0 (off count : Nat) : OpenCell :=
  { at_ := place0, cur := (0, 0), lastW := 2, lastH := 2, count := count, depth := 2, next := ⟨0, off⟩, rest := [],
    placed := true, indexed := true }
def inside (count : Nat) : Exp := { Exp.start with header := true, top := 1, stack := [open0 0 count] }

/-- Each record stands where the walk reads next. -/
theorem witness_records : (∀ r, r ∈ [((0x00 : Nat), ([] : Bytes)), (0x21, []), (0x30, [4, 6, 1, 2]), (0x31, [0, 0]), (0x32, [0, 0, 3, 2, 4, 1]),
      (0x33, [0, 0, 3, 2, 4, 1]), (0x34, [3, 0, 0, 4, 0, 0, 4]), (0x35, [4, 0, 0, 4, 4]), (0x40, [2, 0, 0, 0]),
      (0x41, [2, 0, 0, 0, 2, 2, 4, 0, 0, 4])] →
      recordHere (walk (BitVec.ofNat 8 r.1 :: r.2) (inside 1)) .forage ⟨0, 0⟩ r.1 r.2 = true) ∧
    recordHere (walk [0x10, 1, 0, 1] Exp.start) .forage ⟨0, 0⟩ 0x10 [1, 0, 1] = true ∧
    recordHere (walk content0 { inside 1 with stack := [], enter := [place0] }) .forage ⟨0, 4⟩ 0x20 [1, 0, 0, 0x80, 1, 0x80, 1] = true ∧
    recordHere (walk [0x11, 2] { inside 1 with stack := [], topDone := true }) .forage ⟨0, 0⟩ 0x11 [2] = true ∧
    recordHere (walk [0x00] (inside 1)) .forage ⟨0, 1⟩ 0x00 [] = false := by decide +kernel

/-- Operands that read whole, with least sides, and those that a fault meets. -/
theorem witness_operands : gives (readRect [4, 6, 1, 2]) (((2, 3), 1, 2), []) = true ∧ gives (readRect [0, 0, 0, 1]) (((0, 0), 0, 1), []) = true ∧
    gives (svar2 [0, 0]) ((0, 0), []) = true ∧ gives (readTrap [0, 0, 1, 1, 0, 0]) (((0, 0), 1, 1, 0, 0), []) = true ∧
    gives (readTrap [0, 0, 0, 1, 0, 0]) (((0, 0), 0, 1, 0, 0), []) = true ∧ gives (readPoly [3, 0, 0, 4, 0, 0, 4]) ((3, (0, 0), [(2, 0), (0, 2)]), []) = true ∧
    polyOk 3 (polyPoints (0, 0) [(2, 0), (0, 2)]) = true ∧ gives (readPoly [2, 0, 0, 4, 0]) ((2, (0, 0), [(2, 0)]), []) = true ∧
    polyMOk 4 (manhattan 0 true (0, 0) [2, 2]) = true ∧ gives (readPolyM [3, 0, 0, 4]) ((3, (0, 0), [2]), []) = true ∧
    gives (readSref [2, 7, 0, 0]) ((2, 7, 0, 0), []) = true ∧ gives (readSref [2, 8, 0, 0]) ((2, 8, 0, 0), []) = true ∧
    (match readAref [2, 0, 0, 0, 2, 2, 4, 0, 0, 4] with
      | .ok ((s, m, n, va, vb), r) => s == (2, 0, (0, 0)) && m == 2 && n == 2 && va == (2, 0) && vb == (0, 2) && r.isEmpty
      | .error _ => false) = true ∧
    gives (readHeader [1, 0, 1]) ((1, 0, 1), []) = true ∧ gives (readCell [1, 0, 0, 0x80, 1, 0x80, 1]) ((1, cell0.box), []) = true ∧
    (match readRect [0x80, 0, 0, 0, 0] with | .error c => c != 0 | .ok _ => false) = true ∧
    gives (readCurve [2, 0, 0, 2]) ((2, (0, 0), [], true), []) = true ∧
    (match readCurve [2, 0, 0, 0, 0x80, 0, 0] with | .error c => c != 0 | .ok _ => false) = true := by decide +kernel

/-- Two arcs that close on their first vertex (R77, R78). -/
def curve0 : Bytes := [2, 0, 0] ++ [1, 0, 16, 16, 16, 0, 4] ++ [1, 0, 15, 0, 4]

theorem witness_curve : (match readCurve curve0 with
    | .ok ((n, d, l, bad), []) => n == 2 && !bad && curveFault n (curveSegs d d l) bad == none
    | _ => false) = true ∧ gives (readCurve [1, 0, 0, 0]) ((1, (0, 0), [{ arc := none, stop := none }], false), []) = true := by decide +kernel

/-- The points of a shape in the cell, room for its list, and the cells that references name. -/
theorem witness_shapes : let s := walk [0x30, 4, 6, 1, 2] (inside 1)
    boxHolds cell0.box (2, 3) = true ∧ boxHolds cell0.box (64, 64) = true ∧ pointOk (64, 64) = true ∧
    listUnits (((passTiles s .forage ⟨2, 3, 3, 5⟩).foldl (fun l k => addTo .forage l (k, LEntry.rect ⟨2, 3, 3, 5⟩)) s.intake.expF.lists)) +
      listUnits s.intake.expW.lists + listUnits s.comb.lists ≤ listRoom s ∧ passTiles s .forage ⟨2, 3, 3, 5⟩ ≠ [] ∧
    listUnits s.comb.lists = 0 := by decide +kernel

theorem witness_references : let s := walk [0x30, 4, 6, 1, 2] (inside 1)
    (boundCells s).find? (fun y => y.id == 1) = some cell0 ∧ (boundCells s).length = 2 ∧ (boundPages s).length = 1 ∧
    placeable (walk [] (inside 1)) (open0 0 1) ⟨0, 5⟩ 2 = some cell1 ∧ boxInside cell0.box (placeBox 0 (0, 0) cell1.box) = true ∧
    (List.range 2).all (fun i => (List.range 2).all (fun j => boxInside cell0.box (placeBox 0 ((i : Int) * 2, (j : Int) * 2) cell1.box))) = true ∧
    (open0 0 2).count + 1 = cell0.count ∧ (open0 0 2).depth = cell0.depth ∧ onlyNops s .forage ⟨0, 5⟩ = true := by
  decide +kernel

/-- A tile whose list is complete once the top cell is done. -/
theorem witness_lists : let s := walk content0 { inside 1 with stack := [], topDone := true }
    passStripe s .forage = some stripe0 ∧ passGoes s .forage = true ∧ tileWanted s .forage stripe0 0 0 = true ∧
    listComplete s.intake.expF (tileExtent stripe0 (0, 0)) = true ∧ tileWanted s .forage stripe0 41 0 = false := by decide +kernel

/-! ### Witnesses: the encoding, the stores, and the events -/

theorem witness_encoding : kEngine (.kAdd 7 2 3 1) = some 7 ∧ Instr.wf (.kAdd 7 2 3 1) = true ∧
    kDecode 7 0x04430800 0 = some (.kAdd 7 2 3 1) ∧ kWords (.kAdd 7 2 3 1) = some (0x04430800, none) ∧
    kWords (.kLi 7 1 0xDEADBEEF) = some (0xC4200000, some 0xDEADBEEF) := by decide +kernel

theorem witness_stores : DramWf base ∧ RegsWf base ∧ LocalWf base ∧ (match step base with | .next _ => true | _ => false) = true := by
  unfold DramWf RegsWf LocalWf; decide +kernel

theorem witness_events : BarOpen base ∧ RegsWf base ∧ RegMap.usedSource 0 = true ∧ RegMap.usedSource 255 = true ∧
    RegMap.usedSource 254 = true ∧ evtEnabled { base with regs := [(0x010060, 0)] } 0 = false ∧ evtEnabled (ringing 1) 5 = true ∧ (ringing 1).evt.enabled = true ∧
    (ringing 1).evt.held.length < 256 ∧ (0x010040 : BitVec 24).toNat % 4 = 0 ∧ (0x01007C : BitVec 24).toNat < 0x010080 := by
  unfold BarOpen HostOpen RegsWf; decide +kernel

/-! ### Steps -/

/-- A step takes the front of the queue, and the idle tick counts a nanosecond (log entry 11). -/
theorem test_step_order : (match step { base with pending := [.snap, .ready] } with | .next t => t.pending == [.ready] | _ => false) = true ∧
    (match step base with | .next t => t.tim.up == base.tim.up + 1 | _ => false) = true := by decide +kernel

/-- CRC-32C of the nine bytes "123456789" is 0xE3069283 (the check value of the worked example of 15_check_values). -/
theorem test_crc32c : Check.absorbAll 0x82F63B78 0xFFFFFFFF [0x31, 0x32, 0x33, 0x34, 0x35, 0x36, 0x37, 0x38, 0x39] ^^^ 0xFFFFFFFF = 0xE3069283 := by
  decide +kernel

/-! ### Witnesses: further premises of the statements -/

/-- DEN.LD waits in a forage for a density not yet formed, and not outside the window nor in a write; a forage's coverage is kept. -/
theorem witness_density : densityWaits foraging .forage 0 0 = true ∧ densityWaits foraging .forage 0 9999 = false ∧
    densityWaits writing .write 0 0 = false ∧ (passStripe (holding 143 held0) .forage).isSome = true ∧ DramWf (holding 143 held0) ∧
    task0.mode = 1 ∧ task0.margin = false := by
  unfold DramWf; decide +kernel

theorem witness_part_faults : engPowered base 143 = true ∧ (base.eng[143]).testing = false ∧ (base.eng[143]).hadPart = false ∧
    (base.eng[143]).pc < 2048 ∧ sparable writing [145, 144] 146 = false := by decide +kernel

/-- In mode 0 two active edges at once are illegal and one beside an edge that is not active is none; a write without a cause that
waits for its tick, whose slice has not failed to gather. -/
theorem witness_pairs : edgeIllegal base.axes[0] false true = true ∧
    (∃ l, edgeIllegal (onAxis 0 (fun x => { x with ctl := 0x00080002 }) base).axes[0] false l = false) ∧ base.job.write = none ∧
    (∀ c, c ∈ write0.causes → c.tick = none) ∧ write0.causes = [] ∧ gatherFailed write0 3 0 = false :=
  ⟨by decide +kernel, ⟨false, by decide +kernel⟩, rfl, fun _ h => absurd h (List.not_mem_nil), rfl, by decide +kernel⟩

/-- A return lane with its lock while a write drains, alone and beside others; a module without a live write. -/
theorem witness_return_lanes : (lane linked (laneOf 15 17)).lock = true ∧ (lane linked (laneOf 15 17)).absent = false ∧
    writeLive linked = false ∧ writeLive { drained with job := { drained.job with write := some { write0 with st := .draining, ending := some ownEnd } } } = false ∧
    (let s := onBlk (fun b => { b with lanes := b.lanes.mapFinIdx (fun i x _ => { x with absent := decide (i < 270) }) }) drained
     counted s 15 = true ∧ ∀ q : Fin 16, q.val ≠ 15 → counted s q.val = false) ∧ drained.job.write.isSome = true := by decide +kernel

/-- Self-refresh: groups in each state with the channels that wait for them, and open groups. -/
theorem witness_groups : RegsWf trained ∧ (∀ c, c ∈ ([15, 14] : List Nat) → c < 16) ∧ trained.mem.groups[3] ≠ .entering ∧
    trained.mem.groups[3] ≠ .exiting ∧ trained.mem.groups[3] ≠ .asleep ∧ (∀ g : Fin 4, groupOpen host g.val = true) ∧
    (∀ g : Fin 4, groupOpen (paged false .fetching) g.val = true) ∧ (∀ g : Fin 4, powered base (20 + g.val) = true) := by
  unfold RegsWf; decide +kernel

theorem witness_time_units : base.tim.frac < nsUnits ∧ base.tim.rate.natAbs ≤ 128000000 ∧ base.tim.rate = 0 ∧
    (served 3 0).tim.large = [] ∧ (served 3 2).tim.large ≠ [] ∧ (served 3 0).tim.st ≠ 0 := by decide +kernel

/-- A load whose read fails, on a channel that its command owns and on one that none does; a second read while the host is unreachable. -/
theorem witness_table_reads : tableReads (queued host (entryOf 5 3 0 [])) 11 5 = true ∧
    (let s := queued host (entryOf 5 3 0 [])
     tableReads { s with dma := upd s.dma 12 (fun x => { x with st := 2, owner := 5 }) } 12 5 = true) ∧
    reachable base = false ∧ 2 ^ 39 - 64 + 64 ≤ 2 ^ 39 ∧ foraging.job.st ≠ 0 ∧ (0x010042 : Nat) % 4 + 2 ≤ 4 := by decide +kernel

/-- Program images whose target is not their kind's, and a table at an address or of a length that is not a multiple of 64. -/
theorem witness_load_intake :
    byteAt (loadEntry 6 128) 16 = 6 ∧ byteAt (loadEntry 7 128) 16 = 7 ∧ bodyReserved (loadEntry 6 128) = true ∧
    bodyReserved (loadEntry 7 128) = true ∧ byteAt (loadEntry 6 128) 9 = 0 ∧ zeros (loadEntry 6 128) 10 2 = true ∧
    1 ≤ byteAt (loadEntry 5 100) 16 ∧ byteAt (loadEntry 5 100) 16 ≤ 5 ∧ field (loadEntry 5 100) 32 4 % 64 ≠ 0 ∧
    bodyReserved (loadEntry 5 100) = true := by decide +kernel

/-- Device addresses that are served, of a frozen channel and beside it, and those that are not. -/
theorem witness_served : rangeServed (chan 14 0 none) 128 64 = true ∧ rangeServed (onMem 0 (fun x => { x with st := 6 }) trained) 0 64 = false ∧
    rangeServed (onMem 1 (fun x => { x with st := 6 }) trained) 0 64 = true ∧ (0 : Nat) ≠ (1 : Fin 3).val := by
  have fits (n : Nat) (h : n ≤ 2 ^ 39) : decide (n ≤ dramSize) = true := decide_eq_true (Nat.le_trans h dram_least)
  unfold rangeServed
  rw [fits _ (by decide), fits _ (by decide)]
  decide +kernel

/-- A frame that the executing forage asked for and one of a command that has ended; no state waits to be saved. -/
theorem witness_frames : (frameOf (paged true .fetching) 0).map (·.seq) = some 9 ∧ passSeq (paged true .fetching) .forage = 9 ∧
    passSeq { paged true .fetching with job := { foraging.job with forage := some { forage0 with seq := 10 } } } .forage ≠ 9 ∧
    (∀ k : Fin 4, ((paged false .resident).intake.dec[k]).saving = none) := by decide +kernel

/-- Headers with a version or flags that are not defined and with a top that the index does not hold; cells behind the top cell that
breach the index, an identifier and a box, and one that does not. -/
theorem witness_definitions : let s := walk [0x20, 3, 0, 0, 2, 2] { inside 1 with stack := [], topDone := true }
    gives (readHeader [2, 0, 1]) ((2, 0, 1), []) = true ∧ gives (readHeader [1, 2, 1]) ((1, 2, 1), []) = true ∧
    gives (readHeader [1, 0, 9]) ((1, 0, 9), []) = true ∧ (∀ e, e ∈ boundCells s → e.id ≠ 9) ∧
    recordHere s .forage ⟨0, 0⟩ 0x20 [3, 0, 0, 2, 2] = true ∧ gives (readCell [3, 0, 0, 2, 2]) ((3, ⟨0, 0, 1, 1⟩), []) = true ∧
    gives (readCell [3, 2, 0, 0, 2]) ((3, ⟨1, 0, 0, 1⟩), []) = true ∧ gives (readCell [0, 0, 0, 2, 2]) ((0, ⟨0, 0, 1, 1⟩), []) = true ∧
    cell1.beginPage = 0 ∧ cell1.beginOff = 0 ∧ cell1.id ≠ 3 ∧
    recordHere (walk ([0, 0, 0, 0, 0, 0x20, 3, 0, 0, 2, 2]) { inside 1 with stack := [], topDone := true, next := ⟨0, 5⟩ })
      .forage ⟨0, 5⟩ 0x20 [3, 0, 0, 2, 2] = true ∧ (∀ e, e ∈ boundCells s → e.beginPage = 0 → e.beginOff ≠ 5) ∧
    (∀ e, e ∈ boundCells s → e.id ≠ 3) ∧ 3 ∉ (inside 1).extra ∧ recordHere (walk [0x10, 1, 2, 1] Exp.start) .forage ⟨0, 0⟩ 0x10 [1, 2, 1] = true ∧
    (open0 0 1).indexed = true ∧ (open0 0 1).placed = true ∧
    recordHere (walk [0x00] { inside 1 with stack := [], topDone := true }) .forage ⟨0, 0⟩ 0x00 [] = true := by decide +kernel

/-- Curves whose segments breach R78, that have no arc, and that end in a KIND that is not defined; a write whose walk may halt. -/
theorem witness_bad_curves :
    (match readCurve [2, 0, 0, 0, 4, 0, 0] with
      | .ok ((n, _, l, bad), []) => n == 2 && !bad && (curveSegs (0, 0) (0, 0) l).all (fun g => segFault g.1 g.2 == none && !g.1.arc)
      | _ => false) = true ∧
    (match readCurve [2, 0, 0, 1, 0, 16, 16, 16, 0, 0, 0] with
      | .ok ((_, _, l, _), []) => (curveSegs (0, 0) (0, 0) l).findSome? (fun g => segFault g.1 g.2) == some 0x16
      | _ => false) = true ∧
    (∀ n : Fin 16, (writing.blk.ports[n]).final = none) := by decide +kernel


/-! ### Worked examples of the spec -/

/-- The page of 02_gwezha_stream's worked example: content, image and check value. -/
def exContent : Bytes :=
  [0x10, 0x01, 0x00, 0x01, 0x20, 0x01, 0x00, 0x00, 0x80, 0x08, 0x80, 0x06, 0x30, 0x00, 0x00, 0x80, 0x04, 0x80, 0x01, 0x31, 0x00, 0x80,
    0x04, 0x21, 0x11, 0x01]
def exHead : Bytes := [0x47, 0x57, 0x01, 0x03, 0x1E, 0, 0, 0, 0x1A, 0, 0, 0, 0, 0, 0, 0]
def exImage : Bytes := exHead ++ [0x19, 0, 0, 0] ++ exContent ++ [0xE0, 0x3C, 0xEB, 0x3D] ++ List.replicate 14 0

theorem test_example_page : exImage.length = 64 ∧ imageOk exImage 0 = true ∧
    gives (decodePage exImage 0 1 64 true true []) exContent = true := by decide +kernel

/-- The running values of the example's check (R53). -/
theorem test_example_check : Check.start Check.poly32c true 0 = 0x73D74D75 ∧
    Check.absorbAll Check.poly32c 0x73D74D75 exHead = 0x577EED17 := by decide +kernel

/-- Three RECT_SAME records as one LZ block (02_gwezha_stream). -/
theorem test_example_lz : gives (blocks 20 12 12 0 [] [0x0B, 0, 1, 0, 0x44, 0x31, 0, 0x80, 4, 3, 0, 0])
    [4, 0x80, 0, 0x31, 4, 0x80, 0, 0x31, 4, 0x80, 0, 0x31] = true := by decide +kernel

/-- The crossings of the arc of 04_rasterization on scanlines 80 to 87. -/
theorem test_example_arc : [80, 81, 82, 83, 84, 85, 86, 87].map
      (fun k => (arcCross ⟨32, 11, 0, 11, 0, 10, 16384⟩ (scanY 0 k)).map (·.1)) =
    [8, 80, 239, 512, 939, 1593, 2634, 4608].map some := by decide +kernel

/-- The triangle and the rectangle of 04_rasterization on scanlines 0 and 171. -/
theorem test_example_cover :
    let at_ (k : Nat) : List Crossing :=
      [((0 : Int), (0 : Int), (96 : Int), (0 : Int), (0 : Nat)), (96, 0, 0, 32, 0), (0, 32, 0, 0, 0), (16, 0, 48, 0, 1), (48, 0, 48, 16, 1),
        (48, 16, 16, 16, 1), (16, 16, 16, 0, 1)].filterMap
        (fun e => (lineCross e.1 e.2.1 e.2.2.1 e.2.2.2.1 (scanY 0 k)).map (fun c => ⟨k, c.1, c.2, e.2.2.2.2⟩))
    lengthIn (scanInside 2097152 (at_ 0)) 0 8192 = 8192 ∧ lengthIn (scanInside 2097152 (at_ 171)) 0 8192 = 24528 - 96 * 171 := by
  decide +kernel

/-- The slot codes of beam 153 607 (06_beam_map_and_passes), and F_STRIPE of 50 782 segments. -/
theorem test_example_codes : slotCode 2278 10923 33096 (-3) = (3065, false, false) ∧ slotCode 0 10923 33096 (-3) = (0, false, false) ∧
    slotCode 1 10923 33096 (-3) = (0, true, false) ∧ slotCode 3100 10923 33096 (-3) = (4095, false, true) ∧
    slotCode 2278 10923 32440 2 = (3009, false, false) ∧ flashesOf 50782 = 2032800 ∧ pixelRow 0 50782 2000 300 = some 11120 ∧
    pixelRow 0 50782 2399 300 = some 11139 := by decide +kernel

/-- Flash 3 of 07_stage_lock. -/
theorem test_example_flash : yCorr 0 10078178 10066329 = 1 ∧ deflWord 3 1 24 = 0x00103003 := by decide +kernel

/-- PLAN_MIN of 11_jobs_and_exposure_accounting, and the first segment that the resume renders. -/
theorem test_example_plan : planMin base 18048 (planRight 88 142 90 false) = 730 ∧ planMin base 18048 (planRight 100 144 90 false) = 633 ∧
    firstSegment (some 1234567) = 30830 := by decide +kernel

/-- The fill of 12_memory: its box in pixels, its rows as stored and its length. -/
theorem test_example_fill :
    let row (v : Nat) : List Nat := List.replicate 4 v ++ List.replicate 4 0 ++ List.replicate 4 v
    boxPixels ⟨7616, 1000, 8000, 1512⟩ = (238, 31, 12, 17) ∧
    encodeRow 3 (List.replicate 12 0) (row 0x180000) = (false, [0x43, 0, 0, 0x18, 0x03, 0x43, 0, 0, 0x18]) ∧
    encodeRow 3 (row 0x200000) (row 0x200000) = (false, [0x0B]) := by decide +kernel

/-- The word tail of 10_kolben_instructions: RSHR by 10, then MULSH by 14 clamped to 4 095. -/
theorem test_example_tail :
    let s := onEng 0 (fun x => { x with a := (x.a.set 0 [1747632, 2097152]).set 2 [15565, 40000] }) base
    (match execKRshr 0 0 0 0 10 s with
     | .next t => (match execKMulsh 0 0 0 0 2 14 4095 t with
       | .next u => ((u.eng[0]).v[0]).take 2 == [1622, 4095] && ((t.eng[0]).v[0]).take 2 == [1707, 2048] && (u.eng[0]).pc == 3
       | _ => false)
     | _ => false) = true := by decide +kernel

/-- The first entry of 18_events_and_faults' example. -/
theorem test_example_event :
    let h : HeldEvent := { id := 0, test := false, source := 165, stamp := 0x1C4F0A30, info := 107, cseq := 5113 }
    evtEntryBytes { base with evt := { base.evt with eseq := 48213, phase := true } } h =
      [0xA5, 0, 1, 0, 0x30, 0x0A, 0x4F, 0x1C, 0, 0, 0, 0, 0x6B, 0, 0, 0, 0xF9, 0x13, 0, 0, 0, 0, 0, 0, 0x55, 0xBC, 0, 0, 0, 0, 0, 0] := by
  decide +kernel

end Sys2Proof.Tests
end

section
/-!
PROOFS. The canonical form of module DRAM, the stored registers and the local memories, kept by every step (O57). One
lemma for each operation of the model says that it keeps the form. Its proof follows the operation's definition: `h.f.g`
is the operation `g` after `f`, `.ite` a choice, and `.same` an update of fields that hold none of the three stores.
-/

namespace Sys2Proof.Machine

set_option Elab.async false

/-! ### The stores in canonical form, as one invariant -/

/-- The local memory of an engine is in its canonical form. -/
def EngWf (x : Engine) : Prop := Sparse.wf (fun _ => (0 : Byte)) x.lmem = true

/-- Module DRAM, the stored registers and the engines' local memories are in their canonical form. -/
structure Canon (s : State) : Prop where
  dram : DramWf s
  regs : RegsWf s
  lmem : LocalWf s

/-- Every state a command answers is canonical; a fault answers none. -/
def NextCanon (o : Host.Outcome State Fault Refusal) : Prop := ∀ t, o = .next t → Canon t

variable {s t : State}

/-- What writes none of the three stores keeps their form. -/
theorem Canon.of_eq (h : Canon s) (hd : t.dram = s.dram) (hr : t.regs = s.regs) (he : t.eng = s.eng) : Canon t := by
  obtain ⟨hdram, hregs, hlmem⟩ := h
  exact ⟨by rwa [DramWf, hd], by rwa [RegsWf, hr], by rwa [LocalWf, he]⟩

/-- `Canon.of_eq` for a state written as an update of other fields, the state before it found without unfolding. -/
theorem Canon.same (h : Canon s) (hd : t.dram = s.dram := by with_reducible rfl)
    (hr : t.regs = s.regs := by with_reducible rfl) (he : t.eng = s.eng := by with_reducible rfl) : Canon t :=
  h.of_eq hd hr he

/-- What writes the engines alone, each to a canonical local memory. -/
theorem Canon.ofFn {f : Fin 148 → Engine} (h : Canon s) (hf : ∀ e, EngWf (f e))
    (hd : t.dram = s.dram := by with_reducible rfl) (hr : t.regs = s.regs := by with_reducible rfl)
    (he : t.eng = Vector.ofFn f := by with_reducible rfl) : Canon t := by
  obtain ⟨hdram, hregs, -⟩ := h
  refine ⟨by rwa [DramWf, hd], by rwa [RegsWf, hr], fun e => ?_⟩
  rw [he, Fin.getElem_fin, Vector.getElem_ofFn]
  exact hf e

theorem Canon.ite {c : Prop} [Decidable c] (h : Canon s) (k : Canon t) : Canon (if c then s else t) := by
  split <;> assumption

theorem Canon.foldl {α : Type} {l : List α} {f : State → α → State} (h : Canon s)
    (hf : ∀ {t x}, Canon t → Canon (f t x)) : Canon (l.foldl f s) := by
  induction l generalizing s with
  | nil => exact h
  | cons x r ih => exact ih (hf h)

theorem NextCanon.next (h : Canon s) : NextCanon (.next s) := fun t e => by
  cases e
  exact h

theorem NextCanon.fault {f} : NextCanon (.fault f) := fun t e => by cases e

theorem NextCanon.ite {c : Prop} [Decidable c] {a b} (h : NextCanon a) (k : NextCanon b) :
    NextCanon (if c then a else b) := by
  split <;> assumption

/-- What a reset makes of each register keeps the file canonical: an offset that reads its reset value is dropped. -/
theorem above_regsAfter {f : Nat → Word → Word} {l : List (Nat × Word)} {lo : Option Nat}
    (h : Sparse.above RegMap.reset lo l = true) : Sparse.above RegMap.reset lo (regsAfter f l) = true := by
  induction l generalizing lo with
  | nil => rfl
  | cons e r ih =>
    obtain ⟨a, w⟩ := e
    simp only [Sparse.above, Bool.and_eq_true, decide_eq_true_eq] at h
    obtain ⟨⟨hlo, -⟩, hr⟩ := h
    have hrest := ih hr
    unfold regsAfter at hrest ⊢
    rw [List.map_cons, List.filter_cons]
    split
    · next hne =>
      simp only [Sparse.above, Bool.and_eq_true, decide_eq_true_eq]
      exact ⟨⟨hlo, by simpa using hne⟩, hrest⟩
    · cases lo with
      | none => exact Sparse.above_none _ _ a hrest
      | some m => exact Sparse.above_weaken _ _ m a hrest (by simp at hlo; omega)

theorem wf_regsAfter {f : Nat → Word → Word} {l : List (Nat × Word)} (h : Sparse.wf RegMap.reset l = true) :
    Sparse.wf RegMap.reset (regsAfter f l) = true := above_regsAfter h

/-! ### The local memory of one engine -/

section Engine
variable {x y : Engine}

theorem EngWf.of_lmem (hx : y.lmem = x.lmem) (h : EngWf x) : EngWf y := by rwa [EngWf, hx]

theorem EngWf.fresh (image : Bytes) : EngWf (Engine.fresh image) := Sparse.wf_setRun _ _ _ _ rfl

theorem EngWf.localWrite {a b} (h : EngWf x) : EngWf (localWrite a b x) := Sparse.wf_setRun _ _ _ _ h

theorem EngWf.engDrop {p image} (h : EngWf x) : EngWf (engDrop p image x) := by
  unfold Machine.engDrop
  split
  · split
    · exact .of_lmem rfl (.fresh image)
    · exact h
  · exact h

theorem canon_reset : Canon State.reset := by
  refine ⟨rfl, rfl, fun e => ?_⟩
  rw [show State.reset.eng = Vector.ofFn _ from rfl, Fin.getElem_fin, Vector.getElem_ofFn]
  exact EngWf.fresh _

@[simp] theorem setG_lmem (r v) : (setG r v x).lmem = x.lmem := by unfold setG; split <;> rfl
@[simp] theorem setGn_lmem (n v) : (setGn n v x).lmem = x.lmem := by unfold setGn; split <;> simp
@[simp] theorem setRunG_lmem (n l) : (setRunG n l x).lmem = x.lmem := by
  induction l generalizing n x with
  | nil => rfl
  | cons v r ih => simp [setRunG, ih]
@[simp] theorem setV_lmem (e m d f) : (setV e m d f x).lmem = x.lmem := rfl
@[simp] theorem setA_lmem (e m d f) : (setA e m d f x).lmem = x.lmem := rfl
@[simp] theorem setM_lmem (e m d f) : (setM e m d f x).lmem = x.lmem := by unfold setM; split <;> rfl
@[simp] theorem satMark_lmem (e m f) : (satMark e m f x).lmem = x.lmem := rfl
@[simp] theorem withHeld_lmem (f) : (withHeld f x).lmem = x.lmem := rfl
@[simp] theorem withSpan_lmem (f) : (withSpan f x).lmem = x.lmem := rfl
@[simp] theorem spanG3_lmem : (spanG3 x).lmem = x.lmem := by simp [spanG3]
@[simp] theorem engTakes_lmem (s e t) : (engTakes s e t x).lmem = x.lmem := by simp [engTakes]
@[simp] theorem engDone_lmem : (engDone x).lmem = x.lmem := rfl

theorem EngWf.setGn {n v} (h : EngWf x) : EngWf (setGn n v x) := .of_lmem (setGn_lmem n v) h

theorem EngWf.entryIn {a b k} (h : EngWf x) : EngWf (entryIn a b k x) := h.localWrite.setGn.setGn
end Engine

/-! ### Registers, memory, events, the journal and completions -/

theorem Canon.setReg {off v} (h : Canon s) : Canon (setReg off v s) :=
  ⟨h.dram, Sparse.wf_set _ _ _ _ h.regs, h.lmem⟩
theorem Canon.setRegN {off v} (h : Canon s) : Canon (setRegN off v s) := h.setReg
theorem Canon.setReg64 {off v} (h : Canon s) : Canon (setReg64 off v s) := h.setRegN.setRegN
theorem Canon.setRegBits {off hi lo v} (h : Canon s) : Canon (setRegBits off hi lo v s) := h.setRegN
theorem Canon.count {off n} (h : Canon s) : Canon (count off n s) := h.setReg

theorem Canon.writeStored {off v} (h : Canon s) : Canon (writeStored off v s) := by
  unfold Machine.writeStored
  split
  · exact h.setReg
  · exact h

theorem Canon.dramWrite {a b} (h : Canon s) : Canon (dramWrite a b s) :=
  ⟨Sparse.wf_setRun _ _ _ _ h.dram, h.regs, h.lmem⟩
theorem Canon.send {o} (h : Canon s) : Canon (send o s) := h.of_eq rfl rfl rfl
theorem Canon.freeNext (h : Canon s) : Canon (freeNext s) := h.of_eq rfl rfl rfl
theorem Canon.setPendingBit {src} (h : Canon s) : Canon (setPendingBit src s) := h.setReg
theorem Canon.oweMessage {vec after} (h : Canon s) : Canon (oweMessage vec after s) := h.of_eq rfl rfl rfl
theorem Canon.formEntry {src info cseq test} (h : Canon s) : Canon (formEntry src info cseq test s) :=
  .ite h.oweMessage (.ite h.same.oweMessage h.same.count)
theorem Canon.raiseAs {test src info cseq} (h : Canon s) : Canon (raiseAs test src info cseq s) :=
  .ite (.ite h.setPendingBit.formEntry h.setPendingBit) h
theorem Canon.raise {src info cseq} (h : Canon s) : Canon (raise src info cseq s) := h.raiseAs
theorem Canon.updChan {c f} (h : Canon s) : Canon (updChan c f s) := h.of_eq rfl rfl rfl
theorem Canon.dmaStop {c code} (h : Canon s) : Canon (dmaStop c code s) := h.updChan.raise
theorem Canon.dropReads (h : Canon s) : Canon (dropReads s) := h.of_eq rfl rfl rfl
theorem Canon.stopRuns {p} (h : Canon s) : Canon (stopRuns p s) := h.of_eq rfl rfl rfl
theorem Canon.hifWrite {f} (h : Canon s) (hf : ∀ {t}, Canon t → Canon (f t)) : Canon (hifWrite f s) :=
  .ite (hf h) h
theorem Canon.barWrite {f} (h : Canon s) (hf : ∀ {t}, Canon t → Canon (f t)) : Canon (barWrite f s) :=
  .ite h (h.hifWrite hf)
theorem Canon.exportLog {kind b} (h : Canon s) : Canon (exportLog kind b s) := .ite h.send h
theorem Canon.journalPut {r} (h : Canon s) : Canon (journalPut r s) := h.same.exportLog

theorem Canon.journalCopies {n} (h : Canon s) : Canon (journalCopies n s) := by
  induction n generalizing s with
  | zero => exact h
  | succ n ih =>
    unfold Machine.journalCopies
    split
    · exact ih h.journalPut.raise
    · exact h

theorem Canon.journalCopy (h : Canon s) : Canon (journalCopy s) := h.journalCopies
theorem Canon.journalAdd {kind opcode status cause cseq detail body} (h : Canon s) :
    Canon (journalAdd kind opcode status cause cseq detail body s) := h.journalCopy.journalPut
theorem Canon.complete {c} (h : Canon s) : Canon (complete c s) := .ite h.same h
theorem Canon.budgetNote {e cls seq} (h : Canon s) : Canon (budgetNote e cls seq s) := .ite h.count.raise h
theorem Canon.finish {seq e} (h : Canon s) : Canon (finish seq e s) := h.journalAdd.same.complete
theorem Canon.setPhase {seq p} (h : Canon s) : Canon (setPhase seq p s) := h.of_eq rfl rfl rfl
theorem Canon.startTdc {q} (h : Canon s) : Canon (startTdc q s) := h.of_eq rfl rfl rfl

/-! ### Engines from outside -/

theorem Canon.updEng {e f} (h : Canon s) (hf : ∀ x, EngWf x → EngWf (f x) := by exact fun _ k => k) :
    Canon (updEng e f s) := by
  refine ⟨h.dram, h.regs, fun k => ?_⟩
  rw [updEng_eng, upd_fin]
  split
  · exact hf _ (h.lmem k)
  · exact h.lmem k

theorem Canon.taskBack {e t} (h : Canon s) : Canon (taskBack e t s) := .ite h.same.count h.same.count.raise

theorem Canon.engResetWith {mark e} (h : Canon s) : Canon (engResetWith mark e s) := by
  unfold Machine.engResetWith
  extract_lets s1
  have h1 : Canon s1 := h.updEng fun _ _ => .of_lmem rfl (.fresh _)
  split
  · exact h1.taskBack
  · exact h1

theorem Canon.engReset {e} (h : Canon s) : Canon (engReset e s) := h.engResetWith
theorem Canon.combCheck {b e} (h : Canon s) : Canon (combCheck b e s) := .ite h.raise h
theorem Canon.engFail {e} (h : Canon s) : Canon (engFail e s) := h.updEng.raise.combCheck
theorem Canon.testBegin {e} (h : Canon s) : Canon (testBegin s e) := h.engReset.updEng.combCheck
theorem Canon.waitingTests (h : Canon s) : Canon (waitingTests s) := h.foldl (fun k => k.testBegin)

theorem Canon.dropPass {p} (h : Canon s) : Canon (dropPass p s) := by
  unfold Machine.dropPass
  exact h.ofFn fun e => .engDrop (h.lmem e)

/-! ### Throttling -/

theorem Canon.stepRise (h : Canon s) : Canon (stepRise s) := h.same.count.raise

theorem Canon.stepUp {n} (h : Canon s) : Canon (stepUp n s) := by
  induction n generalizing s with
  | zero => exact h
  | succ n ih => exact .ite (ih h.stepRise) h

theorem Canon.stepDown (h : Canon s) : Canon (stepDown s) := .ite h.same.raise h
theorem Canon.throttle (h : Canon s) : Canon (throttle s) := .ite h.stepUp h.stepUp.stepDown

/-! ### The account of a write -/

theorem Canon.updLane {w f} (h : Canon s) : Canon (updLane w f s) := h.of_eq rfl rfl rfl
theorem Canon.setWrite {f} (h : Canon s) : Canon (setWrite f s) := h.of_eq rfl rfl rfl
theorem Canon.updTile {col seg f} (h : Canon s) : Canon (updTile col seg f s) := h.of_eq rfl rfl rfl
theorem Canon.slowCheck (h : Canon s) : Canon (slowCheck s) := .ite h.same.raise (.ite h.same.raise h)

theorem Canon.refreshFrontier (h : Canon s) : Canon (refreshFrontier s) := by
  unfold Machine.refreshFrontier
  split
  · exact h
  · split
    · exact .ite h h.same.raise
    · exact h.same.same

theorem Canon.endWalk (h : Canon s) : Canon (endWalk s) := by
  unfold Machine.endWalk
  exact h.stopRuns.same

theorem Canon.captureEnd {seq} (h : Canon s) : Canon (captureEnd seq s) := .ite h.same.setRegN.raise h

theorem Canon.writeCleared {seq} (h : Canon s) : Canon (writeCleared seq s) := by
  unfold Machine.writeCleared
  exact h.dropPass.endWalk.captureEnd.same

theorem Canon.haltCleared {seq} (h : Canon s) : Canon (haltCleared seq s) := by
  unfold Machine.haltCleared
  exact h.dropPass.endWalk.captureEnd.same

theorem Canon.freeSlot {f} (h : Canon s) : Canon (freeSlot f s) := h.of_eq rfl rfl rfl

theorem Canon.waitingTdc (h : Canon s) : Canon (waitingTdc s) := by
  unfold Machine.waitingTdc
  split
  · exact h.startTdc
  · exact h

theorem Canon.abortLive (h : Canon s) : Canon (abortLive s) := by
  unfold Machine.abortLive
  extract_lets s1 _ s2 s3 _ _
  have h1 : Canon s1 := h.foldl (fun k => k.finish)
  have h2 : Canon s2 := by
    unfold s2
    split
    · exact h1.same.raise
    · exact h1
  exact h2.dropPass.same

theorem Canon.endWrite (h : Canon s) : Canon (endWrite s) := by
  unfold Machine.endWrite
  split
  · exact h
  · extract_lets _ _ s0 s1 s2 s3
    have h1 : Canon s1 := h.same.finish.budgetNote
    have h2 : Canon s2 := .ite h1.freeSlot.raise h1
    have h3 : Canon s3 := h2.writeCleared.slowCheck.stepDown
    exact .ite h3.abortLive h3.waitingTests.waitingTdc

theorem Canon.sendAll {b} (h : Canon s) : Canon (sendAll b s) := h.foldl (fun k => k.send)
theorem Canon.idleAll {n} (h : Canon s) : Canon (idleAll n s) := h.foldl (fun k => k.send)
theorem Canon.sendStripeEnd {halted} (h : Canon s) : Canon (sendStripeEnd halted s) :=
  (Canon.ite h.idleAll h).sendAll

theorem Canon.beginDrain {halted} (h : Canon s) : Canon (beginDrain halted s) := by
  unfold Machine.beginDrain
  extract_lets s1 s2 _
  have h1 : Canon s1 := .ite h.sendStripeEnd h
  exact .ite h1.setWrite.same h1.setWrite

theorem Canon.enterRest (h : Canon s) : Canon (enterRest s) := (h.foldl (fun k => k.send)).same.raise

theorem Canon.endDrain {final} (h : Canon s) : Canon (endDrain final s) := by
  unfold Machine.endDrain
  extract_lets _ s1 s2 _ s3
  have h2 : Canon s2 := .ite h.same.raise h.same.raise.count
  have h3 : Canon s3 := .ite (.ite h2.enterRest h2.same) h2
  exact h3.endWrite

theorem Canon.linkHeld (h : Canon s) : Canon (linkHeld s) := h.of_eq rfl rfl rfl
theorem Canon.drainCheck (h : Canon s) : Canon (drainCheck s) := .ite h.endDrain h

theorem Canon.haltNow {c} (h : Canon s) : Canon (haltNow c s) := by
  unfold Machine.haltNow
  extract_lets _ s1 _ s2 _ s3 s4 s5
  have h2 : Canon s2 := h.setWrite.setRegN
  have h5 : Canon s5 := .ite h2.same.raise.raise h2.same.raise
  exact h5.raise.haltCleared.beginDrain.refreshFrontier.slowCheck

theorem Canon.haltCheck (h : Canon s) : Canon (haltCheck s) := by
  unfold Machine.haltCheck
  split
  · exact h
  · split
    · exact h
    · split
      · exact h.haltNow.drainCheck
      · exact h

theorem Canon.causesBy {tau} (h : Canon s) : Canon (causesBy tau s) := h.setWrite

theorem Canon.ticksTo {tau} (h : Canon s) : Canon (ticksTo tau s) := by
  unfold Machine.ticksTo
  split
  · exact .ite h.causesBy.haltCheck h
  · exact h

theorem Canon.addCause {c} (h : Canon s) : Canon (addCause c s) := .ite h.setWrite.haltCheck h

theorem Canon.raiseFirst {p src info} (h : Canon s) : Canon (raiseFirst p src info s) := by
  unfold Machine.raiseFirst
  split
  · split
    · exact .ite h h.setWrite.raise
    · exact h
  · split
    · exact .ite h h.same.raise
    · exact h

theorem Canon.linkInfo {cause window} (h : Canon s) : Canon (linkInfo cause window s) := h.setRegN
theorem Canon.linkCause {cause event window code} (h : Canon s) : Canon (linkCause cause event window code s) :=
  .ite h.linkInfo.raise.addCause h
theorem Canon.ackCause {cause event window code} (h : Canon s) : Canon (ackCause cause event window code s) :=
  .ite h.linkInfo.setWrite.raise.raise (.ite h.linkCause h.raiseFirst)

/-! ### DRAM channels -/

theorem Canon.updMem {c f} (h : Canon s) : Canon (updMem c f s) := h.of_eq rfl rfl rfl
theorem Canon.updGroupCh {g f} (h : Canon s) : Canon (updGroupCh g f s) :=
  h.of_eq (updGroupCh_dram g f s) (updGroupCh_regs g f s) (updGroupCh_eng g f s)
theorem Canon.setGroup {g x} (h : Canon s) : Canon (setGroup g x s) := h.of_eq rfl rfl rfl

theorem Canon.trainChannels {which l} (h : Canon s) : Canon (trainChannels which l s) := by
  unfold Machine.trainChannels
  extract_lets _ s1 s2
  have h1 : Canon s1 := ⟨Sparse.wf_filter _ _ _ h.dram, h.regs, h.lmem⟩
  have h2 : Canon s2 := h1.foldl fun k => k.raise
  exact .ite h2.raise h2

theorem Canon.dqsTrack {c drift} (h : Canon s) : Canon (dqsTrack c drift s) := .ite h.updMem h

theorem Canon.refreshBank {c bank how} (h : Canon s) : Canon (refreshBank c bank how s) := by
  unfold Machine.refreshBank
  extract_lets _
  split
  · exact h
  · split
    · exact h.send
    · exact .ite h.updMem h.send
    · exact .ite h.updMem.send h

theorem Canon.refreshRate {c hot} (h : Canon s) : Canon (refreshRate c hot s) := .ite h.updMem.raise h
theorem Canon.rowActivation {c bank row} (h : Canon s) : Canon (rowActivation c bank row s) :=
  .ite h (.ite h.updMem h.updMem.send.count)
theorem Canon.ratClear (h : Canon s) : Canon (ratClear s) := h.of_eq rfl rfl rfl
theorem Canon.forageHit {e} (h : Canon s) : Canon (forageHit e s) := h.of_eq rfl rfl rfl
theorem Canon.freeze {c kind cls line} (h : Canon s) : Canon (freeze c kind cls line s) :=
  h.updMem.setRegN.setReg64.raise.forageHit.addCause
theorem Canon.readError {c line correctable} (h : Canon s) : Canon (readError c line correctable s) :=
  .ite h (.ite h.freeze (.ite h.count.updMem.raise h.count))
theorem Canon.writeCrc {c line again} (h : Canon s) : Canon (writeCrc c line again s) :=
  .ite h (.ite h.count.freeze h.count)
theorem Canon.caParity {c line} (h : Canon s) : Canon (caParity c line s) := .ite h.freeze h

theorem Canon.patrol {c corrected bad} (h : Canon s) : Canon (patrol c corrected bad s) := by
  unfold Machine.patrol
  split
  · exact h
  · extract_lets s1
    split
    · exact .ite h.count.freeze h.count
    · exact h.count

theorem Canon.groupEnters {g} (h : Canon s) : Canon (groupEnters g s) := h.setGroup.updGroupCh
theorem Canon.srIdle {g} (h : Canon s) : Canon (srIdle g s) := .ite h.groupEnters h
theorem Canon.groupWait {g c} (h : Canon s) : Canon (groupWait g c s) := h.same.count
theorem Canon.groupWakes {g c} (h : Canon s) : Canon (groupWakes g c s) := h.setGroup.updGroupCh.groupWait
theorem Canon.srEntered {g request} (h : Canon s) : Canon (srEntered g request s) :=
  .ite h (.ite h.setGroup.updGroupCh.raise.groupWakes.freeNext h.setGroup.updGroupCh.raise)

theorem Canon.addWaits {l} (h : Canon s) : Canon (addWaits l s) := by
  induction l generalizing s with
  | nil => exact h
  | cons x r ih => exact ih h.count

theorem Canon.srExited {g extra} (h : Canon s) : Canon (srExited g extra s) :=
  .ite h h.setGroup.updGroupCh.raise.same.addWaits

theorem Canon.memRequest {c} (h : Canon s) : Canon (memRequest c s) := by
  unfold Machine.memRequest
  extract_lets _
  split
  · exact h.setGroup.updGroupCh.count.raise
  · exact .ite h.groupWakes h
  · exact h.groupWait
  · exact h

theorem Canon.addrRequest {a} (h : Canon s) : Canon (addrRequest a s) := h.memRequest
theorem Canon.rangeRequest {a n} (h : Canon s) : Canon (rangeRequest a n s) := h.foldl (fun k => k.memRequest)
theorem Canon.allRequests (h : Canon s) : Canon (allRequests s) := h.foldl (fun k => k.memRequest)

/-! ### Check-value units -/

theorem Canon.updCrc {u f} (h : Canon s) : Canon (updCrc u f s) := h.of_eq rfl rfl rfl
theorem Canon.crcError {u code} (h : Canon s) : Canon (crcError u code s) := h.updCrc.raise

theorem Canon.crcStart {u} (h : Canon s) : Canon (crcStart u s) := by
  unfold Machine.crcStart
  split
  · exact h.crcError
  · split
    · exact h.crcError
    · exact h.updCrc

theorem Canon.crcAbsorb {u b} (h : Canon s) : Canon (crcAbsorb u b s) := h.updCrc
theorem Canon.crcFeed {u n v} (h : Canon s) : Canon (crcFeed u n v s) :=
  .ite h.crcError (.ite h.crcError h.crcAbsorb)
theorem Canon.crcCompareRun {u run} (h : Canon s) : Canon (crcCompareRun u run s) :=
  .ite h.updCrc h.updCrc.count.raise
theorem Canon.crcCompare {u} (h : Canon s) : Canon (crcCompare u s) :=
  .ite h.crcCompareRun.freeNext h.crcCompareRun
theorem Canon.crcGo {u} (h : Canon s) : Canon (crcGo u s) :=
  .ite h.crcError (.ite h.crcError h.rangeRequest.updCrc)

theorem Canon.crcCtl {u v} (h : Canon s) : Canon (crcCtl u v s) := by
  unfold Machine.crcCtl
  extract_lets s1 s2 s3
  have h2 : Canon s2 := .ite h.writeStored.crcStart h.writeStored
  have h3 : Canon s3 := .ite h2.crcGo h2
  exact .ite h3.crcCompare h3

theorem Canon.crcSetState {u v} (h : Canon s) : Canon (crcSetState u v s) := .ite h.crcError h.updCrc
theorem Canon.crcClear {u v} (h : Canon s) : Canon (crcClear u v s) := .ite h.updCrc h

theorem Canon.crcFeedEnd {u n fail} (h : Canon s) : Canon (crcFeedEnd u n fail s) := by
  unfold Machine.crcFeedEnd
  extract_lets _ _ s1
  have h1 : Canon s1 := h.crcAbsorb.updCrc
  exact .ite h1.crcError (.ite h1.crcCompareRun h1)

/-! ### The event ring and messages -/

theorem Canon.evtEnable (h : Canon s) : Canon (evtEnable s) :=
  .ite h (.ite h.same (.ite h.same h.same.setRegN))
theorem Canon.evtDisable (h : Canon s) : Canon (evtDisable s) := h.of_eq rfl rfl rfl

theorem Canon.writeEntry {x} (h : Canon s) : Canon (writeEntry x s) := by
  unfold Machine.writeEntry
  exact h.send.exportLog.same

theorem Canon.writeNextEntry (h : Canon s) : Canon (writeNextEntry s) := by
  unfold Machine.writeNextEntry
  split
  · split
    · exact h.writeEntry
    · exact h
  · exact h

theorem Canon.emitMessage {vec} (h : Canon s) : Canon (emitMessage vec s) := .ite h (.ite h.same h.send.same)

theorem Canon.sendMessage {vec} (h : Canon s) : Canon (sendMessage vec s) := by
  unfold Machine.sendMessage
  split
  · exact h
  · exact .ite h h.same.emitMessage

/-! ### The blanker link -/

theorem Canon.markAbsent {w} (h : Canon s) : Canon (markAbsent w s) := .ite h h.updLane.raise
theorem Canon.markAll {ws} (h : Canon s) : Canon (markAll ws s) := h.foldl (fun k => k.markAbsent)
theorem Canon.enterHeld {event} (h : Canon s) : Canon (enterHeld event s) := h.linkHeld.raise
theorem Canon.negFail (h : Canon s) : Canon (negFail s) := h.raise.enterHeld
theorem Canon.sendOutbound {b} (h : Canon s) : Canon (sendOutbound b s) := h.foldl (fun k => k.send)
theorem Canon.sendTrain {stage} (h : Canon s) : Canon (sendTrain stage s) :=
  (h.foldl (fun k => k.send)).freeNext
theorem Canon.enterNegotiate (h : Canon s) : Canon (enterNegotiate s) := .ite h.same h.same.sendOutbound

theorem Canon.clearLocks {returns} (h : Canon s) : Canon (clearLocks returns s) := by
  unfold Machine.clearLocks
  exact h.same

theorem Canon.sendRate {rate framing} (h : Canon s) : Canon (sendRate rate framing s) :=
  h.sendOutbound.same.freeNext.sendTrain.clearLocks
theorem Canon.chooseRate (h : Canon s) : Canon (chooseRate s) := .ite h.sendRate (.ite h.sendRate h.negFail)
theorem Canon.advanceStage (h : Canon s) : Canon (advanceStage s) :=
  .ite h.same (.ite h.enterNegotiate (.ite h.same h))
theorem Canon.advance (h : Canon s) : Canon (advance s) := h.advanceStage.advanceStage

theorem Canon.takeEq (h : Canon s) : Canon (takeEq s) := by
  unfold Machine.takeEq
  split
  · exact h
  · exact h.same.same.raise

theorem Canon.bringUp (h : Canon s) : Canon (bringUp s) :=
  h.count.setRegN.same.takeEq.markAll.sendTrain.advance
theorem Canon.train (h : Canon s) : Canon (train s) := .ite h.raise h.bringUp
theorem Canon.stageFail {w} (h : Canon s) : Canon (stageFail w s) := h.count.markAbsent

theorem Canon.stageLimit (h : Canon s) : Canon (stageLimit s) := by
  unfold Machine.stageLimit
  split
  · exact (h.foldl (fun k => k.stageFail)).same.advanceStage
  · exact (h.foldl (fun k => k.stageFail)).enterNegotiate
  · exact .ite h h.negFail
  · exact (h.foldl (fun k => k.stageFail)).same
  · exact h

theorem Canon.refusedInfo (h : Canon s) : Canon (refusedInfo s) := h.setRegN

theorem Canon.wakeRefused (h : Canon s) : Canon (wakeRefused s) := by
  unfold Machine.wakeRefused
  split
  · exact h
  · exact h.refusedInfo.raise.finish.writeCleared.waitingTests.waitingTdc

theorem Canon.assignSpares (h : Canon s) : Canon (assignSpares s) := by
  unfold Machine.assignSpares
  extract_lets _ _ _ s1 s2 _ s3 s3'
  have h2 : Canon s2 := h.same.foldl (fun k => k.count.raise)
  exact .ite (.ite h2.same.raise.beginDrain.refreshFrontier.drainCheck h2.same.raise.refreshFrontier)
    (.ite (.ite h2.enterHeld.wakeRefused h2.enterHeld) h2.enterHeld)

theorem Canon.returnLock {p} (h : Canon s) : Canon (returnLock p s) :=
  .ite h (.ite h.updLane.refreshFrontier h.updLane.advance)
theorem Canon.lostLink {w} (h : Canon s) : Canon (lostLink w s) := .ite h.linkCause h.raise

theorem Canon.returnLoss {p} (h : Canon s) : Canon (returnLoss p s) := by
  unfold Machine.returnLoss
  extract_lets _ s1 s2
  have h2 : Canon s2 := .ite h.updLane h.updLane.count
  exact .ite h (.ite h2.lostLink.refreshFrontier.drainCheck h2)

theorem Canon.discards {p n} (h : Canon s) : Canon (discards p n s) := h.count
theorem Canon.discarded {p} (h : Canon s) : Canon (discarded p s) := h.discards
theorem Canon.statusBlock {p lanes stage} (h : Canon s) : Canon (statusBlock p lanes stage s) :=
  .ite h ((h.foldl (fun k => .ite k.updLane.count k.updLane)).advance)

theorem Canon.capsBlock {p caps version} (h : Canon s) : Canon (capsBlock p caps version s) := by
  unfold Machine.capsBlock
  extract_lets s1 _ s2
  exact .ite h.setRegN (.ite (.ite h.setRegN.same h.setRegN.same.negFail)
    (.ite h.setRegN.same.chooseRate h.setRegN.same))

theorem Canon.listenEnd (h : Canon s) : Canon (listenEnd s) := .ite h.sendRate h
theorem Canon.countReports {p map} (h : Canon s) : Canon (countReports p map s) := h.foldl (fun k => k.count)

theorem Canon.ackTaken {p n flags map} (h : Canon s) : Canon (ackTaken p n flags map s) := by
  unfold Machine.ackTaken
  extract_lets _ _ _ s1 s2 _ s3
  have h1 : Canon s1 := h.same.countReports
  have h2 : Canon s2 := h1.refreshFrontier
  have h3 : Canon s3 := .ite h2.ackCause h2
  exact .ite h.count (.ite h.ackCause h3.drainCheck)

theorem Canon.ackFrame {p ack detail check} (h : Canon s) : Canon (ackFrame p ack detail check s) :=
  .ite h (.ite h.discards (.ite h (.ite h.count.raiseFirst h.ackTaken)))
theorem Canon.drainLimit (h : Canon s) : Canon (drainLimit s) := .ite h.endDrain h
theorem Canon.restNow (h : Canon s) : Canon (restNow s) := .ite h.enterRest h
theorem Canon.beginWake (h : Canon s) : Canon (beginWake s) :=
  (h.foldl (fun k => k.send.send)).same.clearLocks
theorem Canon.wakeNow (h : Canon s) : Canon (wakeNow s) := .ite h.beginWake h
theorem Canon.wakeAtBoundary (h : Canon s) : Canon (wakeAtBoundary s) :=
  .ite h.takeEq.beginWake (.ite h.enterRest.takeEq.beginWake h)
theorem Canon.wakeEnd (h : Canon s) : Canon (wakeEnd s) := .ite ((h.foldl (fun k => k.stageFail)).same) h

theorem Canon.coreCtl {v} (h : Canon s) : Canon (coreCtl v s) :=
  .ite h.train (.ite ((Canon.ite ((Canon.ite h.writeStored.wakeNow h.writeStored).restNow)
    (.ite h.writeStored.wakeNow h.writeStored)).train)
      (.ite ((Canon.ite h.writeStored.wakeNow h.writeStored).restNow)
        (.ite h.writeStored.wakeNow h.writeStored)))

theorem Canon.portReset {p} (h : Canon s) : Canon (portReset p s) :=
  h.same.raise.markAll.addCause.linkHeld.refreshFrontier.drainCheck

theorem Canon.portOff {p} (h : Canon s) : Canon (portOff p s) := by
  unfold Machine.portOff
  extract_lets s1
  have h1 : Canon s1 := h.markAll.lostLink
  exact (Canon.ite h1 h1.linkHeld).refreshFrontier.drainCheck

theorem Canon.execAcknowledgementFrame {p ack detail check} (h : Canon s) :
    NextCanon (execAcknowledgementFrame p ack detail check s) :=
  .ite (.next h.ackFrame) .fault

/-! ### The command and completion rings -/

theorem Canon.updJob {f} (h : Canon s) : Canon (updJob f s) := h.of_eq rfl rfl rfl
theorem Canon.cmdRingOn (h : Canon s) : Canon (cmdRingOn s) := .ite h (.ite h.updJob h.updJob)
theorem Canon.cplRingOn (h : Canon s) : Canon (cplRingOn s) := .ite h (.ite h.updJob h.updJob)
theorem Canon.cmdRingOff (h : Canon s) : Canon (cmdRingOff s) := h.updJob
theorem Canon.cplRingOff (h : Canon s) : Canon (cplRingOff s) := h.updJob
theorem Canon.ringRestart (h : Canon s) : Canon (ringRestart s) := .ite h.updJob h

theorem Canon.ringCtl {v} (h : Canon s) : Canon (ringCtl v s) := by
  unfold Machine.ringCtl
  extract_lets s1 s2
  have h1 : Canon s1 := .ite h.cmdRingOn h.cmdRingOff
  have h2 : Canon s2 := .ite h1.cplRingOn h1.cplRingOff
  exact .ite h2.ringRestart h2

theorem Canon.indexRange (h : Canon s) : Canon (indexRange s) := h.updJob.raise
theorem Canon.cmdDoorbell {v} (h : Canon s) : Canon (cmdDoorbell v s) := .ite h.indexRange h.updJob
theorem Canon.cplReturn {v} (h : Canon s) : Canon (cplReturn v s) := .ite h.indexRange h.updJob
theorem Canon.postCpl {c} (h : Canon s) : Canon (postCpl c s) := h.send.updJob.raise

theorem Canon.postNext (h : Canon s) : Canon (postNext s) := by
  unfold Machine.postNext
  split
  · exact h
  · exact .ite h (.ite (.ite h h.updJob.raise) h.postCpl)

/-! ### The bellows -/

theorem Canon.wayClear {bucket way} (h : Canon s) : Canon (wayClear bucket way s) := by
  unfold Machine.wayClear
  exact h.dramWrite.same

theorem Canon.hiveEvict {bucket way} (h : Canon s) : Canon (hiveEvict bucket way s) := h.wayClear.count
theorem Canon.hiveSuspect {b} (h : Canon s) : Canon (hiveSuspect s b) := .ite h.hiveEvict.count.raise h

theorem Canon.eccNote {ecc} (h : Canon s) : Canon (eccNote ecc s) := by
  unfold Machine.eccNote
  split
  · exact h.count.raise
  · exact h

theorem Canon.retireSlot {stack} (h : Canon s) : Canon (retireSlot stack s) := h.count.count.same.raise.raise
theorem Canon.releaseTile {col seg} (h : Canon s) : Canon (releaseTile col seg s) := h.updTile.same.slowCheck
theorem Canon.mismatchRecord {id engine second} (h : Canon s) : Canon (mismatchRecord id engine second s) :=
  h.setReg64.setRegN

theorem Canon.failTile {w t} (h : Canon s) : Canon (failTile w t s) := by
  unfold Machine.failTile
  extract_lets _ s1 s2 s2' s3 _ _ _
  have h1 : Canon s1 := h.mismatchRecord
  have h3 : Canon s3 := h1.count.raise.foldl (fun k => k.hiveSuspect)
  exact .ite h1.count.raise.updTile.addCause h3.same

theorem Canon.tileCheck {col seg ecc} (h : Canon s) : Canon (tileCheck col seg ecc s) := by
  unfold Machine.tileCheck
  split
  · split
    · exact h
    · extract_lets s1 _
      split
      · exact h.eccNote.retireSlot.failTile
      · exact .ite h.eccNote.releaseTile h.eccNote.failTile
  · exact h

theorem Canon.clampRecord {f b high} (h : Canon s) : Canon (clampRecord f b high s) :=
  .ite h.same.setRegN.setReg64 h

theorem Canon.clampNotes {n f outs} (h : Canon s) : Canon (clampNotes n f outs s) := by
  unfold Machine.clampNotes
  extract_lets _ _ s1 last
  have h1 : Canon s1 := h.count.count.count
  clear_value last
  split
  · exact h1.clampRecord.raiseFirst
  · exact h1

theorem Canon.captureNote {n f outs} (h : Canon s) : Canon (captureNote n f outs s) := by
  unfold Machine.captureNote
  extract_lets _ _
  split
  · split
    · exact h
    · exact .ite h.same.captureEnd h.same
  · exact h

theorem Canon.freeTiles (h : Canon s) : Canon (freeTiles s) := h.of_eq rfl rfl rfl

theorem Canon.gather {n w} (h : Canon s) : Canon (gather n w s) := by
  unfold Machine.gather
  extract_lets _ _ _ _ _ s1 s2 s3
  have h2 : Canon s2 := h.same.clampNotes.captureNote
  exact .ite h2.freeTiles.addCause h2.freeTiles

theorem Canon.sliceGather {n ecc} (h : Canon s) : Canon (sliceGather n ecc s) := by
  unfold Machine.sliceGather
  split
  · exact h
  · extract_lets _ s1
    split
    · exact h
    · split
      · exact h.eccNote.retireSlot.addCause
      · exact h.eccNote.gather

theorem Canon.capCtl {v} (h : Canon s) : Canon (capCtl v s) := .ite h.writeStored.same h.writeStored.same

/-! ### Scalar and local-memory instructions -/

theorem Canon.faultRecord {e task code} (h : Canon s) : Canon (faultRecord e task code s) :=
  h.setRegN.setReg64.freeNext

theorem Canon.commandFault {e t code} (h : Canon s) : Canon (commandFault e t code s) := by
  unfold Machine.commandFault
  split
  · split
    · exact h.same
    · exact h
  · split
    · exact h.setWrite.addCause
    · exact h

theorem Canon.partMark {e} (h : Canon s) : Canon (partMark e s) := .ite h.engFail h.updEng

theorem Canon.engFault {e task code} (h : Canon s) : Canon (engFault e task code s) := by
  unfold Machine.engFault
  extract_lets k _ s1 s2 s3
  have h1 : Canon s1 := h.faultRecord.raise
  have h3 : Canon s3 := .ite h1.count h1.count.partMark
  clear_value k
  split
  · exact .ite h3.commandFault.updEng.engReset h3.engResetWith
  · exact h3.engReset

theorem Canon.kNextWf {e len slots x} (h : Canon s) (hx : EngWf x) : Canon (kNext e len slots x s) :=
  .ite h.engFault (h.updEng fun _ _ => hx)

theorem Canon.kNext {e len slots x} (h : Canon s) (hx : x.lmem = (s.eng[e]).lmem := by simp) :
    Canon (kNext e len slots x s) :=
  h.kNextWf (.of_lmem hx (h.lmem e))

theorem Canon.kJump {e target x} (h : Canon s) (hx : x.lmem = (s.eng[e]).lmem := by simp) :
    Canon (kJump e target x s) :=
  .ite h.engFault (h.updEng fun _ _ => .of_lmem hx (h.lmem e))

theorem Canon.kPlain {e len slots f} (h : Canon s) (hf : ∀ x, (f x).lmem = x.lmem := by intro x; simp) :
    Canon (kPlain e len slots f s) :=
  .ite (h.kNext (hf _)) h

theorem Canon.kDefined {ok e run} (h : Canon s) (hr : ∀ {t}, Canon t → Canon (run t)) : Canon
  (kDefined ok e run s) :=
  .ite (.ite (hr h) h.engFault) h

theorem Canon.kScalar {e d f} (h : Canon s) : NextCanon (kScalar e d f s) := .next h.kPlain
theorem Canon.kBranch {e off c} (h : Canon s) : NextCanon (kBranch e off c s) :=
  .next (.ite (.ite h.kJump h.kNext) h)

theorem Canon.kLocal {e a off al len f} (h : Canon s)
    (hf : ∀ p x, EngWf x → EngWf (f p x) := by intro p x k; exact .of_lmem (by simp) k) :
    NextCanon (kLocal e a off al len f s) := by
  refine .next (.ite ?_ h)
  split
  · exact h.engFault
  · exact h.kNextWf (hf _ _ (h.lmem e))

theorem Canon.execKAdd {e d a b} (h : Canon s) : NextCanon (execKAdd e d a b s) := h.kScalar
theorem Canon.execKSub {e d a b} (h : Canon s) : NextCanon (execKSub e d a b s) := h.kScalar
theorem Canon.execKAnd {e d a b} (h : Canon s) : NextCanon (execKAnd e d a b s) := h.kScalar
theorem Canon.execKOr {e d a b} (h : Canon s) : NextCanon (execKOr e d a b s) := h.kScalar
theorem Canon.execKXor {e d a b} (h : Canon s) : NextCanon (execKXor e d a b s) := h.kScalar
theorem Canon.execKShl {e d a b} (h : Canon s) : NextCanon (execKShl e d a b s) := h.kScalar
theorem Canon.execKShr {e d a b} (h : Canon s) : NextCanon (execKShr e d a b s) := h.kScalar
theorem Canon.execKSar {e d a b} (h : Canon s) : NextCanon (execKSar e d a b s) := h.kScalar
theorem Canon.execKMul {e d a b} (h : Canon s) : NextCanon (execKMul e d a b s) := h.kScalar
theorem Canon.execKMulhu {e d a b} (h : Canon s) : NextCanon (execKMulhu e d a b s) := h.kScalar
theorem Canon.execKSlt {e d a b} (h : Canon s) : NextCanon (execKSlt e d a b s) := h.kScalar
theorem Canon.execKSltu {e d a b} (h : Canon s) : NextCanon (execKSltu e d a b s) := h.kScalar
theorem Canon.execKMin {e d a b} (h : Canon s) : NextCanon (execKMin e d a b s) := h.kScalar
theorem Canon.execKMax {e d a b} (h : Canon s) : NextCanon (execKMax e d a b s) := h.kScalar
theorem Canon.execKAddi {e d a imm} (h : Canon s) : NextCanon (execKAddi e d a imm s) := h.kScalar
theorem Canon.execKAndi {e d a imm} (h : Canon s) : NextCanon (execKAndi e d a imm s) := h.kScalar
theorem Canon.execKOri {e d a imm} (h : Canon s) : NextCanon (execKOri e d a imm s) := h.kScalar
theorem Canon.execKXori {e d a imm} (h : Canon s) : NextCanon (execKXori e d a imm s) := h.kScalar
theorem Canon.execKShli {e d a n} (h : Canon s) : NextCanon (execKShli e d a n s) := h.kScalar
theorem Canon.execKShri {e d a n} (h : Canon s) : NextCanon (execKShri e d a n s) := h.kScalar
theorem Canon.execKSari {e d a n} (h : Canon s) : NextCanon (execKSari e d a n s) := h.kScalar
theorem Canon.execKMovi {e d imm} (h : Canon s) : NextCanon (execKMovi e d imm s) := h.kScalar
theorem Canon.execKMovhi {e d imm} (h : Canon s) : NextCanon (execKMovhi e d imm s) := h.kScalar
theorem Canon.execKSubi {e d a imm} (h : Canon s) : NextCanon (execKSubi e d a imm s) := h.kScalar
theorem Canon.execKLdw {e d a imm} (h : Canon s) : NextCanon (execKLdw e d a imm s) := h.kLocal
theorem Canon.execKStw {e d a imm} (h : Canon s) : NextCanon (execKStw e d a imm s) :=
  h.kLocal fun _ _ k => k.localWrite
theorem Canon.execKLdh {e d a imm} (h : Canon s) : NextCanon (execKLdh e d a imm s) := h.kLocal
theorem Canon.execKSth {e d a imm} (h : Canon s) : NextCanon (execKSth e d a imm s) :=
  h.kLocal fun _ _ k => k.localWrite
theorem Canon.execKBeq {e a b off} (h : Canon s) : NextCanon (execKBeq e a b off s) := h.kBranch
theorem Canon.execKBne {e a b off} (h : Canon s) : NextCanon (execKBne e a b off s) := h.kBranch
theorem Canon.execKBlt {e a b off} (h : Canon s) : NextCanon (execKBlt e a b off s) := h.kBranch
theorem Canon.execKBge {e a b off} (h : Canon s) : NextCanon (execKBge e a b off s) := h.kBranch
theorem Canon.execKBltu {e a b off} (h : Canon s) : NextCanon (execKBltu e a b off s) := h.kBranch
theorem Canon.execKBgeu {e a b off} (h : Canon s) : NextCanon (execKBgeu e a b off s) := h.kBranch

/-! ### Vector instructions -/

theorem Canon.kVec {e m d f} (h : Canon s) : NextCanon (kVec e m d f s) := .next h.kPlain
theorem Canon.kVecSat {e m d f} (h : Canon s) : NextCanon (kVecSat e m d f s) := .next h.kPlain
theorem Canon.kAccSat {e m d f} (h : Canon s) : NextCanon (kAccSat e m d f s) := .next h.kPlain
theorem Canon.kAcc {e m d f} (h : Canon s) : NextCanon (kAcc e m d f s) := .next h.kPlain
theorem Canon.kMask {e m d f} (h : Canon s) : NextCanon (kMask e m d f s) := .next h.kPlain
theorem Canon.execKVmov {e m d a} (h : Canon s) : NextCanon (execKVmov e m d a s) := h.kVec
theorem Canon.execKVadd {e m d a b} (h : Canon s) : NextCanon (execKVadd e m d a b s) := h.kVec
theorem Canon.execKVsub {e m d a b} (h : Canon s) : NextCanon (execKVsub e m d a b s) := h.kVec
theorem Canon.execKVadds {e m d a b} (h : Canon s) : NextCanon (execKVadds e m d a b s) := h.kVecSat
theorem Canon.execKVsubs {e m d a b} (h : Canon s) : NextCanon (execKVsubs e m d a b s) := h.kVecSat
theorem Canon.execKVmin {e m d a b} (h : Canon s) : NextCanon (execKVmin e m d a b s) := h.kVec
theorem Canon.execKVmax {e m d a b} (h : Canon s) : NextCanon (execKVmax e m d a b s) := h.kVec
theorem Canon.execKVand {e m d a b} (h : Canon s) : NextCanon (execKVand e m d a b s) := h.kVec
theorem Canon.execKVor {e m d a b} (h : Canon s) : NextCanon (execKVor e m d a b s) := h.kVec
theorem Canon.execKVxor {e m d a b} (h : Canon s) : NextCanon (execKVxor e m d a b s) := h.kVec
theorem Canon.execKVbc {e m d b} (h : Canon s) : NextCanon (execKVbc e m d b s) := h.kVec
theorem Canon.execKVidx {e m d} (h : Canon s) : NextCanon (execKVidx e m d s) := h.kVec
theorem Canon.execKVget {e d a b} (h : Canon s) : NextCanon (execKVget e d a b s) := h.kScalar
theorem Canon.execKClra {e m d} (h : Canon s) : NextCanon (execKClra e m d s) := h.kAcc
theorem Canon.execKAadd {e m d a} (h : Canon s) : NextCanon (execKAadd e m d a s) := h.kAccSat
theorem Canon.execKAsub {e m d a} (h : Canon s) : NextCanon (execKAsub e m d a s) := h.kAccSat
theorem Canon.execKAmac {e m d a b} (h : Canon s) : NextCanon (execKAmac e m d a b s) := h.kAccSat
theorem Canon.execKAmacs {e m d a b} (h : Canon s) : NextCanon (execKAmacs e m d a b s) := h.kAccSat
theorem Canon.execKRshr {e m d a n} (h : Canon s) : NextCanon (execKRshr e m d a n s) := h.kVecSat
theorem Canon.execKAmov {e m d a} (h : Canon s) : NextCanon (execKAmov e m d a s) := h.kAcc
theorem Canon.execKAadda {e m d a b} (h : Canon s) : NextCanon (execKAadda e m d a b s) := h.kAccSat
theorem Canon.execKAshr {e m d a n} (h : Canon s) : NextCanon (execKAshr e m d a n s) := h.kAcc
theorem Canon.execKAbc {e m d b} (h : Canon s) : NextCanon (execKAbc e m d b s) := h.kAccSat
theorem Canon.execKCeq {e m d a b} (h : Canon s) : NextCanon (execKCeq e m d a b s) := h.kMask
theorem Canon.execKCltu {e m d a b} (h : Canon s) : NextCanon (execKCltu e m d a b s) := h.kMask
theorem Canon.execKCleu {e m d a b} (h : Canon s) : NextCanon (execKCleu e m d a b s) := h.kMask
theorem Canon.execKAclt {e m d a b} (h : Canon s) : NextCanon (execKAclt e m d a b s) := h.kMask
theorem Canon.execKAceq {e m d a b} (h : Canon s) : NextCanon (execKAceq e m d a b s) := h.kMask
theorem Canon.execKMand {e m d a b} (h : Canon s) : NextCanon (execKMand e m d a b s) := h.kMask
theorem Canon.execKMor {e m d a b} (h : Canon s) : NextCanon (execKMor e m d a b s) := h.kMask
theorem Canon.execKMandn {e m d a b} (h : Canon s) : NextCanon (execKMandn e m d a b s) := h.kMask
theorem Canon.execKMxor {e m d a b} (h : Canon s) : NextCanon (execKMxor e m d a b s) := h.kMask
theorem Canon.execKMcount {e m d a} (h : Canon s) : NextCanon (execKMcount e m d a s) := h.kScalar
theorem Canon.execKVld {e m d a off} (h : Canon s) : NextCanon (execKVld e m d a off s) := h.kLocal
theorem Canon.execKVst {e m d a off} (h : Canon s) : NextCanon (execKVst e m d a off s) :=
  h.kLocal fun _ _ k => k.localWrite
theorem Canon.execKAld {e m d a off} (h : Canon s) : NextCanon (execKAld e m d a off s) := h.kLocal
theorem Canon.execKAst {e m d a off} (h : Canon s) : NextCanon (execKAst e m d a off s) :=
  h.kLocal fun _ _ k => k.localWrite
theorem Canon.execKTapv {e m d a b} (h : Canon s) : NextCanon (execKTapv e m d a b s) := h.kAccSat
theorem Canon.execKReduce {e m d a b k} (h : Canon s) : NextCanon (execKReduce e m d a b k s) := h.kVec
theorem Canon.execKExpand {e m d a b k} (h : Canon s) : NextCanon (execKExpand e m d a b k s) := h.kVec

/-! ### The hive cache -/

theorem Canon.logWrite {p b} (h : Canon s) : Canon (logWrite p b s) := by
  induction b generalizing s p with
  | nil => exact h
  | cons x r ih => exact ih h.dramWrite

theorem Canon.hiveBad {bucket way} (h : Canon s) : Canon (hiveBad bucket s way) := h.hiveEvict.count.raise
theorem Canon.setHit {bucket way} (h : Canon s) : Canon (setHit bucket way s) := h.dramWrite

theorem Canon.hiveLookup {key input second} (h : Canon s) : Canon (hiveLookup key input second s).1 := by
  unfold Machine.hiveLookup
  extract_lets hash bucket ways s1 s2 good
  have h2 : Canon s2 := h.count.foldl fun k => k.hiveBad
  clear_value good
  split
  · exact h.count
  · split
    · split
      · exact h2
      · exact h2.setHit.count
    · split <;> exact h2

theorem Canon.installFill {f entry} (h : Canon s) : Canon (installFill f entry s) := by
  unfold Machine.installFill
  extract_lets _ s1 s2 _ _ s3 _ s4 _
  have h1 : Canon s1 := h.foldl (fun k => k.hiveEvict)
  have h3 : Canon s3 := .ite h1.logWrite.hiveEvict h1.logWrite
  exact h3.dramWrite.same.count

theorem Canon.fillInstall (h : Canon s) : Canon (fillInstall s) := by
  unfold Machine.fillInstall
  split
  · exact h
  · exact .ite h.same h.same.installFill

theorem Canon.hiveFlush (h : Canon s) : Canon (hiveFlush s) := (h.foldl (fun k => k.dramWrite)).same.raise

/-! ### Task and stream instructions -/

theorem Canon.updSlot {f g} (h : Canon s) : Canon (updSlot f g s) := h.of_eq rfl rfl rfl
theorem Canon.takeTask {e t} (h : Canon s) : Canon (takeTask e t s) := .ite h.kNext h

theorem Canon.kHeld {e run} (h : Canon s) (hr : ∀ {x t}, Canon t → Canon (run x t)) :
    Canon (kHeld e run s) := by
  refine .ite ?_ h
  split
  · exact hr h
  · exact h.engFault

theorem Canon.execKTaskWait {e} (h : Canon s) : NextCanon (execKTaskWait e s) := by
  unfold Machine.execKTaskWait
  refine .next ?_
  split
  · split
    · exact h.engFault
    · split
      · exact h.takeTask
      · exact h.updEng
  · exact h

theorem Canon.applySum {n off src info p} (h : Canon s) : Canon (applySum n off src info p s) :=
  .ite h h.count.raiseFirst
theorem Canon.applySums {x} (h : Canon s) : Canon (applySums x s) := h.applySum.applySum.applySum.applySum
theorem Canon.applyFactors {x} (h : Canon s) : Canon (applyFactors x s) := h.of_eq rfl rfl rfl
theorem Canon.densityTile {f x} (h : Canon s) : Canon (densityTile f x s) := h.updSlot
theorem Canon.costTile {f x} (h : Canon s) : Canon (costTile f x s) := .ite h h.updSlot
theorem Canon.signTile {e f x} (h : Canon s) : Canon (signTile e f x s) := h.updSlot
theorem Canon.coverTile {e x} (h : Canon s) : Canon (coverTile e x s) := h.same.dramWrite
theorem Canon.bellowsTile {e x} (h : Canon s) : Canon (bellowsTile e x s) := h.of_eq rfl rfl rfl
theorem Canon.freeList {x} (h : Canon s) : Canon (freeList x s) := .ite h h.same

theorem Canon.deliverTile {e x} (h : Canon s) : Canon (deliverTile e x s) := by
  unfold Machine.deliverTile
  split
  · exact h
  · split
    · exact .ite h.densityTile.costTile h.densityTile.costTile.coverTile
    · exact h.signTile
    · exact .ite h.bellowsTile h.costTile.signTile
    · exact h

theorem Canon.followTask {x} (h : Canon s) : Canon (followTask x s) := .ite h.same (.ite h.same h)

theorem Canon.startCheck {p} (h : Canon s) : Canon (startCheck p s) := by
  unfold Machine.startCheck
  split
  · exact h
  · split
    · exact h.same
    · exact h.same

theorem Canon.taskDone {e h0} (h : Canon s) : Canon (taskDone e h0 s) := by
  unfold Machine.taskDone
  extract_lets _ s1 s2 s2'
  have h1 : Canon s1 := h.applySums.applyFactors.count
  have h2 : Canon s2 := h1.deliverTile.freeList.followTask
  exact .ite h2.kNext (.ite h1.kNext.startCheck h1.kNext)

theorem Canon.openBracket {e x a y rest cell px py orient ox oy box} (h : Canon s) :
    Canon (openBracket e x a y rest cell px py orient ox oy box s) :=
  h.hiveLookup.kNextWf (.setGn (.entryIn (.of_lmem rfl (h.lmem e))))

theorem Canon.inEntry {e p x} (h : Canon s) : Canon (inEntry e p x s) := by
  refine .ite h.engFault ?_
  split
  · exact h.engFault
  · extract_lets a
    split
    · exact h.engFault
    · split
      · exact h.openBracket
      · exact h.kNextWf (.entryIn (.of_lmem rfl (h.lmem e)))

theorem Canon.putFill {e f row} (h : Canon s) : Canon (putFill e f row s) := by
  unfold Machine.putFill
  extract_lets g _ s1
  have h1 : Canon s1 := .ite h.same h
  have he : s1.eng = s.eng := by unfold s1; split <;> rfl
  exact .ite h.kNext (.ite h.count.kNext (h1.kNext (by simp [he])))

theorem Canon.execKHivePut {e p q} (h : Canon s) : NextCanon (execKHivePut e p q s) := by
  refine .next (h.kHeld fun k => ?_)
  split
  · exact k.engFault
  · exact .ite k.engFault k.putFill.freeNext

theorem Canon.insertCrossings {e x new n} (h : Canon s) : Canon (insertCrossings e x new n s) := by
  unfold Machine.insertCrossings
  extract_lets y had total room y1 y2
  have h1 : EngWf y1 := .of_lmem rfl (h.lmem e)
  have h2 : EngWf y2 := by
    unfold y2
    split
    · exact h1.localWrite
    · exact h1
  exact .ite h.count.engFault (h.count.kNextWf h2).freeNext

theorem Canon.xeEdge {e q run} (h : Canon s) (hr : ∀ {x j c t}, Canon t → Canon (run x j c t)) :
    Canon (xeEdge e q run s) := by
  refine h.kHeld fun k => ?_
  split
  · exact k.engFault
  · exact .ite k.engFault (hr k)

theorem Canon.execKSpan4 {e p q} (h : Canon s) : NextCanon (execKSpan4 e p q s) := by
  refine .next (h.kDefined fun k => k.kHeld fun m => ?_)
  extract_lets x
  split
  · exact m.engFault
  · exact .ite m.engFault (m.kNext (by simp [x]))

/-! ### The schedulers -/

theorem Canon.assignTask {e t} (h : Canon s) : Canon (assignTask e t s) := by
  unfold Machine.assignTask
  extract_lets _ _ s1 s2
  have h2 : Canon s2 := .ite h.updEng h.updEng.count.raise
  exact .ite h2.takeTask h2

theorem Canon.grantNote {t} (h : Canon s) : Canon (grantNote t s) := by
  unfold Machine.grantNote
  extract_lets _ _ _ s1 s2 _
  have h1 : Canon s1 := .ite h h.count
  have h2 : Canon s2 := .ite h1.count h1
  exact .ite h.same h2.same

theorem Canon.taskAssign (h : Canon s) : Canon (taskAssign s) := by
  unfold Machine.taskAssign
  split
  · exact h
  · split
    · exact h
    · exact .ite h.grantNote.same.same.count.raise h.grantNote.same.count.assignTask

theorem Canon.setCeNext {p n} (h : Canon s) : Canon (setCeNext p n s) := by
  unfold Machine.setCeNext
  split
  · exact h.same
  · exact h.same

theorem Canon.ceBegin {p} (h : Canon s) : Canon (ceBegin p s) := .ite h h.same.setCeNext

theorem Canon.ceAssign {p} (h : Canon s) : Canon (ceAssign p s) := by
  unfold Machine.ceAssign
  split
  · exact h
  · extract_lets s1 _
    split
    · split
      · exact h.ceBegin.same.assignTask
      · exact h.ceBegin
    · split
      · exact h.ceBegin
      · extract_lets _
        split
        · split
          · exact h.ceBegin.setCeNext.assignTask
          · exact h.ceBegin
        · exact h.ceBegin

theorem Canon.watchdog {e} (h : Canon s) : Canon (watchdog e s) := by
  unfold Machine.watchdog
  split
  · exact h
  · exact (Canon.ite h.count h).raise.engFault

theorem Canon.partFault {e code} (h : Canon s) : Canon (partFault e code s) := .ite h.engFault h

theorem Canon.eccCorrected {e} (h : Canon s) : Canon (eccCorrected e s) := by
  unfold Machine.eccCorrected
  split
  · exact h
  · extract_lets s1
    split
    · exact h.count.raiseFirst
    · exact h.count

theorem Canon.execTaskWatchdog {r} (h : Canon s) : NextCanon (execTaskWatchdog r s) := by
  unfold Machine.execTaskWatchdog
  refine .next ?_
  split
  · exact h.watchdog
  · exact h.partFault
  · exact h.partFault
  · exact h.partFault
  · exact h.eccCorrected

theorem Canon.combReset {c} (h : Canon s) : Canon (combReset c s) :=
  (h.foldl (fun k => k.engReset)).same.raise

/-! ### Intake -/

theorem Canon.intakeRecord {b e} (h : Canon s) : Canon (intakeRecord b e s) := h.journalAdd
theorem Canon.seqPassed {b} (h : Canon s) : Canon (seqPassed b s) := h.updJob
theorem Canon.refuse {b e cls} (h : Canon s) : Canon (refuse b e cls s) :=
  h.intakeRecord.seqPassed.complete.raise.budgetNote
theorem Canon.accept {b} (h : Canon s) : Canon (accept b s) := h.intakeRecord.seqPassed.updJob.complete
theorem Canon.acceptEffects {b} (h : Canon s) : Canon (acceptEffects b s) := .ite h.updJob (.ite h.updJob h)

theorem Canon.intake {b target} (h : Canon s) : Canon (intake b target s) := by
  unfold Machine.intake
  split
  · exact h.updJob
  · split
    · exact .ite h.refuse.dmaStop h.refuse
    · exact h.accept.acceptEffects

theorem Canon.claimSlot {f q} (h : Canon s) : Canon (claimSlot f q s) := .ite h.updSlot h.updJob

theorem Canon.forageIntake (h : Canon s) : Canon (forageIntake s) := by
  unfold Machine.forageIntake
  split
  · exact h
  · split
    · exact h.refuse
    · exact h.accept.claimSlot

theorem Canon.writeIntake {op} (h : Canon s) : Canon (writeIntake op s) := by
  unfold Machine.writeIntake
  split
  · exact h
  · split
    · exact h
    · split
      · exact h.refuse.freeNext
      · exact h.accept

theorem Canon.headNext (h : Canon s) : Canon (headNext s) := h.updJob
theorem Canon.readEntry {b target} (h : Canon s) : Canon (readEntry b target s) :=
  .ite h (.ite h.headNext.intake h.updJob.count.raise)
theorem Canon.duplicate {b} (h : Canon s) : Canon (duplicate b s) := h.headNext.freeNext.complete.count.raise
theorem Canon.seqGap {b} (h : Canon s) : Canon (seqGap b s) := h.freeNext.updJob.complete.raise
theorem Canon.rereadEntry {b target} (h : Canon s) : Canon (rereadEntry b target s) :=
  .ite h (.ite h.headNext.intake (.ite h.duplicate h.seqGap))
theorem Canon.execCommandEntryRead {b} (h : Canon s) : NextCanon (execCommandEntryRead b s) :=
  .ite (.next h.readEntry) .fault
theorem Canon.execCmdRetry {b} (h : Canon s) : NextCanon (execCmdRetry b s) :=
  .ite (.next h.rereadEntry) .fault

theorem Canon.execFence (h : Canon s) : NextCanon (execFence s) := by
  unfold Machine.execFence
  refine .next ?_
  split
  · exact .ite h.finish h
  · exact h

/-! ### Tables -/

theorem Canon.extend {i d} (h : Canon s) : Canon (extend i d s) := h.of_eq rfl rfl rfl
theorem Canon.updRec {q f} (h : Canon s) : Canon (updRec q f s) := h.of_eq rfl rfl rfl
theorem Canon.calTaken {q set} (h : Canon s) : Canon (calTaken q set s) := h.updRec.raise
theorem Canon.calRejected {q code seq} (h : Canon s) : Canon (calRejected q code seq s) :=
  h.updRec.count.raise

theorem Canon.loadCorrection {kernel q t} (h : Canon s) : Canon (loadCorrection kernel q t s) := by
  unfold Machine.loadCorrection
  split
  · exact h.setRegN.count.raise.finish
  · exact h.same.finish

theorem Canon.beamMapReject {code cal qty q} (h : Canon s) : Canon (beamMapReject code cal qty q s) := by
  unfold Machine.beamMapReject
  extract_lets s1
  have h1 : Canon s1 := h.setRegN.count.raise
  refine Canon.finish ?_
  split
  · exact h1.calRejected
  · exact h1

theorem Canon.loadBeam {q t} (h : Canon s) : Canon (loadBeam q t s) := by
  unfold Machine.loadBeam
  split
  · exact h.beamMapReject
  · exact h.same.finish

theorem Canon.loadMask {q t} (h : Canon s) : Canon (loadMask q t s) := by
  unfold Machine.loadMask
  split
  · exact h.beamMapReject
  · exact h.same.finish

theorem Canon.loadWeight {q t} (h : Canon s) : Canon (loadWeight q t s) := by
  unfold Machine.loadWeight
  split
  · exact h.beamMapReject
  · exact h.same.finish

theorem Canon.loadProgram {target q t} (h : Canon s) : Canon (loadProgram target q t s) := by
  unfold Machine.loadProgram
  split
  · exact h.finish
  · split
    · exact h.setRegN.raise.finish
    · exact h.same.finish

theorem Canon.loadEq {q t} (h : Canon s) : Canon (loadEq q t s) := by
  unfold Machine.loadEq
  split
  · exact h.calRejected.finish
  · exact h.same.finish

theorem Canon.tableMoved {host n} (h : Canon s) : Canon (tableMoved host n s) := h.updChan

theorem Canon.loadTable {kind run b} (h : Canon s) (hr : ∀ {q c t}, Canon t → Canon (run q c t)) :
    Canon (loadTable kind run b s) := by
  unfold Machine.loadTable
  split
  · exact h
  · refine .ite h ?_
    split
    · exact h.finish
    · exact hr h.allRequests.tableMoved

theorem Canon.loadFault {q bytes c} (h : Canon s) : Canon (loadFault q bytes c s) := h.same.finish

theorem Canon.loadReread {err} (h : Canon s) : Canon (loadReread err s) := by
  unfold Machine.loadReread
  split
  · exact h
  · exact .ite h (.ite h.updChan.freeNext.count.loadFault h.same)

theorem Canon.kernelInForce (h : Canon s) : Canon (kernelInForce s) := by
  unfold Machine.kernelInForce
  split
  · exact h.same.raise
  · exact h

theorem Canon.fieldInForce (h : Canon s) : Canon (fieldInForce s) := by
  unfold Machine.fieldInForce
  split
  · exact h.same.raise
  · exact h

theorem Canon.programInForce {raster} (h : Canon s) : Canon (programInForce raster s) := by
  unfold Machine.programInForce
  extract_lets _ _
  split
  · exact .ite h.same.extend.raise.hiveFlush h.same.extend.raise
  · exact h

theorem Canon.correctionInForce (h : Canon s) : Canon (correctionInForce s) :=
  h.kernelInForce.fieldInForce.programInForce.programInForce

theorem Canon.beamInForce (h : Canon s) : Canon (beamInForce s) := by
  unfold Machine.beamInForce
  split
  · exact h.same.raise.calTaken
  · exact h

theorem Canon.maskInForce (h : Canon s) : Canon (maskInForce s) := by
  unfold Machine.maskInForce
  split
  · exact h.same.raise.calTaken
  · exact h

theorem Canon.weightInForce (h : Canon s) : Canon (weightInForce s) := by
  unfold Machine.weightInForce
  split
  · exact h.same.raise
  · exact h

theorem Canon.takeTrims {n25} (h : Canon s) : Canon (takeTrims n25 s) := h.same.calTaken

theorem Canon.dropIf {bad q drop} (h : Canon s) (hd : ∀ {t}, Canon t → Canon (drop t)) : Canon
  (dropIf bad q drop s) :=
  .ite (hd h).calRejected h

theorem Canon.limitsInForce (h : Canon s) : Canon (limitsInForce s) := by
  unfold Machine.limitsInForce
  split
  · exact h
  · extract_lets _ s1 _ _ _ _ s2 s3 s4
    have h2 : Canon s2 := h.same.dropIf (fun k => k.same)
    have h3 : Canon s3 := h2.dropIf (fun k => k.same)
    have h4 : Canon s4 := h3.dropIf (fun k => k.same)
    exact h4.dropIf (fun k => k.same)

theorem Canon.trimsInForce (h : Canon s) : Canon (trimsInForce s) := by
  unfold Machine.trimsInForce
  split
  · exact h.takeTrims
  · exact h

theorem Canon.beamMapInForce (h : Canon s) : Canon (beamMapInForce s) :=
  h.beamInForce.maskInForce.weightInForce

/-! ### Calibration -/

theorem Canon.calBusy {qty q} (h : Canon s) : Canon (calBusy qty q s) := h.updRec.finish
theorem Canon.calFinish {q e} (h : Canon s) : Canon (calFinish q e s) := .ite h h.finish

theorem Canon.tdcBegin (h : Canon s) : Canon (tdcBegin s) := by
  unfold Machine.tdcBegin
  split
  · exact h
  · exact .ite h (.ite h.calBusy (.ite h.setPhase.startTdc (.ite (.ite h.calBusy h.setPhase.same) h.finish)))

theorem Canon.tdcDone {q hits} (h : Canon s) : Canon (tdcDone q hits s) := by
  unfold Machine.tdcDone
  extract_lets _ s1
  split
  · exact h.same.calRejected.calFinish
  · exact h.same.calTaken.calFinish

theorem Canon.sensorsBegin (h : Canon s) : Canon (sensorsBegin s) := by
  unfold Machine.sensorsBegin
  split
  · exact h
  · exact .ite h (.ite h.calBusy h.setPhase.same)

theorem Canon.sensorsDone {q diodes counts} (h : Canon s) : Canon (sensorsDone q diodes counts s) := by
  unfold Machine.sensorsDone
  extract_lets _ _ s1
  have h1 : Canon s1 := h.same.freeNext
  split
  · exact h1.calRejected.calFinish
  · exact (Canon.ite h1.same h1.takeTrims).calFinish

theorem Canon.calEnd {r} (h : Canon s) : Canon (calEnd r s) := by
  unfold Machine.calEnd
  split
  · split
    · exact h.tdcDone
    · exact h
  · split
    · exact h.sensorsDone
    · exact h

theorem Canon.copyBegin (h : Canon s) : Canon (copyBegin s) := .ite h h.same
theorem Canon.copyCtl {v} (h : Canon s) : Canon (copyCtl v s) := .ite h.writeStored.copyBegin h.writeStored

theorem Canon.copyEnd (h : Canon s) : Canon (copyEnd s) := by
  unfold Machine.copyEnd
  split
  · exact h
  · exact .ite h.same h.same.rangeRequest.dramWrite

/-! ### Trust and guarded settings -/

theorem Canon.updSec {f} (h : Canon s) : Canon (updSec f s) := h.of_eq rfl rfl rfl
theorem Canon.setSlot {b image} (h : Canon s) : Canon (setSlot b image s) := h.updSec
theorem Canon.measure {i b} (h : Canon s) : Canon (measure i b s) := h.extend

theorem Canon.placeFirmware (h : Canon s) : Canon (placeFirmware s) := by
  unfold Machine.placeFirmware
  extract_lets
  refine h.ofFn fun e => ?_
  exact .of_lmem rfl (.fresh _)

theorem Canon.measureStart {image} (h : Canon s) : Canon (measureStart image s) :=
  h.measure.measure.measure.measure.measure.measure.measure

theorem Canon.boot (h : Canon s) : Canon (boot s) := by
  unfold Machine.boot
  extract_lets x s0 start v s1
  have hs (slot fall : Bool) : Canon (start slot fall) :=
    (Canon.ite h.updSec.raise h.updSec).updSec.placeFirmware.measureStart
  exact .ite (hs _ _) (.ite (hs _ _) h.updSec.freeNext.raise.updSec.placeFirmware.measure)

theorem Canon.raiseMinSvn (h : Canon s) : Canon (raiseMinSvn s) := .ite h h.updSec
theorem Canon.quoteAsk (h : Canon s) : Canon (quoteAsk s) := .ite h h.updSec
theorem Canon.maintBad (h : Canon s) : Canon (maintBad s) := h.count
theorem Canon.quoteQueue {tag source nonce} (h : Canon s) : Canon (quoteQueue tag source nonce s) :=
  .ite h.maintBad h.updSec
theorem Canon.maintReply {type tag source body} (h : Canon s) : Canon (maintReply type tag source body s) :=
  h.send

theorem Canon.quoteTaken (h : Canon s) : Canon (quoteTaken s) := by
  unfold Machine.quoteTaken
  split
  · exact h
  · exact .ite h.updSec.count.updSec h.updSec.count.maintReply

theorem Canon.extendNow (h : Canon s) : Canon (extendNow s) := h.extend
theorem Canon.guardFinish {q e} (h : Canon s) : Canon (guardFinish q e s) := .ite h.finish.same h.finish
theorem Canon.badStatement (h : Canon s) : Canon (badStatement s) := h.count

theorem Canon.blockMoved {sub block} (h : Canon s) : Canon (blockMoved sub block s) := by
  unfold Machine.blockMoved
  split
  · exact h.tableMoved
  · exact h

theorem Canon.propose {block} (h : Canon s) : Canon (propose block s) := by
  unfold Machine.propose
  split
  · exact h
  · extract_lets _ _ _ _ _ _
    split
    · exact h.badStatement.guardFinish
    · exact h.setPhase.updSec.raise

theorem Canon.eraseJournal {q e} (h : Canon s) : Canon (eraseJournal q e s) := by
  unfold Machine.eraseJournal
  extract_lets r op s1 _ s2
  have h1 : Canon s1 := h.same.exportLog
  have h2 : Canon s2 := h1.same
  exact h2.raise.complete

theorem Canon.setKeys {host maint} (h : Canon s) : Canon (setKeys host maint s) := h.updSec.measure

theorem Canon.applySetting {p} (h : Canon s) : Canon (applySetting p s) := by
  unfold Machine.applySetting
  extract_lets _ _
  split
  · exact h.updSec
  · exact h.updSec
  · exact h.setKeys
  · exact h.setKeys
  · exact h.updSec
  · exact h.updSec
  · exact h.setKeys
  · exact h.same
  · exact h.setKeys
  · exact h

theorem Canon.applied {p} (h : Canon s) : Canon (applied p s) := by
  unfold Machine.applied
  extract_lets _ s1 _
  have h1 : Canon s1 := h.updSec.measure
  exact (Canon.ite h1.eraseJournal h1.guardFinish).raise

theorem Canon.closeProposal {p e} (h : Canon s) : Canon (closeProposal p e s) := h.updSec.guardFinish.raise

theorem Canon.approve {p} (h : Canon s) : Canon (approve p s).1 := by
  unfold Machine.approve
  split
  · exact h.closeProposal
  · split
    · exact h.closeProposal
    · split
      · exact h.updSec.setSlot
      · exact h.applySetting.applied

theorem Canon.firmwareEnd {readBack} (h : Canon s) : Canon (firmwareEnd readBack s) := by
  unfold Machine.firmwareEnd
  split
  · exact h
  · exact .ite h (.ite h.setSlot.applied h.setSlot.closeProposal)

theorem Canon.decide3 {ok action stmt sig} (h : Canon s) : Canon (decide3 ok action stmt sig s).1 := by
  unfold Machine.decide3
  split
  · exact h.badStatement
  · split
    · exact h.badStatement
    · split
      · exact h.badStatement
      · split
        · exact h.approve
        · exact h.closeProposal

theorem Canon.hostDecision {sub block} (h : Canon s) : Canon (hostDecision sub block s) := by
  unfold Machine.hostDecision
  split
  · exact h
  · exact h.decide3.guardFinish

theorem Canon.withdraw {block} (h : Canon s) : Canon (withdraw block s) := by
  unfold Machine.withdraw
  split
  · exact h
  · extract_lets _
    split
    · exact h.badStatement.guardFinish
    · extract_lets _
      split
      · exact h.badStatement.guardFinish
      · exact h.closeProposal.guardFinish

theorem Canon.mgmtDecision {tag source body} (h : Canon s) : Canon (mgmtDecision tag source body s) :=
  .ite h.maintBad h.decide3.maintReply

theorem Canon.windowEnd (h : Canon s) : Canon (windowEnd s) := by
  unfold Machine.windowEnd
  split
  · exact h.count.closeProposal
  · exact h

theorem Canon.notice {tag source} (h : Canon s) : Canon (notice tag source s) := h.maintReply
theorem Canon.certReply {tag source off} (h : Canon s) : Canon (certReply tag source off s) :=
  .ite h.maintBad h.maintReply

/-! ### The stage lock -/

theorem Canon.updAxis {a f} (h : Canon s) : Canon (updAxis a f s) := h.of_eq rfl rfl rfl

theorem Canon.countEdge {a t d} (h : Canon s) : Canon (countEdge a t d s) := by
  unfold Machine.countEdge
  extract_lets _ _ _ _ _ _ _ s1 s2 _
  have h1 : Canon s1 := h.updAxis.freeNext
  exact .ite (.ite h1.setReg.raise.addCause h1.setReg.raise) h1

theorem Canon.illegalEdge {a} (h : Canon s) : Canon (illegalEdge a s) :=
  .ite h.count.setReg.raise.addCause h.count.setReg.raise

theorem Canon.axisEdge {a lineB rising t level once} (h : Canon s) :
    Canon (axisEdge a lineB rising t level once s) := by
  unfold Machine.axisEdge
  extract_lets s _
  split
  · exact h.ticksTo
  · split
    · exact h.ticksTo
    · exact .ite (.ite h.ticksTo h.ticksTo.illegalEdge) h.ticksTo.countEdge

theorem Canon.indexEdge {a rising} (h : Canon s) : Canon (indexEdge a rising s) := by
  unfold Machine.indexEdge
  extract_lets x s1 mode e inside mark s2 _ s3 s4
  have h1 : Canon s1 := h.setReg.setReg.count
  have hm (b) {t} (k : Canon t) : Canon (mark b t) := k.setReg
  have h2 : Canon s2 := (hm _ h1).count.raise
  have h3 : Canon s3 := hm _ h1
  have h4 : Canon s4 := .ite h3.updAxis h3
  exact .ite h (.ite (.ite h2.addCause h2) h4.raise)

theorem Canon.standstill {a} (h : Canon s) : Canon (standstill a s) := .ite h h.updAxis.raise
theorem Canon.presetCount {a v} (h : Canon s) : Canon (presetCount a v s) := .ite h.raise h.updAxis
theorem Canon.axisCtlWrite {a r v} (h : Canon s) : Canon (axisCtlWrite a r v s) :=
  .ite h.writeStored h.writeStored.updAxis
theorem Canon.snap (h : Canon s) : Canon (snap s) := h.setReg.foldl (fun k => k.setReg)
theorem Canon.seqNext (h : Canon s) : Canon (seqNext s) := h.of_eq rfl rfl rfl

theorem Canon.arm (h : Canon s) : Canon (arm s) := by
  unfold Machine.arm
  split
  · exact h
  · split
    · exact h.addCause
    · exact h.send.same.setWrite.seqNext.raise.slowCheck

theorem Canon.commitCounts {cs late} (h : Canon s) : Canon (commitCounts cs late s) := by
  unfold Machine.commitCounts
  extract_lets _ s1 s2 s3
  have h1 : Canon s1 := .ite h.count h
  have h2 : Canon s2 := .ite h1.count h1
  have h3 : Canon s3 := by
    unfold s3
    split
    · exact h2
    · exact (h2.foldl (fun k => k.count)).raise
  exact .ite h3.setRegN.raise h3

theorem Canon.sendFrames {w f tau} (h : Canon s) : Canon (sendFrames w f tau s) :=
  (Canon.ite h.idleAll h).foldl (fun k => k.send)
theorem Canon.progress {w f} (h : Canon s) : Canon (progress w f s) := .ite h.journalAdd.setWrite h
theorem Canon.commitFlash {w tau y x} (h : Canon s) : Canon (commitFlash w tau y x s) :=
  h.send.sendFrames.same.setWrite.progress.slowCheck

theorem Canon.boundary {tau y} (h : Canon s) : Canon (boundary tau y s) := by
  unfold Machine.boundary
  split
  · exact h
  · extract_lets _ _ _ s1
    split
    · exact h.commitCounts.haltNow.drainCheck
    · exact h.commitCounts.commitFlash

theorem Canon.flashCommit {tau} (h : Canon s) : Canon (flashCommit tau s) := by
  unfold Machine.flashCommit
  extract_lets s
  split
  · exact h.ticksTo
  · split
    · exact h.ticksTo.ticksTo
    · exact h.ticksTo.causesBy.boundary

theorem Canon.refLoss (h : Canon s) : Canon (refLoss s) :=
  .ite h (.ite h.setRegBits.setReg.setRegBits.same.addCause
    h.setRegBits.setReg.setRegBits.same.addCause.linkHeld.raise.refreshFrontier)

/-! ### Execution of commands -/

theorem Canon.jobRecord {id event seq} (h : Canon s) : Canon (jobRecord id event seq s) := h.journalAdd
theorem Canon.openJob {b} (h : Canon s) : Canon (openJob b s) :=
  .ite h.same.dropReads.hiveFlush h.same.dropReads

theorem Canon.jobOpen (h : Canon s) : Canon (jobOpen s) := by
  unfold Machine.jobOpen
  split
  · exact h
  · extract_lets _ s1
    exact .ite h.finish (.ite ((Canon.ite h.finish.raise h.finish).raise)
      (.ite h.finish h.allRequests.openJob.jobRecord.finish.raise))

theorem Canon.closeJob (h : Canon s) : Canon (closeJob s) := h.same.dropReads

theorem Canon.jobClose (h : Canon s) : Canon (jobClose s) := by
  unfold Machine.jobClose
  split
  · exact h
  · exact .ite h.closeJob.jobRecord.finish.raise h

theorem Canon.testsBegin {q l} (h : Canon s) : Canon (testsBegin q l s) :=
  h.setPhase.updJob.foldl (fun k => k.testBegin)

theorem Canon.selfTest (h : Canon s) : Canon (selfTest s) := by
  unfold Machine.selfTest
  split
  · exact h
  · exact .ite h.finish (.ite h.testsBegin (.ite h.setPhase.updJob.raise h.finish))

theorem Canon.testResult {n ok} (h : Canon s) : Canon (testResult n ok s) :=
  h.updJob.foldl (fun k => k.finish)

theorem Canon.selfTestEnd {e sig} (h : Canon s) : Canon (selfTestEnd e sig s) := by
  unfold Machine.selfTestEnd
  extract_lets s1
  have h1 : Canon s1 := by
    refine Canon.setReg (h.updEng fun _ _ => ?_)
    exact .of_lmem rfl (.fresh (engImage s e))
  exact .ite h (.ite h1.updEng.raise.testResult h1.engFail.raise.testResult)

theorem Canon.slotLost {f q} (h : Canon s) : Canon (slotLost f q s) := by
  unfold Machine.slotLost
  split
  · exact h.updSlot
  · exact h.freeSlot

theorem Canon.forageCleared (h : Canon s) : Canon (forageCleared s) := by
  unfold Machine.forageCleared
  exact h.dropPass.stopRuns.same

theorem Canon.forageRun {l} (h : Canon s) : Canon (forageRun l s) := by
  unfold Machine.forageRun
  exact h.updSlot.setPhase.same

theorem Canon.forageStart (h : Canon s) : Canon (forageStart s) := by
  unfold Machine.forageStart
  split
  · exact h
  · split
    · exact h
    · extract_lets s1
      have h1 : Canon s1 := .ite h.correctionInForce h
      split
      · exact h1.slotLost.finish.raise
      · exact h1.forageRun

theorem Canon.forageFails {f e} (h : Canon s) : Canon (forageFails f e s) :=
  h.slotLost.finish.forageCleared.budgetNote
theorem Canon.foragePasses {f x} (h : Canon s) : Canon (foragePasses f x s) :=
  .ite h.forageFails h.updSlot.freeNext.finish.forageCleared

theorem Canon.forageEnd (h : Canon s) : Canon (forageEnd s) := by
  unfold Machine.forageEnd
  split
  · exact h
  · split
    · exact h.forageFails
    · split
      · exact .ite h.foragePasses h
      · exact h

theorem Canon.markInvalid {f} (h : Canon s) : Canon (markInvalid f s) := h.updSlot

theorem Canon.boundaryRefuse {l reason event} (h : Canon s) : Canon (boundaryRefuse l reason event s) := by
  unfold Machine.boundaryRefuse
  extract_lets _ s1 s2 _ _
  have h1 : Canon s1 := by
    unfold s1
    split
    · exact h.raise
    · exact h
  have h2 : Canon s2 := .ite h1.refusedInfo h1
  exact h2.finish.raise.markInvalid

theorem Canon.boundaryForce (h : Canon s) : Canon (boundaryForce s) := by
  unfold Machine.boundaryForce
  extract_lets s1 s2 _
  have h1 : Canon s1 := h.limitsInForce.stepDown.correctionInForce.beamMapInForce.trimsInForce
  exact h1.same.same

theorem Canon.loadSequencer {f} (h : Canon s) : Canon (loadSequencer f s) := by
  unfold Machine.loadSequencer
  exact h.setRegN.same

theorem Canon.boundaryRecords {l} (h : Canon s) : Canon (boundaryRecords l s) :=
  h.journalAdd.journalAdd.journalAdd

theorem Canon.beginWrite {l} (h : Canon s) : Canon (beginWrite l s) := by
  unfold Machine.beginWrite
  exact h.setPhase.same.same

theorem Canon.captureOwn {q} (h : Canon s) : Canon (captureOwn q s) := h.of_eq rfl rfl rfl

theorem Canon.boundaryPass {l} (h : Canon s) : Canon (boundaryPass l s) := by
  unfold Machine.boundaryPass
  extract_lets _ s1 _ s2 s3
  have h1 : Canon s1 := h.loadSequencer.captureOwn
  have h2 : Canon s2 := h1.beginWrite.boundaryRecords.raise
  have h3 : Canon s3 := .ite h2.raise h2
  split
  · exact h1.same.setRegN.raise.finish.captureEnd
  · exact h3.wakeAtBoundary

theorem Canon.stripeBoundary (h : Canon s) : Canon (stripeBoundary s) := by
  unfold Machine.stripeBoundary
  split
  · exact h
  · split
    · exact h
    · extract_lets s1
      split
      · exact h.boundaryForce.boundaryRefuse
      · exact h.boundaryForce.boundaryPass

/-! ### DMA channels -/

theorem Canon.dmaTail {c v} (h : Canon s) : Canon (dmaTail c v s) := .ite h h.updChan
theorem Canon.dmaOn {c} (h : Canon s) : Canon (dmaOn c s) :=
  .ite h (.ite h.updChan (.ite h.updChan h.updChan))
theorem Canon.dmaOff {c} (h : Canon s) : Canon (dmaOff c s) := h.updChan
theorem Canon.dmaTake {c d} (h : Canon s) : Canon (dmaTake c d s) :=
  .ite h (.ite h.dmaStop (.ite h.dmaStop (.ite h ((Canon.ite h h.rangeRequest).updChan))))
theorem Canon.dmaMove {c host dev len toHost data} (h : Canon s) : Canon (dmaMove c host dev len toHost data s) :=
  .ite h.send h.dramWrite

theorem Canon.dmaEnd {c data} (h : Canon s) : Canon (dmaEnd c data s) := by
  unfold Machine.dmaEnd
  extract_lets _
  split
  · exact h
  · exact .ite h (.ite h.dmaMove.updChan.raise h.dmaMove.updChan)

theorem Canon.execDmaDescriptor {c d} (h : Canon s) : NextCanon (execDmaDescriptor c d s) :=
  .ite (.next h.dmaTake) .fault
theorem Canon.pauseBegins {c} (h : Canon s) : Canon (pauseBegins c s) := h.updChan
theorem Canon.pauseEnds {c} (h : Canon s) : Canon (pauseEnds c s) := h.updChan
theorem Canon.dmaPause {c on} (h : Canon s) : Canon (dmaPause c on s) :=
  .ite h.updChan.pauseBegins h.updChan.pauseEnds
theorem Canon.powerPause {c} (h : Canon s) : Canon (powerPause c s) := h.updChan.pauseBegins
theorem Canon.powerResume {c} (h : Canon s) : Canon (powerResume c s) := h.updChan.pauseEnds

theorem Canon.pausedAt {c n} (h : Canon s) : Canon (pausedAt c n s) := by
  unfold Machine.pausedAt
  extract_lets _ s1
  split
  · exact h.updChan.dramWrite.same
  · exact h.updChan

theorem Canon.dmaPaused {c n} (h : Canon s) : Canon (dmaPaused c n s) := .ite h h.updChan.pausedAt.raise

theorem Canon.dmaHalted {c n} (h : Canon s) : Canon (dmaHalted c n s) := by
  unfold Machine.dmaHalted
  extract_lets _ s1
  have h1 : Canon s1 := h.updChan.pausedAt.raise
  exact .ite h (.ite h1 h1.updChan.finish)

theorem Canon.dmaRestart {c} (h : Canon s) : Canon (dmaRestart c s) := h.updChan

theorem Canon.dmaCtl {c v} (h : Canon s) : Canon (dmaCtl c v s) := by
  unfold Machine.dmaCtl
  extract_lets s1 s2
  have h1 : Canon s1 := .ite h (.ite h.dmaOn h.dmaOff)
  exact .ite h1.dmaPause.dmaRestart h1.dmaPause

/-! ### Records -/

theorem Canon.updExp {p f} (h : Canon s) : Canon (updExp p f s) := by
  unfold Machine.updExp
  split
  · exact h.same
  · exact h.same

theorem Canon.failPass {p status code source arg0 arg1} (h : Canon s) :
    Canon (failPass p status code source arg0 arg1 s) := by
  unfold Machine.failPass
  split
  · exact h.same
  · exact h.addCause

theorem Canon.faultRegs {code page off} (h : Canon s) : Canon (faultRegs code page off s) :=
  h.setRegN.setReg64.setRegN
theorem Canon.streamFault {p code page off} (h : Canon s) : Canon (streamFault p code page off s) :=
  h.faultRegs.raise.failPass

theorem Canon.lookAhead {p} (h : Canon s) : Canon (lookAhead p s) := by
  unfold Machine.lookAhead
  extract_lets _
  split
  · exact h
  · split
    · exact h
    · split
      · exact h.streamFault
      · split
        · exact h.streamFault
        · split
          · exact .ite h.streamFault h.streamFault
          · split
            · exact h
            · split
              · exact h
              · exact .ite h h.streamFault

theorem Canon.passed {p pos n} (h : Canon s) : Canon (passed p pos n s) := by
  unfold Machine.passed
  extract_lets _ s1
  have h1 : Canon s1 := by
    unfold s1
    split
    · split
      · exact .ite h.streamFault (.ite h.streamFault h)
      · exact h
    · exact h
  exact h1.lookAhead

theorem Canon.takeRecord {α : Type} {p pos op ops run} {read : Reader α} (h : Canon s)
    (hr : ∀ {v t}, Canon t → Canon (run v t)) : Canon (takeRecord p pos op read ops run s) := by
  refine .ite h ?_
  split
  · exact .ite h.streamFault (.ite h.streamFault (.ite h.streamFault h))
  · exact .ite (hr h) h

theorem Canon.inCell {p pos run} (h : Canon s) (hr : ∀ {c t}, Canon t → Canon (run c t)) :
    Canon (inCell p pos run s) := by
  unfold Machine.inCell
  extract_lets x
  split
  · exact hr h
  · exact h.streamFault

theorem Canon.updOpen {p f} (h : Canon s) : Canon (updOpen p f s) := h.updExp

theorem Canon.putUnits {l b} (h : Canon s) : Canon (putUnits l b s) := by
  induction l generalizing s b with
  | nil => exact h
  | cons u r ih => exact ih h.dramWrite

theorem Canon.listOverflow {p l} (h : Canon s) : Canon (listOverflow p l s) := h.count.raise.failPass

theorem Canon.writeEntries {p xs run} (h : Canon s) (hr : ∀ {t}, Canon t → Canon (run t)) :
    Canon (writeEntries p xs run s) := by
  unfold Machine.writeEntries
  extract_lets ls
  split
  · exact h.listOverflow
  · exact .ite h.count (hr h.updExp)

theorem Canon.addShape {p pos n c a fault exts sh post} (h : Canon s) :
    Canon (addShape p pos n c a fault exts sh post s) := by
  unfold Machine.addShape
  extract_lets _ _ _ _ _
  split
  · exact h.streamFault
  · exact .ite h.streamFault (.ite h.streamFault (h.writeEntries (fun k => k.updOpen.passed)))

theorem Canon.rectRecord {p pos n v} (h : Canon s) : Canon (rectRecord p pos n v s) :=
  h.inCell (fun k => k.addShape)
theorem Canon.rectSameRecord {p pos n d} (h : Canon s) : Canon (rectSameRecord p pos n d s) :=
  h.inCell (fun k => k.addShape)
theorem Canon.trapHRecord {p pos n v} (h : Canon s) : Canon (trapHRecord p pos n v s) :=
  h.inCell (fun k => k.addShape)
theorem Canon.trapVRecord {p pos n v} (h : Canon s) : Canon (trapVRecord p pos n v s) :=
  h.inCell (fun k => k.addShape)
theorem Canon.polyRecord {p pos n v} (h : Canon s) : Canon (polyRecord p pos n v s) :=
  h.inCell (fun k => k.addShape)
theorem Canon.polyMRecord {p pos n v} (h : Canon s) : Canon (polyMRecord p pos n v s) :=
  h.inCell (fun k => k.addShape)
theorem Canon.curveRecord {p pos n v} (h : Canon s) : Canon (curveRecord p pos n v s) :=
  h.inCell (fun k => k.addShape)

theorem Canon.placeRecord {p pos n id orient d cols rows va vb} (h : Canon s) :
    Canon (placeRecord p pos n id orient d cols rows va vb s) := by
  refine .ite h.streamFault (h.inCell fun k => ?_)
  extract_lets a corner ends
  split
  · exact k.streamFault
  · exact .ite k.streamFault (.ite k.streamFault
    (.ite k.streamFault (.ite k.streamFault k.updOpen.updExp.passed)))

theorem Canon.openDefinition {p pos n e known} (h : Canon s) : Canon (openDefinition p pos n e known s) :=
  h.updExp.passed

theorem Canon.defineCell {p pos n v} (h : Canon s) : Canon (defineCell p pos n v s) := by
  refine .ite h.streamFault ?_
  split
  · exact h.openDefinition
  · exact .ite h.streamFault (.ite h.streamFault h.openDefinition)

theorem Canon.cellBeginRecord {p pos n v} (h : Canon s) : Canon (cellBeginRecord p pos n v s) := by
  unfold Machine.cellBeginRecord
  extract_lets _
  split
  · exact .ite h.streamFault (h.writeEntries (fun k => k.updExp.passed))
  · exact h.defineCell
  · exact h.streamFault

theorem Canon.cellEndRecord {p pos} (h : Canon s) : Canon (cellEndRecord p pos s) :=
  h.inCell (fun k => .ite k.streamFault (k.writeEntries (fun m => m.updExp.passed)))

theorem Canon.headerRecord {p pos n v} (h : Canon s) : Canon (headerRecord p pos n v s) := by
  unfold Machine.headerRecord
  extract_lets _
  split
  · exact h.streamFault
  · split
    · exact h.streamFault
    · split
      · exact h.streamFault
      · exact h.updExp.passed

theorem Canon.streamEndRecord {p pos n cells} (h : Canon s) : Canon (streamEndRecord p pos n cells s) :=
  .ite h.streamFault (.ite h.streamFault h.updExp)

theorem Canon.nopRecord {p pos} (h : Canon s) : Canon (nopRecord p pos s) := by
  unfold Machine.nopRecord
  extract_lets _
  split
  · exact h.updOpen.passed
  · exact h.updExp.passed
  · exact h.streamFault

/-! ### The pager -/

theorem Canon.bindNow {pages cells} (h : Canon s) : Canon (bindNow pages cells s) :=
  h.dramWrite.same.dropReads

theorem Canon.bindStream {pages cells} (h : Canon s) : Canon (bindStream pages cells s) := by
  unfold Machine.bindStream
  split
  · exact h
  · extract_lets _ _ _ _ s1
    have h1 : Canon s1 := h.tableMoved.tableMoved
    split
    · exact h.finish
    · split
      · exact h.finish.budgetNote
      · split
        · exact h
        · split
          · exact h.finish
          · split
            · exact .ite h1.finish h1.faultRegs.finish.raise
            · exact h1.bindNow.finish.raise

theorem Canon.dropFrame {i} (h : Canon s) : Canon (dropFrame i s) := h.of_eq rfl rfl rfl

/-- The frame taken leaves the stores canonical, whether it was free or a page or state made way for it. -/
theorem Canon.takeFrame {i} (h : Canon s) (e : takeFrame s = some (i, t)) : Canon t := by
  unfold Machine.takeFrame at e
  split at e
  · cases e
    exact h
  · obtain ⟨f, -, hf⟩ := Option.map_eq_some_iff.mp e
    cases hf
    exact h.dropFrame.count

theorem Canon.addFrame {i st page cls p} (h : Canon s) : Canon (addFrame i st page cls p s) :=
  h.of_eq rfl rfl rfl
theorem Canon.updFrame {i f} (h : Canon s) : Canon (updFrame i f s) := h.of_eq rfl rfl rfl

theorem Canon.touchFrame {i} (h : Canon s) : Canon (touchFrame i s) := by
  unfold Machine.touchFrame
  exact h.updFrame.same

theorem Canon.poolWait (h : Canon s) : Canon (poolWait s) := h.count.raise

theorem Canon.pageFetch {page cls} (h : Canon s) : Canon (pageFetch page cls s) := by
  unfold Machine.pageFetch
  split
  · refine .ite h ?_
    split
    · exact .ite h.updFrame h
    · split
      · exact h
      · exact .ite h.poolWait.count h.poolWait
      · next e => exact (h.takeFrame e).addFrame.count.updChan
  · exact h

theorem Canon.pagerDone {page n} (h : Canon s) : Canon (pagerDone page n s) := by
  unfold Machine.pagerDone
  split
  · exact h.updChan
  · exact h

theorem Canon.pageArrives {f image} (h : Canon s) : Canon (pageArrives f image s) :=
  h.dramWrite.pagerDone.updFrame.touchFrame
theorem Canon.pageFails {f} (h : Canon s) : Canon (pageFails f s) := h.updFrame.count.raise

theorem Canon.needBad {p page} (h : Canon s) : Canon (needBad p page s) := by
  unfold Machine.needBad
  split
  · exact h.failPass
  · split
    · exact h
    · extract_lets _ s1
      split
      · exact h.updExp.addCause
      · exact h.updExp

theorem Canon.pageIsBad {f} (h : Canon s) : Canon (pageIsBad f s) := by
  unfold Machine.pageIsBad
  extract_lets s1 _ s2
  have h1 : Canon s1 := h.dropFrame.pagerDone.count.raise
  exact .ite h1 (.ite h1.same.needBad h1.same)

theorem Canon.pageFetchDone {page image} (h : Canon s) : Canon (pageFetchDone page image s) := by
  unfold Machine.pageFetchDone
  split
  · exact h
  · exact .ite h (.ite h.pageArrives h.pageFails)

theorem Canon.pageRetry {page image} (h : Canon s) : Canon (pageRetry page image s) := by
  unfold Machine.pageRetry
  split
  · exact h
  · exact .ite h (.ite h.count.pageArrives h.count.pageIsBad)

theorem Canon.updDec {d f} (h : Canon s) : Canon (updDec d f s) := h.of_eq rfl rfl rfl

theorem Canon.stateHome {page i} (h : Canon s) (e : stateHome page s = some (i, t)) : Canon t := by
  unfold Machine.stateHome at e
  split at e
  · cases e
    exact h.dropFrame
  · exact h.takeFrame e

theorem Canon.saveRun {d r waits} (h : Canon s) : Canon (saveRun d r waits s) := by
  refine .ite h.updDec ?_
  split
  · exact .ite h.updDec h.updDec.poolWait
  · next e => exact (h.stateHome e).addFrame.dramWrite.same.updDec

theorem Canon.saveDec {d} (h : Canon s) : Canon (saveDec s d) := by
  unfold Machine.saveDec
  split
  · exact h.saveRun
  · exact h

theorem Canon.saveDue (h : Canon s) : Canon (saveDue s) := h.foldl (fun k => k.saveDec)
theorem Canon.decWaits {d r} (h : Canon s) : Canon (decWaits d r s) := .ite h.updDec.count.raise h.updDec
theorem Canon.restoreRejected {d r f} (h : Canon s) : Canon (restoreRejected d r f s) :=
  h.updDec.dropFrame.count.raise

theorem Canon.pageDecoded {d r history image content f} (h : Canon s) :
    Canon (pageDecoded d r history image content f s) := by
  unfold Machine.pageDecoded
  extract_lets _ _ s1 s2 _
  have h1 : Canon s1 := h.updDec.touchFrame
  have h2 : Canon s2 := .ite h1 h1.updExp
  exact (Canon.ite h2.saveRun h2).lookAhead

theorem Canon.decodeFrame {d r f e} (h : Canon s) : Canon (decodeFrame d r f e s) := by
  unfold Machine.decodeFrame
  extract_lets image n fails plain
  have hf (x) : Canon (fails x) := h.updDec.streamFault
  have hp (b) : Canon (plain b) := by
    unfold plain
    split
    · exact hf _
    · exact h.pageDecoded
  refine .ite h.dropFrame.count.raise.decWaits (.ite (hp _) ?_)
  split
  · exact h.updDec
  · refine .ite h.restoreRejected ?_
    split
    · exact hf _
    · exact .ite h.touchFrame.pageDecoded h.restoreRejected

theorem Canon.takePage {d r e} (h : Canon s) : Canon (takePage d r e s) := by
  unfold Machine.takePage
  split
  · exact .ite h.decodeFrame h.decWaits
  · exact h.decWaits

theorem Canon.pageDecode {d p page} (h : Canon s) : Canon (pageDecode d p page s) := by
  unfold Machine.pageDecode
  split
  · exact h
  · exact .ite h (.ite h.needBad (.ite h (.ite ((Canon.ite h h.updDec).saveDue)
    (((Canon.ite h h.updDec).saveDue).takePage))))

theorem Canon.tileListDone {p col seg} (h : Canon s) : Canon (tileListDone p col seg s) := by
  unfold Machine.tileListDone
  split
  · exact h
  · exact .ite h h.updExp.putUnits.same

/-! ### Starts and resets -/

theorem Canon.updPower {f} (h : Canon s) : Canon (updPower f s) := h.of_eq rfl rfl rfl
theorem Canon.resetRecord {kind detail} (h : Canon s) : Canon (resetRecord kind detail s) :=
  h.journalAdd.updPower

theorem canon_coldCore : Canon (coldCore s) := by
  unfold Machine.coldCore
  exact canon_reset.same

theorem canon_coldAll : Canon (coldAll s) := by
  unfold Machine.coldAll
  exact canon_coldCore.same

theorem Canon.coldButAon (h : Canon s) : Canon (coldButAon s) :=
  have k : Canon (coldCore s) := canon_coldCore
  ⟨k.dram, Sparse.wf_filter _ _ _ h.regs, k.lmem⟩

theorem Canon.startTest {i e} (h : Canon s) : Canon (startTest i e s) := h.updEng.selfTestEnd

theorem Canon.startSteps {i} (h : Canon s) : Canon (startSteps i s) := by
  unfold Machine.startSteps
  extract_lets s1 s2 s3
  have h2 : Canon s2 := h.boot.trainChannels
  have h3 : Canon s3 := h2.foldl (fun k => k.startTest)
  exact h3.startTdc.tdcDone.updPower

theorem Canon.outcomeLost {q} (h : Canon s) : Canon (outcomeLost q s) := .ite h.finish.raise h.finish
theorem Canon.outcomesLost (h : Canon s) : Canon (outcomesLost s) := h.foldl (fun k => k.outcomeLost)
theorem Canon.jobFromJournal (h : Canon s) : Canon (jobFromJournal s) := h.updJob
theorem Canon.tornRecord (h : Canon s) : Canon (tornRecord s) := h.same.count.raise

theorem Canon.tornRecords {n} (h : Canon s) : Canon (tornRecords n s) := by
  induction n generalizing s with
  | zero => exact h
  | succ n ih => exact .ite h (ih h.tornRecord)

theorem Canon.startFresh {i} (h : Canon s) : Canon (startFresh i s) :=
  h.jobFromJournal.resetRecord.startSteps.outcomesLost
theorem Canon.powerRise {i} (h : Canon s) : Canon (powerRise i s) :=
  .ite h (.ite h.updPower canon_coldAll.tornRecords.startFresh)
theorem Canon.readyRise (h : Canon s) : Canon (readyRise s) :=
  .ite h (.ite h.updPower.raiseMinSvn.raise.updPower.raise h.updPower.raiseMinSvn.raise)
theorem Canon.evtRingLost (h : Canon s) : Canon (evtRingLost s) := h.of_eq rfl rfl rfl
theorem Canon.coreOff (h : Canon s) : Canon (coreOff s) := h.coldButAon.evtRingLost.updPower
theorem Canon.seated (h : Canon s) : Canon (seated s) := .ite h h.updPower
theorem Canon.charged (h : Canon s) : Canon (charged s) := .ite h.updPower h
theorem Canon.removed (h : Canon s) : Canon (removed s) := .ite h h.coreOff.updPower
theorem Canon.aonStops (h : Canon s) : Canon (aonStops s) := .ite h.updPower h
theorem Canon.vinFalls (h : Canon s) : Canon (vinFalls s) := .ite h h.same.raise
theorem Canon.vinReturns (h : Canon s) : Canon (vinReturns s) := h.of_eq rfl rfl rfl
theorem Canon.vinLost (h : Canon s) : Canon (vinLost s) := h.coreOff.updPower
theorem Canon.requestReset (h : Canon s) : Canon (requestReset s) :=
  .ite h (.ite h.resetRecord.updPower.addCause h.resetRecord.updPower.abortLive)
theorem Canon.axesReset (h : Canon s) : Canon (axesReset s) := h.of_eq rfl rfl rfl
theorem Canon.groupsEnter {b} (h : Canon s) : Canon (groupsEnter b s) := h.foldl fun k => k.raise
theorem Canon.groupsLeave (h : Canon s) : Canon (groupsLeave s) := h.foldl (fun k => k.raise)

theorem Canon.warmState (h : Canon s) : Canon (warmState s) := by
  have k : Canon { s with regs := regsAfter RegMap.afterModule s.regs } := ⟨h.dram, wf_regsAfter h.regs,
    h.lmem⟩
  unfold Machine.warmState
  extract_lets
  refine Canon.axesReset (k.ofFn fun e => ?_)
  exact .of_lmem rfl (canon_reset.lmem e)

theorem Canon.intakeReset (h : Canon s) : Canon (intakeReset s) := h.foldl (fun k => k.raise)
theorem Canon.resetReports {b} (h : Canon s) : Canon (resetReports b s) :=
  h.groupsEnter.intakeReset.hiveFlush.slowCheck.groupsLeave
theorem Canon.resetProceeds {i} (h : Canon s) : Canon (resetProceeds i s) :=
  .ite h h.warmState.resetReports.startSteps
theorem Canon.thermalStarts {i} (h : Canon s) : Canon (thermalStarts i s) :=
  .ite h h.coldButAon.updPower.startFresh

/-! ### The host attachment -/

theorem Canon.updHif {f} (h : Canon s) : Canon (updHif f s) := h.of_eq rfl rfl rfl
theorem Canon.freeFetching (h : Canon s) : Canon (freeFetching s) := h.same.dropReads
theorem Canon.crcLost (h : Canon s) : Canon (crcLost s) := ⟨h.dram, Sparse.wf_filter _ _ _ h.regs, h.lmem⟩
theorem Canon.ringsOff (h : Canon s) : Canon (ringsOff s) := h.updJob
theorem Canon.recordsAfter (h : Canon s) : Canon (recordsAfter s) := h.of_eq rfl rfl rfl

theorem Canon.functionCleared (h : Canon s) : Canon (functionCleared s) :=
  let k := h.resetRecord.freeFetching.ringsOff.recordsAfter
  ⟨k.dram, wf_regsAfter k.regs, k.lmem⟩

theorem Canon.functionDone {was} (h : Canon s) : Canon (functionDone was s) :=
  .ite h.count.raise.slowCheck.raise h.count.raise.slowCheck
theorem Canon.functionResets (h : Canon s) : Canon (functionResets s) := .ite h.functionCleared.functionDone h
theorem Canon.sendUnmasked (h : Canon s) : Canon (sendUnmasked s) :=
  h.foldl (fun k => .ite k.updHif.emitMessage k)
theorem Canon.linkComesUp {gen width} (h : Canon s) : Canon (linkComesUp gen width s) :=
  .ite h ((Canon.ite h.updHif.raise.raise h.updHif.raise).sendUnmasked)
theorem Canon.linkIsLost (h : Canon s) : Canon (linkIsLost s) :=
  .ite h h.updHif.functionCleared.count.raise.functionDone
theorem Canon.reachability {bme d0} (h : Canon s) : Canon (reachability bme d0 s) :=
  .ite h (.ite h.updHif.raise h.updHif.sendUnmasked)
theorem Canon.ringReadError (h : Canon s) : Canon (ringReadError s) := .ite h.count.updJob h

theorem Canon.pageReadError {c} (h : Canon s) : Canon (pageReadError c s) := by
  unfold Machine.pageReadError
  split
  · exact h
  · split
    · exact h
    · exact .ite h (.ite h.count.pageIsBad h.count.pageFails)

theorem Canon.tableReadError {c} (h : Canon s) : Canon (tableReadError c s) := by
  unfold Machine.tableReadError
  split
  · exact .ite h.count.updChan.updJob h
  · exact h

theorem Canon.descReadError {c} (h : Canon s) : Canon (descReadError c s) := .ite h.count.updChan.raise h
theorem Canon.hostError {c} (h : Canon s) : Canon (hostError c s) :=
  .ite h.ringReadError (.ite h (.ite h.pageReadError (.ite h.tableReadError h.descReadError)))

theorem Canon.ringRead {entry} (h : Canon s) : Canon (ringRead entry s) := by
  unfold Machine.ringRead
  split
  · exact h
  · split
    · exact h.count
    · exact .ite h.updJob.rereadEntry h.updJob.readEntry

theorem Canon.unsupportedRequest (h : Canon s) : Canon (unsupportedRequest s) := h.count.send
theorem Canon.windowRead {off len} (h : Canon s) : Canon (windowRead off len s) :=
  .ite h (.ite h.unsupportedRequest h.rangeRequest.send)
theorem Canon.windowWrite {off data} (h : Canon s) : Canon (windowWrite off data s) :=
  .ite h (.ite h.unsupportedRequest (.ite h.count.raise (.ite h.unsupportedRequest h.rangeRequest.dramWrite)))

theorem Canon.msixWrite {w} (h : Canon s) : Canon (msixWrite w s) := by
  unfold Machine.msixWrite
  split
  · exact h
  · split
    · exact .ite h.updHif.sendUnmasked h
    · exact h.updHif.sendUnmasked
    · exact h.updHif
    · exact h.send

theorem Canon.partReset (h : Canon s) : Canon (partReset s) := h.addCause
theorem Canon.sliceReset {n} (h : Canon s) : Canon (sliceReset n s) := h.same.raise
theorem Canon.stackReset {n} (h : Canon s) : Canon (stackReset n s) := h.same.raise
theorem Canon.correctionReset {n} (h : Canon s) : Canon (correctionReset n s) := h.engReset

theorem Canon.quadrantReset {n} (h : Canon s) : Canon (quadrantReset n s) := by
  unfold Machine.quadrantReset
  extract_lets s1 s2 s3
  have h1 : Canon s1 := h.resetRecord.partReset
  have h2 : Canon s2 := h1.foldl (fun k => k.combReset)
  have h3 : Canon s3 := h2.correctionReset.sliceReset.stackReset
  exact h3.foldl (fun k => k.portReset)

theorem Canon.stageReset (h : Canon s) : Canon (stageReset s) := h.partReset.axesReset.same.raise.slowCheck
theorem Canon.domainRefused {d} (h : Canon s) : Canon (domainRefused d s) := h.setRegN.raise

theorem Canon.domainUnits {d} (h : Canon s) : Canon (domainUnits d s) :=
  .ite h.stageReset (.ite (h.partReset.foldl (fun k => k.correctionReset.sliceReset))
    (.ite (h.partReset.foldl (fun k => k.stackReset)) (.ite h.combReset h.portReset)))

theorem Canon.oneDomainReset {d} (h : Canon s) : Canon (oneDomainReset d s) :=
  .ite h.resetRecord.domainUnits h.domainRefused
theorem Canon.domainResetWrite {v} (h : Canon s) : Canon (domainResetWrite v s) :=
  .ite h (.ite ((h.foldl (fun k => k.quadrantReset)).oneDomainReset) (h.foldl (fun k => k.quadrantReset)))
theorem Canon.powerDown {d} (h : Canon s) : Canon (powerDown d s) :=
  .ite h (.ite h.domainRefused (h.updPower.foldl (fun k => k.powerPause)))

theorem Canon.combOff {b c} (h : Canon s) : Canon (combOff b c s) :=
  let k := h.foldl fun k => k.engReset
  .ite k k.raise

theorem Canon.unitsOff {b d} (h : Canon s) : Canon (unitsOff b d s) :=
  .ite h.freeFetching.crcLost <| .ite h.axesReset.same <| .ite h.same <| .ite h.combOff <| .ite
    (.ite h.setGroup.updGroupCh h.setGroup.updGroupCh.same.raise) <| .ite h.portOff h

theorem Canon.switchOff {d} (h : Canon s) : Canon (switchOff d s) := .ite h h.updPower.unitsOff.raise

theorem Canon.unitsOn {test d} (h : Canon s) (ht : ∀ {e t}, Canon t → Canon (test e t)) : Canon
  (unitsOn test d s) :=
  .ite (h.foldl fun k => ht k) (.ite h.setGroup.updGroupCh.raise h)

theorem Canon.resumeChans (h : Canon s) : Canon (resumeChans s) := h.foldl (fun k => k.powerResume)

theorem Canon.powerUp {d test} (h : Canon s) (ht : ∀ {e t}, Canon t → Canon (test e t)) :
    Canon (powerUp d test s) := by
  unfold Machine.powerUp
  extract_lets s1 s2
  exact .ite h (.ite h.updPower.resumeChans (h.updPower.updPower.unitsOn ht).raise.resumeChans)

theorem Canon.execCmdRingReread {entry} (h : Canon s) : NextCanon (execCmdRingReread entry s) := by
  unfold Machine.execCmdRingReread
  split
  · exact .ite (.next h.ringRead) .fault
  · exact .next h.ringRead

/-! ### Heat and power -/

theorem Canon.updThm {f} (h : Canon s) : Canon (updThm f s) := h.of_eq rfl rfl rfl
theorem Canon.validityNote {old new n} (h : Canon s) : Canon (validityNote old new n s) :=
  .ite h (.ite h.raise h.count.raise)
theorem Canon.warnNote {n} (h : Canon s) : Canon (warnNote n s) := .ite h.updThm.raise (.ite h.updThm h)
theorem Canon.demandRise {x} (h : Canon s) : Canon (demandRise x s) := .ite h.updThm h.updThm

theorem Canon.shutDown {n c} (h : Canon s) : Canon (shutDown n c s) := by
  unfold Machine.shutDown
  exact h.coreOff.updPower.count.updThm

theorem Canon.shutCheck (h : Canon s) : Canon (shutCheck s) := by
  unfold Machine.shutCheck
  split
  · exact .ite h h.shutDown
  · exact h

theorem Canon.gateEnd {counts} (h : Canon s) : Canon (gateEnd counts s) :=
  .ite h (((Canon.ite ((h.updThm.foldl (fun k => k.validityNote)).foldl (fun k => k.warnNote))
    (((h.updThm.foldl (fun k => k.validityNote)).foldl
      (fun k => k.warnNote)).updThm)).demandRise.shutCheck).throttle)

theorem Canon.demandFall (h : Canon s) : Canon (demandFall s) := .ite h h.updThm.throttle
theorem Canon.powerDemand {p} (h : Canon s) : Canon (powerDemand p s) :=
  .ite h.updThm.count.raise (.ite h.updThm h)
theorem Canon.averageEnds {p vin iin} (h : Canon s) : Canon (averageEnds p vin iin s) :=
  .ite h h.updThm.powerDemand.throttle
theorem Canon.execSensorGateEnd {counts} (h : Canon s) : NextCanon (execSensorGateEnd counts s) :=
  .ite (.next h.gateEnd) .fault

/-! ### Register reads -/

theorem Canon.regLatch {off} (h : Canon s) : Canon (regLatch off s) := .ite h.same h

theorem Canon.regsRead {n off} (h : Canon s) : Canon (regsRead n off s).2 := by
  induction n generalizing s off with
  | zero => exact h
  | succ n ih => exact ih h.regLatch

theorem Canon.barRead {off len} (h : Canon s) : Canon (barRead off len s) := .ite h h.regsRead.send

/-! ### Module time -/

theorem Canon.updTim {f} (h : Canon s) : Canon (updTim f s) := h.of_eq rfl rfl rfl
theorem Canon.wrapNote {before} (h : Canon s) : Canon (wrapNote before s) := .ite h h.raise
theorem Canon.stepTime {d} (h : Canon s) : Canon (stepTime d s) := h.updTim.count.raise.wrapNote
theorem Canon.runTime {n} (h : Canon s) : Canon (runTime n s) := h.updTim.wrapNote
theorem Canon.tick (h : Canon s) : Canon (tick s) := h.runTime
theorem Canon.idle (h : Canon s) : Canon (idle s) := .ite h.tick h
theorem Canon.wrapTime (h : Canon s) : Canon (wrapTime s) := h.runTime
theorem Canon.setTime (h : Canon s) : Canon (setTime s) := .ite h h.stepTime
theorem Canon.acquire (h : Canon s) : Canon (acquire s) := h.updTim
theorem Canon.holdOver (h : Canon s) : Canon (holdOver s) := .ite h h.updTim.raise

theorem Canon.selectMaster (h : Canon s) : Canon (selectMaster s) := by
  unfold Machine.selectMaster
  split
  · exact h
  · exact .ite h.updTim h.updTim.acquire.raise

theorem Canon.announced {m} (h : Canon s) : Canon (announced m s) := .ite h h.updTim.selectMaster

theorem Canon.announceLost (h : Canon s) : Canon (announceLost s) := by
  unfold Machine.announceLost
  split
  · exact h
  · extract_lets _ s1
    split
    · exact h.updTim.selectMaster
    · exact h.updTim.holdOver

theorem Canon.syncLost (h : Canon s) : Canon (syncLost s) := .ite h.holdOver h
theorem Canon.syncTaken {m} (h : Canon s) : Canon (syncTaken m s) :=
  .ite h (.ite h.count (.ite h ((Canon.ite h.acquire h).updTim)))
theorem Canon.sendDelayReq {err} (h : Canon s) : Canon (sendDelayReq err s) := .ite h h.updTim.send

theorem Canon.delayTaken {m} (h : Canon s) : Canon (delayTaken m s) := by
  unfold Machine.delayTaken
  split
  · exact h
  · split
    · exact .ite h h.updTim
    · exact h

theorem Canon.slew {o} (h : Canon s) : Canon (slew o s) := by
  unfold Machine.slew
  exact h.updTim

theorem Canon.lockIn (h : Canon s) : Canon (lockIn s) := h.updTim.raise
theorem Canon.suspectExchange {d o} (h : Canon s) : Canon (suspectExchange d o s) :=
  .ite h.updTim.lockIn h.updTim
theorem Canon.acquireSeed (h : Canon s) : Canon (acquireSeed s) := .ite h.updTim.stepTime h.updTim
theorem Canon.largeOffset (h : Canon s) : Canon (largeOffset s) := .ite h.updTim.raise h.updTim.stepTime

theorem Canon.trackExchange {d o m} (h : Canon s) : Canon (trackExchange d o m s) := by
  unfold Machine.trackExchange
  extract_lets _ _ _ _ _ s1 s2
  exact .ite h.updTim.slew.acquireSeed (.ite h.updTim.largeOffset (.ite h.updTim.slew.lockIn h.updTim.slew))

theorem Canon.followTaken {m} (h : Canon s) : Canon (followTaken m s) := by
  unfold Machine.followTaken
  split
  · exact h
  · split
    · exact .ite h (.ite h.updTim.count.suspectExchange (.ite h.updTim.count.trackExchange h.updTim.count))
    · exact .ite h.updTim h
    · exact h

theorem Canon.takePending (h : Canon s) : Canon (takePending s) := .ite h h.updTim.stepTime
theorem Canon.servoRestart {st} (h : Canon s) : Canon (servoRestart st s) := h.updTim

theorem Canon.ptpCtl {v} (h : Canon s) : Canon (ptpCtl v s) := by
  unfold Machine.ptpCtl
  extract_lets s1
  exact .ite h.writeStored.servoRestart (.ite h.writeStored.servoRestart h.writeStored)

theorem Canon.portChange {speed} (h : Canon s) : Canon (portChange speed s) := .ite h h.updTim.raise

/-! ### Register writes -/

theorem Canon.guardRefused (h : Canon s) : Canon (guardRefused s) := h.count.raise
theorem Canon.evtRingCtl {v} (h : Canon s) : Canon (evtRingCtl v s) := .ite h.evtEnable h.evtDisable
theorem Canon.engCtl {e v} (h : Canon s) : Canon (engCtl e v s) :=
  .ite h (.ite h.setRegBits.combCheck.engReset.raise h.setRegBits.combCheck)
theorem Canon.combCtl {c v} (h : Canon s) : Canon (combCtl c v s) := .ite h.combReset h
theorem Canon.waterWrite {v} (h : Canon s) : Canon (waterWrite v s) := .ite h.writeStored h
theorem Canon.hiveCtl {v} (h : Canon s) : Canon (hiveCtl v s) := .ite h.writeStored.hiveFlush h.writeStored
theorem Canon.timeCmd {v} (h : Canon s) : Canon (timeCmd v s) :=
  .ite ((Canon.ite h.setTime h).takePending) (.ite h.setTime h)
theorem Canon.rateWrite {v} (h : Canon s) : Canon (rateWrite v s) := .ite h.updTim h
theorem Canon.thmCtl {v} (h : Canon s) : Canon (thmCtl v s) := .ite h.writeStored.throttle h
theorem Canon.testOpens {e} (h : Canon s) : Canon (testOpens e s) := h.updEng
theorem Canon.pdCtl {first v} (h : Canon s) : Canon (pdCtl first v s) :=
  h.foldl (fun k => .ite (k.powerUp (fun m => m.testOpens)) k.powerDown)

theorem Canon.axisWrite {a o v} (h : Canon s) : Canon (axisWrite a o v s) := by
  unfold Machine.axisWrite
  split
  · exact h.axisCtlWrite
  · exact h.presetCount
  · exact h.axisCtlWrite
  · exact h.axisCtlWrite
  · exact h.axisCtlWrite
  · exact h.axisCtlWrite
  · exact h.writeStored

theorem Canon.stageWrite {off v} (h : Canon s) : Canon (stageWrite off v s) := by
  unfold Machine.stageWrite
  extract_lets _
  exact .ite h.axisWrite (.ite (.ite h.snap h) (.ite h.writeStored.slowCheck (.ite h h.writeStored)))

theorem Canon.crcWrite {u off v} (h : Canon s) : Canon (crcWrite u off v s) := by
  unfold Machine.crcWrite
  split
  · exact h.crcCtl
  · exact h.crcSetState
  · exact h.crcFeed
  · exact h.crcFeed
  · exact h.crcFeed
  · exact h.crcClear
  · exact h.writeStored

theorem Canon.chanWrite {c off v} (h : Canon s) : Canon (chanWrite c off v s) := by
  unfold Machine.chanWrite
  split
  · exact h.dmaCtl
  · exact h.dmaTail
  · exact .ite h h.writeStored

theorem Canon.jobWrite {off v} (h : Canon s) : Canon (jobWrite off v s) := by
  unfold Machine.jobWrite
  split
  · exact h.cmdDoorbell
  · exact h.cplReturn
  · exact h.ringCtl
  · exact .ite h.addCause h
  · exact .ite h h.writeStored

theorem Canon.hifRegWrite {off v} (h : Canon s) : Canon (hifRegWrite off v s) := by
  unfold Machine.hifRegWrite
  split
  · exact h.pdCtl
  · exact h.pdCtl
  · exact h.domainResetWrite
  · exact h.writeStored

theorem Canon.serviceWrite {off v} (h : Canon s) : Canon (serviceWrite off v s) := by
  unfold Machine.serviceWrite
  split
  · exact h.timeCmd
  · exact h.rateWrite
  · exact h.ptpCtl
  · exact .ite h.quoteAsk h
  · exact .ite h.extendNow h
  · exact h.thmCtl
  · exact h.copyCtl
  · exact h.writeStored

theorem Canon.combWrite {off v} (h : Canon s) : Canon (combWrite off v s) := .ite h.combCtl h.writeStored

theorem Canon.otherWrite {off v} (h : Canon s) : Canon (otherWrite off v s) := by
  unfold Machine.otherWrite
  split
  · exact h.evtRingCtl
  · exact h.raiseAs
  · exact h.capCtl
  · exact h.coreCtl
  · exact h.waterWrite
  · exact h.hiveCtl
  · exact h.writeStored

theorem Canon.unitWrite {off v} (h : Canon s) : Canon (unitWrite off v s) := by
  unfold Machine.unitWrite
  split
  · exact h.guardRefused
  · split
    · exact .ite h.engCtl h.writeStored
    · split
      · exact .ite h.chanWrite h
      · exact h.combWrite
      · exact h.stageWrite
      · exact .ite h.crcWrite h
      · exact h.serviceWrite
      · exact h.serviceWrite
      · exact h.serviceWrite
      · exact h.serviceWrite
      · exact h.otherWrite

theorem Canon.hostWrite {off v} (h : Canon s) : Canon (hostWrite off v s) := by
  unfold Machine.hostWrite
  split
  · exact .ite h.requestReset h
  · exact h.jobWrite
  · exact h.hifRegWrite

theorem Canon.regWrite {off v} (h : Canon s) : Canon (regWrite off v s) :=
  .ite h (.ite (h.hifWrite (fun k => k.hostWrite)) (h.barWrite (fun k => k.unitWrite)))

/-! ### SMBus -/

theorem Canon.smbAnswer {pec f} (h : Canon s) (hf : ∀ {t}, Canon t → Canon (f t)) : Canon (smbAnswer pec f s)
  :=
  .ite h (hf h)

theorem Canon.smbWord {n} (h : Canon s) : Canon (smbWord n s) := h.send

theorem Canon.smbTemp (h : Canon s) : Canon (smbTemp s) := by
  unfold Machine.smbTemp
  split
  · exact h.smbWord
  · exact h.freeNext.smbWord

theorem Canon.smbFru {off len} (h : Canon s) : Canon (smbFru off len s) := h.send
theorem Canon.smbReset {v pec} (h : Canon s) : Canon (smbReset v pec s) := .ite h h.count.requestReset

/-- Every command that answers a state keeps the three stores canonical: one arm for each command, by what its meaning
is made of. -/
theorem Canon.exec {i} (h : Canon s) : NextCanon (exec i s) :=
  match i with
  | .powerOn .. => .next h.powerRise
  | .ready => .next h.readyRise
  | .seatedClose => .next h.seated
  | .bulkCharged => .next h.charged
  | .removal => .next h.removed
  | .aonStop => .next h.aonStops
  | .vinLow => .next h.vinFalls
  | .vinLoss => .next h.vinLost
  | .glbReset .. => .next (.ite (h.hifWrite (fun k => k.requestReset)) h)
  | .moduleResetProceed .. => .next h.resetProceeds
  | .functionReset => .next h.functionResets
  | .quadReset .. => .next (h.hifWrite (fun k => k.domainResetWrite))
  | .domainReset .. => .next (h.hifWrite (fun k => k.domainResetWrite))
  | .domainPowerDown .. => .next (h.hifWrite (fun k => k.powerDown))
  | .domainOff .. => .next h.switchOff
  | .domainPowerUp .. => .next (h.hifWrite (fun k => k.powerUp (fun m => m.startTest)))
  | .hostLinkUp .. => .next h.linkComesUp
  | .hostLinkDown => .next h.linkIsLost
  | .reachabilityChange .. => .next h.reachability
  | .hostCompletionError .. => .next h.hostError
  | .tableLoadReread .. => .next h.loadReread
  | .cmdRingReread .. => h.execCmdRingReread
  | .bar2Read .. => .next h.windowRead
  | .bar2Write .. => .next h.windowWrite
  | .registerWrite .. => .next h.regWrite
  | .latchingRead .. => .next h.barRead
  | .guardedWriteRefused .. => .next (.ite (h.barWrite (fun k => k.guardRefused)) h)
  | .cmdTailDoorbell .. => .next (h.hifWrite (fun k => k.cmdDoorbell))
  | .cplHeadWrite .. => .next (h.hifWrite (fun k => k.cplReturn))
  | .cmdEnable => .next (h.hifWrite (fun k => k.cmdRingOn))
  | .cplEnable => .next (h.hifWrite (fun k => k.cplRingOn))
  | .restart => .next (h.hifWrite (fun k => k.ringRestart))
  | .stop => .next (h.hifWrite (fun k => k.addCause))
  | .commandEntryRead .. => h.execCommandEntryRead
  | .cmdRetry .. => h.execCmdRetry
  | .cplPost => .next h.postNext
  | .jobOpen => .next h.jobOpen
  | .jobClose => .next h.jobClose
  | .loadTableKernel .. => .next (h.loadTable (fun k => k.loadCorrection))
  | .loadTableField .. => .next (h.loadTable (fun k => k.loadCorrection))
  | .loadTableBeam .. => .next (h.loadTable (fun k => k.loadBeam))
  | .loadTableMask .. => .next (h.loadTable (fun k => k.loadMask))
  | .loadTableWeight .. => .next (h.loadTable (fun k => k.loadWeight))
  | .loadTableRasterProgram .. => .next (h.loadTable (fun k => k.loadProgram))
  | .loadTableCorrectionProgram .. => .next (h.loadTable (fun k => k.loadProgram))
  | .loadTableLinkEq .. => .next (h.loadTable (fun k => k.loadEq))
  | .bindStream .. => .next h.bindStream
  | .forageStripe => .next h.forageIntake
  | .forageStart => .next h.forageStart
  | .forageEnd => .next h.forageEnd
  | .writeStripe => .next h.writeIntake
  | .resumeStripe => .next h.writeIntake
  | .stripeBoundary => .next h.stripeBoundary
  | .calibrateTdc => .next h.tdcBegin
  | .calibrateSensors => .next h.sensorsBegin
  | .calibrationEnd .. => .next h.calEnd
  | .selfTest => .next h.selfTest
  | .selfTestEnd .. => .next h.selfTestEnd
  | .fence => h.execFence
  | .setGuardedPropose .. => .next h.blockMoved.propose
  | .setGuardedApprove .. => .next h.blockMoved.hostDecision
  | .setGuardedReject .. => .next h.blockMoved.hostDecision
  | .setGuardedWithdraw .. => .next h.blockMoved.withdraw
  | .firmwareWriteEnd .. => .next h.firmwareEnd
  | .proposalWindowEnd => .next h.windowEnd
  | .dmaTailDoorbell .. => .next (h.barWrite (fun k => k.dmaTail))
  | .dmaDescriptor .. => h.execDmaDescriptor
  | .dmaTransferEnd .. => .next h.dmaEnd
  | .dmaRestart .. => .next (h.barWrite (fun k => k.dmaRestart))
  | .dmaPause .. => .next (h.barWrite (fun k => k.dmaPause))
  | .dmaPaused .. => .next h.dmaPaused
  | .haltedPower .. => .next h.dmaHalted
  | .pageFetch .. => .next h.pageFetch
  | .pageFetchDone .. => .next h.pageFetchDone
  | .pageRetry .. => .next h.pageRetry
  | .pageDecode .. => .next h.pageDecode
  | .nopRecord .. => .next (h.takeRecord (fun k => k.nopRecord))
  | .streamHeader .. => .next (h.takeRecord (fun k => k.headerRecord))
  | .streamEnd .. => .next (h.takeRecord (fun k => k.streamEndRecord))
  | .cellBegin .. => .next (h.takeRecord (fun k => k.cellBeginRecord))
  | .cellEnd .. => .next (h.takeRecord (fun k => k.cellEndRecord))
  | .rect .. => .next (h.takeRecord (fun k => k.rectRecord))
  | .rectSame .. => .next (h.takeRecord (fun k => k.rectSameRecord))
  | .trapH .. => .next (h.takeRecord (fun k => k.trapHRecord))
  | .trapV .. => .next (h.takeRecord (fun k => k.trapVRecord))
  | .poly .. => .next (h.takeRecord (fun k => k.polyRecord))
  | .polyM .. => .next (h.takeRecord (fun k => k.polyMRecord))
  | .curve .. => .next (h.takeRecord (fun k => k.curveRecord))
  | .sref .. => .next (h.takeRecord (fun k => k.placeRecord))
  | .aref .. => .next (h.takeRecord (fun k => k.placeRecord))
  | .tileListDone .. => .next h.tileListDone
  | .taskAssign => .next h.taskAssign
  | .tileCheck .. => .next h.tileCheck
  | .taskWatchdog .. => h.execTaskWatchdog
  | .engReset .. => .next (h.barWrite (fun k => .ite k.engReset.raise k))
  | .engOffline .. => .next (h.barWrite (fun k => .ite k.setRegBits.combCheck k))
  | .combReset .. => .next (h.barWrite (fun k => .ite k.combReset k))
  | .ceBlockAssign .. => .next h.ceAssign
  | .hiveFillInstall => .next h.fillInstall
  | .hiveFlush => .next (h.barWrite (fun k => k.hiveFlush))
  | .kNop .. => .next h.kPlain
  | .kAdd .. => h.execKAdd
  | .kSub .. => h.execKSub
  | .kAnd .. => h.execKAnd
  | .kOr .. => h.execKOr
  | .kXor .. => h.execKXor
  | .kShl .. => h.execKShl
  | .kShr .. => h.execKShr
  | .kSar .. => h.execKSar
  | .kMul .. => h.execKMul
  | .kMulhu .. => h.execKMulhu
  | .kSlt .. => h.execKSlt
  | .kSltu .. => h.execKSltu
  | .kMin .. => h.execKMin
  | .kMax .. => h.execKMax
  | .kAddi .. => h.execKAddi
  | .kAndi .. => h.execKAndi
  | .kOri .. => h.execKOri
  | .kXori .. => h.execKXori
  | .kShli .. => h.execKShli
  | .kShri .. => h.execKShri
  | .kSari .. => h.execKSari
  | .kMovi .. => h.execKMovi
  | .kMovhi .. => h.execKMovhi
  | .kSubi .. => h.execKSubi
  | .kLdw .. => h.execKLdw
  | .kStw .. => h.execKStw
  | .kLdh .. => h.execKLdh
  | .kSth .. => h.execKSth
  | .kBeq .. => h.execKBeq
  | .kBne .. => h.execKBne
  | .kBlt .. => h.execKBlt
  | .kBge .. => h.execKBge
  | .kBltu .. => h.execKBltu
  | .kBgeu .. => h.execKBgeu
  | .kJal .. => .next (.ite h.kJump h)
  | .kJr .. => .next (.ite h.kJump h)
  | .kVld .. => h.execKVld
  | .kVst .. => h.execKVst
  | .kAld .. => h.execKAld
  | .kAst .. => h.execKAst
  | .kVmov .. => h.execKVmov
  | .kVadd .. => h.execKVadd
  | .kVsub .. => h.execKVsub
  | .kVadds .. => h.execKVadds
  | .kVsubs .. => h.execKVsubs
  | .kVmin .. => h.execKVmin
  | .kVmax .. => h.execKVmax
  | .kVand .. => h.execKVand
  | .kVor .. => h.execKVor
  | .kVxor .. => h.execKVxor
  | .kVshli .. => .next (h.kDefined (fun k => k.kPlain))
  | .kVshri .. => .next (h.kDefined (fun k => k.kPlain))
  | .kVbc .. => h.execKVbc
  | .kVidx .. => h.execKVidx
  | .kVget .. => h.execKVget
  | .kClra .. => h.execKClra
  | .kAadd .. => h.execKAadd
  | .kAsub .. => h.execKAsub
  | .kAmac .. => h.execKAmac
  | .kAmacs .. => h.execKAmacs
  | .kRshr .. => h.execKRshr
  | .kAmov .. => h.execKAmov
  | .kAadda .. => h.execKAadda
  | .kAshr .. => h.execKAshr
  | .kAbc .. => h.execKAbc
  | .kCeq .. => h.execKCeq
  | .kCltu .. => h.execKCltu
  | .kCleu .. => h.execKCleu
  | .kAclt .. => h.execKAclt
  | .kAceq .. => h.execKAceq
  | .kMand .. => h.execKMand
  | .kMor .. => h.execKMor
  | .kMandn .. => h.execKMandn
  | .kMxor .. => h.execKMxor
  | .kMsat .. => .next h.kPlain
  | .kMcount .. => h.execKMcount
  | .kMulsh .. => .next (h.kDefined (fun k => k.kPlain))
  | .kLi .. => .next h.kPlain
  | .kVbci .. => .next (h.kDefined (fun k => k.kPlain))
  | .kTaskWait .. => h.execKTaskWait
  | .kTaskGet .. => .next (h.kHeld (fun k => k.kNext.freeNext))
  | .kTaskDone .. => .next (h.kHeld (fun k => .ite k.engFault (.ite k.engFault (.ite k.count.raiseFirst k.taskDone))))
  | .kInEntry .. => .next (h.kHeld (fun k => k.inEntry))
  | .kFactLoad .. => .next (h.kHeld (fun k => .ite k.engFault k.kNext))
  | .kCovRow .. => .next (h.kDefined (fun k => k.kHeld (fun m => .ite m.engFault m.kNext)))
  | .kOutRow .. => .next (h.kHeld (fun k => .ite k.engFault (.ite k.engFault k.kNext)))
  | .kHiveGet .. => .next (h.kDefined (fun k => k.kHeld (fun m => .ite m.engFault m.kNext)))
  | .kHivePut .. => h.execKHivePut
  | .kFip .. => .next (h.kHeld (fun k => .ite k.engFault k.kNext))
  | .kCntAdd .. => .next (h.kDefined (fun k => k.kHeld (fun m => m.kNext)))
  | .kSpanCfg .. => .next h.kPlain
  | .kSpanRow .. => .next (h.kHeld (fun k => .ite k.engFault k.kNext))
  | .kXeLine .. => .next (h.xeEdge (fun k => k.insertCrossings))
  | .kXeArc .. => .next (h.xeEdge (fun k => .ite k.insertCrossings k.kNext))
  | .kSpan4 .. => h.execKSpan4
  | .kDenLd .. => .next (h.kHeld (fun k => .ite k k.kNext))
  | .kFldLd .. => .next (h.kHeld (fun k => k.kNext))
  | .kFacSt .. => .next (h.kHeld (fun k => .ite k.engFault k.kNext))
  | .kTapu .. => .next (h.kDefined (fun k => k.kPlain))
  | .kTapv .. => h.execKTapv
  | .kReduce .. => h.execKReduce
  | .kExpand .. => h.execKExpand
  | .kKdiv .. => .next h.kPlain
  | .axisEdge .. => .next h.axisEdge
  | .indexEdge .. => .next h.indexEdge
  | .standstill .. => .next h.standstill
  | .axisCountPreset .. => .next (h.barWrite (fun k => k.presetCount))
  | .axisCtlWrite .. => .next (h.barWrite (fun k => k.axisCtlWrite))
  | .snap => .next (h.barWrite (fun k => k.snap))
  | .slowForce .. => .next (h.barWrite (fun k => k.writeStored.slowCheck))
  | .seqNop => .next (.ite h.seqNext h)
  | .setAxes => .next (.ite h.same.seqNext h)
  | .setInc => .next (.ite h.same.seqNext h)
  | .setStart => .next (.ite h.same.seqNext h)
  | .setXref => .next (.ite h.same.seqNext h)
  | .arm => .next (.ite h.arm h)
  | .run => .next (.ite h.same h)
  | .seqEnd => .next (.ite h.same.raise.setWrite.beginDrain.refreshFrontier.drainCheck.slowCheck h)
  | .flashCommit .. => .next h.flashCommit
  | .sliceGather .. => .next h.sliceGather
  | .captureArm .. => .next (h.barWrite (fun k => k.capCtl))
  | .train .. => .next (h.barWrite (fun k => k.coreCtl))
  | .bringupStageLimit => .next (.ite h h.stageLimit)
  | .spare => .next (.ite h.assignSpares h)
  | .returnLaneLock .. => .next h.returnLock
  | .returnLaneLockLoss .. => .next h.returnLoss
  | .status .. => .next h.statusBlock
  | .caps .. => .next h.capsBlock
  | .negotiateListenEnd => .next h.listenEnd
  | .acknowledgementFrame .. => h.execAcknowledgementFrame
  | .drainTimeout => .next h.drainLimit
  | .rest .. => .next (h.barWrite (fun k => k.coreCtl))
  | .wake .. => .next (h.barWrite (fun k => k.coreCtl))
  | .wakeLimit => .next h.wakeEnd
  | .toolRefLoss => .next h.refLoss
  | .toolRefReturn => .next h.same
  | .sensorGateEnd .. => h.execSensorGateEnd
  | .thermalDemandFall => .next h.demandFall
  | .powerAverage .. => .next h.averageEnds
  | .thermalRestart .. => .next h.thermalStarts
  | .refresh .. => .next h.refreshBank
  | .refreshRateRead .. => .next h.refreshRate
  | .dqsTrack .. => .next h.dqsTrack
  | .ratClear => .next h.ratClear
  | .rowActivation .. => .next h.rowActivation
  | .patrolScrub .. => .next h.patrol
  | .writeCrcError .. => .next h.writeCrc
  | .caParityError .. => .next h.caParity
  | .dramReadError .. => .next h.readError
  | .srIdleEntry .. => .next h.srIdle
  | .srEntryComplete .. => .next h.srEntered
  | .srExitComplete .. => .next h.srExited
  | .crcStart .. => .next (h.barWrite (fun k => k.crcCtl))
  | .crcFeedB .. => .next (h.barWrite (fun k => k.crcFeed))
  | .crcFeedH .. => .next (h.barWrite (fun k => k.crcFeed))
  | .crcFeedW .. => .next (h.barWrite (fun k => k.crcFeed))
  | .crcStateWrite .. => .next (h.barWrite (fun k => k.crcSetState))
  | .crcCompare .. => .next (h.barWrite (fun k => k.crcCtl))
  | .dramGo .. => .next (h.barWrite (fun k => k.crcCtl))
  | .dramFeedEnd .. => .next (.ite h.crcFeedEnd h)
  | .quoteGo => .next (h.barWrite (fun k => k.quoteAsk))
  | .quoteDone => .next h.quoteTaken
  | .extendGo => .next (h.barWrite (fun k => k.extendNow))
  | .calCopyGo => .next (h.barWrite (fun k => k.copyBegin))
  | .quoteReq .. => .next h.quoteQueue
  | .noticeReq .. => .next h.notice
  | .decision .. => .next h.mgmtDecision
  | .certReq .. => .next h.certReply
  | .announce .. => .next h.announced
  | .sync .. => .next h.syncTaken
  | .followUp .. => .next h.followTaken
  | .delayResp .. => .next h.delayTaken
  | .delayReq .. => .next h.sendDelayReq
  | .announceTimeout => .next h.announceLost
  | .syncTimeout => .next h.syncLost
  | .accept => .next (h.barWrite (fun k => k.takePending))
  | .timSet => .next (h.barWrite (fun k => k.setTime))
  | .ptpCtlWrite .. => .next (h.barWrite (fun k => k.ptpCtl))
  | .timeWrap => .next (.ite h.wrapTime h)
  | .arpRequest .. => .next (.ite h.send h)
  | .icmpEcho .. => .next (.ite h.send h)
  | .mgmtLinkChange .. => .next h.portChange
  | .smbStatus .. => .next (h.smbAnswer (fun k => k.smbWord))
  | .smbVin .. => .next (h.smbAnswer (fun k => k.smbWord))
  | .smbPower .. => .next (h.smbAnswer (fun k => k.smbWord))
  | .smbTempMax .. => .next (h.smbAnswer (fun k => k.smbTemp))
  | .smbResetReq .. => .next h.smbReset
  | .smbFruRead .. => .next (h.smbAnswer (fun k => k.smbFru))
  | .evtRingEnable => .next (h.barWrite (fun k => k.evtEnable))
  | .evtRingHeadWrite .. => .next (h.barWrite (fun k => k.writeStored))
  | .evtTest .. => .next (h.barWrite (fun k => k.raiseAs))
  | .eventEntryWrite => .next h.writeNextEntry
  | .msixMessage .. => .next h.sendMessage
  | .discardedBlock .. => .next h.discarded
  | .perstDeasserted => .next h.updHif
  | .bar4Write .. => .next h.msixWrite
  | .calCopyEnd => .next h.copyEnd
  | .vinRestored => .next h.vinReturns
  | .badMaintenanceDatagram => .next h.maintBad

theorem Canon.step (h : Canon s) : NextCanon (step s) := by
  unfold Machine.step
  split
  · exact .next h.idle
  · exact Canon.exec h.same

end Sys2Proof.Machine

/-- Settles O57: every command is built from writes that keep the canonical form of the stores. -/
theorem storesStayCanonical : Obligations.StoresStayCanonical := by
  intro s t hd hr hl hst
  obtain ⟨hdram, hregs, hlmem⟩ := Sys2Proof.Machine.Canon.step ⟨hd, hr, hl⟩ t hst
  exact ⟨hdram, hregs, hlmem⟩
end

section
/-!
PROOFS. Which sources and registers a step touches, and the guarded fields (O40).
-/

namespace Sys2Proof.Machine
variable {s t u : State}

/-! ### Which sources a step has raised -/

/-- A raise changes registers and the event unit only. -/
theorem raise_frame (src info cseq : Nat) (s : State) :
    raise src info cseq s = { s with regs := (raise src info cseq s).regs, evt := (raise src info cseq s).evt } := by
  unfold raise raiseAs formEntry
  split
  · dsimp only
    split
    · split
      · rfl
      · split <;> rfl
    · rfl
  · rfl

/-- Bit `k` of a word after bit `j` has been set in it. -/
theorem bit_or_twoPow (w : Word) {j k : Nat} (hj : j < 32) :
    Bits.bit (w ||| BitVec.ofNat 32 (2 ^ j)).toNat k = (Bits.bit w.toNat k || decide (k = j)) := by
  have h (n : Nat) : Bits.bit n k = n.testBit k := by
    rw [Bits.bit, Nat.testBit_eq_decide_div_mod_eq]
    rfl
  rw [h, h, BitVec.toNat_or, BitVec.toNat_ofNat, Nat.mod_eq_of_lt (Nat.pow_lt_pow_right (by omega) hj), Nat.testBit_or,
    Nat.testBit_two_pow]
  simp [eq_comm]

/-- A raise of a used source sets its PENDING bit and no other (R424). -/
theorem raised_raise {src info cseq : Nat} (hu : RegMap.usedSource src = true) (hs : src < 256) (h : RegsWf s) :
    Raised [src] s (raise src info cseq s) := by
  intro k hk
  rw [List.mem_singleton, Pending, Pending, regN, regN]
  by_cases hw : k / 32 = src / 32
  · rw [hw, raise_setsPending s src info cseq h hu hs, bit_or_twoPow _ (by omega), Bool.or_eq_true,
      decide_eq_true_eq]
    exact or_congr_right ⟨fun e => by omega, fun e => by rw [e]⟩
  · rw [reg_raise s src info cseq _ h (by omega) (by omega)]
    exact ⟨Or.inl, fun e => e.resolve_right fun e => hw (by rw [e])⟩

/-- Where the PENDING registers keep their values nothing has been raised. -/
theorem raised_nil (h : ∀ off, 0x010040 ≤ off → off < 0x010060 → reg t off = reg s off) : Raised [] s t := by
  intro k hk
  rw [Pending, Pending, regN, regN, h _ (by omega) (by omega)]
  simp

theorem Raised.trans {l m : List Nat} (h : Raised l s t) (k : Raised m t u) : Raised (l ++ m) s u := by
  intro n hn
  rw [k n hn, h n hn, List.mem_append, or_assoc]

/-- A counter that is no PENDING register raises nothing. -/
theorem raised_count {o n : Nat} (ho : o < 0x010040 ∨ 0x010060 ≤ o) (h : RegsWf s) : Raised [] s (count o n s) :=
  raised_nil fun off h1 h2 => by rw [reg_count s o off n h, if_neg (by omega)]

theorem sameRegsBut_raise {src info cseq : Nat} (l : List Nat) (hs : src < 256) (h : RegsWf s) :
    SameRegsBut l s (raise src info cseq s) := fun off _ h1 h2 => reg_raise s src info cseq off h (by omega) h1

theorem sameRegsBut_count (o n : Nat) (h : RegsWf s) : SameRegsBut [o] s (count o n s) := fun off h1 _ _ => by
  rw [reg_count s o off n h, if_neg (by simpa using h1)]

theorem SameRegsBut.trans {l : List Nat} (h : SameRegsBut l s t) (k : SameRegsBut l t u) : SameRegsBut l s u :=
  fun off h1 h2 h3 => (k off h1 h2 h3).trans (h off h1 h2 h3)

theorem regsWf_count {o n : Nat} (h : RegsWf s) : RegsWf (count o n s) := setReg_wf s o _ h

/-! ### Guarded fields (R23, R399) -/

/-- A refused write to a guarded field: counted, and event 240. -/
theorem guardRefused_effect (h : RegsWf s) :
    guardRefused s = { s with regs := (guardRefused s).regs, evt := (guardRefused s).evt } ∧
      reg (guardRefused s) 0x1400C0 = Bits.satAdd (reg s 0x1400C0) 1 ∧ SameRegsBut [0x1400C0] s (guardRefused s) ∧
      Raised [240] s (guardRefused s) := by
  have hc : RegsWf (count 0x1400C0 1 s) := regsWf_count h
  refine ⟨?_, ?_, (sameRegsBut_count 0x1400C0 1 h).trans (sameRegsBut_raise _ (by decide) hc), ?_⟩
  · conv_lhs => rw [guardRefused, raise_frame]
    rfl
  · rw [guardRefused, reg_raise _ _ _ _ _ hc (by decide) (by decide), reg_count s _ _ 1 h, if_pos rfl]
  · exact (raised_count (by decide) h).trans (raised_raise (by decide) (by decide) hc)

/-- The offsets of the guarded registers, and what a write there runs. -/
theorem regWrite_guarded {off : Nat} (v : Word) (s : State) (ho : off = 0x0C0004 ∨ off = 0x140004 ∨ off = 0x140008) :
    guardedReg off = true ∧ regWrite off v s = barWrite guardRefused s := by
  obtain rfl | rfl | rfl := ho <;> exact ⟨rfl, rfl⟩

end Sys2Proof.Machine

open Sys2Proof Sys2Proof.Machine in
/-- Settles O40: both commands refuse the write, which is counted and raises event 240. -/
theorem guardedWrites : Obligations.GuardedWrites := by
  intro off v s hw hb ho i hi
  obtain ⟨hg, hr⟩ := regWrite_guarded v s ho
  obtain ⟨hframe, hcount, hsame, hraised⟩ := guardRefused_effect hw
  have hopen : barWrite guardRefused s = guardRefused s := barWrite_open _ s hb.1 hb.2
  refine ⟨guardRefused s, ?_, hframe, by rw [hframe], hcount, hsame, hraised⟩
  obtain rfl | rfl := hi
  · exact congrArg _ (hr.trans hopen)
  · show Host.Outcome.next (if guardedReg off.toNat then barWrite guardRefused s else s) = _
    rw [if_pos hg, hopen]
end

section
/-!
PROOFS. The values at reset (O58).
-/

namespace Sys2Proof.Machine

/-- An engine at reset holds no task, and its scalar registers are 0. -/
theorem reset_engine (e : Fin 148) :
    (State.reset.eng[e]).held = none ∧ ∀ r, getG (State.reset.eng[e]) r = 0 := by
  rw [show State.reset.eng = Vector.ofFn _ from rfl, Fin.getElem_fin, Vector.getElem_ofFn]
  refine ⟨rfl, fun r => ?_⟩
  simp [getG, Engine.fresh]

end Sys2Proof.Machine

open Sys2Proof Sys2Proof.Machine in
/-- Settles O58: the stores are canonical at reset, and each value is that of its field's table. -/
theorem resetValues : Obligations.ResetValues := by
  obtain ⟨hdram, hregs, hlmem⟩ := canon_reset
  refine ⟨hdram, hregs, hlmem, rfl, rfl, rfl, fun _ => rfl, ?_⟩
  refine ⟨by decide +kernel, by decide +kernel, by decide +kernel, by decide +kernel, by decide +kernel, by decide +kernel,
    by decide +kernel, by decide +kernel, by decide +kernel, rfl, rfl, rfl, rfl, rfl, rfl, rfl, rfl, rfl, ?_⟩
  exact ⟨by decide, reset_engine, by decide⟩
end

section
/-!
PROOFS. A function reset and the loss of the host link (O34): what the cleared state holds, and what the count, the events
and STAGE_SLOW_N add to it.
-/

namespace Sys2Proof.Machine

set_option Elab.async false

variable {s t u : State}

/-! ### Registers after a reset (R22) -/

/-- A sparse register file after a reset that keeps every reset value, read at one offset. -/
theorem get_regsAfter {f : Nat → Word → Word} {l : List (Nat × Word)} (off : Nat)
    (hf : f off (RegMap.reset off) = RegMap.reset off) (h : Sparse.wf RegMap.reset l = true) :
    Sparse.get RegMap.reset (regsAfter f l) off = f off (Sparse.get RegMap.reset l off) := by
  induction l with
  | nil => exact hf.symm
  | cons e r ih =>
    obtain ⟨a, w⟩ := e
    simp only [Sparse.wf, Sparse.above, Bool.and_eq_true, decide_eq_true_eq] at h
    obtain ⟨-, hr⟩ := h
    have hrest := ih (Sparse.above_none _ _ a hr)
    have hbelow : Sparse.get RegMap.reset (regsAfter f r) a = RegMap.reset a :=
      Sparse.get_below _ _ a a (above_regsAfter hr) (le_refl _)
    unfold regsAfter at hrest hbelow ⊢
    rw [List.map_cons, List.filter_cons]
    by_cases ho : off = a
    · subst ho
      split
      · simp [Sparse.get]
      · next hd =>
        rw [hbelow, Sparse.get, if_pos rfl]
        exact (by simpa using hd : f off w = RegMap.reset off).symm
    · rw [Sparse.get, if_neg ho, ← hrest]
      split
      · rw [Sparse.get, if_neg ho]
      · rfl

/-- A function reset leaves a register at its reset value there. -/
theorem afterFunction_reset (off : Nat) : RegMap.afterFunction off (RegMap.reset off) = RegMap.reset off := by
  unfold RegMap.afterFunction
  split
  · rfl
  · next r _ =>
    generalize RegMap.reset off = x
    generalize BitVec.ofNat 32 (r.rws ||| r.keepF) = k
    dsimp only
    ext i hi
    cases h : k[i] <;> simp [h]

/-- A function reset returns a register to its reset value where it keeps no bit. -/
theorem afterFunction_cleared {off : Nat} {w : Word} {r : Reg} (h : RegMap.find off = some r)
    (hk : r.rws ||| r.keepF = 0) : RegMap.afterFunction off w = RegMap.reset off := by
  rw [RegMap.afterFunction, h]
  dsimp only
  rw [hk, show ~~~BitVec.ofNat 32 0 = BitVec.allOnes 32 from rfl, BitVec.and_allOnes]
  simp

/-- No event is pending after a function reset. -/
theorem afterFunction_pending (w : Word) {i : Nat} (hi : i < 8) : RegMap.afterFunction (0x010040 + 4 * i) w = 0 := by
  interval_cases i <;> exact (afterFunction_cleared rfl rfl).trans rfl

/-! ### The journal and the registers -/

/-- Copying forward the results of unfinished commands counts nothing: it only raises source 17 (R313). -/
theorem journalCopies_regs (n : Nat) (h : RegsWf s) :
    RegsWf (journalCopies n s) ∧ SameRegsBut [] s (journalCopies n s) := by
  induction n generalizing s with
  | zero => exact ⟨h, fun _ _ _ _ => rfl⟩
  | succ k ih =>
    unfold journalCopies
    split
    · next r _ =>
      have hput : ∀ x : JRec, RegsWf (journalPut x s) := fun x => by rwa [RegsWf, journalPut_regs]
      obtain ⟨hw, hsame⟩ := ih (raise_wf _ 17 0 0 (hput _))
      refine ⟨hw, SameRegsBut.trans (fun off _ h1 h2 => ?_) hsame⟩
      rw [reg_raise _ _ _ _ _ (hput _) (by omega) h1]
      exact congrArg (Sparse.get RegMap.reset · off) (journalPut_regs _ _)
    · exact ⟨h, fun _ _ _ _ => rfl⟩

/-- A journal record changes no register save those of source 17. -/
theorem journalAdd_regs {kind opcode status cause cseq detail body} (h : RegsWf s) :
    RegsWf (journalAdd kind opcode status cause cseq detail body s) ∧
      SameRegsBut [] s (journalAdd kind opcode status cause cseq detail body s) := by
  have hregs : (journalAdd kind opcode status cause cseq detail body s).regs = (journalCopy s).regs :=
    journalPut_regs _ _
  unfold RegsWf SameRegsBut reg
  rw [hregs]
  exact journalCopies_regs _ h

/-- The record added stands first in the journal. -/
theorem journalAdd_head {kind opcode status cause cseq detail body} :
    ∃ r, (journalAdd kind opcode status cause cseq detail body s).journal.head? = some r ∧ r.kind = kind := by
  unfold journalAdd journalPut
  rw [exportLog_journal]
  exact ⟨_, rfl, rfl⟩

/-! ### STAGE_SLOW_N (R209, R338) -/

/-- The check sets the line with event 137, releases it with event 138, or does nothing. -/
theorem slowCheck_cases (s : State) :
    slowCheck s = s ∨ ∃ b : Bool, slowCheck s =
      raise (if b then 137 else 138) 0 (wseq s) { s with seq := { s.seq with slow := b } } := by
  unfold slowCheck
  extract_lets low high
  by_cases hset : (!s.seq.slow && (slowForced s || low)) = true
  · exact .inr ⟨true, if_pos hset⟩
  · rw [if_neg hset]
    by_cases hclear : (s.seq.slow && high && !slowForced s) = true
    · exact .inr ⟨false, if_pos hclear⟩
    · exact .inl (if_neg hclear)

/-- Without a write and without SLOW_FORCE the line is released. -/
theorem slowCheck_released (hw : s.job.write = none) (hf : slowForced s = false) : (slowCheck s).seq.slow = false := by
  unfold slowCheck
  cases hs : s.seq.slow <;> simp [hw, hf, hs]

/-! ### What raising events adds -/

/-- Events raised, the registers `o` counted besides, STAGE_SLOW_N perhaps moved: the register file stays canonical, the
sources `l` become pending, and an event ring that is off stays off and as it was. -/
structure Signals (o l : List Nat) (s t : State) : Prop where
  frame : ∃ r e b, t = { s with regs := r, evt := e, seq := { s.seq with slow := b } }
  wf : RegsWf t
  regs : SameRegsBut o s t
  raised : Raised l s t
  ring : s.evt.enabled = false → t.evt.enabled = false ∧ t.evt.held = s.evt.held

theorem Signals.trans {o l m : List Nat} (h : Signals o l s t) (k : Signals o m t u) : Signals o (l ++ m) s u := by
  obtain ⟨⟨_, _, _, rfl⟩, -, hregs, hraised, hring⟩ := h
  obtain ⟨⟨_, _, _, rfl⟩, kwf, kregs, kraised, kring⟩ := k
  refine ⟨⟨_, _, _, rfl⟩, kwf, hregs.trans kregs, hraised.trans kraised, fun hoff => ?_⟩
  obtain ⟨hoff', hheld⟩ := hring hoff
  obtain ⟨koff, kheld⟩ := kring hoff'
  exact ⟨koff, kheld.trans hheld⟩

theorem Signals.refl {o : List Nat} (h : RegsWf s) : Signals o [] s s :=
  ⟨⟨_, _, _, rfl⟩, h, fun _ _ _ _ => rfl, raised_nil fun _ _ _ => rfl, fun hoff => ⟨hoff, rfl⟩⟩

/-- A raise of a used source. -/
theorem Signals.raise {o : List Nat} {src info cseq : Nat} (hu : RegMap.usedSource src = true) (hs : src < 256)
    (h : RegsWf s) : Signals o [src] s (raise src info cseq s) := by
  refine ⟨⟨_, _, _, raise_frame _ _ _ _⟩, raise_wf _ _ _ _ h, sameRegsBut_raise o hs h, raised_raise hu hs h, fun hoff => ?_⟩
  unfold Machine.raise raiseAs formEntry
  rw [if_pos hu]
  have hset : (setPendingBit src s).evt = s.evt := rfl
  simp only [hset, hoff]
  split <;> simp [oweMessage, hoff]

/-- A counter that is no PENDING register. -/
theorem Signals.count {o : List Nat} {off n : Nat} (ho : off ∈ o) (hp : off < 0x010040 ∨ 0x010060 ≤ off) (h : RegsWf s) :
    Signals o [] s (count off n s) := by
  refine ⟨⟨_, _, _, rfl⟩, regsWf_count h, fun k hk h1 h2 => ?_, raised_count hp h, fun hoff => ⟨hoff, rfl⟩⟩
  exact sameRegsBut_count off n h k (fun hmem => hk (by rw [List.mem_singleton.mp hmem]; exact ho)) h1 h2

/-- Following the lead raises at most 137 or 138. -/
theorem Signals.slowCheck {o : List Nat} (h : RegsWf s) : ∃ l, l ⊆ [137, 138] ∧ Signals o l s (slowCheck s) := by
  obtain hc | ⟨b, hc⟩ := slowCheck_cases s
  · exact ⟨[], by simp, by rw [hc]; exact .refl h⟩
  · obtain ⟨⟨_, _, _, hframe⟩, hwf, hregs, hraised, hring⟩ := Signals.raise (o := o) (src := if b then 137 else 138)
      (info := 0) (cseq := wseq s) (s := { s with seq := { s.seq with slow := b } }) (by cases b <;> rfl)
      (by cases b <;> decide) h
    refine ⟨[if b then 137 else 138], by cases b <;> simp, ?_⟩
    rw [hc]
    exact ⟨⟨_, _, _, hframe⟩, hwf, hregs, hraised, hring⟩

/-! ### A function reset completes (R356, R360) -/

/-- The completion counts the reset and raises 228, and 229 where the host was reachable. -/
theorem functionDone_signals {o : List Nat} (was : Bool) (ho : 0x170024 ∈ o) (h : RegsWf s) :
    ∃ l, l ⊆ [137, 138] ∧ Signals o (228 :: (l ++ if was then [229] else [])) s (functionDone was s) := by
  have hcount : Signals o [] s (count 0x170024 1 s) := .count ho (by decide) h
  have h228 := hcount.trans (.raise (src := 228) (info := 0) (cseq := 0) (by decide) (by decide) hcount.wf)
  obtain ⟨l, hl, hline⟩ := Signals.slowCheck (o := o) h228.wf
  refine ⟨l, hl, ?_⟩
  cases was
  · exact (h228.trans hline).trans (.refl hline.wf)
  · exact (h228.trans hline).trans (.raise (src := 229) (by decide) (by decide) hline.wf)

/-- The completion counts the reset once. -/
theorem functionDone_count (was : Bool) (h : RegsWf s) :
    reg (functionDone was s) 0x170024 = Bits.satAdd (reg s 0x170024) 1 := by
  have hcount : RegsWf (count 0x170024 1 s) := regsWf_count h
  have h228 : Signals [] _ _ (raise 228 0 0 (count 0x170024 1 s)) := .raise (src := 228) (by decide) (by decide) hcount
  obtain ⟨l, -, hline⟩ := Signals.slowCheck (o := []) h228.wf
  have hsame : SameRegsBut [] (count 0x170024 1 s) (functionDone was s) := by
    refine (h228.regs.trans hline.regs).trans ?_
    cases was
    · exact fun _ _ _ _ => rfl
    · exact sameRegsBut_raise (src := 229) [] (by decide) hline.wf
  have hkeep := hsame 0x170024 (by simp) (by decide) (by decide)
  rw [hkeep, reg_count s _ _ 1 h, if_pos rfl]

/-- Without a write the completion releases STAGE_SLOW_N, for a function reset clears SLOW_FORCE (R22, R209). -/
theorem functionDone_released (was : Bool) (h : RegsWf s) (hw : s.job.write = none) (hf : reg s 0x0D0110 = 0) :
    (functionDone was s).seq.slow = false := by
  have hs : (slowCheck (raise 228 0 0 (count 0x170024 1 s))).seq.slow = false := by
    refine slowCheck_released (by simpa using hw) ?_
    rw [slowForced, regN, reg_raise _ _ _ _ _ (regsWf_count h) (by decide) (by decide), reg_count s _ _ 1 h,
      if_neg (by decide), hf]
    rfl
  cases was
  · exact hs
  · rw [functionDone, if_pos rfl, raise_seq]
    exact hs

/-! ### The state cleared by a function reset (R22, R289, R360, R432) -/

/-- The record of a reset changes no register save those of source 17. -/
theorem resetRecord_regs {kind detail : Nat} (h : RegsWf s) :
    RegsWf (resetRecord kind detail s) ∧ SameRegsBut [] s (resetRecord kind detail s) := journalAdd_regs h

/-- The registers are those after the record of the reset, each as the reset leaves it. -/
theorem functionCleared_stored :
    (functionCleared s).regs = regsAfter RegMap.afterFunction (resetRecord 3 0 s).regs := by
  simp [functionCleared, recordsAfter, ringsOff, freeFetching]

theorem functionCleared_regs (h : RegsWf s) :
    RegsWf (functionCleared s) ∧ ∀ off, off ≠ 0x01001C → ¬ (0x010040 ≤ off ∧ off < 0x010060) →
      reg (functionCleared s) off = RegMap.afterFunction off (reg s off) := by
  obtain ⟨hwf, hsame⟩ := resetRecord_regs (kind := 3) (detail := 0) h
  rw [RegsWf, functionCleared_stored]
  refine ⟨wf_regsAfter hwf, fun off h1 h2 => ?_⟩
  rw [reg, functionCleared_stored, get_regsAfter off (afterFunction_reset off) hwf]
  exact congrArg _ (hsame off (by simp) h1 h2)

/-- Where a function reset keeps no bit a register reads its reset value. -/
theorem functionCleared_reg_zero {off : Nat} {r : Reg} (h : RegsWf s) (hf : RegMap.find off = some r)
    (hk : r.rws ||| r.keepF = 0) (hz : RegMap.reset off = 0) (ho : off < 0x010000 ∨ 0x010060 ≤ off) :
    reg (functionCleared s) off = 0 := by
  rw [(functionCleared_regs h).2 off (by omega) (by omega), afterFunction_cleared hf hk, hz]

/-- No event is pending in the state cleared. -/
theorem functionCleared_pending (h : RegsWf s) {src : Nat} (hs : src < 256) : ¬ Pending (functionCleared s) src := by
  obtain ⟨hwf, -⟩ := resetRecord_regs (kind := 3) (detail := 0) h
  have hp := afterFunction_pending (Sparse.get RegMap.reset (resetRecord 3 0 s).regs (0x010040 + 4 * (src / 32)))
    (i := src / 32) (by omega)
  rw [Pending, regN, reg, functionCleared_stored, get_regsAfter _ (afterFunction_reset _) hwf, hp]
  simp [Bits.bit]

/-- The descriptor rings are off in the state cleared. -/
theorem functionCleared_rings (c : Fin 3) :
    ((functionCleared s).dma[13 + c.val]).on = false ∧ ((functionCleared s).dma[13 + c.val]).desc = none := by
  have hc : (functionCleared s).dma[13 + c.val] = chanAfter
      (recordsAfter (ringsOff (freeFetching (resetRecord 3 0 s)))) ⟨13 + c.val, by omega⟩ := by
    simp [functionCleared]
  rw [hc, chanAfter, if_pos (Nat.le_add_right 13 c.val)]
  fin_cases c <;> exact ⟨rfl, rfl⟩

/-- The frames that were not fetching stay. -/
theorem functionCleared_frames (f) :
    f ∈ (functionCleared s).intake.frames ↔ f ∈ s.intake.frames ∧ f.st ≠ .fetching := by
  simp [functionCleared, recordsAfter, ringsOff, freeFetching, resetRecord, List.mem_filter]

/-- The record of the reset stands first in the journal. -/
theorem functionCleared_head : ∃ r, (functionCleared s).journal.head? = some r ∧ r.kind = 6 := by
  have hj : (functionCleared s).journal = (journalAdd 6 0 0 0 0 0 (Bits.natLe (3 + 256 * 0) 2) s).journal := by
    simp [functionCleared, recordsAfter, ringsOff, freeFetching, resetRecord]
  rw [hj]
  exact journalAdd_head

theorem functionCleared_write : (functionCleared s).job.write = s.job.write := by
  simp [functionCleared, recordsAfter, ringsOff, freeFetching, resetRecord]

theorem functionCleared_link : (functionCleared s).hif.linkUp = s.hif.linkUp ∧
    (functionCleared s).hif.width = s.hif.width ∧ (functionCleared s).hif.speed = s.hif.speed := by
  simp [functionCleared, recordsAfter, ringsOff, freeFetching, resetRecord]

/-- The loss of the link counted, with event 225 (R350). -/
theorem linkLost_signals (h : RegsWf s) :
    Signals [0x170024, 0x170020] [225] s (raise 225 0 0 (count 0x170020 1 s)) := by
  have hcount : Signals [0x170024, 0x170020] [] s (count 0x170020 1 s) := .count (by simp) (by decide) h
  exact hcount.trans (.raise (by decide) (by decide) hcount.wf)

theorem linkLost_reg (h : RegsWf s) {off : Nat} (ho : 0x010060 ≤ off) :
    reg (raise 225 0 0 (count 0x170020 1 s)) off = if off = 0x170020 then Bits.satAdd (reg s off) 1 else reg s off := by
  rw [reg_raise _ _ _ _ _ (regsWf_count h) (by omega) (by omega), reg_count s _ _ 1 h]

/-- What a completed reset has signalled over the cleared state: the reset itself, and the loss of a reachable host. -/
theorem functionDone_pending {o m : List Nat} {was : Bool} (h : RegsWf s) (hm : m ⊆ [225])
    (hu : Signals o m (functionCleared s) u) (ho : 0x170024 ∈ o) (hk : reg u 0x170024 = 0) :
    ∃ l, Signals o l (functionCleared s) (functionDone was u) ∧ Pending (functionDone was u) 228 ∧
      (Pending (functionDone was u) 229 ↔ was = true) ∧ reg (functionDone was u) 0x170024 = 1 ∧
      (225 ∈ m → Pending (functionDone was u) 225) := by
  obtain ⟨l, hl, hdone⟩ := functionDone_signals was ho hu.wf
  have hall := hu.trans hdone
  have hpend {src : Nat} (hs : src < 256) : Pending (functionDone was u) src ↔
      src ∈ m ++ 228 :: (l ++ if was then [229] else []) :=
    (hall.raised src hs).trans (or_iff_right (functionCleared_pending h hs))
  refine ⟨_, hall, (hpend (by decide)).mpr (by simp), ?_, ?_, fun h225 => (hpend (by decide)).mpr (by simp [h225])⟩
  · have hl229 : 229 ∉ l := fun hmem => by simpa using hl hmem
    have hm229 : 229 ∉ m := fun hmem => by simpa using hm hmem
    rw [hpend (by decide)]
    cases was <;> simp [hl229, hm229]
  · rw [functionDone_count was hu.wf, hk]
    rfl

end Sys2Proof.Machine

open Sys2Proof Sys2Proof.Machine in
/-- Settles O34: the state cleared by the reset, and what its count and its events add to it. -/
theorem functionResets : Obligations.FunctionResets := by
  intro s h cleared
  have leaves {x : Hif} {t : State} {o l extra : List Nat} (hg : x.gen = s.hif.gen) (ho : o = 0x170024 :: extra)
      (hs : Signals o l (functionCleared { s with hif := x }) t) (hslow : s.job.write = none → t.seq.slow = false)
      (hcount : reg t 0x170024 = 1) (h228 : Pending t 228) (h229 : Pending t 229 ↔ reachable s = true) :
      cleared t extra := by
    obtain ⟨⟨_, _, _, rfl⟩, -, hregs, -, hring⟩ := hs
    obtain ⟨hoff, hheld⟩ := hring rfl
    have hreg (off : Nat) (h1 : off ∉ extra) (h2 : off ≠ 0x170024) (h3 : off ≠ 0x01001C)
        (h4 : ¬ (0x010040 ≤ off ∧ off < 0x010060)) : reg _ off = RegMap.afterFunction off (reg s off) :=
      (hregs off (by simp [ho, h1, h2]) h3 h4).trans ((functionCleared_regs (s := { s with hif := x }) h).2 off h3 h4)
    refine ⟨?_, ?_, ?_, ?_, ?_, ?_, ?_, ?_, ?_, ?_, ?_, ?_, ?_, hoff, hheld, ?_, ?_, ?_, ?_, ?_, ?_, ?_, ?_, hslow, ?_, ?_, ?_,
      ?_, ?_, ?_, ?_, ?_, functionCleared_head (s := { s with hif := x }), functionCleared_rings (s := { s with hif := x }),
      functionCleared_frames (s := { s with hif := x }), hreg, hcount, h228, h229⟩
    all_goals simp [functionCleared, recordsAfter, ringsOff, freeFetching, resetRecord, hg]
  refine ⟨fun hp => ?_, fun hp => ?_, fun hl => ?_, fun hl => ?_⟩
  · have hwf := (functionCleared_regs h).1
    obtain ⟨l, hs, h228, h229, hcount, -⟩ := functionDone_pending (o := [0x170024]) (m := []) (was := reachable s) h (by simp)
      (.refl hwf) (by simp) (functionCleared_reg_zero h rfl rfl rfl (by decide))
    refine ⟨functionDone (reachable s) (functionCleared s), congrArg _ (if_pos hp),
      leaves (x := s.hif) rfl rfl hs (fun hw => ?_) hcount h228 h229, ?_⟩
    · exact functionDone_released _ hwf (functionCleared_write.trans hw)
        (functionCleared_reg_zero h rfl rfl rfl (by decide))
    · obtain ⟨_, _, _, hframe⟩ := hs.frame
      rw [hframe]
      exact functionCleared_link.1
  · exact congrArg _ (if_neg (by simp [hp]))
  · let x : Hif := { s.hif with linkUp := false, speed := 0, width := 0 }
    have hwf : RegsWf (functionCleared { s with hif := x }) := (functionCleared_regs (s := { s with hif := x }) h).1
    have hzero {off : Nat} {r : Reg} (hf : RegMap.find off = some r) (hk : r.rws ||| r.keepF = 0)
        (hz : RegMap.reset off = 0) (ho : 0x010060 ≤ off) : reg (functionCleared { s with hif := x }) off = 0 :=
      functionCleared_reg_zero (s := { s with hif := x }) h hf hk hz (.inr ho)
    let u := raise 225 0 0 (count 0x170020 1 (functionCleared { s with hif := x }))
    have hlost : Signals [0x170024, 0x170020] [225] _ u := linkLost_signals hwf
    have hkept {off : Nat} (ho : 0x010060 ≤ off) (hne : off ≠ 0x170020) :
        reg u off = reg (functionCleared { s with hif := x }) off := (linkLost_reg hwf ho).trans (if_neg hne)
    obtain ⟨l, hs, h228, h229, hcount, h225⟩ := functionDone_pending (s := { s with hif := x }) (was := reachable s) h
      (by simp) hlost (by simp) ((hkept (by decide) (by decide)).trans (hzero rfl rfl rfl (by decide)))
    refine ⟨functionDone (reachable s) u, congrArg Host.Outcome.next (if_neg (by simp [hl])),
      leaves (x := x) rfl rfl hs (fun hw => ?_) hcount h228 h229, ?_⟩
    · exact functionDone_released _ hlost.wf (by simpa [u] using (functionCleared_write (s := { s with hif := x })).trans hw)
        ((hkept (by decide) (by decide)).trans (hzero rfl rfl rfl (by decide)))
    · obtain ⟨hup, hwidth, hspeed⟩ := functionCleared_link (s := { s with hif := x })
      obtain ⟨_, _, _, hframe⟩ := hs.frame
      obtain ⟨_, -, hdone⟩ := functionDone_signals (reachable s) (List.mem_singleton_self _) hlost.wf
      have hdown : reg (functionDone (reachable s) u) 0x170020 = 1 := by
        rw [hdone.regs _ (by simp) (by decide) (by decide), linkLost_reg hwf (by decide), if_pos rfl,
          hzero rfl rfl rfl (by decide)]
        rfl
      rw [hframe] at h225 hdown ⊢
      exact ⟨hup, hwidth, hspeed, hdown, h225 (by simp)⟩
  · exact congrArg _ (if_pos (by simp [hl]))
end

section
/-!
PROOFS. BAR0 writes and reads of registers (O39): the write rule of stored fields, the registers without a behaviour of
their own, the named commands, and reads with their latch.
-/

namespace Sys2Proof.Machine

set_option Elab.async false

variable {s t u : State} {off : Nat} {v old : Word} {r : Reg}

/-! ### Bit fields -/

theorem testBit_bits (n hi lo i : Nat) : (Bits.bits n hi lo).testBit i = (decide (i < hi + 1 - lo) && n.testBit (i + lo)) := by
  rw [Bits.bits, Nat.testBit_mod_two_pow, Nat.testBit_div_two_pow]

/-- A field within a word reads the same from the word's number taken modulo its width. -/
theorem bits_ofNat {n hi lo : Nat} (h : hi < 32) : Bits.bits (BitVec.ofNat 32 n).toNat hi lo = Bits.bits n hi lo := by
  refine Nat.eq_of_testBit_eq fun i => ?_
  rw [testBit_bits, testBit_bits, BitVec.toNat_ofNat, Nat.testBit_mod_two_pow]
  by_cases hi' : i < hi + 1 - lo
  · simp [hi', show i + lo < 32 by omega]
  · simp [hi']

/-- A field of a word whose bits under a mask come from `v`, where the mask covers the field. -/
theorem bits_merge {hi lo : Nat} (m : Word) (hm : ∀ i, i < hi + 1 - lo → m.getLsbD (i + lo) = true) :
    Bits.bits ((old &&& ~~~m) ||| (v &&& m)).toNat hi lo = Bits.bits v.toNat hi lo := by
  refine Nat.eq_of_testBit_eq fun i => ?_
  rw [testBit_bits, testBit_bits, BitVec.testBit_toNat, BitVec.testBit_toNat]
  by_cases hi' : i < hi + 1 - lo
  · simp [hm i hi']
  · simp [hi']

/-- A field after it has been set, and the bits below and above it. -/
theorem bits_setBits {n hi lo x : Nat} (h : lo ≤ hi) :
    Bits.bits (Bits.setBits n hi lo x) hi lo = x % 2 ^ (hi + 1 - lo) := by
  have hpow : 2 ^ (hi + 1) = 2 ^ (hi + 1 - lo) * 2 ^ lo := by rw [← Nat.pow_add]; congr 1; omega
  have hsplit : Bits.setBits n hi lo x =
      n % 2 ^ lo + 2 ^ lo * (x % 2 ^ (hi + 1 - lo) + 2 ^ (hi + 1 - lo) * (n / 2 ^ (hi + 1))) := by
    rw [Bits.setBits, hpow]
    ring
  rw [Bits.bits, hsplit, Nat.add_mul_div_left _ _ (Nat.two_pow_pos lo), Nat.div_eq_of_lt (Nat.mod_lt _ (Nat.two_pow_pos lo)),
    Nat.zero_add, Nat.add_mul_mod_self_left, Nat.mod_mod]

/-! ### What a write leaves at a stored register (R18, R455) -/

/-- The bits of a register that a BAR0 write sets. -/
def writeMask (r : Reg) (off : Nat) : Word := BitVec.ofNat 32 (r.rw ||| r.rws) &&& BitVec.ofNat 32 (RegMap.exist off)

theorem written_ranged (hc : r.w1c = 0) : RegMap.written r off old v =
    BitVec.ofNat 32 (RegMap.ranged old.toNat ((old &&& ~~~writeMask r off) ||| (v &&& writeMask r off)).toNat r.ranges) := by
  have hall : ~~~(v &&& BitVec.ofNat 32 0) = BitVec.allOnes 32 := by simp
  unfold RegMap.written
  rw [hc, hall, BitVec.and_allOnes]
  rfl

/-- Without ranges the writable bits come from the word written and the others stay. -/
theorem written_merge (hr : r.ranges = []) (hc : r.w1c = 0) : RegMap.written r off old v =
    (old &&& ~~~writeMask r off) ||| (v &&& writeMask r off) := by
  rw [written_ranged hc, hr, RegMap.ranged, BitVec.ofNat_toNat, BitVec.setWidth_eq]

theorem written_full (hm : writeMask r off = BitVec.allOnes 32) (hr : r.ranges = []) (hc : r.w1c = 0) :
    RegMap.written r off old v = v := by
  rw [written_merge hr hc, hm, BitVec.and_allOnes, BitVec.not_allOnes, BitVec.and_zero, BitVec.zero_or]

theorem written_record (hm : writeMask r off = 0#32) (hr : r.ranges = []) (hc : r.w1c = 0) :
    RegMap.written r off old v = old := by
  rw [written_merge hr hc, hm, BitVec.and_zero, BitVec.or_zero, BitVec.not_zero, BitVec.and_allOnes]

theorem written_clear (hm : writeMask r off = 0#32) (hr : r.ranges = []) (hc : BitVec.ofNat 32 r.w1c = BitVec.allOnes 32) :
    RegMap.written r off old v = old &&& ~~~v := by
  unfold RegMap.written
  rw [hc, hr, BitVec.and_allOnes]
  change BitVec.ofNat 32 ((old &&& ~~~writeMask r off) ||| (v &&& writeMask r off)).toNat &&& ~~~v = _
  rw [hm, BitVec.and_zero, BitVec.or_zero, BitVec.not_zero, BitVec.and_allOnes, BitVec.ofNat_toNat, BitVec.setWidth_eq]

/-- One field judged by its range: outside it the field keeps its old value. -/
theorem bits_ranged {hi lo least most x new : Nat} (h : lo ≤ hi) :
    Bits.bits (if Bits.bits new hi lo < least || most < Bits.bits new hi lo then Bits.setBits new hi lo (Bits.bits x hi lo)
      else new) hi lo =
      if least ≤ Bits.bits new hi lo ∧ Bits.bits new hi lo ≤ most then Bits.bits new hi lo else Bits.bits x hi lo := by
  by_cases hin : least ≤ Bits.bits new hi lo ∧ Bits.bits new hi lo ≤ most
  · rw [if_neg (by simp; omega), if_pos hin]
  · rw [if_pos (by simp; omega), if_neg hin, bits_setBits h, Bits.bits, Nat.mod_mod]

/-- A register with one ranged field. -/
theorem bits_written {hi lo least most : Nat} (h : lo ≤ hi) (h32 : hi < 32) (hc : r.w1c = 0)
    (hr : r.ranges = [(hi, lo, least, most)]) (hm : ∀ i, i < hi + 1 - lo → (writeMask r off).getLsbD (i + lo) = true) :
    Bits.bits (RegMap.written r off old v).toNat hi lo =
      if least ≤ Bits.bits v.toNat hi lo ∧ Bits.bits v.toNat hi lo ≤ most then Bits.bits v.toNat hi lo
      else Bits.bits old.toNat hi lo := by
  rw [written_ranged hc, bits_ofNat h32, hr, RegMap.ranged, RegMap.ranged, bits_ranged h, bits_merge _ hm]

/-- The two ranged fields of the register at 0x0E8008, each judged on its own. -/
theorem ranged_blkIdle (x new : Nat) :
    let w := RegMap.ranged x new [(31, 16, 10, 10000), (10, 0, 16, 1024)]
    Bits.bits w 31 16 = (if 10 ≤ Bits.bits new 31 16 ∧ Bits.bits new 31 16 ≤ 10000 then Bits.bits new 31 16
      else Bits.bits x 31 16) ∧
    Bits.bits w 10 0 = if 16 ≤ Bits.bits new 10 0 ∧ Bits.bits new 10 0 ≤ 1024 then Bits.bits new 10 0
      else Bits.bits x 10 0 := by
  have hlow (n y : Nat) : Bits.bits (Bits.setBits n 31 16 y) 10 0 = Bits.bits n 10 0 := by
    simp only [Bits.bits, Bits.setBits]
    omega
  have hhigh (n y : Nat) : Bits.bits (Bits.setBits n 10 0 y) 31 16 = Bits.bits n 31 16 := by
    simp only [Bits.bits, Bits.setBits]
    omega
  have hfirst := bits_ranged (least := 10) (most := 10000) (x := x) (new := new) (show 16 ≤ 31 by decide)
  simp only [RegMap.ranged]
  constructor
  · rw [apply_ite (Bits.bits · 31 16), hhigh, ite_self, hfirst]
  · rw [bits_ranged (by decide), apply_ite (Bits.bits · 10 0), hlow, ite_self]

/-! ### Registers that take a write by their fields alone -/

/-- Outside the windows of the engines there is no engine's register. -/
theorem engAt_none (h : off < 0x080000 ∨ 0x0A4000 ≤ off ∧ off < 0x0B1000 ∨ 0x0B2000 ≤ off) : engAt off = none := by
  rw [engAt, List.find?_eq_none]
  intro e _
  rw [beq_iff_eq, engBase]
  split <;> omega

theorem writeStored_of_find (h : RegMap.find off = some r) :
    writeStored off v s = setReg off (RegMap.written r off (reg s off) v) s := by
  rw [writeStored, h]

theorem writeStored_none (h : RegMap.find off = none) : writeStored off v s = s := by
  rw [writeStored, h]

/-- Where the access is aligned, RESETTING is clear and HIF has power, a write acts. -/
theorem regWrite_open (hb : BarOpen s) (ho : off % 4 = 0) :
    regWrite off v s = if alwaysRead off then hostWrite off v s else unitWrite off v s := by
  obtain ⟨hr, hp⟩ := hb
  rw [regWrite, if_neg (by simpa using ho), hifWrite_open _ s hp, barWrite_open _ s hr hp]

/-- A register of a block with no behaviour of its own. -/
theorem otherWrite_stored (h : off ∉ [0x010014, 0x010080, 0x0C0020, 0x0E8000, 0x110000, 0x110020]) :
    otherWrite off v s = writeStored off v s := by
  simp only [List.mem_cons, not_or] at h
  obtain ⟨h1, h2, h3, h4, h5, h6, -⟩ := h
  unfold otherWrite
  split
  case h_7 => rfl
  all_goals contradiction

/-- The blocks 6, 7 and those from 0x18 on hold no register (R18). -/
theorem find_none (h : off / 0x10000 = 6 ∨ off / 0x10000 = 7 ∨ 0x18 ≤ off / 0x10000) : RegMap.find off = none := by
  have hblocks : ∀ r ∈ RegMap.all, r.base + r.step * r.num ≤ 0x060000 ∧ 0 < r.step ∨
      0x080000 ≤ r.base ∧ r.base + r.step * r.num ≤ 0x180000 ∧ 0 < r.step := by decide +kernel
  rw [RegMap.find, List.find?_eq_none]
  intro r hr hin
  simp only [RegMap.holds, Bool.and_eq_true, decide_eq_true_eq] at hin
  obtain ⟨⟨hlo, -⟩, hnum⟩ := hin
  have hlt (hpos : 0 < r.step) : off - r.base < r.step * r.num := by
    rw [Nat.mul_comm]
    exact (Nat.div_lt_iff_lt_mul hpos).mp hnum
  obtain ⟨hend, hpos⟩ | ⟨hstart, hend, hpos⟩ := hblocks r hr
  · have := hlt hpos
    omega
  · have := hlt hpos
    omega

/-- A write where there is no register has no effect. -/
theorem regWrite_noRegister (hb : BarOpen s) (ho : off % 4 = 0)
    (h : off / 0x10000 = 6 ∨ off / 0x10000 = 7 ∨ 0x18 ≤ off / 0x10000) : regWrite off v s = s := by
  have halways : alwaysRead off = false := by
    simp [alwaysRead]
    omega
  have hguard : guardedReg off = false := by
    simp [guardedReg]
    omega
  have hother : otherWrite off v s = s := by
    rw [otherWrite_stored (by simp; omega), writeStored_none (find_none h)]
  rw [regWrite_open hb ho, halways, if_neg Bool.false_ne_true, unitWrite, hguard, if_neg Bool.false_ne_true,
    engAt_none (by omega)]
  dsimp only
  split
  case h_9 => exact hother
  all_goals omega

/-- Registers of the JOB and HIF blocks that take a write by their fields alone. -/
def hostPlain : List Nat := [0x020050, 0x020070, 0x0200A0, 0x170020, 0x170028, 0x020048, 0x170004]

theorem regWrite_hostPlain (hb : BarOpen s) (h : off ∈ hostPlain) : regWrite off v s = writeStored off v s := by
  simp only [hostPlain, List.mem_cons, List.not_mem_nil, or_false] at h
  rcases h with rfl | rfl | rfl | rfl | rfl | rfl | rfl <;> exact regWrite_open hb rfl

/-- Registers of the other blocks that take a write by their fields alone. -/
def unitPlain : List Nat :=
  [0x010000, 0x010004, 0x0C0024, 0x130008, 0x13000C, 0x140080, 0x160104, 0x01001C, 0x040020, 0x0B0020, 0x0C003C, 0x0D0104,
    0x100824, 0x040004, 0x05C024, 0x100814, 0x0E8008]

theorem regWrite_unitPlain (hb : BarOpen s) (h : off ∈ unitPlain) : regWrite off v s = writeStored off v s := by
  simp only [unitPlain, List.mem_cons, List.not_mem_nil, or_false] at h
  rcases h with rfl | rfl | rfl | rfl | rfl | rfl | rfl | rfl | rfl | rfl | rfl | rfl | rfl | rfl | rfl | rfl | rfl
  all_goals
    rw [regWrite_open hb rfl, if_neg (by decide), unitWrite, if_neg (by decide), engAt_none (by decide)]
    rfl

/-- A register of the EVT block other than RING_CTL and TEST. -/
theorem regWrite_evt (hb : BarOpen s) (ho : off % 4 = 0) (hblk : off / 0x10000 = 1) (h : off ∉ [0x010014, 0x010080]) :
    regWrite off v s = writeStored off v s := by
  have halways : alwaysRead off = false := by rw [alwaysRead, hblk]; rfl
  have hguard : guardedReg off = false := by
    simp [guardedReg]
    omega
  have hother : otherWrite off v s = writeStored off v s := otherWrite_stored (by simp at h ⊢; omega)
  rw [regWrite_open hb ho, halways, if_neg Bool.false_ne_true, unitWrite, hguard, if_neg Bool.false_ne_true,
    engAt_none (by omega), hblk]
  exact hother

/-! ### The fields of those registers -/

/-- A write that takes a register by its fields changes that register and nothing else. -/
theorem regWrite_effect {P : Word → Prop} (hw : RegsWf s) (hp : regWrite off v s = writeStored off v s)
    (hf : RegMap.find off = some r) (hP : P (RegMap.written r off (reg s off) v)) :
    ∃ t, (Host.Outcome.next (regWrite off v s) : Host.Outcome State Fault Refusal) = .next t ∧
      t = { s with regs := t.regs } ∧ P (reg t off) ∧ ∀ k, k ≠ off → reg t k = reg s k := by
  rw [hp, writeStored_of_find hf]
  refine ⟨_, rfl, rfl, ?_, fun k hk => ?_⟩
  · rwa [reg_setReg _ _ _ _ hw, if_pos rfl]
  · rw [reg_setReg _ _ _ _ hw, if_neg hk]

/-- Every bit of these registers is writable. -/
theorem find_full (h : off ∈ [0x010000, 0x010004, 0x0C0024, 0x130008, 0x13000C, 0x140080, 0x160104]) :
    ∃ r, RegMap.find off = some r ∧ writeMask r off = BitVec.allOnes 32 ∧ r.ranges = [] ∧ r.w1c = 0 := by
  simp only [List.mem_cons, List.not_mem_nil, or_false] at h
  rcases h with rfl | rfl | rfl | rfl | rfl | rfl | rfl <;> exact ⟨_, rfl, rfl, rfl, rfl⟩

/-- These registers are counters and records: no bit of them is writable. -/
theorem find_record (h : off ∈ [0x01001C, 0x020050, 0x020070, 0x0200A0, 0x040020, 0x0B0020, 0x0C003C, 0x0D0104, 0x100824,
    0x170020, 0x170028]) :
    ∃ r, RegMap.find off = some r ∧ writeMask r off = 0#32 ∧ r.ranges = [] ∧ r.w1c = 0 := by
  simp only [List.mem_cons, List.not_mem_nil, or_false] at h
  rcases h with rfl | rfl | rfl | rfl | rfl | rfl | rfl | rfl | rfl | rfl | rfl <;> exact ⟨_, rfl, rfl, rfl, rfl⟩

/-- The PENDING registers are cleared by writing ones. -/
theorem find_pending (ho : off % 4 = 0) (h1 : 0x010040 ≤ off) (h2 : off < 0x010060) :
    ∃ r, RegMap.find off = some r ∧ writeMask r off = 0#32 ∧ r.ranges = [] ∧
      BitVec.ofNat 32 r.w1c = BitVec.allOnes 32 := by
  have hall : ∀ i < 8, RegMap.find (0x010040 + 4 * i) = some { base := 0x010040, num := 8, w1c := RegMap.full } := by
    decide +kernel
  obtain ⟨i, hi, rfl⟩ : ∃ i, i < 8 ∧ off = 0x010040 + 4 * i := ⟨(off - 0x010040) / 4, by omega, by omega⟩
  exact ⟨_, hall i hi, BitVec.zero_and, rfl, rfl⟩

/-- The vector registers. -/
theorem find_vector (ho : off % 4 = 0) (h1 : 0x010100 ≤ off) (h2 : off < 0x010200) :
    ∃ r, RegMap.find off = some r ∧ writeMask r off = 0x3F3F3F3F#32 ∧ r.ranges = [] ∧ r.w1c = 0 := by
  have hall : ∀ i < 64, RegMap.find (0x010100 + 4 * i) = some { base := 0x010100, num := 64, rws := 0x3F3F3F3F } ∧
      RegMap.exist (0x010100 + 4 * i) = RegMap.full := by
    decide +kernel
  obtain ⟨i, hi, rfl⟩ : ∃ i, i < 64 ∧ off = 0x010100 + 4 * i := ⟨(off - 0x010100) / 4, by omega, by omega⟩
  obtain ⟨hfind, hexist⟩ := hall i hi
  refine ⟨_, hfind, ?_, rfl, rfl⟩
  rw [writeMask, hexist]
  rfl

theorem merge_and (m : Word) : ((old &&& ~~~m) ||| (v &&& m)) &&& m = v &&& m := by
  ext i hi
  cases h : m[i] <;> simp [h]

/-- A field without a range takes the value written. -/
theorem bits_written_plain {hi lo : Nat} (hr : r.ranges = []) (hc : r.w1c = 0)
    (hm : ∀ i, i < hi + 1 - lo → (writeMask r off).getLsbD (i + lo) = true) :
    Bits.bits (RegMap.written r off old v).toNat hi lo = Bits.bits v.toNat hi lo := by
  rw [written_merge hr hc, bits_merge _ hm]

/-- The register at `off` has a writable field and the ranges given. -/
def FieldAt (off hi lo : Nat) (ranges : List (Nat × Nat × Nat × Nat)) : Prop :=
  ∃ r, RegMap.find off = some r ∧ r.ranges = ranges ∧ r.w1c = 0 ∧
    ∀ i, i < hi + 1 - lo → (writeMask r off).getLsbD (i + lo) = true

/-- An access that is not aligned, or without power, has no effect; while RESETTING only GLB, JOB and HIF take a write. -/
theorem regWrite_unaligned (h : off % 4 ≠ 0) : regWrite off v s = s := if_pos h

theorem regWrite_noPower (h : ¬ HostOpen s) : regWrite off v s = s := by
  have hp (f : State → State) : hifWrite f s = s := if_neg h
  unfold regWrite barWrite
  rw [hp, hp, ite_self, ite_self, ite_self]

theorem regWrite_resetting (hr : s.power.resetting = true) (h0 : off / 0x10000 ≠ 0) (h2 : off / 0x10000 ≠ 2)
    (h17 : off / 0x10000 ≠ 0x17) : regWrite off v s = s := by
  have halways : alwaysRead off = false := by simp [alwaysRead, h0, h2, h17]
  rw [regWrite, halways, if_neg Bool.false_ne_true, barWrite, if_pos hr, ite_self]

/-- A write of `BEL.WATER` out of range is refused whole. -/
theorem regWrite_water (hb : BarOpen s) : regWrite 0x110000 v s =
    if 1 ≤ v.toNat % 256 ∧ v.toNat % 256 < v.toNat / 256 % 256 ∧ v.toNat / 256 % 256 ≤ 86 then writeStored 0x110000 v s
    else s := by
  have hunit : regWrite 0x110000 v s = waterWrite v s := by
    rw [regWrite_open hb rfl, if_neg (by decide), unitWrite, if_neg (by decide), engAt_none (by decide)]
    rfl
  rw [hunit, waterWrite]
  refine if_congr ?_ rfl rfl
  simp only [Bits.bits, Bool.and_eq_true, and_assoc]
  exact Iff.and (by simp) (Iff.and (by simp) decide_eq_true_iff)

/-- A write of `THM.CTL` out of range is refused whole. -/
theorem regWrite_thmCtl (hb : BarOpen s) (h : ¬ (250 ≤ Bits.bits v.toNat 24 16 ∧ Bits.bits v.toNat 24 16 ≤ 420)) :
    regWrite 0x150304 v s = s := by
  rw [regWrite_open hb rfl, if_neg (by decide), unitWrite, if_neg (by decide), engAt_none (by decide)]
  exact if_neg (by simpa using h)

/-! ### Registers whose write is a command -/

theorem regWrite_host {f : State → State} (ho : off % 4 = 0) (ha : alwaysRead off = true)
    (hf : ∀ x, hostWrite off v x = f x) : regWrite off v s = hifWrite f s := by
  rw [regWrite, if_neg (by simpa using ho), ha, if_pos rfl, funext hf]

theorem regWrite_unit {f : State → State} (ho : off % 4 = 0) (ha : alwaysRead off = false)
    (hf : ∀ x, unitWrite off v x = f x) : regWrite off v s = barWrite f s := by
  rw [regWrite, if_neg (by simpa using ho), ha, if_neg Bool.false_ne_true, funext hf]

/-- The reset request takes its key and nothing else. -/
theorem regWrite_glbReset :
    regWrite 0x000004 v s = if Bits.bits v.toNat 15 0 = 0x9D3C then hifWrite requestReset s else s := by
  have hhost (x : State) : hostWrite 0x000004 v x = if Bits.bits v.toNat 15 0 = 0x9D3C then requestReset x else x := by
    change (if _ then _ else _) = _
    exact if_congr (by simp) rfl rfl
  rw [regWrite_host rfl rfl hhost]
  split
  · rfl
  · exact ite_self s

theorem regWrite_evtTest : regWrite 0x010080 v s = barWrite (raiseAs true (Bits.bits v.toNat 7 0) 0 0) s := by
  refine regWrite_unit rfl rfl fun x => ?_
  rw [unitWrite, if_neg (by decide), engAt_none (by decide)]
  rfl

theorem regWrite_ptpCtl : regWrite 0x130018 v s = barWrite (ptpCtl v) s := by
  refine regWrite_unit rfl rfl fun x => ?_
  rw [unitWrite, if_neg (by decide), engAt_none (by decide)]
  rfl

theorem regWrite_dmaTail (c : Fin 3) : regWrite (0x030D14 + 0x100 * c.val) v s = barWrite (dmaTail (descChan c) v) s := by
  fin_cases c
  all_goals
    refine regWrite_unit rfl rfl fun x => ?_
    rw [unitWrite, if_neg (by decide), engAt_none (by decide)]
    rfl

theorem regWrite_crcFeed (k : Fin 8) : regWrite (0x120028 + 0x100 * k.val) v s = barWrite (crcFeed k 4 v) s := by
  fin_cases k
  all_goals
    refine regWrite_unit rfl rfl fun x => ?_
    rw [unitWrite, if_neg (by decide), engAt_none (by decide)]
    rfl

/-! ### Bytes of a register -/

theorem length_natLe (n len : Nat) : (Bits.natLe n len).length = len := by
  induction len generalizing n with
  | zero => rfl
  | succ k ih => rw [Bits.natLe, List.length_cons, ih]

/-- The bytes of a number depend on it modulo their width. -/
theorem natLe_mod (n len : Nat) : Bits.natLe (n % 2 ^ (8 * len)) len = Bits.natLe n len := by
  induction len generalizing n with
  | zero => rfl
  | succ k ih =>
    have hpow : 2 ^ (8 * (k + 1)) = 256 * 2 ^ (8 * k) := by rw [Nat.mul_succ, Nat.pow_add, Nat.mul_comm]
    rw [Bits.natLe, Bits.natLe, hpow, Nat.mod_mul_right_div_self, ih]
    congr 1
    apply BitVec.eq_of_toNat_eq
    rw [BitVec.toNat_ofNat, BitVec.toNat_ofNat, Nat.mod_mul_right_mod]

/-- A register shows the low 32 bits of the quantity it reports. -/
theorem natLe_word (n : Nat) : Bits.natLe (BitVec.ofNat 32 n).toNat 4 = Bits.natLe n 4 := by
  rw [BitVec.toNat_ofNat]
  exact natLe_mod n 4

theorem slice_whole {b : Bytes} {len : Nat} (h : b.length = len) : Bits.slice b 0 len = b := by
  rw [Bits.slice, List.drop_zero, ← h, List.take_length]

/-! ### A read of one register (R19, R21, R359) -/

/-- A read within one register answers with its bytes and latches its high half. -/
theorem barRead_within {len : Nat} (hp : HostOpen s) (h1 : 1 ≤ len) (h4 : off % 4 + len ≤ 4) :
    barRead off len s = { s with
      out := .readReply (Bits.slice (Bits.natLe (regRead s (off / 4 * 4)).toNat 4) (off % 4) len) :: s.out,
      latch := (regLatch (off / 4 * 4) s).latch } := by
  have hcount : (off % 4 + len + 3) / 4 = 1 := by omega
  have hpow : powered s 1 = true := hp
  rw [barRead, hpow, if_neg (by simp), hcount]
  simp only [regsRead, send, List.append_nil]
  unfold regLatch
  split <;> rfl

/-- A read of a whole register. -/
theorem barRead_whole (hp : HostOpen s) (ho : off % 4 = 0) :
    barRead off 4 s = { s with
      out := .readReply (Bits.natLe (regRead s off).toNat 4) :: s.out, latch := (regLatch off s).latch } := by
  have haligned : off / 4 * 4 = off := by omega
  rw [barRead_within hp (by decide) (by omega), ho, haligned, slice_whole (length_natLe _ _)]

/-- A register that is no high half, or with nothing latched, reads its present value. -/
theorem regRead_present (h : lowHalf (off - 4) = false ∨ s.latch = []) : regRead s off = readReg s off := by
  rw [regRead]
  obtain h | h := h
  · rw [h, Bool.false_and, if_neg Bool.false_ne_true]
  · rw [latched, h]
    exact ite_self _

theorem readReg_present (h : s.power.resetting = false ∨ alwaysRead off = true) :
    readReg s off = BitVec.ofNat 32 (unitReg s off) := by
  rw [readReg, if_neg]
  obtain h | h := h <;> simp [h]

/-- The high half of a 64-bit quantity. -/
theorem halfOf_high (x : BitVec 64) : halfOf x.toNat true = x.toNat / 2 ^ 32 := by
  rw [halfOf, if_pos rfl, Nat.mod_eq_of_lt (by have := x.isLt; omega)]

/-- While RESETTING a PENDING register reads its reset value (R359). -/
theorem readReg_resetting_pending (h : s.power.resetting = true) : readReg s 0x010040 = 0 := by
  have halways : alwaysRead 0x010040 = false := rfl
  rw [readReg, h, halways]
  rfl

/-- A low half read latches the high half of the same instant, and the read of the high half that follows shows it,
whatever the state between does to the quantity (R21). -/
theorem regRead_latched {lo : Nat} (hlow : lowHalf lo = true) (hu : u.latch = (regLatch lo s).latch) :
    regRead u (lo + 4) = readReg s (lo + 4) := by
  rw [regRead, Nat.add_sub_cancel, hlow, latched, hu, regLatch, if_pos hlow]
  simp

end Sys2Proof.Machine

open Sys2Proof Sys2Proof.Machine in
/-- Settles O39: a write by the rule of stored fields or the command it names, a read by the present value or the latch. -/
theorem registerAccess : Obligations.RegisterAccess := by
  constructor
  · intro off v s hw o n old stored nothing kept
    have effect {r : Reg} {P : Word → Prop} (hp : regWrite o v s = writeStored o v s) (hf : RegMap.find o = some r)
        (hP : P (RegMap.written r o (reg s o) v)) : stored P := regWrite_effect hw hp hf hP
    clear_value stored
    have idle (h : regWrite o v s = s) : nothing := congrArg Host.Outcome.next h
    have ranged {hi lo least most : Nat} (hl : lo ≤ hi) (h32 : hi < 32) (hp : regWrite o v s = writeStored o v s)
        (hfield : FieldAt o hi lo [(hi, lo, least, most)]) :
        stored (fun w => Bits.bits w.toNat hi lo = kept hi lo least most n) := by
      obtain ⟨r, hf, hr, hc, hm⟩ := hfield
      exact effect hp hf (bits_written hl h32 hc hr hm)
    refine ⟨fun h => idle (regWrite_unaligned h), fun h => idle (regWrite_noPower h),
      fun hr h0 h2 h17 => idle (regWrite_resetting hr h0 h2 h17), fun hb ho => ?_, ?_⟩
    · refine ⟨fun h => idle (regWrite_noRegister hb ho h), fun h => ?_, fun h => ?_, fun h1 h2 => ?_, fun h1 h2 => ?_,
        fun h => ?_, fun h => ?_, fun h => ?_, fun h => ?_, fun h => ?_, fun h => ⟨fun hin => ?_, fun hout => idle ?_⟩,
        fun h hout => idle ?_, fun h => ?_⟩
      · obtain ⟨r, hf, hm, hr, hc⟩ := find_full h
        have hp : regWrite o v s = writeStored o v s := regWrite_unitPlain hb (by simp [unitPlain] at h ⊢; omega)
        exact effect hp hf (written_full hm hr hc)
      · obtain ⟨r, hf, hm, hr, hc⟩ := find_record h
        have hp : regWrite o v s = writeStored o v s := by
          by_cases hhost : o ∈ hostPlain
          · exact regWrite_hostPlain hb hhost
          · exact regWrite_unitPlain hb (by simp [unitPlain, hostPlain] at h hhost ⊢; omega)
        exact effect hp hf (written_record hm hr hc)
      · obtain ⟨r, hf, hm, hr, hc⟩ := find_pending ho h1 h2
        exact effect (regWrite_evt hb ho (by omega) (by simp; omega)) hf (written_clear hm hr hc)
      · obtain ⟨r, hf, hm, hr, hc⟩ := find_vector ho h1 h2
        refine effect (regWrite_evt hb ho (by omega) (by simp; omega)) hf ?_
        rw [written_merge hr hc, hm]
        exact merge_and _
      · exact ranged (by decide) (by decide) (regWrite_hostPlain hb (by simp [hostPlain, h]))
          (by rw [h]; exact ⟨_, rfl, rfl, rfl, by decide⟩)
      · obtain ⟨r, hf, hr, hc, hm⟩ : FieldAt o 19 0 [] := by rw [h]; exact ⟨_, rfl, rfl, rfl, by decide⟩
        refine effect (regWrite_unitPlain hb (by simp [unitPlain, h])) hf ?_
        exact bits_written_plain hr hc hm
      · exact ranged (by decide) (by decide) (regWrite_unitPlain hb (by simp [unitPlain, h]))
          (by rw [h]; exact ⟨_, rfl, rfl, rfl, by decide⟩)
      · exact ranged (by decide) (by decide) (regWrite_unitPlain hb (by simp [unitPlain, h]))
          (by rw [h]; exact ⟨_, rfl, rfl, rfl, by decide⟩)
      · obtain ⟨r, hf, hr, hc, hhigh⟩ : FieldAt o 31 16 [(31, 16, 10, 10000), (10, 0, 16, 1024)] := by
          rw [h]; exact ⟨_, rfl, rfl, rfl, by decide⟩
        obtain ⟨_, hf', -, -, hlow⟩ : FieldAt o 10 0 [(31, 16, 10, 10000), (10, 0, 16, 1024)] := by
          rw [h]; exact ⟨_, rfl, rfl, rfl, by decide⟩
        obtain rfl := Option.some.inj (hf.symm.trans hf')
        refine effect (regWrite_unitPlain hb (by simp [unitPlain, h])) hf ?_
        have hfields := ranged_blkIdle (reg s o).toNat ((reg s o &&& ~~~writeMask r o) ||| (v &&& writeMask r o)).toNat
        rw [bits_merge _ hhigh, bits_merge _ hlow] at hfields
        rw [written_ranged hc, hr, bits_ofNat (by decide), bits_ofNat (by decide)]
        exact hfields
      · obtain ⟨r, hf, hr, hc, hm⟩ : FieldAt o 15 0 [] := by rw [h]; exact ⟨_, rfl, rfl, rfl, by decide⟩
        refine effect ?_ hf ?_
        · rw [h, regWrite_water hb, if_pos hin]
        · simpa [Bits.bits] using bits_written_plain (old := reg s o) (v := v) hr hc hm
      · rw [h, regWrite_water hb, if_neg hout]
      · rw [h, regWrite_thmCtl hb hout]
      · obtain ⟨r, hf, hr, hc, hm⟩ : FieldAt o 9 0 [] := by rw [h]; exact ⟨_, rfl, rfl, rfl, by decide⟩
        refine effect (regWrite_hostPlain hb (by simp [hostPlain, h])) hf ?_
        simpa [Bits.bits] using bits_written_plain (old := reg s o) (v := v) hr hc hm
    · have command {k : Nat} {t : State} (h : o = k) (hk : regWrite k v s = t) :
          exec (.registerWrite off v) s = .next t := congrArg Host.Outcome.next ((congrArg (regWrite · v s) h).trans hk)
      exact ⟨fun h => command h regWrite_glbReset, fun h => command h regWrite_evtTest,
        fun h => command h (regWrite_host rfl rfl fun _ => rfl), fun h => command h (regWrite_host rfl rfl fun _ => rfl),
        fun h => command h regWrite_ptpCtl, fun h => command h (regWrite_host rfl rfl fun _ => rfl),
        fun c h => command h (regWrite_dmaTail c), fun k h => command h (regWrite_crcFeed k)⟩
  · intro off s hp o shows p
    have shown {v : Nat} (ho : o % 4 = 0) (h : regRead s o = BitVec.ofNat 32 v) : shows v := by
      refine ⟨_, congrArg Host.Outcome.next (barRead_whole hp ho), ?_, rfl⟩
      rw [h, natLe_word]
    clear_value shows
    have showsUnit {k v : Nat} (h : o = k) (hlow : lowHalf (k - 4) = false ∨ s.latch = [])
        (hres : s.power.resetting = false ∨ alwaysRead k = true) (ho : k % 4 = 0) (hunit : unitReg s k = v) : shows v := by
      refine shown (by rw [h]; exact ho) ?_
      rw [h, regRead_present hlow, readReg_present hres, hunit]
    refine ⟨fun h => ?_, fun h => ?_, fun h hl => ?_, fun h => ?_, fun h hl => ?_, fun hr => ?_, ?_, ?_, ?_⟩
    · exact showsUnit h (.inl rfl) (.inr rfl) rfl rfl
    · exact showsUnit h (.inl rfl) (.inr rfl) rfl rfl
    · exact showsUnit h (.inr hl) (.inr rfl) rfl rfl
    · exact showsUnit h (.inl rfl) (.inr rfl) rfl rfl
    · exact showsUnit h (.inr hl) (.inr rfl) rfl (halfOf_high s.power.on)
    · refine ⟨fun h => ?_, fun h hl => ?_, fun h hl => ?_, fun h hl => ?_, fun a h hl => ?_, fun i h hl => ?_⟩
      · exact showsUnit h (.inl rfl) (.inl hr) rfl rfl
      · exact showsUnit h (.inr hl) (.inl hr) rfl (halfOf_high s.tim.ns)
      · exact showsUnit h (.inr hl) (.inl hr) rfl rfl
      · exact showsUnit h (.inr hl) (.inl hr) rfl rfl
      · refine showsUnit h (.inr hl) (.inl hr) (by omega) ?_
        fin_cases a <;> rfl
      · have hi : regN s o = regN s (0x010040 + 4 * i.val) := congrArg _ h
        rw [hi]
        refine showsUnit h (.inr hl) (.inl hr) (by omega) ?_
        fin_cases i <;> rfl
    · intro len whole hwhole h1 h4
      have hal : whole.toNat % 4 = 0 := by rw [hwhole]; omega
      refine ⟨(regRead s (o / 4 * 4)).toNat, (regLatch (o / 4 * 4) s).latch, ?_, ?_⟩
      · rw [← hwhole]
        exact congrArg Host.Outcome.next (barRead_whole hp hal)
      · exact congrArg Host.Outcome.next (barRead_within hp h1 h4)
    · intro hr h hl
      refine shown (by rw [h]) ?_
      rw [h, regRead_present (.inr hl), readReg_resetting_pending hr]
      rfl
    · intro t u w hi h hhi hr ht hlatch hu hw
      have hlow : lowHalf o = true := by rw [h]; rfl
      have hal0 : o % 4 = 0 := by rw [h]
      have hal : hi.toNat % 4 = 0 := by rw [hhi, h]
      have htl : t.latch = (regLatch o s).latch := by
        obtain rfl := Host.Outcome.next.inj (ht.symm.trans (congrArg Host.Outcome.next (barRead_whole hp hal0)))
        rfl
      have hvalue : readReg s (o + 4) = BitVec.ofNat 32 (s.tim.ns.toNat / 2 ^ 32) := by
        rw [h, readReg_present (.inl hr)]
        exact congrArg _ (halfOf_high s.tim.ns)
      have hnone : regLatch hi.toNat u = u := by
        rw [hhi, h]
        rfl
      obtain rfl := Host.Outcome.next.inj (hw.symm.trans (congrArg Host.Outcome.next (barRead_whole hu hal)))
      refine ⟨?_, ?_⟩
      · rw [hhi, regRead_latched hlow (hlatch.trans htl), hvalue, natLe_word]
      · rw [hnone]
end

section
/-!
PROOFS. The stripe boundary (O47): what comes into force, the refusal, the rejected program and the start of a write.
-/

namespace Sys2Proof.Machine

set_option Elab.async false

variable {s t u : State} {off : Nat}

/-! ### What the coming into force of tables, programs and settings may touch -/

/-- What coming into force at a stripe boundary may change: registers by events and by the count of rejected sets, module
DRAM by a hive flush, and the fields that hold tables, programs and settings. -/
structure Forced (s u : State) : Prop where
  frame : ∃ r e d p c b x h k m y, u = { s with
    regs := r, evt := e, dram := d, pec := p, comb := c, bmu := b, axes := x, hive := h, cal := k, sec := m, thm := y }
  wf : RegsWf s → RegsWf u
  regs : RegsWf s → SameRegsBut [0x160110] s u

theorem Forced.refl : Forced s s := ⟨⟨_, _, _, _, _, _, _, _, _, _, _, rfl⟩, id, fun _ _ _ _ _ => rfl⟩

theorem Forced.trans (h : Forced s t) (k : Forced t u) : Forced s u := by
  obtain ⟨⟨_, _, _, _, _, _, _, _, _, _, _, rfl⟩, hwf, hregs⟩ := h
  obtain ⟨⟨_, _, _, _, _, _, _, _, _, _, _, rfl⟩, kwf, kregs⟩ := k
  exact ⟨⟨_, _, _, _, _, _, _, _, _, _, _, rfl⟩, fun hs => kwf (hwf hs), fun hs => (hregs hs).trans (kregs (hwf hs))⟩

/-- A change of the fields that hold tables, programs and settings. -/
theorem Forced.upd {d p c b x h k m y} : Forced s { s with
    dram := d, pec := p, comb := c, bmu := b, axes := x, hive := h, cal := k, sec := m, thm := y } :=
  ⟨⟨_, _, _, _, _, _, _, _, _, _, _, rfl⟩, id, fun _ _ _ _ _ => rfl⟩

theorem Forced.raise {src info cseq : Nat} (h : Forced s u) (hs : src < 256) : Forced s (raise src info cseq u) :=
  h.trans ⟨⟨_, _, _, _, _, _, _, _, _, _, _, raise_frame _ _ _ _⟩, fun hw => raise_wf _ _ _ _ hw,
    fun hw => sameRegsBut_raise _ hs hw⟩

theorem Forced.rejected {n : Nat} (h : Forced s u) : Forced s (count 0x160110 n u) :=
  h.trans ⟨⟨_, _, _, _, _, _, _, _, _, _, _, rfl⟩, fun hw => regsWf_count hw, fun hw => sameRegsBut_count _ n hw⟩

/-- A table slot once its pending table is in force. -/
def inForce (x : TableSlot) : TableSlot := { cur := x.pend.or x.cur, pend := none }

theorem inForce_none {x : TableSlot} (h : x.pend = none) : inForce x = x := by
  cases x
  simp_all [inForce]

theorem kernelInForce_effect (s : State) : Forced s (kernelInForce s) ∧
    (kernelInForce s).pec = { s.pec with kernel := inForce s.pec.kernel } ∧ (kernelInForce s).comb = s.comb ∧
      (kernelInForce s).bmu = s.bmu := by
  unfold kernelInForce
  split
  · next t h => exact ⟨Forced.upd.raise (by decide), by simp [inForce, h], by simp, by simp⟩
  · next h => exact ⟨.refl, by rw [inForce_none h], rfl, rfl⟩

theorem fieldInForce_effect (s : State) : Forced s (fieldInForce s) ∧
    (fieldInForce s).pec = { s.pec with field := inForce s.pec.field } ∧ (fieldInForce s).comb = s.comb ∧
      (fieldInForce s).bmu = s.bmu := by
  unfold fieldInForce
  split
  · next t h => exact ⟨Forced.upd.raise (by decide), by simp [inForce, h], by simp, by simp⟩
  · next h => exact ⟨.refl, by rw [inForce_none h], rfl, rfl⟩

/-- A calibration set taken over, or rejected. -/
theorem calTaken_effect {q : Nat} {b : Bytes} (h : Forced s t) : Forced s (calTaken q b t) ∧
    (calTaken q b t).pec = t.pec ∧ (calTaken q b t).comb = t.comb ∧ (calTaken q b t).bmu = t.bmu := by
  have hrec : Forced s (updRec q (fun r => { r with count := Bits.satAdd r.count 1, stamp := stamp t, good := b }) t) :=
    h.trans .upd
  exact ⟨hrec.raise (by decide), by simp [calTaken, updRec], by simp [calTaken, updRec], by simp [calTaken, updRec]⟩

theorem beamInForce_effect (s : State) : Forced s (beamInForce s) ∧ (beamInForce s).pec = s.pec ∧
    (beamInForce s).comb = s.comb ∧ (beamInForce s).bmu = { s.bmu with beam := inForce s.bmu.beam } := by
  unfold beamInForce
  split
  · next t h =>
    obtain ⟨hf, hp, hc, hb⟩ := calTaken_effect (q := 0) (b := t) (s := s) (Forced.upd.raise (src := 105) (by decide))
    exact ⟨hf, hp.trans (by simp), hc.trans (by simp), hb.trans (by simp [inForce, h])⟩
  · next h => exact ⟨.refl, rfl, rfl, by rw [inForce_none h]⟩

theorem maskInForce_effect (s : State) : Forced s (maskInForce s) ∧ (maskInForce s).pec = s.pec ∧
    (maskInForce s).comb = s.comb ∧ (maskInForce s).bmu = { s.bmu with mask := inForce s.bmu.mask } := by
  unfold maskInForce
  split
  · next t h =>
    obtain ⟨hf, hp, hc, hb⟩ := calTaken_effect (q := 1) (b := t) (s := s) (Forced.upd.raise (src := 105) (by decide))
    exact ⟨hf, hp.trans (by simp), hc.trans (by simp), hb.trans (by simp [inForce, h])⟩
  · next h => exact ⟨.refl, rfl, rfl, by rw [inForce_none h]⟩

theorem weightInForce_effect (s : State) : Forced s (weightInForce s) ∧ (weightInForce s).pec = s.pec ∧
    (weightInForce s).comb = s.comb ∧ (weightInForce s).bmu = { s.bmu with weight := inForce s.bmu.weight } := by
  unfold weightInForce
  split
  · next t h => exact ⟨Forced.upd.raise (by decide), by simp, by simp, by simp [inForce, h]⟩
  · next h => exact ⟨.refl, rfl, rfl, by rw [inForce_none h]⟩

theorem trimsInForce_effect (s : State) : Forced s (trimsInForce s) ∧ (trimsInForce s).pec = s.pec ∧
    (trimsInForce s).comb = s.comb ∧ (trimsInForce s).bmu = s.bmu := by
  unfold trimsInForce
  split
  · exact calTaken_effect .upd
  · exact ⟨.refl, rfl, rfl, rfl⟩

theorem stepDown_effect (s : State) : Forced s (stepDown s) ∧ (stepDown s).pec = s.pec ∧ (stepDown s).comb = s.comb ∧
    (stepDown s).bmu = s.bmu := by
  unfold stepDown
  split
  · exact ⟨Forced.upd.raise (by decide), by simp, by simp, by simp⟩
  · exact ⟨.refl, rfl, rfl, rfl⟩

/-- A pending set dropped, or not. -/
theorem dropIf_effect {bad : Bool} {q : Nat} {drop : State → State} (h : Forced s t) (hd : Forced t (drop t))
    (hp : (drop t).pec = t.pec) (hc : (drop t).comb = t.comb) :
    Forced s (dropIf bad q drop t) ∧ (dropIf bad q drop t).pec = t.pec ∧ (dropIf bad q drop t).comb = t.comb := by
  have hrec : Forced (drop t) (updRec q (fun r => { r with reject := 6 }) (drop t)) := .upd
  cases bad
  · exact ⟨h, rfl, rfl⟩
  · exact ⟨((h.trans hd).trans hrec).rejected.raise (src := 254) (by decide), by simp [dropIf, calRejected, updRec, hp],
      by simp [dropIf, calRejected, updRec, hc]⟩

theorem limitsInForce_effect (s : State) : Forced s (limitsInForce s) ∧ (limitsInForce s).pec = s.pec ∧
    (limitsInForce s).comb = s.comb ∧ (s.cal.newLimits = none → (limitsInForce s).bmu = s.bmu) := by
  unfold limitsInForce
  split
  · next h => exact ⟨.refl, rfl, rfl, fun _ => rfl⟩
  · next l h =>
    extract_lets cal s1 beam mask trims eq s2 s3 s4
    obtain ⟨h2, p2, c2⟩ : Forced s s2 ∧ s2.pec = s1.pec ∧ s2.comb = s1.comb := dropIf_effect .upd .upd rfl rfl
    obtain ⟨h3, p3, c3⟩ : Forced s s3 ∧ s3.pec = s2.pec ∧ s3.comb = s2.comb := dropIf_effect h2 .upd rfl rfl
    obtain ⟨h4, p4, c4⟩ : Forced s s4 ∧ s4.pec = s3.pec ∧ s4.comb = s3.comb := dropIf_effect h3 .upd rfl rfl
    obtain ⟨h5, p5, c5⟩ := dropIf_effect (bad := eq) (q := 4)
      (drop := fun s => { s with cal := { s.cal with eq := none } }) h4 .upd rfl rfl
    exact ⟨h5, by rw [p5, p4, p3, p2], by rw [c5, c4, c3, c2], fun hn => by simp [hn] at h⟩

/-- A hive flush clears bits of module DRAM and the log. -/
theorem hiveFlush_effect (h : Forced s t) : Forced s (hiveFlush t) ∧ (hiveFlush t).pec = t.pec ∧
    (hiveFlush t).comb = t.comb ∧ (hiveFlush t).bmu = t.bmu := by
  have hclear (l : List Nat) (x : State) :
      ∃ d, l.foldl (fun y a => dramWrite a [BitVec.ofNat 8 ((dramByte y a).toNat / 2 * 2)] y) x = { x with dram := d } := by
    induction l generalizing x with
    | nil => exact ⟨_, rfl⟩
    | cons a l ih =>
      obtain ⟨d, hd⟩ := ih (dramWrite a [BitVec.ofNat 8 ((dramByte x a).toNat / 2 * 2)] x)
      exact ⟨d, hd⟩
  obtain ⟨d, hd⟩ := hclear (flagAddrs t) t
  unfold hiveFlush
  dsimp only
  rw [hd]
  exact ⟨(h.trans .upd).raise (by decide), by simp, by simp, by simp⟩

/-- With no write one of the two banks is free. -/
theorem bankFor_some (raster : Bool) (p : ProgSet) (hw : s.job.write = none) : ∃ b, bankFor s raster p = some b := by
  unfold bankFor bankFree
  rw [hw]
  cases s.job.forage with
  | none => exact ⟨!p.bank, by simp⟩
  | some f =>
    cases hb : (if raster then f.bankRe else f.bankCe) <;> cases hp : p.bank <;> simp [hb]

theorem placeProg_cur (t : Bytes) (b : Bool) (p : ProgSet) : (placeProg t b p).cur = t := by
  unfold placeProg
  split <;> rfl

/-- A pending raster program comes into force. -/
theorem rasterInForce_effect (hw : s.job.write = none) : Forced s (programInForce true s) ∧
    (programInForce true s).pec = s.pec ∧ (programInForce true s).bmu = s.bmu ∧
      (programInForce true s).comb.ce = s.comb.ce ∧
      (programInForce true s).comb.re.cur = s.comb.re.pend.getD s.comb.re.cur := by
  obtain ⟨b, hb⟩ := bankFor_some true s.comb.re hw
  cases hp : s.comb.re.pend with
  | none =>
    have heq : programInForce true s = s := by simp [programInForce, hp]
    rw [heq]
    exact ⟨.refl, rfl, rfl, rfl, rfl⟩
  | some t =>
    have heq : programInForce true s = hiveFlush (raise 75 0 0
        (extend 5 (Check.sha384 t) { s with comb := { s.comb with re := placeProg t b s.comb.re } })) := by
      simp [programInForce, hp, hb]
    rw [heq]
    obtain ⟨hf, hpec, hcomb, hbmu⟩ := hiveFlush_effect
      (Forced.raise (s := s) (u := extend 5 (Check.sha384 t) { s with comb := { s.comb with re := placeProg t b s.comb.re } })
        (src := 75) (info := 0) (cseq := 0) .upd (by decide))
    have hc := hcomb.trans (raise_comb _ _ _ _)
    exact ⟨hf, hpec.trans (raise_pec _ _ _ _), hbmu.trans (raise_bmu _ _ _ _), congrArg (·.ce) hc,
      (congrArg (·.re.cur) hc).trans (placeProg_cur _ _ _)⟩

/-- A pending correction program comes into force. -/
theorem correctionProgramInForce_effect (hw : s.job.write = none) : Forced s (programInForce false s) ∧
    (programInForce false s).pec = s.pec ∧ (programInForce false s).bmu = s.bmu ∧
      (programInForce false s).comb.re = s.comb.re ∧
      (programInForce false s).comb.ce.cur = s.comb.ce.pend.getD s.comb.ce.cur := by
  obtain ⟨b, hb⟩ := bankFor_some false s.comb.ce hw
  unfold programInForce
  simp only [Bool.false_eq_true, if_false, hb]
  cases hp : s.comb.ce.pend with
  | none => exact ⟨.refl, rfl, rfl, rfl, rfl⟩
  | some t =>
    have hf : Forced s (raise 75 0 0
        (extend 5 (Check.sha384 t) { s with comb := { s.comb with ce := placeProg t b s.comb.ce } })) :=
      Forced.raise .upd (by decide)
    exact ⟨hf, by simp [extend], by simp [extend], by simp [extend], by simp [extend, placeProg_cur]⟩

/-! ### The state the checks judge -/

/-- What does not change before the checks run. -/
theorem Forced.keeps (h : Forced s u) : u.job = s.job ∧ u.intake = s.intake ∧ u.power = s.power ∧ u.blk = s.blk ∧
    u.mem = s.mem ∧ u.tim = s.tim ∧ u.seq = s.seq ∧ u.journal = s.journal ∧ u.hif = s.hif := by
  obtain ⟨_, _, _, _, _, _, _, _, _, _, _, rfl⟩ := h.frame
  exact ⟨rfl, rfl, rfl, rfl, rfl, rfl, rfl, rfl, rfl⟩

/-- The tables, masks and programs in force at a stripe boundary (R144, R173, R250). -/
theorem boundaryForce_effect (hw : s.job.write = none) : Forced s (boundaryForce s) ∧
    (boundaryForce s).pec = { kernel := inForce s.pec.kernel, field := inForce s.pec.field } ∧
    (s.cal.newLimits = none → (boundaryForce s).bmu =
      { s.bmu with beam := inForce s.bmu.beam, mask := inForce s.bmu.mask, weight := inForce s.bmu.weight }) ∧
    (boundaryForce s).comb.re.cur = s.comb.re.pend.getD s.comb.re.cur ∧
    (boundaryForce s).comb.ce.cur = s.comb.ce.pend.getD s.comb.ce.cur := by
  obtain ⟨a, c, hu⟩ : ∃ a c, boundaryForce s =
      let z := trimsInForce (beamMapInForce (correctionInForce (stepDown (limitsInForce s))))
      { z with axes := a, comb := { z.comb with working := c } } := ⟨_, _, rfl⟩
  unfold beamMapInForce correctionInForce at hu
  obtain ⟨f1, p1, c1, b1⟩ := limitsInForce_effect s
  obtain ⟨f2, p2, c2, b2⟩ := stepDown_effect (limitsInForce s)
  obtain ⟨f3, p3, c3, b3⟩ := kernelInForce_effect (stepDown (limitsInForce s))
  obtain ⟨f4, p4, c4, b4⟩ := fieldInForce_effect (kernelInForce (stepDown (limitsInForce s)))
  generalize hx : fieldInForce (kernelInForce (stepDown (limitsInForce s))) = x at f4 p4 c4 b4 hu
  have f := ((f1.trans f2).trans f3).trans f4
  obtain ⟨hjob, -⟩ := f.keeps
  obtain ⟨f5, p5, b5, ce5, re5⟩ := rasterInForce_effect (s := x) (by rw [hjob, hw])
  obtain ⟨hjob5, -⟩ := (f.trans f5).keeps
  obtain ⟨f6, p6, b6, re6, ce6⟩ := correctionProgramInForce_effect (s := programInForce true x) (by rw [hjob5, hw])
  generalize hy : programInForce false (programInForce true x) = y at f6 p6 b6 re6 ce6 hu
  obtain ⟨f7, p7, c7, b7⟩ := beamInForce_effect y
  obtain ⟨f8, p8, c8, b8⟩ := maskInForce_effect (beamInForce y)
  obtain ⟨f9, p9, c9, b9⟩ := weightInForce_effect (maskInForce (beamInForce y))
  obtain ⟨f10, p10, c10, b10⟩ := trimsInForce_effect (weightInForce (maskInForce (beamInForce y)))
  generalize hz : trimsInForce (weightInForce (maskInForce (beamInForce y))) = z at f10 p10 c10 b10 hu
  have hall := (((((f.trans f5).trans f6).trans f7).trans f8).trans f9).trans f10
  rw [hu]
  refine ⟨hall.trans .upd, ?_, fun hn => ?_, ?_, ?_⟩
  · simp only [p10, p9, p8, p7, p6, p5, p4, p3, p2, p1]
  · simp only [b10, b9, b8, b7, b6, b5, b4, b3, b2, b1 hn]
  · simp only [c10, c9, c8, c7, re6, re5, c4, c3, c2, c1]
  · simp only [c10, c9, c8, c7, ce6, ce5, c4, c3, c2, c1]

/-! ### The end of a command (R288, R298, R309) -/

/-- Adding a record keeps every pending event. -/
theorem journalCopies_keepsPending {n k : Nat} (hk : k < 256) (h : RegsWf s) (hp : Pending s k) :
    Pending (journalCopies n s) k := by
  induction n generalizing s with
  | zero => exact hp
  | succ m ih =>
    unfold journalCopies
    split
    · have hput : ∀ x : JRec, RegsWf (journalPut x s) := fun x => by rwa [RegsWf, journalPut_regs]
      refine ih (raise_wf _ _ _ _ (hput _)) ((raised_raise (by decide) (by decide) (hput _) k hk).mpr (.inl ?_))
      rwa [Pending, regN, reg, journalPut_regs]
    · exact hp

theorem journalAdd_stored {kind opcode status cause cseq detail body} :
    (journalAdd kind opcode status cause cseq detail body s).regs = (journalCopy s).regs := journalPut_regs _ _

theorem journalAdd_keepsPending {kind opcode status cause cseq detail body} {k : Nat} (hk : k < 256) (h : RegsWf s)
    (hp : Pending s k) : Pending (journalAdd kind opcode status cause cseq detail body s) k := by
  rw [Pending, regN, reg, journalAdd_stored]
  exact journalCopies_keepsPending hk h hp

/-- A journal that is not full takes a record at its head and loses none. -/
theorem journalAdd_append {kind opcode status cause cseq detail body} (h : s.journal.length < 262144) :
    ∃ r, (journalAdd kind opcode status cause cseq detail body s).journal = r :: s.journal ∧ r.kind = kind ∧
      r.cseq = cseq := by
  have hvictim : journalVictim s = none := if_pos h
  have hcopy : journalCopy s = s := by
    unfold journalCopy journalCopies
    rw [hvictim]
  unfold journalAdd journalPut
  have hall : s.journal.take (journalRing - 1) = s.journal := List.take_of_length_le (Nat.le_pred_of_lt h)
  rw [exportLog_journal, hcopy, hall]
  exact ⟨_, rfl, rfl, rfl⟩

/-- The state with the FINAL record of a command, before its completion entry. -/
def finishRecord (q : Nat) (e : End) (s : State) : State :=
  journalAdd 2 (opcodeOf s q) e.status e.cause q (detailOf e.code e.source e.extra)
    (Bits.natLe e.frontier 8 ++ Bits.natLe e.lastSent 8 ++ Bits.natLe e.arg0 8 ++ Bits.natLe e.stripe 4 ++
      Bits.natLe (Bits.b2n e.doubt) 4) s

/-- The end of a command: its record, its leaving the queue, its completion entry. -/
theorem finish_eq (q : Nat) (e : End) (s : State) :
    finish q e s = complete (cplOf q (opcodeOf s q) (newestIdx (finishRecord q e s)) true e)
      { finishRecord q e s with job := { (finishRecord q e s).job with
          live := (finishRecord q e s).job.live.filter (fun l => l.seq != q) } } := rfl

/-- The registers after the end of a command are those after its record. -/
theorem finish_regs {q : Nat} {e : End} (h : RegsWf s) : RegsWf (finish q e s) ∧ SameRegsBut [] s (finish q e s) := by
  unfold RegsWf SameRegsBut reg finish
  dsimp only
  rw [complete_regs]
  exact journalAdd_regs h

theorem finish_keepsPending {q k : Nat} {e : End} (hk : k < 256) (h : RegsWf s) (hp : Pending s k) :
    Pending (finish q e s) k := by
  unfold Pending regN reg finish
  dsimp only
  rw [complete_regs]
  exact journalAdd_keepsPending hk h hp

/-- What the end of a command leaves of the job. -/
theorem finish_job (q : Nat) (e : End) (s : State) :
    (finish q e s).job.write = s.job.write ∧ (finish q e s).job.slots = s.job.slots := by
  unfold finish complete
  dsimp only
  split <;> simp

/-- A completion entry is queued where the completion ring is enabled and the host reachable (R288). -/
theorem complete_cplQ (c : Cpl) (s : State) : (complete c s).job.cplQ =
    if s.job.cplOn = true ∧ reachable s = true then s.job.cplQ ++ [{ c with stamp := stamp s }] else s.job.cplQ := by
  unfold complete
  by_cases h : s.job.cplOn = true ∧ reachable s = true
  · rw [if_pos h, if_pos (by simpa using h)]
  · rw [if_neg h, if_neg (by simpa using h)]

/-- The end of a command: it leaves the queue, its FINAL record stands first, and its completion entry is queued. -/
theorem finish_ended (q : Nat) (e : End) (s : State) : Ended q e s (finish q e s) := by
  refine ⟨finish_live q e s, ?_, ?_⟩
  · unfold finish journalAdd journalPut
    dsimp only
    rw [complete_journal]
    dsimp only
    rw [exportLog_journal]
    exact ⟨_, rfl, rfl, rfl, rfl, rfl, rfl, rfl⟩
  · have hq : (finish q e s).job.cplQ = if s.job.cplOn = true ∧ reachable s = true then
        s.job.cplQ ++ [{ cplOf q (opcodeOf s q) (newestIdx (finishRecord q e s)) true e with stamp := stamp s }]
        else s.job.cplQ := by
      rw [finish_eq, complete_cplQ]
      simp [finishRecord, reachable, stamp]
    rw [hq]
    by_cases hc : s.job.cplOn = true ∧ reachable s = true
    · rw [if_pos hc, if_pos hc]
      exact ⟨_, rfl, rfl, rfl, rfl, rfl, rfl, rfl, rfl, rfl, rfl, rfl⟩
    · rw [if_neg hc, if_neg hc]

/-- The end of a command read from states that agree in the job, the link and the time, before and after. -/
theorem Ended.congr {q : Nat} {e : End} {s' t' : State} (h : Ended q e s t) (hj : s'.job = s.job) (hh : s'.hif = s.hif)
    (ht : s'.tim = s.tim) (hl : t'.job.live = t.job.live) (hc : t'.job.cplQ = t.job.cplQ)
    (hjournal : t'.journal = t.journal) : Ended q e s' t' := by
  have hreach : reachable s' = reachable s := by rw [reachable, hh]; rfl
  have hstamp : stamp s' = stamp s := by rw [stamp, ht]; rfl
  unfold Ended
  rw [hj, hl, hc, hjournal, hreach, hstamp]
  exact h

/-! ### A write refused at its boundary (R31, R298) -/

/-- The reasons of the checks, each with the event of its own chapter. -/
def refusals : List (Nat × Option Nat) :=
  [(4, none), (2, none), (3, none), (5, none), (6, some 110), (7, some 110), (8, some 101), (9, some 76), (0xA, some 109),
    (0xE, none), (0xB, none), (0xC, none), (0xD, none), (0x12, none)]

/-- One check of a chain: what fails there, or what a later check finds. -/
theorem refusal_step {c : Prop} [Decidable c] {y z : Nat × Option Nat} {rest : Option (Nat × Option Nat)}
    (hz : z ∈ refusals) (hrest : rest = some y → y ∈ refusals) : (if c then some z else rest) = some y → y ∈ refusals := by
  split
  · intro h
    cases h
    exact hz
  · exact hrest

theorem boundaryRefusal_mem {b : Bytes} {y : Nat × Option Nat} : boundaryRefusal s b = some y → y ∈ refusals := by
  unfold boundaryRefusal
  extract_lets f d lim slot other
  iterate 14 refine refusal_step (by decide) ?_
  intro h
  cases h

/-- The event of a refusal's own chapter. -/
def refusalEvent (ev : Option Nat) (q : Nat) (s : State) : State :=
  match ev with
  | some n => raise n 0 q s
  | none => s

theorem refusalEvent_effect {x q : Nat} {ev : Option Nat} (hw : RegsWf s) (hx : (x, ev) ∈ refusals) :
    RegsWf (refusalEvent ev q s) ∧ (∃ r w, refusalEvent ev q s = { s with regs := r, evt := w }) ∧
      ∀ n, ev = some n → n < 256 ∧ Pending (refusalEvent ev q s) n := by
  have hsources : ∀ y ∈ refusals, (y.2.all fun n => RegMap.usedSource n && decide (n < 256)) = true := by decide
  cases ev with
  | none => exact ⟨hw, ⟨_, _, rfl⟩, fun _ h => by cases h⟩
  | some n =>
    have hn := hsources _ hx
    simp only [Option.all_some, Bool.and_eq_true, decide_eq_true_eq] at hn
    obtain ⟨hu, hlt⟩ := hn
    refine ⟨raise_wf _ _ _ _ hw, ⟨_, _, raise_frame _ _ _ _⟩, fun m hm => ?_⟩
    cases hm
    exact ⟨hlt, (raised_raise hu hlt hw n hlt).mpr (.inr (List.mem_singleton_self n))⟩

/-- A register other than PENDING written leaves the pending events. -/
theorem pending_setReg {v : Word} {k : Nat} (hk : k < 256) (ho : off < 0x010040 ∨ 0x010060 ≤ off) (hw : RegsWf s) :
    Pending (setReg off v s) k ↔ Pending s k := by
  rw [Pending, Pending, regN, regN, reg_setReg _ _ _ _ hw, if_neg (by omega)]

/-- The state in which a refused write ends: its event raised, and the link's state noted for reason 0x0D. -/
def refusalNoted (x : Nat) (ev : Option Nat) (q : Nat) (s : State) : State :=
  if x = 0xD then refusedInfo (refusalEvent ev q s) else refusalEvent ev q s

theorem refusalNoted_effect {x q : Nat} {ev : Option Nat} (hw : RegsWf s) (hx : (x, ev) ∈ refusals) :
    RegsWf (refusalNoted x ev q s) ∧ (∃ r w, refusalNoted x ev q s = { s with regs := r, evt := w }) ∧
      ∀ n, ev = some n → n < 256 ∧ Pending (refusalNoted x ev q s) n := by
  obtain ⟨hwf, ⟨_, _, hframe⟩, hpend⟩ := refusalEvent_effect (q := q) hw hx
  unfold refusalNoted
  split
  · refine ⟨setReg_wf _ _ _ hwf, ⟨_, _, by rw [hframe]; rfl⟩, fun n hn => ?_⟩
    obtain ⟨hlt, hp⟩ := hpend n hn
    exact ⟨hlt, (pending_setReg hlt (by decide) hwf).mpr hp⟩
  · exact ⟨hwf, ⟨_, _, hframe⟩, hpend⟩

theorem boundaryRefuse_eq (l : Live) (x : Nat) (ev : Option Nat) (s : State) : ∃ e : End,
    boundaryRefuse l x ev s =
      markInvalid (entryStripe l.entry) (raise 11 0 l.seq (finish l.seq e (refusalNoted x ev l.seq s))) ∧
      e.status = 4 ∧ e.code = x ∧ e.source = 8 := by
  refine ⟨boundaryEnd (entryStripe l.entry) { refusedState x with extra := if x = 0xD then linkExtra s else 0 }, ?_, rfl, rfl,
    rfl⟩
  cases ev <;> rfl

/-- Whether results differ depends on the binding, the tables and the programs alone. -/
theorem slotDiffers_congr (hi : t.intake = s.intake) (hp : t.pec = s.pec) (hc : t.comb = s.comb) :
    slotDiffers t = slotDiffers s := by
  have hdig : digestsNow t = digestsNow s := by
    unfold digestsNow
    rw [hi, hp, hc]
  funext x
  unfold slotDiffers bindMatches
  rw [hdig, hi]

/-- A refused write ends, raises its events and marks the results that differ. -/
theorem boundaryRefuse_effect (l : Live) {x : Nat} {ev : Option Nat} (hw : RegsWf s) (hx : (x, ev) ∈ refusals) :
    ∃ e, Ended l.seq e s (boundaryRefuse l x ev s) ∧ e.status = 4 ∧ e.code = x ∧ e.source = 8 ∧
      Pending (boundaryRefuse l x ev s) 11 ∧ (∀ n, ev = some n → Pending (boundaryRefuse l x ev s) n) ∧
      (boundaryRefuse l x ev s).job.write = s.job.write ∧
      (boundaryRefuse l x ev s).job.slots = s.job.slots.map (fun y =>
        if y.stripe == (entryStripe l.entry).stripe && y.pass == (entryStripe l.entry).pass && y.held && slotDiffers s y
        then { y with valid := false } else y) ∧
      (boundaryRefuse l x ev s).blk = s.blk ∧ (boundaryRefuse l x ev s).seq = s.seq := by
  obtain ⟨e, heq, hst, hcode, hsource⟩ := boundaryRefuse_eq l x ev s
  obtain ⟨hwf, ⟨_, _, hframe⟩, hpend⟩ := refusalNoted_effect (q := l.seq) hw hx
  rw [heq]
  generalize refusalNoted x ev l.seq s = z at hwf hframe hpend
  obtain ⟨hwrite, hslots⟩ := finish_job l.seq e z
  obtain ⟨hfin, -⟩ := finish_regs (q := l.seq) (e := e) hwf
  have hraised : Raised [11] (finish l.seq e z) (raise 11 0 l.seq (finish l.seq e z)) :=
    raised_raise (by decide) (by decide) hfin
  have hdiff : slotDiffers (raise 11 0 l.seq (finish l.seq e z)) = slotDiffers s := by
    refine slotDiffers_congr ?_ ?_ ?_ <;> simp [hframe]
  have hended : Ended l.seq e s (markInvalid (entryStripe l.entry) (raise 11 0 l.seq (finish l.seq e z))) :=
    (finish_ended l.seq e z).congr (by rw [hframe]) (by rw [hframe]) (by rw [hframe])
      (congrArg (·.live) (raise_job _ _ _ _)) (congrArg (·.cplQ) (raise_job _ _ _ _)) (raise_journal _ _ _ _)
  refine ⟨e, hended, hst, hcode, hsource, (hraised 11 (by decide)).mpr (.inr (by simp)), fun n hn => ?_, ?_, ?_, ?_, ?_⟩
  · obtain ⟨hlt, hp⟩ := hpend n hn
    exact (hraised n hlt).mpr (.inl (finish_keepsPending hlt hwf hp))
  · exact (congrArg (·.write) (raise_job _ _ _ _)).trans (hwrite.trans (by rw [hframe]))
  · have hsame : (raise 11 0 l.seq (finish l.seq e z)).job.slots = s.job.slots :=
      (congrArg (·.slots) (raise_job _ _ _ _)).trans (hslots.trans (by rw [hframe]))
    unfold markInvalid updSlot
    dsimp only
    rw [hsame, hdiff]
    refine List.map_congr_left fun y _ => ?_
    by_cases hy : (y.stripe == (entryStripe l.entry).stripe && y.pass == (entryStripe l.entry).pass) = true
    · rw [if_pos hy, hy, Bool.true_and]
    · rw [if_neg hy, Bool.not_eq_true _ |>.mp hy, Bool.false_and, Bool.false_and, if_neg Bool.false_ne_true]
  · exact (raise_blk _ _ _ _).trans ((finish_blk _ _ _).trans (by rw [hframe]))
  · exact (raise_seq _ _ _ _).trans ((finish_seq _ _ _).trans (by rw [hframe]))

/-! ### The start of a write (R24, R195, R233, R308, R309) -/

/-- What waking the link at a stripe boundary changes: what is sent, the link's state, the calibration set taken, and
registers by events. -/
structure Woken (s u : State) : Prop where
  frame : ∃ r e o b k, u = { s with regs := r, evt := e, out := o, blk := b, cal := k }
  blk : u.blk.lastSent = s.blk.lastSent ∧ u.blk.frontier = s.blk.frontier
  wf : RegsWf s → RegsWf u
  regs : RegsWf s → SameRegsBut [] s u
  pending : RegsWf s → ∀ k, k < 256 → Pending s k → Pending u k

theorem Woken.trans (h : Woken s t) (k : Woken t u) : Woken s u := by
  obtain ⟨⟨_, _, _, _, _, rfl⟩, ⟨hlast, hfront⟩, hwf, hregs, hpend⟩ := h
  obtain ⟨⟨_, _, _, _, _, rfl⟩, ⟨klast, kfront⟩, kwf, kregs, kpend⟩ := k
  exact ⟨⟨_, _, _, _, _, rfl⟩, ⟨klast.trans hlast, kfront.trans hfront⟩, fun hw => kwf (hwf hw),
    fun hw => (hregs hw).trans (kregs (hwf hw)), fun hw n hn hp => kpend (hwf hw) n hn (hpend hw n hn hp)⟩

/-- A change of what is sent, of the link's state and of the calibration alone. -/
theorem Woken.upd (h : ∃ o b k, u = { s with out := o, blk := b, cal := k })
    (hb : u.blk.lastSent = s.blk.lastSent ∧ u.blk.frontier = s.blk.frontier) : Woken s u := by
  obtain ⟨o, b, k, rfl⟩ := h
  exact ⟨⟨_, _, _, _, _, rfl⟩, hb, id, fun _ _ _ _ _ => rfl, fun _ _ _ hp => hp⟩

theorem Woken.refl : Woken s s := .upd ⟨_, _, _, rfl⟩ ⟨rfl, rfl⟩

theorem Woken.raise {src info cseq : Nat} (hu : RegMap.usedSource src = true) (hs : src < 256) :
    Woken s (raise src info cseq s) :=
  ⟨⟨_, _, _, _, _, raise_frame _ _ _ _⟩, by rw [raise_blk]; exact ⟨rfl, rfl⟩, fun hw => raise_wf _ _ _ _ hw,
    fun hw => sameRegsBut_raise _ hs hw, fun hw k hk hp => (raised_raise hu hs hw k hk).mpr (.inl hp)⟩

/-- Sending changes what is sent. -/
theorem foldl_sends {α : Type} (f : State → α → State) (hf : ∀ t x, ∃ o, f t x = { t with out := o }) (l : List α) (s : State) :
    ∃ o, l.foldl f s = { s with out := o } := by
  induction l generalizing s with
  | nil => exact ⟨_, rfl⟩
  | cons x l ih =>
    obtain ⟨o, ho⟩ := hf s x
    obtain ⟨o', ho'⟩ := ih (f s x)
    exact ⟨o', by rw [List.foldl_cons, ho', ho]⟩

theorem Woken.enterRest (s : State) : Woken s (enterRest s) := by
  unfold Machine.enterRest
  extract_lets s1
  obtain ⟨o, ho⟩ : ∃ o, s1 = { s with out := o } := foldl_sends _ (fun t w => ⟨_, rfl⟩) _ s
  have hrest : Woken s { s1 with blk := { s1.blk with st := 6 } } := .upd ⟨o, _, _, by rw [ho]⟩ (by rw [ho]; exact ⟨rfl, rfl⟩)
  exact hrest.trans (.raise (by decide) (by decide))

theorem Woken.takeEq (s : State) : Woken s (takeEq s) := by
  unfold Machine.takeEq
  split
  · exact .refl
  · next b _ =>
    extract_lets blk s1 r
    have htaken : Woken s { s1 with cal := { s1.cal with eq := none, recs := Machine.upd s1.cal.recs 4 r } } :=
      .upd ⟨_, _, _, rfl⟩ ⟨rfl, rfl⟩
    exact htaken.trans (.raise (src := 253) (by decide) (by decide))

theorem Woken.clearLocks (returns : Bool) (s : State) : Woken s (clearLocks returns s) := by
  have hlanes (v : Vector Lane 288) : Woken s { s with blk := { s.blk with lanes := v } } :=
    .upd ⟨_, _, _, rfl⟩ ⟨rfl, rfl⟩
  exact hlanes _

theorem Woken.beginWake (s : State) : Woken s (beginWake s) := by
  unfold Machine.beginWake
  extract_lets s1
  obtain ⟨o, ho⟩ : ∃ o, s1 = { s with out := o } := foldl_sends _ (fun t w => ⟨_, rfl⟩) _ s
  have hwake : Woken s { s1 with blk := { s1.blk with st := 7, waking := true, atSpare := false } } :=
    .upd ⟨o, _, _, by rw [ho]⟩ (by rw [ho]; exact ⟨rfl, rfl⟩)
  exact hwake.trans (.clearLocks _ _)

theorem Woken.wakeAtBoundary (s : State) : Woken s (wakeAtBoundary s) := by
  unfold Machine.wakeAtBoundary
  split
  · exact (Woken.takeEq s).trans (.beginWake _)
  · split
    · exact ((Woken.enterRest s).trans (.takeEq _)).trans (.beginWake _)
    · exact .refl

/-- The sequencer loaded: PLAN is written, and the sequencer holds program and parameters (R195, R291). -/
theorem loadSequencer_effect (f : Stripe) (h : RegsWf s) : RegsWf (loadSequencer f s) ∧
    (∃ r q, loadSequencer f s = { s with regs := r, seq := q }) ∧
    ∀ off, reg (loadSequencer f s) off = if off = 0x0D010C then BitVec.ofNat 32 f.plan else reg s off :=
  ⟨setReg_wf _ _ _ h, ⟨_, _, rfl⟩, fun off => reg_setReg s _ off _ h⟩

/-- A capture that a write's end may end changes its own fields and registers by an event. -/
theorem captureEnd_effect (q : Nat) (h : RegsWf s) : (∃ r e b, captureEnd q s = { s with regs := r, evt := e, bmu := b }) ∧
    ∀ k, k < 256 → Pending s k → Pending (captureEnd q s) k := by
  unfold captureEnd
  split
  · have hset : RegsWf (setRegN 0x0C002C s.bmu.capRecs.length
        { s with bmu := { s.bmu with armed := false, capOwner := 0 } }) := setReg_wf _ _ _ h
    refine ⟨⟨_, _, _, raise_frame _ _ _ _⟩, fun k hk hp => (raised_raise (by decide) (by decide) hset k hk).mpr (.inl ?_)⟩
    exact (pending_setReg (s := { s with bmu := { s.bmu with armed := false, capOwner := 0 } }) hk (by decide) h).mpr hp
  · exact ⟨⟨_, _, _, rfl⟩, fun _ _ hp => hp⟩

/-- Where the program check fails the sequencer enters state 5 and the write ends with event 136 (R196). -/
theorem boundaryPass_rejected_eq (l : Live) {word code : Nat} (h : RegsWf s)
    (hc : seqCheck (loadSequencer (entryStripe l.entry) s).seq.params (loadSequencer (entryStripe l.entry) s).seq.prog =
      some (word, code)) :
    ∃ (z : State) (e : End), boundaryPass l s = captureEnd l.seq (finish l.seq e (raise 136 0 l.seq z)) ∧ e.status = 6 ∧
      e.code = code ∧ e.source = 7 ∧ (∃ r b q, z = { s with regs := r, bmu := b, seq := q }) ∧ z.seq.st = 5 ∧ RegsWf z := by
  let s1 := captureOwn l.seq (loadSequencer (entryStripe l.entry) s)
  obtain ⟨hload, -, -⟩ := loadSequencer_effect (entryStripe l.entry) h
  refine ⟨setRegN 0x0D0150 (256 * word + code) { s1 with seq := { s1.seq with st := 5 } },
    boundaryEnd (entryStripe l.entry) (malformed code 7), ?_, rfl, rfl, rfl, ⟨_, _, _, rfl⟩, rfl, setReg_wf _ _ _ hload⟩
  unfold boundaryPass
  dsimp only
  rw [show (captureOwn l.seq (loadSequencer (entryStripe l.entry) s)).seq =
    (loadSequencer (entryStripe l.entry) s).seq from rfl, hc]

/-- A flash program out of order: the write is rejected, and the sequencer stands in state 5 (R196). -/
theorem boundaryPass_rejected (l : Live) {word code : Nat} (h : RegsWf s)
    (hc : seqCheck (loadSequencer (entryStripe l.entry) s).seq.params (loadSequencer (entryStripe l.entry) s).seq.prog =
      some (word, code)) :
    ∃ e, Ended l.seq e s (boundaryPass l s) ∧ e.status = 6 ∧ e.code = code ∧ e.source = 7 ∧ Pending (boundaryPass l s) 136 ∧
      (boundaryPass l s).seq.st = 5 ∧ (boundaryPass l s).job.write = s.job.write ∧
      (boundaryPass l s).job.slots = s.job.slots := by
  obtain ⟨z, e, heq, hst, hcode, hsource, ⟨_, _, _, hz⟩, hseq, hwf⟩ := boundaryPass_rejected_eq l h hc
  rw [heq]
  generalize hy : raise 136 0 l.seq z = y
  have hywf : RegsWf y := hy ▸ raise_wf _ _ _ _ hwf
  have hpend : Pending y 136 := hy ▸ (raised_raise (by decide) (by decide) hwf 136 (by decide)).mpr (.inr (by simp))
  have hkeep : y.job = s.job ∧ y.hif = s.hif ∧ y.tim = s.tim ∧ y.seq = z.seq := by
    rw [← hy, raise_job, raise_hif, raise_tim, raise_seq, hz]
    exact ⟨rfl, rfl, rfl, rfl⟩
  obtain ⟨hjob, hhif, htim, hyseq⟩ := hkeep
  obtain ⟨⟨_, _, _, hcap⟩, hcappend⟩ := captureEnd_effect l.seq (finish_regs (q := l.seq) (e := e) hywf).1
  obtain ⟨hwrite, hslots⟩ := finish_job l.seq e y
  refine ⟨e, ?_, hst, hcode, hsource, hcappend 136 (by decide) (finish_keepsPending (by decide) hywf hpend), ?_, ?_, ?_⟩
  · exact (finish_ended l.seq e y).congr hjob.symm hhif.symm htim.symm (by rw [hcap]) (by rw [hcap]) (by rw [hcap])
  · rw [hcap]
    exact (congrArg (·.st) ((finish_seq _ _ _).trans hyseq)).trans hseq
  · rw [hcap]
    exact hwrite.trans (by rw [hjob])
  · rw [hcap]
    exact hslots.trans (by rw [hjob])

/-- The state in which a write that has passed its checks begins: sequencer and capture prepared. -/
def passPrepared (l : Live) (s : State) : State := captureOwn l.seq (loadSequencer (entryStripe l.entry) s)

/-- The start of a write and its records, with the event of the start and perhaps that of a speed plan that fell short. -/
theorem boundaryPass_eq (l : Live)
    (hc : seqCheck (loadSequencer (entryStripe l.entry) s).seq.params (loadSequencer (entryStripe l.entry) s).seq.prog = none) :
    ∃ z, boundaryPass l s = wakeAtBoundary z ∧
      let y := raise 8 0 l.seq (boundaryRecords l (beginWrite l (passPrepared l s)))
      (z = y ∨ z = raise 21 0 l.seq y) := by
  unfold boundaryPass
  dsimp only
  rw [show (captureOwn l.seq (loadSequencer (entryStripe l.entry) s)).seq =
    (loadSequencer (entryStripe l.entry) s).seq from rfl, hc]
  refine ⟨_, rfl, ?_⟩
  split
  · exact .inr rfl
  · exact .inl rfl

/-- The three records of the start of a write stand at the head of the journal (R308, R309). -/
theorem boundaryRecords_journal (l : Live) (h : s.journal.length + 3 < 262144) :
    ∃ p tb st, (boundaryRecords l s).journal = p :: tb :: st :: s.journal ∧ p.kind = 5 ∧ tb.kind = 4 ∧ st.kind = 3 ∧
      p.cseq = l.seq ∧ tb.cseq = l.seq ∧ st.cseq = l.seq := by
  let s1 := journalAdd 3 (entryOp l.entry) 0 0 l.seq 0 (stripeBody (entryStripe l.entry)) s
  let s2 := journalAdd 4 (entryOp l.entry) 0 0 l.seq 0 (tablesBody s) s1
  obtain ⟨st, h1, k1, q1⟩ : ∃ r, s1.journal = r :: s.journal ∧ r.kind = 3 ∧ r.cseq = l.seq :=
    journalAdd_append (by omega)
  obtain ⟨tb, h2, k2, q2⟩ : ∃ r, s2.journal = r :: s1.journal ∧ r.kind = 4 ∧ r.cseq = l.seq :=
    journalAdd_append (by rw [h1, List.length_cons]; omega)
  obtain ⟨p, h3, k3, q3⟩ : ∃ r, (boundaryRecords l s).journal = r :: s2.journal ∧ r.kind = 5 ∧ r.cseq = l.seq :=
    journalAdd_append (by rw [h2, h1, List.length_cons, List.length_cons]; omega)
  exact ⟨p, tb, st, by rw [h3, h2, h1], k3, k2, k1, q3, q2, q1⟩

/-- The records change registers by events alone. -/
theorem boundaryRecords_regs (l : Live) (h : RegsWf s) :
    RegsWf (boundaryRecords l s) ∧ SameRegsBut [] s (boundaryRecords l s) := by
  obtain ⟨h1, r1⟩ := journalAdd_regs h
  obtain ⟨h2, r2⟩ := journalAdd_regs h1
  obtain ⟨h3, r3⟩ := journalAdd_regs h2
  exact ⟨h3, (r1.trans r2).trans r3⟩

/-- The records leave the job, the units of the write and the sequencer. -/
theorem boundaryRecords_keeps (l : Live) (s : State) : (boundaryRecords l s).job = s.job ∧ (boundaryRecords l s).bel = s.bel ∧
    (boundaryRecords l s).bmu = s.bmu ∧ (boundaryRecords l s).blk = s.blk ∧ (boundaryRecords l s).seq = s.seq := by
  simp [boundaryRecords]

/-- The start of a write, from its beginning to the waking of the link: what its units hold is what they took up. -/
theorem boundaryPass_begins (l : Live) (h : RegsWf s)
    (hc : seqCheck (loadSequencer (entryStripe l.entry) s).seq.params (loadSequencer (entryStripe l.entry) s).seq.prog = none) :
    let b := beginWrite l (passPrepared l s)
    let t := boundaryPass l s
    t.job = b.job ∧ t.bel = b.bel ∧ t.bmu = b.bmu ∧ t.blk.lastSent = b.blk.lastSent ∧ t.blk.frontier = b.blk.frontier ∧
      t.seq = b.seq ∧ t.journal = (boundaryRecords l b).journal ∧ SameRegsBut [] b t ∧ Pending t 8 := by
  intro b t
  obtain ⟨z, hz, hy⟩ := boundaryPass_eq l hc
  have hb : RegsWf b := (loadSequencer_effect (entryStripe l.entry) h).1
  obtain ⟨hrwf, hrregs⟩ := boundaryRecords_regs l hb
  obtain ⟨rjob, rbel, rbmu, rblk, rseq⟩ := boundaryRecords_keeps l b
  let y := raise 8 0 l.seq (boundaryRecords l b)
  have h8 : Woken (boundaryRecords l b) y := .raise (by decide) (by decide)
  have hzy : Woken y z := by
    obtain rfl | rfl := hy
    · exact .refl
    · exact .raise (by decide) (by decide)
  have hall : Woken (boundaryRecords l b) t := by
    rw [show t = wakeAtBoundary z from hz]
    exact (h8.trans hzy).trans (.wakeAtBoundary z)
  have hp8 : Pending t 8 := by
    have hyt : Woken y t := by
      rw [show t = wakeAtBoundary z from hz]
      exact hzy.trans (.wakeAtBoundary z)
    exact hyt.pending (h8.wf hrwf) 8 (by decide) ((raised_raise (by decide) (by decide) hrwf 8 (by decide)).mpr (.inr (by simp)))
  obtain ⟨⟨_, _, _, _, _, hframe⟩, ⟨hlast, hfront⟩, -, hregs, -⟩ := hall
  refine ⟨?_, ?_, ?_, hlast.trans (by rw [rblk]), hfront.trans (by rw [rblk]), ?_, ?_, hrregs.trans (hregs hrwf), hp8⟩
  · rw [hframe]; exact rjob
  · rw [hframe]; exact rbel
  · rw [hframe]; exact rbmu
  · rw [hframe]; exact rseq
  · rw [hframe]

/-! ### The checks in their order (R298) -/

/-- One check of the chain, and the same check as the statement writes it. -/
theorem reason_step {c c' : Prop} [Decidable c] [Decidable c'] {n r : Nat} {ev : Option Nat}
    {rest : Option (Nat × Option Nat)} (hc : c ↔ c') (hrest : (rest.map Prod.fst).getD 0 = r) :
    ((if c then some (n, ev) else rest).map Prod.fst).getD 0 = if c' then n else r := by
  by_cases h : c
  · rw [if_pos h, if_pos (hc.mp h)]
    rfl
  · rw [if_neg h, if_neg (fun h' => h (hc.mpr h'))]
    exact hrest

/-- The reasons with an event of their own, and that no reason is 0. -/
theorem refusals_event {x : Nat} {ev : Option Nat} (h : (x, ev) ∈ refusals) : x ≠ 0 ∧ (x = 6 ∨ x = 7 → ev = some 110) ∧
    (x = 8 → ev = some 101) ∧ (x = 9 → ev = some 76) ∧ (x = 0xA → ev = some 109) := by
  have hall : ∀ y ∈ refusals, y.1 ≠ 0 ∧ (y.1 = 6 ∨ y.1 = 7 → y.2 = some 110) ∧ (y.1 = 8 → y.2 = some 101) ∧
      (y.1 = 9 → y.2 = some 76) ∧ (y.1 = 0xA → y.2 = some 109) := by decide
  exact hall _ h

/-- What STRIPE_BOUNDARY does where a write waits and may leave the queue. -/
theorem stripeBoundary_eq {l : Live} (hl : waitingWrite s = some l) (hf : boundaryFree s = true) :
    (∀ x ev, boundaryRefusal (boundaryForce s) l.entry = some (x, ev) →
      stripeBoundary s = boundaryRefuse l x ev (boundaryForce s)) ∧
    (boundaryRefusal (boundaryForce s) l.entry = none → stripeBoundary s = boundaryPass l (boundaryForce s)) := by
  unfold stripeBoundary
  rw [hl]
  simp only [hf, Bool.not_true, Bool.false_eq_true, if_false]
  exact ⟨fun x ev h => by rw [h], fun h => by rw [h]⟩

/-- A write that begins leaves the journal and the results, and its command runs. -/
theorem beginWrite_keeps (l : Live) (s : State) : (beginWrite l (passPrepared l s)).journal = s.journal ∧
    (beginWrite l (passPrepared l s)).job.slots = s.job.slots ∧
    (beginWrite l (passPrepared l s)).job.live =
      s.job.live.map (fun x => if x.seq = l.seq then { x with phase := .running } else x) :=
  ⟨rfl, rfl, List.map_congr_left fun _ _ => if_congr beq_iff_eq rfl rfl⟩

theorem leNat_lt (b : Bytes) : Bits.leNat b < 256 ^ b.length := by
  induction b with
  | nil => exact Nat.one_pos
  | cons x r ih =>
    have hx : x.toNat < 256 := x.isLt
    rw [Bits.leNat, List.length_cons, Nat.pow_succ]
    omega

/-- PLAN is a field of two bytes. -/
theorem entryStripe_plan_lt (b : Bytes) : (entryStripe b).plan < 2 ^ 32 := by
  have hlen : (Bits.slice b 22 2).length ≤ 2 := List.length_take_le _ _
  calc (entryStripe b).plan < 256 ^ (Bits.slice b 22 2).length := leNat_lt _
    _ ≤ 256 ^ 2 := Nat.pow_le_pow_right (by decide) hlen
    _ ≤ 2 ^ 32 := by decide

/-- A write that begins: its registers, of which PLAN is written. -/
theorem passPrepared_reg (l : Live) (h : RegsWf s) (off : Nat) : reg (passPrepared l s) off =
    if off = 0x0D010C then BitVec.ofNat 32 (entryStripe l.entry).plan else reg s off := by
  obtain ⟨-, -, hreg⟩ := loadSequencer_effect (entryStripe l.entry) h
  exact hreg off

/-- A write that begins has its PLAN written, finds the fire delay as before, and its slices are empty. -/
theorem beginWrite_plan (l : Live) (h : RegsWf s) :
    reg (beginWrite l (passPrepared l s)) 0x0D010C = BitVec.ofNat 32 (entryStripe l.entry).plan :=
  (passPrepared_reg l h 0x0D010C).trans (if_pos rfl)

theorem passPrepared_fireDelay (l : Live) (h : RegsWf s) : fireDelayReg (passPrepared l s) = fireDelayReg s := by
  rw [fireDelayReg, regBits, regN, passPrepared_reg l h, if_neg (by decide)]
  rfl

theorem beginWrite_slices (l : Live) (s : State) (n : Fin 4) : ((beginWrite l s).bmu.slices[n]).next = 0 ∧
    ((beginWrite l s).bmu.slices[n]).codes = [] := by
  simp [beginWrite]

end Sys2Proof.Machine

open Sys2Proof Sys2Proof.Machine in
/-- Settles O47: the checks judge what has come into force, and each outcome follows from the operation it runs. -/
theorem stripeBoundary : Obligations.StripeBoundary := by
  intro s hw
  refine ⟨fun h => ?_, fun l hl hfree => ?_⟩
  · refine congrArg Host.Outcome.next ?_
    unfold Machine.stripeBoundary
    obtain h | h := h
    · rw [h]
    · cases waitingWrite s with
      | none => rfl
      | some l => exact if_pos (by simp [h])
  · intro q f u slot resume runs profileK fast least slotIs reason
    have hwrite : s.job.write = none := by
      simp [boundaryFree] at hfree
      exact hfree.1.1.1.1.1
    obtain ⟨hforced, hpec, hbmu, hre, hce⟩ := boundaryForce_effect hwrite
    obtain ⟨hjob, hintake, hpower, hblk, hmem, htim, hseq, hjournal, hhif⟩ := hforced.keeps
    have huwf : RegsWf u := hforced.wf hw
    have hcore : regN u 0x0E8000 = regN s 0x0E8000 :=
      congrArg BitVec.toNat (hforced.regs hw 0x0E8000 (by decide) (by decide) (by decide))
    have hdelay : fireDelayReg u = regN s 0x0E8000 / 4096 % 1024 := by
      rw [fireDelayReg, regBits, hcore]
      rfl
    have hreason : ((boundaryRefusal u l.entry).map Prod.fst).getD 0 = reason := by
      unfold boundaryRefusal
      extract_lets d lim slot' other
      have hslot : slot' = slot := by
        change resultsOf u f = _
        rw [resultsOf, hjob]
      have hother (p : Slot → Bool) : other p = slotIs p :=
        congrArg (fun a : Option Slot => match a with | some x => p x | none => false) hslot
      have hlim : lim = least := by
        change framingLimits u = _
        rw [framingLimits, hblk, hcore]
      have hdomains : domainsOn u = domainsOn s := by
        unfold domainsOn powered
        rw [hpower]
      have hmemory : memoryBad u = s.mem.ch.toList.any (fun c => c.st == 6 || c.st == 7) := by
        rw [memoryBad, hmem]
      refine reason_step (by rw [hother, hintake]) <| reason_step (by rw [hslot]) <| reason_step (by rw [hother]) <|
        reason_step (by rw [hdomains]) <| reason_step Iff.rfl <| reason_step Iff.rfl <| reason_step (by rw [hother]; rfl) <|
        reason_step (by rw [hother]; rfl) <| reason_step Iff.rfl <| reason_step Iff.rfl <| reason_step (by rw [hlim]) <|
        reason_step (by rw [hdelay, hlim]) <| reason_step (by rw [hblk]) <| reason_step (by rw [hmemory]) rfl
    obtain ⟨hrefuse, hpass⟩ := stripeBoundary_eq hl hfree
    clear_value reason
    have hnone (hz : reason = 0) : boundaryRefusal u l.entry = none := by
      cases hb : boundaryRefusal u l.entry with
      | none => rfl
      | some y =>
        rw [hb] at hreason
        exact absurd (hreason.trans hz) (refusals_event (boundaryRefusal_mem hb)).1
    refine ⟨congrArg (·.kernel.cur) hpec, congrArg (·.field.cur) hpec,
      fun hn => ⟨congrArg (·.beam.cur) (hbmu hn), congrArg (·.mask.cur) (hbmu hn)⟩, fun t ht => hre.trans (by rw [ht]; rfl),
      fun t ht => hce.trans (by rw [ht]; rfl), fun hn => hre.trans (by rw [hn]; rfl), fun hn => hce.trans (by rw [hn]; rfl),
      fun hne => ?_, fun word code hz hc => ?_, fun hz hc => ?_⟩
    · cases hb : boundaryRefusal u l.entry with
      | none =>
        rw [hb] at hreason
        exact absurd hreason.symm hne
      | some y =>
        obtain ⟨x, ev⟩ := y
        rw [hb] at hreason
        obtain rfl : x = reason := hreason
        have hmem := boundaryRefusal_mem hb
        obtain ⟨-, h67, h8, h9, hA⟩ := refusals_event hmem
        obtain ⟨e, hend, hst, hcode, hsource, h11, hev, hwr, hslots, hbl, hsq⟩ := boundaryRefuse_effect l huwf hmem
        refine ⟨_, e, congrArg Host.Outcome.next (hrefuse x ev hb),
          hend.congr hjob.symm hhif.symm htim.symm rfl rfl rfl, hst, hcode, hsource, h11, ?_, ?_, ?_, hsq.trans hseq,
          fun h => hev _ (h67 h), fun h => hev _ (h8 h), fun h => hev _ (h9 h), fun h => hev _ (hA h)⟩
        · rw [hwr, hjob, hwrite]
        · rw [hslots, hjob]
        · rw [hbl, hblk]
    · have hb := hnone hz
      obtain ⟨e, hend, hst, hcode, hsource, h136, h5, hwr, hslots⟩ := boundaryPass_rejected l huwf hc
      refine ⟨_, e, congrArg Host.Outcome.next (hpass hb), hend.congr hjob.symm hhif.symm htim.symm rfl rfl rfl, hst, hcode,
        hsource, h136, h5, ?_, ?_⟩
      · rw [hwr, hjob, hwrite]
      · rw [hslots, hjob]
    · have hb := hnone hz
      obtain ⟨tjob, tbel, tbmu, tlast, tfront, tseq, tjournal, tregs, h8⟩ := boundaryPass_begins l huwf hc
      obtain ⟨bjournal, bslots, blive⟩ := beginWrite_keeps l u
      generalize boundaryPass l u = t at tjob tbel tbmu tlast tfront tseq tjournal tregs h8 hpass
      have hplan : reg t 0x0D010C = BitVec.ofNat 32 f.plan := by
        rw [tregs 0x0D010C (by simp) (by decide) (by decide)]
        exact beginWrite_plan l huwf
      have hfire : fireDelayReg (passPrepared l u) = regN s 0x0E8000 / 4096 % 1024 := by
        rw [passPrepared_fireDelay l huwf, hdelay]
      refine ⟨t, newWrite (passPrepared l u) l, congrArg Host.Outcome.next (hpass hb), congrArg (·.write) tjob, rfl, rfl, rfl,
        rfl, rfl, rfl, rfl, rfl, hfire, ?_, congrArg (·.tiles) tbel, fun n => ?_, tlast, tfront, congrArg (·.st) tseq,
        congrArg (·.pc) tseq, ?_, h8, congrArg (·.frontier) tjob, ?_, fun hlen => ?_⟩
      · rw [tjob, blive, hjob]
      · rw [tbmu]
        exact beginWrite_slices l _ n
      · rw [regN, hplan, BitVec.toNat_ofNat, Nat.mod_eq_of_lt (entryStripe_plan_lt l.entry)]
      · rw [tjob, bslots, hjob]
      · rw [tjournal, ← hjournal, ← bjournal]
        exact boundaryRecords_journal l (by rw [bjournal, hjournal]; exact hlen)
end

section
/-!
PROOFS. What a reset of an engine does (R39, R133, R154, R236, R259), one engine at a time and for the engines of a list, and
which changes lose no pending event.
-/

namespace Sys2Proof.Machine

set_option Elab.async false

variable {s t u : State}

/-! ### Changes that lose no pending event -/

/-- The register file stays canonical and what is pending stays pending. -/
structure Steady (s t : State) : Prop where
  wf : RegsWf s → RegsWf t
  pending : RegsWf s → ∀ k, k < 256 → Pending s k → Pending t k

theorem Steady.trans (h : Steady s t) (k : Steady t u) : Steady s u :=
  ⟨fun hw => k.wf (h.wf hw), fun hw n hn hp => k.pending (h.wf hw) n hn (h.pending hw n hn hp)⟩

/-- A change of no register. -/
theorem Steady.of_regs (h : t.regs = s.regs) : Steady s t :=
  ⟨fun hw => by rwa [RegsWf, h], fun _ k _ hp => by rwa [Pending, regN, reg, h]⟩

theorem Steady.refl : Steady s s := .of_regs rfl

/-- A register other than PENDING. -/
theorem Steady.setReg {off : Nat} {v : Word} (ho : off < 0x010040 ∨ 0x010060 ≤ off) : Steady s (setReg off v s) :=
  ⟨fun hw => setReg_wf _ _ _ hw, fun hw _ hk hp => (pending_setReg hk ho hw).mpr hp⟩

theorem Steady.count {off n : Nat} (ho : off < 0x010040 ∨ 0x010060 ≤ off) : Steady s (count off n s) := .setReg ho

theorem Steady.raise {src info cseq : Nat} (hu : RegMap.usedSource src = true) (hs : src < 256) :
    Steady s (raise src info cseq s) :=
  ⟨fun hw => raise_wf _ _ _ _ hw, fun hw k hk hp => (raised_raise hu hs hw k hk).mpr (.inl hp)⟩

/-- What has just been raised is pending. -/
theorem pending_raise {src info cseq : Nat} (hu : RegMap.usedSource src = true) (hs : src < 256) (h : RegsWf s) :
    Pending (raise src info cseq s) src := (raised_raise hu hs h src hs).mpr (.inr (by simp))

theorem Steady.foldl {α : Type} {f : State → α → State} (hf : ∀ t x, Steady t (f t x)) (l : List α) (s : State) :
    Steady s (l.foldl f s) := by
  induction l generalizing s with
  | nil => exact .refl
  | cons x l ih => exact (hf s x).trans (ih _)

/-- What every step of a loop keeps, the loop keeps. -/
theorem foldl_keeps {α β : Type} (g : State → β) {f : State → α → State} (hf : ∀ t x, g (f t x) = g t) (l : List α)
    (s : State) : g (l.foldl f s) = g s := by
  induction l generalizing s with
  | nil => rfl
  | cons x l ih => exact (ih _).trans (hf s x)

/-! ### One engine -/

/-- An engine after its reset (R236, R39): registers 0, the program's start and initial data, no task, the next
generation. -/
theorem engCleared_values (image : Bytes) (x : Engine) :
    (∀ r, getG (engCleared image x) r = 0) ∧ (engCleared image x).pc = progEntry image ∧
      (engCleared image x).lmem = (Engine.fresh image).lmem ∧ (engCleared image x).held = none ∧
      engTask (engCleared image x) = none ∧ (engCleared image x).gen = x.gen + 1 := by
  refine ⟨fun r => ?_, rfl, rfl, rfl, rfl, rfl⟩
  simp [getG, engCleared, Engine.fresh]

/-- The queues of the schedulers with the task that engine `e` gives back (R133, R154). -/
def handedBack (e : Fin 148) (k : Option Task) (c : Comb) : Comb :=
  if e.val < 144 then { c with tasks := c.tasks ++ k.toList } else { c with ceAgain := c.ceAgain ++ k.toList }

@[simp] theorem handedBack_none (e c) : handedBack e none c = c := by simp [handedBack]
@[simp] theorem handedBack_re (e k c) : (handedBack e k c).re = c.re := by unfold handedBack; split <;> rfl
@[simp] theorem handedBack_ce (e k c) : (handedBack e k c).ce = c.ce := by unfold handedBack; split <;> rfl
@[simp] theorem handedBack_gen (e k c) : (handedBack e k c).gen = c.gen := by unfold handedBack; split <;> rfl

/-- The counters that tasks handed back count in. -/
def backCounters (e : Fin 148) : List Nat := [combCnt e 0x0C, 0x0B0034]

theorem taskBack_eq (e : Fin 148) (k : Task) (s : State) : taskBack e k s =
    let u : State := { s with comb := handedBack e (some k) s.comb }
    if e.val < 144 then count (combCnt e 0x0C) 1 u
    else raise 100 (e.val - 144) (passSeq s k.pass) (count 0x0B0034 1 u) := by
  unfold taskBack handedBack
  split <;> rfl

theorem taskBack_effect (e : Fin 148) (k : Task) (s : State) :
    (∃ r v, taskBack e k s = { s with regs := r, evt := v, comb := handedBack e (some k) s.comb }) ∧
      Steady s (taskBack e k s) ∧ (RegsWf s → SameRegsBut (backCounters e) s (taskBack e k s)) := by
  rw [taskBack_eq]
  extract_lets u
  have hu : Steady s u := .of_regs rfl
  have hcount {o off : Nat} (ho : o ∈ backCounters e) (hoff : off ∉ backCounters e) (hw : RegsWf s) :
      reg (count o 1 u) off = reg s off := (reg_count u o off 1 hw).trans (if_neg fun h => hoff (by rwa [h]))
  split
  · exact ⟨⟨_, _, rfl⟩, hu.trans (.count (by right; unfold combCnt; omega)), fun hw off h1 _ _ =>
      hcount (by simp [backCounters]) h1 hw⟩
  · refine ⟨⟨_, _, by rw [raise_frame]; rfl⟩,
      (hu.trans (.count (by decide))).trans (.raise (by decide) (by decide)), fun hw off h1 h2 h3 => ?_⟩
    have hkept : reg (count 0x0B0034 1 u) off = reg s off := hcount (by simp [backCounters]) h1 hw
    have hcounted : RegsWf (count 0x0B0034 1 u) := regsWf_count hw
    exact (sameRegsBut_raise [] (by decide) hcounted off (by simp) h2 h3).trans hkept

/-- What a reset of an engine changes: the engine, the queue that takes back its task, a count and an event. -/
theorem engResetWith_effect (mark : Task → Task) (e : Fin 148) (s : State) :
    (∃ r v, engResetWith mark e s = { s with
      regs := r, evt := v, eng := upd s.eng e.val (engCleared (engImage s e)),
      comb := handedBack e ((engTask (s.eng[e])).map mark) s.comb }) ∧
      Steady s (engResetWith mark e s) ∧ (RegsWf s → SameRegsBut (backCounters e) s (engResetWith mark e s)) := by
  have hupd : Steady s (updEng e (engCleared (engImage s e)) s) := .of_regs rfl
  unfold engResetWith
  cases engTask (s.eng[e]) with
  | none => exact ⟨⟨_, _, by rw [Option.map_none, handedBack_none]; rfl⟩, hupd, fun _ _ _ _ _ => rfl⟩
  | some k =>
    obtain ⟨⟨r, v, hframe⟩, hsteady, hregs⟩ := taskBack_effect e (mark k) (updEng e (engCleared (engImage s e)) s)
    exact ⟨⟨r, v, hframe⟩, hupd.trans hsteady, hregs⟩

/-! ### The engines of a list -/

/-- From `s` to `t` each engine of `p` has been reset once, the others are as before, and nothing else has changed but the
queues of the schedulers, counts and events. -/
structure EnginesReset (p : Fin 148 → Prop) (s t : State) : Prop where
  frame : ∃ r v x c, t = { s with regs := r, evt := v, eng := x, comb := c }
  programs : t.comb.re = s.comb.re ∧ t.comb.ce = s.comb.ce
  gen : t.comb.gen = s.comb.gen
  steady : Steady s t
  reset : ∀ k, p k → t.eng[k] = engCleared (engImage s k) (s.eng[k])
  kept : ∀ k, ¬ p k → t.eng[k] = s.eng[k]

/-- The image of an engine stays with the programs in force. -/
theorem engImage_congr (h : t.comb.re = s.comb.re ∧ t.comb.ce = s.comb.ce) (e : Fin 148) : engImage t e = engImage s e := by
  obtain ⟨hre, hce⟩ := h
  rw [engImage, hre, hce]
  rfl

theorem EnginesReset.engReset (e : Fin 148) (s : State) : EnginesReset (· = e) s (engReset e s) := by
  obtain ⟨⟨r, v, hframe⟩, hsteady, -⟩ := engResetWith_effect id e s
  rw [Machine.engReset]
  refine ⟨⟨r, v, _, _, hframe⟩, ?_, ?_, hsteady, fun k hk => ?_, fun k hk => ?_⟩
  · rw [hframe]
    exact ⟨handedBack_re _ _ _, handedBack_ce _ _ _⟩
  · rw [hframe]
    exact handedBack_gen _ _ _
  · rw [hframe, hk]
    exact (upd_fin _ _ _ _).trans (if_pos rfl)
  · rw [hframe]
    exact (upd_fin _ _ _ _).trans (if_neg (Ne.symm hk))

theorem EnginesReset.none (s : State) : EnginesReset (fun _ => False) s s :=
  ⟨⟨_, _, _, _, rfl⟩, ⟨rfl, rfl⟩, rfl, .refl, fun _ h => h.elim, fun _ _ => rfl⟩

theorem EnginesReset.trans {p q : Fin 148 → Prop} (h : EnginesReset p s t) (k : EnginesReset q t u)
    (hpq : ∀ e, p e → ¬ q e) : EnginesReset (fun e => p e ∨ q e) s u := by
  refine ⟨?_, ?_, k.gen.trans h.gen, h.steady.trans k.steady, fun e he => ?_, fun e he => ?_⟩
  · obtain ⟨_, _, _, _, rfl⟩ := h.frame
    obtain ⟨_, _, _, _, rfl⟩ := k.frame
    exact ⟨_, _, _, _, rfl⟩
  · exact ⟨k.programs.1.trans h.programs.1, k.programs.2.trans h.programs.2⟩
  · obtain he | he := he
    · rw [k.kept e (hpq e he), h.reset e he]
    · rw [k.reset e he, engImage_congr h.programs, h.kept e fun hp => hpq e hp he]
  · rw [k.kept e fun hq => he (.inr hq), h.kept e fun hp => he (.inl hp)]

theorem EnginesReset.congr {p q : Fin 148 → Prop} (h : EnginesReset p s t) (hpq : ∀ e, p e ↔ q e) : EnginesReset q s t := by
  rwa [← funext fun e => propext (hpq e)]

theorem EnginesReset.foldl {l : List (Fin 148)} (hl : l.Nodup) (s : State) :
    EnginesReset (· ∈ l) s (l.foldl (fun t e => Machine.engReset e t) s) := by
  induction l generalizing s with
  | nil => exact (EnginesReset.none s).congr (by simp)
  | cons e l ih =>
    obtain ⟨he, hrest⟩ := List.nodup_cons.mp hl
    refine ((EnginesReset.engReset e s).trans (ih hrest _) ?_).congr (by simp)
    rintro k rfl
    exact he

theorem mem_combEngines {c : Nat} {e : Fin 148} : e ∈ combEngines c ↔ e.val < 144 ∧ e.val / 12 = c := by
  simp [combEngines, rasterEngines, engines, isRaster, and_comm]

theorem nodup_combEngines (c : Nat) : (combEngines c).Nodup := ((List.nodup_finRange 148).filter _).filter _

/-- A comb reset resets its engines, advances its own generation and raises event 68 (R259). -/
theorem combReset_effect (c : Fin 12) (s : State) :
    ∃ u : State, EnginesReset (fun k => k.val < 144 ∧ k.val / 12 = c.val) s u ∧
      combReset c s = raise 68 (512 + c.val) 0 { u with comb := { u.comb with gen := u.comb.gen.set c (u.comb.gen[c] + 1) } } :=
  ⟨_, (EnginesReset.foldl (nodup_combEngines c.val) s).congr fun _ => mem_combEngines, rfl⟩

end Sys2Proof.Machine
end

section
/-!
PROOFS. The dispatchers, the resets of engines and combs, and the faults that reset an engine (O10).
-/

namespace Sys2Proof.Machine

set_option Elab.async false

variable {s t u : State} {e : Fin 148} {k : Task} {p : Pass}

/-! ### A task goes to an engine (R154, R253, R275) -/

theorem engTask_eq_none {x : Engine} (h : engTask x = none) : x.held = none ∧ x.assigned = none := by
  unfold engTask at h
  split at h
  · cases h
  · next hheld => exact ⟨hheld, h⟩

/-- The image an engine runs depends on the programs in force and on the task it holds. -/
theorem engProg_congr (hprog : t.comb.re = s.comb.re ∧ t.comb.ce = s.comb.ce) (hheld : (t.eng[e]).held = (s.eng[e]).held) :
    engProg t e = engProg s e := by
  obtain ⟨hre, hce⟩ := hprog
  unfold engProg
  rw [hre, hce, hheld]

/-- An engine that takes a task holds it, where its program counter can advance past TASK.WAIT. -/
theorem takeTask_effect (k : Task) (hroom : (s.eng[e]).pc + 1 < progCount (engProg s e))
    (hk : engTask (s.eng[e]) = some k) :
    ∃ x, takeTask e k s = { s with eng := x } ∧ engTask x[e] = some k ∧ ∀ j : Fin 148, j ≠ e → x[j] = s.eng[j] := by
  unfold takeTask
  split
  · rw [kNext, if_neg (by omega)]
    refine ⟨_, rfl, ?_, fun j hj => (upd_fin _ _ _ _).trans (if_neg hj.symm)⟩
    rw [upd_fin, if_pos rfl]
    rfl
  · exact ⟨_, rfl, hk, fun _ _ => rfl⟩

/-- The state in which a task has been noted for an engine, which waits for it no longer. -/
def taskNoted (e : Fin 148) (k : Task) (s : State) : State :=
  updEng e (fun x => { x with assigned := some k, waiting := false }) s

theorem taskNoted_engine (hfree : engTask (s.eng[e]) = none) :
    ((taskNoted e k s).eng[e]).held = (s.eng[e]).held ∧ ((taskNoted e k s).eng[e]).pc = (s.eng[e]).pc ∧
      engTask ((taskNoted e k s).eng[e]) = some k ∧ ∀ j : Fin 148, j ≠ e → (taskNoted e k s).eng[j] = s.eng[j] := by
  obtain ⟨hheld, -⟩ := engTask_eq_none hfree
  have hthis : (taskNoted e k s).eng[e] = { s.eng[e] with assigned := some k, waiting := false } :=
    (upd_fin _ _ _ _).trans (if_pos rfl)
  refine ⟨by rw [hthis], by rw [hthis], ?_, fun j hj => (upd_fin _ _ _ _).trans (if_neg hj.symm)⟩
  rw [hthis]
  unfold engTask
  rw [hheld]

/-- An idle engine that is assigned a task has it, and no other engine changes. -/
theorem assignTask_effect (k : Task) (hfree : engTask (s.eng[e]) = none)
    (hroom : (s.eng[e]).waiting = true → (s.eng[e]).pc + 1 < progCount (engProg s e)) :
    ∃ r v x, assignTask e k s = { s with regs := r, evt := v, eng := x } ∧ engTask x[e] = some k ∧
      ∀ j : Fin 148, j ≠ e → x[j] = s.eng[j] := by
  obtain ⟨hheld, hpc, htask, hothers⟩ := taskNoted_engine (k := k) hfree
  unfold assignTask
  extract_lets x ready s1 s2
  obtain ⟨r, v, hs2⟩ : ∃ r v, s2 = { taskNoted e k s with regs := r, evt := v } := by
    by_cases hr : ready = true
    · exact ⟨_, _, if_pos hr⟩
    · exact ⟨_, _, (if_neg hr).trans (raise_frame _ _ _ _)⟩
  clear_value s2
  subst hs2
  split
  · next hwait =>
    have hw : (s.eng[e]).waiting = true := (Bool.and_eq_true_iff.mp hwait).2
    have hprog : engProg { taskNoted e k s with regs := r, evt := v } e = engProg s e := engProg_congr ⟨rfl, rfl⟩ hheld
    obtain ⟨y, hy, hyk, hyj⟩ := takeTask_effect (s := { taskNoted e k s with regs := r, evt := v }) k
      (by rw [hprog]; exact (congrArg (· + 1) hpc).trans_lt (hroom hw)) htask
    exact ⟨r, v, y, hy, hyk, fun j hj => (hyj j hj).trans (hothers j hj)⟩
  · exact ⟨r, v, _, rfl, htask, hothers⟩

/-- `assignTask_effect` after a change of registers and of the queues of the schedulers. -/
theorem assignTask_queued {r : List (Nat × Word)} {c : Comb} (k : Task) (hfree : engTask (s.eng[e]) = none)
    (hprog : c.re = s.comb.re ∧ c.ce = s.comb.ce)
    (hroom : (s.eng[e]).waiting = true → (s.eng[e]).pc + 1 < progCount (engProg s e)) :
    ∃ r' v x, assignTask e k { s with regs := r, comb := c } = { s with regs := r', evt := v, eng := x, comb := c } ∧
      engTask x[e] = some k ∧ ∀ j : Fin 148, j ≠ e → x[j] = s.eng[j] := by
  have hsame : engProg { s with regs := r, comb := c } e = engProg s e := engProg_congr hprog rfl
  rw [← hsame] at hroom
  exact assignTask_effect (s := { s with regs := r, comb := c }) k hfree hroom

/-! ### The dispatcher (R253) -/

/-- An engine that a task goes to is a raster engine, works, is idle and need not be avoided. -/
theorem engineFor_offers (h : engineFor s k = some e) :
    e.val < 144 ∧ engWorking s e = true ∧ engTask (s.eng[e]) = none ∧ e.val ∉ k.avoid := by
  have hmem : ∃ c, e ∈ combOffers s k c := by
    unfold engineFor at h
    split at h
    · cases h
    · exact ⟨_, List.mem_of_mem_head? h⟩
  obtain ⟨c, hc⟩ := hmem
  simp only [combOffers, combIdle, List.mem_filter, mem_combEngines, engIdle, Bool.and_eq_true, Option.isNone_iff_eq_none,
    Bool.not_eq_true', List.contains_eq_mem, decide_eq_false_iff_not] at hc
  obtain ⟨⟨⟨hraster, -⟩, hworking, hfree⟩, havoid⟩ := hc
  exact ⟨hraster, hworking, hfree, havoid⟩

/-- The only waiting task is granted once it may be handed out. -/
theorem grantNext_single (htasks : s.comb.tasks = [k]) (hfree : taskFree s k = true) (he : engineFor s k = some e) :
    grantNext s = some k := by
  have hwaiting (p : Pass) : firstTask (waitingTasks s p) = if k.pass = p then some k else none := by
    unfold waitingTasks
    by_cases hp : k.pass = p <;> simp [htasks, hp, hfree, he, firstTask]
  unfold grantNext
  rw [hwaiting, hwaiting]
  cases k.pass <;> simp

/-- A grant is noted in a counter and in the passes of class 4. -/
theorem grantNote_frame (k : Task) (s : State) :
    ∃ r n, grantNote k s = { s with regs := r, comb := { s.comb with passed := n } } := by
  unfold grantNote
  dsimp only
  split
  · exact ⟨_, _, rfl⟩
  · by_cases hn : s.comb.passed = 0 <;> by_cases ho : (!(waitingTasks s .write).isEmpty) = true
    all_goals
      simp only [hn, ho, if_true, if_false]
      exact ⟨_, _, rfl⟩

/-- The only waiting task, rendered without stored coverage, goes to its engine. -/
theorem taskAssign_single (htasks : s.comb.tasks = [k]) (hmode : k.mode ≠ 2) (hfree : taskFree s k = true)
    (he : engineFor s k = some e) :
    ∃ r n, taskAssign s = assignTask e k { s with
      regs := r, comb := { s.comb with passed := n, tasks := [] } } := by
  obtain ⟨r, n, hnote⟩ := grantNote_frame k s
  have hcover : coverAgain s e k = false := by simp [coverAgain, hmode]
  have herase : s.comb.tasks.erase k = [] := by simp [htasks]
  unfold taskAssign
  rw [grantNext_single htasks hfree he]
  dsimp only
  rw [he]
  dsimp only
  rw [hcover, if_neg Bool.false_ne_true, hnote]
  dsimp only
  rw [herase]
  exact ⟨_, _, rfl⟩

/-! ### The correction dispatcher (R154) -/

/-- A working engine takes the tasks of its segments that need not avoid it. -/
theorem ceFor_own (hw : engWorking s e = true) (he : e.val = 144 + (k.seg % 4).toNat) (ha : k.avoid = []) :
    ceFor s k = some e := by
  have hhead : ceOrder (k.seg % 4).toNat = e :: (ceOrder (k.seg % 4).toNat).tail := by
    have : e = ⟨144 + ((k.seg % 4).toNat + 0) % 4, by omega⟩ := Fin.ext (by simp only; omega)
    rw [this]
    rfl
  unfold ceFor
  dsimp only
  rw [hhead, List.find?_cons_of_pos (by simp [hw, ha])]

theorem ceReadyNow_own (hw : engWorking s e = true) (hfree : engTask (s.eng[e]) = none)
    (he : e.val = 144 + (k.seg % 4).toNat) (ha : k.avoid = []) : ceReadyNow s k = true := by
  have hidle : engIdle s e = true := by
    rw [engIdle, hw, hfree]
    rfl
  rw [ceReadyNow, ceFor_own hw he ha]
  exact hidle

/-- The four starts of a pass. -/
def ceStarts (p : Pass) : List Task := [ceTask p 1 0, ceTask p 1 1, ceTask p 1 2, ceTask p 1 3]

theorem ceBegin_first (hnext : ceNext s p = none) (hagain : s.comb.ceAgain = []) :
    ceBegin p s = setCeNext p 0 { s with comb := { s.comb with ceAgain := ceStarts p } } := by
  unfold ceBegin
  rw [hnext, hagain]
  rfl

theorem setCeNext_frame (p : Pass) (n : Nat) (s : State) : ∃ c, setCeNext p n s = { s with comb := c } ∧
    (c.re = s.comb.re ∧ c.ce = s.comb.ce) ∧ c.ceAgain = s.comb.ceAgain := by
  cases p <;> exact ⟨_, rfl, ⟨rfl, rfl⟩, rfl⟩

theorem ceNext_setCeNext (p : Pass) (n : Nat) (s : State) : ceNext (setCeNext p n s) p = some n := by
  cases p <;> rfl

/-- A task that waits to be assigned again goes to its engine. -/
theorem ceAssign_again (hp : passCorrects s p = true)
    (hfind : (ceBegin p s).comb.ceAgain.find? (fun x => x.pass == p && ceReadyNow (ceBegin p s) x) = some k)
    (he : ceFor (ceBegin p s) k = some e) :
    ceAssign p s = assignTask e k { ceBegin p s with
      comb := { (ceBegin p s).comb with ceAgain := (ceBegin p s).comb.ceAgain.erase k } } := by
  unfold ceAssign
  rw [hp]
  simp only [Bool.not_true, Bool.false_eq_true, if_false, hfind, he]

/-- With no task to assign again the next block goes to its engine. -/
theorem ceAssign_next {n : Nat} (hp : passCorrects s p = true) (hagain : (ceBegin p s).comb.ceAgain = [])
    (hnext : ceNext (ceBegin p s) p = some n) (hdone : startsDone (ceBegin p s) p = true) (hn : n < ceBlocks (ceBegin p s) p)
    (hk : k = ceTask p 2 ((n : Int) - passMargin (ceBegin p s) p)) (hready : ceReadyNow (ceBegin p s) k = true)
    (he : ceFor (ceBegin p s) k = some e) : ceAssign p s = assignTask e k (setCeNext p (n + 1) (ceBegin p s)) := by
  unfold ceAssign
  rw [hp]
  simp only [Bool.not_true, Bool.false_eq_true, if_false, hagain, List.find?_nil, hnext, hdone, hn, ← hk, hready, he,
    decide_true, Bool.and_self, if_true]

/-- A pass with no starts yet begins, and engine 144 gets the first start. -/
theorem ceAssign_start (hp : passCorrects s p = true) (hw : engWorking s e = true) (hfree : engTask (s.eng[e]) = none)
    (hnext : ceNext s p = none) (hagain : s.comb.ceAgain = []) (he : e.val = 144) :
    ∃ c, ceAssign p s = assignTask e (ceTask p 1 0) { s with comb := c } ∧ (c.re = s.comb.re ∧ c.ce = s.comb.ce) ∧
      c.ceAgain = [ceTask p 1 1, ceTask p 1 2, ceTask p 1 3] ∧ ceNext { s with comb := c } p = some 0 := by
  have hbegin := ceBegin_first hnext hagain
  obtain ⟨c, hset, hprog, hstarts⟩ := setCeNext_frame p 0 { s with comb := { s.comb with ceAgain := ceStarts p } }
  have hzero : ceNext { s with comb := c } p = some 0 := by
    rw [← ceNext_setCeNext p 0 { s with comb := { s.comb with ceAgain := ceStarts p } }, hset]
  rw [hset] at hbegin
  have hworking : engWorking { s with comb := c } e = true := hw
  have hown : e.val = 144 + ((ceTask p 1 0).seg % 4).toNat := by simp [ceTask, he]
  refine ⟨{ c with ceAgain := (ceStarts p).erase (ceTask p 1 0) }, ?_, hprog, by simp [ceStarts], ?_⟩
  · have hfind : (ceBegin p s).comb.ceAgain.find? (fun x => x.pass == p && ceReadyNow (ceBegin p s) x) =
        some (ceTask p 1 0) := by
      rw [hbegin, show ({ s with comb := c } : State).comb.ceAgain = ceStarts p from hstarts, ceStarts,
        List.find?_cons_of_pos]
      rw [ceReadyNow_own hworking hfree hown rfl]
      simp [ceTask]
    rw [ceAssign_again hp hfind (by rw [hbegin]; exact ceFor_own hworking hown rfl), hbegin]
    dsimp only
    rw [hstarts]
  · cases p <;> exact hzero

/-- A pass whose starts are done goes on with its next block, which the engine of its segment gets. -/
theorem ceAssign_block {n : Nat} (hp : passCorrects s p = true) (hw : engWorking s e = true)
    (hfree : engTask (s.eng[e]) = none) (hnext : ceNext s p = some n) (hagain : s.comb.ceAgain = [])
    (hdone : startsDone s p = true) (hn : n < ceBlocks s p) (he : (e.val : Int) = 144 + ((n : Int) - passMargin s p) % 4) :
    ceAssign p s = assignTask e (ceTask p 2 ((n : Int) - passMargin s p)) (setCeNext p (n + 1) s) := by
  have hbegin : ceBegin p s = s := by
    rw [ceBegin, hnext]
    rfl
  have hown : e.val = 144 + ((ceTask p 2 ((n : Int) - passMargin s p)).seg % 4).toNat := by
    simp only [ceTask]
    omega
  have h := ceAssign_next (s := s) (p := p) (e := e) (n := n) (k := ceTask p 2 ((n : Int) - passMargin s p)) hp
  rw [hbegin] at h
  exact h hagain hnext hdone hn rfl (ceReadyNow_own hw hfree hown rfl) (ceFor_own hw hown rfl)

/-! ### The registers of an engine (09) -/

/-- The windows of the engines. -/
theorem engBase_range (e : Fin 148) : engBase e % 0x400 = 0 ∧
    (0x080000 ≤ engBase e ∧ engBase e < 0x0A4000 ∨ 0x0B1000 ≤ engBase e ∧ engBase e < 0x0B2000) := by
  unfold engBase
  split <;> omega

theorem engBase_injective {j : Fin 148} (h : engBase j = engBase e) : j = e := by
  unfold engBase at h
  apply Fin.ext
  split at h <;> split at h <;> omega

/-- The counters of tasks handed back lie outside the windows of the engines. -/
theorem notMem_backCounters {off : Nat} (h : 0x080000 ≤ off ∧ off < 0x0B0000 ∨ 0x0B1000 ≤ off) : off ∉ backCounters e := by
  simp [backCounters, combCnt]
  omega

/-! ### A fault is noted (R256) -/

/-- The state in which a fault of an engine has been noted: its fault registers, its event and its count. -/
def faultNoted (e : Fin 148) (task : Bool) (code seq : Nat) (s : State) : State :=
  count (engBase e + (if task then 0x28 else 0x24)) 1
    (raise (if task then 65 else 64) (engInfo e) seq (faultRecord e task code s))

/-- The fault registers written. -/
theorem faultRecord_effect (e : Fin 148) (task : Bool) (code : Nat) (s : State) :
    (∃ r, faultRecord e task code s = { s with regs := r, free := s.free + 1 }) ∧ Steady s (faultRecord e task code s) ∧
      (RegsWf s → reg (faultRecord e task code s) (engBase e + 8) =
        BitVec.ofNat 32 (2 ^ 31 + (s.eng[e]).pc % 2048 * 65536 + Bits.b2n task * 256 + code)) := by
  obtain ⟨-, hbase⟩ := engBase_range e
  unfold faultRecord
  extract_lets x tile
  let y : State := setRegN (engBase e + 8) (2 ^ 31 + x.pc % 2048 * 65536 + Bits.b2n task * 256 + code) s
  have hy : Steady s y := .setReg (by omega)
  have hlow : Steady y (setRegN (engBase e + 0x0C) tile y) := .setReg (by omega)
  refine ⟨⟨_, rfl⟩, (hy.trans hlow).trans ((Steady.setReg (by omega)).trans (.of_regs rfl)), fun hw => ?_⟩
  have hwy : RegsWf y := hy.wf hw
  refine (reg_setReg _ _ _ _ (hlow.wf hwy)).trans ((if_neg (by omega)).trans ?_)
  refine (reg_setReg _ _ _ _ hwy).trans ((if_neg (by omega)).trans ?_)
  exact (reg_setReg _ _ _ _ hw).trans (if_pos rfl)

/-- A fault noted: the task or part event is pending, and the fault register holds the program counter and the code. -/
theorem faultNoted_effect (e : Fin 148) (task : Bool) (seq : Nat) {code : Nat} (hc : code < 256) (hw : RegsWf s) :
    (∃ r v, faultNoted e task code seq s = { s with regs := r, evt := v, free := s.free + 1 }) ∧
      Steady s (faultNoted e task code seq s) ∧ Pending (faultNoted e task code seq s) (if task then 65 else 64) ∧
      regN (faultNoted e task code seq s) (engBase e + 8) =
        2 ^ 31 + (s.eng[e]).pc % 2048 * 65536 + Bits.b2n task * 256 + code := by
  obtain ⟨-, hbase⟩ := engBase_range e
  obtain ⟨⟨r, hframe⟩, hrec, hreg⟩ := faultRecord_effect e task code s
  have hevent : RegMap.usedSource (if task then 65 else 64) = true ∧ (if task then 65 else 64) < 256 := by
    cases task <;> decide
  obtain ⟨hused, hlt⟩ := hevent
  unfold faultNoted
  generalize hz : faultRecord e task code s = z at *
  generalize hy : raise (if task then 65 else 64) (engInfo e) seq z = y
  have hyz : Steady z y := hy ▸ .raise hused hlt
  have hcount : Steady y (count (engBase e + (if task then 0x28 else 0x24)) 1 y) := .count (by split <;> omega)
  have hpend : Pending y (if task then 65 else 64) := hy ▸ pending_raise hused hlt (hrec.wf hw)
  have hwy : RegsWf y := hyz.wf (hrec.wf hw)
  refine ⟨?_, hrec.trans (hyz.trans hcount), hcount.pending hwy _ hlt hpend, ?_⟩
  · rw [← hy, raise_frame, hframe]
    exact ⟨_, _, rfl⟩
  · have hkept : reg (count (engBase e + (if task then 0x28 else 0x24)) 1 y) (engBase e + 8) = reg z (engBase e + 8) := by
      rw [reg_count y _ _ 1 hwy, if_neg (by split <;> omega), ← hy]
      exact sameRegsBut_raise [] hlt (hrec.wf hw) _ (by simp) (by omega) (by omega)
    rw [regN, hkept, hreg hw, BitVec.toNat_ofNat, Nat.mod_eq_of_lt]
    cases task <;> simp [Bits.b2n] <;> omega

/-! ### An engine fails (R256 to R258) -/

/-- A task goes back under its own column, segment, mode and pass to the scheduler of the engine. -/
def Returned (e : Fin 148) (k : Task) (c : Comb) : Prop :=
  if e.val < 144 then ∃ m, m ∈ c.tasks ∧ m.col = k.col ∧ m.seg = k.seg ∧ m.mode = k.mode ∧ m.pass = k.pass
  else ∃ m, m ∈ c.ceAgain ∧ m.seg = k.seg ∧ m.mode = k.mode ∧ m.pass = k.pass

theorem returned_handedBack {m : Task} (c : Comb)
    (hm : m.col = k.col ∧ m.seg = k.seg ∧ m.mode = k.mode ∧ m.pass = k.pass) : Returned e k (handedBack e (some m) c) := by
  unfold Returned handedBack
  split
  · exact ⟨m, by simp, hm⟩
  · exact ⟨m, by simp, hm.2⟩

/-- From `s` to `t` engine `e` has been reset, its task failed back and nothing done to another engine. -/
structure EngineFailed (e : Fin 148) (s t : State) : Prop where
  engine : ∃ x : Engine, x.gen = (s.eng[e]).gen ∧ t.eng[e] = engCleared (engImage s e) x
  others : ∀ j : Fin 148, j ≠ e → t.eng[j] = s.eng[j]
  back : ∀ k, engTask (s.eng[e]) = some k → Returned e k t.comb

/-- A reset of an engine under a mark that keeps the task what it is, from a state that differs from `s` in other ways. -/
theorem EngineFailed.of_reset {mark : Task → Task}
    (hmark : ∀ k, (mark k).col = k.col ∧ (mark k).seg = k.seg ∧ (mark k).mode = k.mode ∧ (mark k).pass = k.pass)
    (hgen : (u.eng[e]).gen = (s.eng[e]).gen) (htask : engTask (u.eng[e]) = engTask (s.eng[e]))
    (himage : engImage u e = engImage s e) (hothers : ∀ j : Fin 148, j ≠ e → u.eng[j] = s.eng[j]) :
    EngineFailed e s (engResetWith mark e u) := by
  obtain ⟨⟨r, v, hframe⟩, -, -⟩ := engResetWith_effect mark e u
  rw [hframe]
  refine ⟨⟨u.eng[e], hgen, ?_⟩, fun j hj => ?_, fun k hk => ?_⟩
  · rw [← himage]
    exact (upd_fin _ _ _ _).trans (if_pos rfl)
  · exact ((upd_fin _ _ _ _).trans (if_neg hj.symm)).trans (hothers j hj)
  · change Returned e k (handedBack e ((engTask (u.eng[e])).map mark) u.comb)
    rw [htask, hk]
    exact returned_handedBack u.comb (hmark k)

/-- What a fault of an engine does: the engine fails, its event is pending, and its fault register holds the program
counter and the code. -/
structure FaultTaken (e : Fin 148) (task : Bool) (code : Nat) (s t : State) : Prop where
  failed : EngineFailed e s t
  steady : Steady s t
  raised : Pending t (if task then 65 else 64)
  record : regN t (engBase e + 8) = 2 ^ 31 + (s.eng[e]).pc % 2048 * 65536 + Bits.b2n task * 256 + code

/-- The reset that ends a fault, once the fault is noted and the engine has its mark. -/
theorem FaultTaken.of_reset {mark : Task → Task} {task : Bool} {code seq : Nat} (hc : code < 256) (hw : RegsWf s)
    (hmark : ∀ k, (mark k).col = k.col ∧ (mark k).seg = k.seg ∧ (mark k).mode = k.mode ∧ (mark k).pass = k.pass)
    (hregs : u.regs = (faultNoted e task code seq s).regs) (himage : engImage u e = engImage s e)
    (hgen : (u.eng[e]).gen = (s.eng[e]).gen) (htask : engTask (u.eng[e]) = engTask (s.eng[e]))
    (hothers : ∀ j : Fin 148, j ≠ e → u.eng[j] = s.eng[j]) : FaultTaken e task code s (engResetWith mark e u) := by
  obtain ⟨-, hbase⟩ := engBase_range e
  obtain ⟨-, hnoted, hpend, hreg⟩ := faultNoted_effect e task seq hc hw
  obtain ⟨-, hreset, hsame⟩ := engResetWith_effect mark e u
  have hmarked : Steady (faultNoted e task code seq s) u := .of_regs hregs
  have hwu : RegsWf u := hmarked.wf (hnoted.wf hw)
  refine ⟨.of_reset hmark hgen htask himage hothers, (hnoted.trans hmarked).trans hreset, ?_, ?_⟩
  · have hlt : (if task then 65 else 64) < 256 := by cases task <;> decide
    exact hreset.pending hwu _ hlt (hmarked.pending (hnoted.wf hw) _ hlt hpend)
  · rw [regN, hsame hwu _ (notMem_backCounters (by omega)) (by omega) (by omega), ← hreg, regN, reg, hregs]
    rfl

/-- A task fault that the task has not had on another engine. -/
theorem engFault_task {code : Nat} (hc : code < 256) (hw : RegsWf s) (hk : engTask (s.eng[e]) = some k)
    (hfirst : faultedBefore e code k = false) : FaultTaken e true code s (engFault e true code s) := by
  have heq : engFault e true code s =
      engResetWith (faultMark e true code) e (faultNoted e true code (passSeq s k.pass) s) := by
    simp only [engFault, hk, hfirst, Bool.and_false, Bool.false_eq_true, if_false]
    rfl
  obtain ⟨⟨_, _, hframe⟩, -⟩ := faultNoted_effect e true (passSeq s k.pass) hc hw
  rw [heq]
  refine .of_reset hc hw (fun _ => ⟨rfl, rfl, rfl, rfl⟩) rfl ?_ ?_ ?_ fun j _ => ?_
  · rw [hframe]
    rfl
  all_goals rw [hframe]

/-- The first part fault of an engine marks it. -/
theorem partMark_first (h : (s.eng[e]).hadPart = false) :
    partMark e s = updEng e (fun x => { x with hadPart := true }) s := if_neg (by simpa using h)

/-- The first part fault of an engine. -/
theorem engFault_part {code : Nat} (hc : code < 256) (hw : RegsWf s) (hpart : (s.eng[e]).hadPart = false) :
    FaultTaken e false code s (engFault e false code s) := by
  obtain ⟨seq, mark, hmark, heq⟩ : ∃ (seq : Nat) (mark : Task → Task),
      (∀ k, (mark k).col = k.col ∧ (mark k).seg = k.seg ∧ (mark k).mode = k.mode ∧ (mark k).pass = k.pass) ∧
      engFault e false code s = engResetWith mark e (partMark e (faultNoted e false code seq s)) := by
    cases hk : engTask (s.eng[e]) with
    | none => exact ⟨0, id, fun _ => ⟨rfl, rfl, rfl, rfl⟩, by simp only [engFault, hk]; rfl⟩
    | some k =>
      refine ⟨passSeq s k.pass, faultMark e false code, fun _ => ⟨rfl, rfl, rfl, rfl⟩, ?_⟩
      simp only [engFault, hk, Bool.false_and, Bool.false_eq_true, if_false]
      rfl
  obtain ⟨⟨_, _, hframe⟩, -⟩ := faultNoted_effect e false seq hc hw
  have heng : (faultNoted e false code seq s).eng = s.eng := by rw [hframe]
  have hthis : ((updEng e (fun x => { x with hadPart := true }) (faultNoted e false code seq s)).eng[e]) =
      { s.eng[e] with hadPart := true } := (upd_fin _ _ _ _).trans ((if_pos rfl).trans (by rw [heng]))
  rw [heq, partMark_first (by rw [heng]; exact hpart)]
  refine .of_reset hc hw hmark rfl ?_ ?_ ?_ fun j hj => ?_
  · rw [hframe]
    rfl
  · rw [hthis]
  · rw [hthis]
    rfl
  · exact (upd_fin _ _ _ _).trans ((if_neg hj.symm).trans (by rw [heng]))

/-! ### The commands -/

/-- A comb that has just lost its last working engine raises event 77 (R258); nothing else is changed by the check. -/
theorem combCheck_effect (before : State) (e : Fin 148) (s : State) :
    (∃ r v, combCheck before e s = { s with regs := r, evt := v }) ∧ Steady s (combCheck before e s) ∧
      (RegsWf s → SameRegsBut [] s (combCheck before e s)) := by
  unfold combCheck
  split
  · exact ⟨⟨_, _, raise_frame _ _ _ _⟩, .raise (by decide) (by decide), fun hw => sameRegsBut_raise _ (by decide) hw⟩
  · exact ⟨⟨_, _, rfl⟩, .refl, fun _ _ _ _ _ => rfl⟩

/-- An event at its first occurrence in a command: registers by the event, and the command's record of it. -/
theorem raiseFirst_effect (p : Pass) {src : Nat} (info : Nat) (s : State) (hs : src < 256) :
    (raiseFirst p src info s).eng = s.eng ∧ (raiseFirst p src info s).dram = s.dram ∧
      (RegsWf s → SameRegsBut [] s (raiseFirst p src info s)) := by
  have first {q : Nat} {t : State} {c : Prop} [Decidable c] (he : t.eng = s.eng) (hd : t.dram = s.dram)
      (hr : t.regs = s.regs) : let u := if c then s else raise src info q t
      u.eng = s.eng ∧ u.dram = s.dram ∧ (RegsWf s → SameRegsBut [] s u) := by
    dsimp only
    split
    · exact ⟨rfl, rfl, fun _ _ _ _ _ => rfl⟩
    · refine ⟨(raise_eng _ _ _ _).trans he, (raise_dram _ _ _ _).trans hd, fun hw off h1 h2 h3 => ?_⟩
      have hwt : RegsWf t := by rwa [RegsWf, hr]
      rw [sameRegsBut_raise [] hs hwt off h1 h2 h3, reg, hr]
      rfl
  unfold raiseFirst
  cases p with
  | write =>
    cases s.job.write with
    | none => exact ⟨rfl, rfl, fun _ _ _ _ _ => rfl⟩
    | some w => exact first rfl rfl rfl
  | forage =>
    cases s.job.forage with
    | none => exact ⟨rfl, rfl, fun _ _ _ _ _ => rfl⟩
    | some f => exact first rfl rfl rfl

/-- A corrected error of local memory is counted (R256, R263). -/
theorem eccCorrected_effect (hp : engPowered s e = true) (hw : RegsWf s) :
    (eccCorrected e s).eng = s.eng ∧ (eccCorrected e s).dram = s.dram ∧
      reg (eccCorrected e s) (engBase e + 0x2C) = Bits.satAdd (reg s (engBase e + 0x2C)) 1 := by
  obtain ⟨-, hbase⟩ := engBase_range e
  have hcount : reg (count (engBase e + 0x2C) 1 s) (engBase e + 0x2C) = Bits.satAdd (reg s (engBase e + 0x2C)) 1 :=
    (reg_count s _ _ 1 hw).trans (if_pos rfl)
  unfold eccCorrected
  rw [hp, Bool.not_true, if_neg Bool.false_ne_true]
  cases engTask (s.eng[e]) with
  | none => exact ⟨rfl, rfl, hcount⟩
  | some k =>
    obtain ⟨heng, hdram, hsame⟩ :=
      raiseFirst_effect (src := 70) k.pass (engInfo e) (count (engBase e + 0x2C) 1 s) (by decide)
    exact ⟨heng, hdram, (hsame (regsWf_count hw) _ (by simp) (by omega) (by omega)).trans hcount⟩

/-- OFFLINE written in one engine's control register (R259). -/
theorem setOffline_reg (on : Bool) (hw : RegsWf s) :
    Bits.bit (regN (setRegBits (engBase e + 4) 1 1 (Bits.b2n on) s) (engBase e + 4)) 1 = on ∧
      ∀ off, off ≠ engBase e + 4 → reg (setRegBits (engBase e + 4) 1 1 (Bits.b2n on) s) off = reg s off := by
  have hreg (off : Nat) := reg_setReg s (engBase e + 4) off
    (BitVec.ofNat 32 (Bits.setBits (regN s (engBase e + 4)) 1 1 (Bits.b2n on))) hw
  refine ⟨?_, fun off ho => (hreg off).trans (if_neg ho)⟩
  have hbit (n : Nat) : Bits.bit n 1 = (Bits.bits n 1 1 == 1) := by simp [Bits.bit, Bits.bits]
  rw [hbit, regN]
  refine (congrArg (fun w : Word => Bits.bits w.toNat 1 1 == 1) ((hreg _).trans (if_pos rfl))).trans ?_
  rw [bits_ofNat (by decide), bits_setBits (le_refl 1)]
  cases on <;> rfl

/-- The watchdog reports event 69, and then fault 8 of the engine (R255, R256). -/
theorem watchdog_effect (hw : RegsWf s) (hk : engTask (s.eng[e]) = some k) (hfirst : faultedBefore e 8 k = false) :
    FaultTaken e true 8 s (watchdog e s) ∧ Pending (watchdog e s) 69 := by
  obtain ⟨u, ⟨⟨r, hu⟩, hsteady⟩, heq⟩ : ∃ u : State, ((∃ r, u = { s with regs := r }) ∧ Steady s u) ∧
      watchdog e s = engFault e true 8 (raise 69 (engInfo e) (passSeq s k.pass) u) := by
    simp only [watchdog, hk]
    split
    · exact ⟨_, ⟨⟨_, rfl⟩, .count (by right; unfold combCnt; omega)⟩, rfl⟩
    · exact ⟨s, ⟨⟨_, rfl⟩, .refl⟩, rfl⟩
  have hraise : Steady u (raise 69 (engInfo e) (passSeq s k.pass) u) := .raise (by decide) (by decide)
  have hpend : Pending (raise 69 (engInfo e) (passSeq s k.pass) u) 69 :=
    pending_raise (by decide) (by decide) (hsteady.wf hw)
  have hframe := raise_frame 69 (engInfo e) (passSeq s k.pass) u
  generalize raise 69 (engInfo e) (passSeq s k.pass) u = y at heq hraise hpend hframe
  rw [hu] at hframe
  have hy : RegsWf y := hraise.wf (hsteady.wf hw)
  have htaken : FaultTaken e true 8 y (engFault e true 8 y) :=
    engFault_task (by decide) hy (by rw [hframe]; exact hk) hfirst
  rw [heq]
  obtain ⟨⟨hengine, hothers, hback⟩, hfault, hraised, hrecord⟩ := htaken
  refine ⟨⟨⟨?_, ?_, ?_⟩, (hsteady.trans hraise).trans hfault, hraised, ?_⟩, hfault.pending hy 69 (by decide) hpend⟩
  all_goals rw [hframe] at *
  · exact hengine
  · exact hothers
  · exact hback
  · exact hrecord

end Sys2Proof.Machine

open Sys2Proof Sys2Proof.Machine in
/-- Settles O10: each assignment gives the task to the engine it names, and each reset, fault and report of an engine is a
reset of that engine with what it counts and raises. -/
theorem engineScheduling : Obligations.EngineScheduling := by
  refine ⟨⟨fun s k e htasks hmode hfree he hroom => ?_, fun s p e hp hw hidle hroom =>
    ⟨fun hnext hagain h144 => ?_, fun n hnext hagain hdone hn hown => ?_⟩⟩, ?_⟩
  · obtain ⟨hraster, hworking, hidle, havoid⟩ := engineFor_offers he
    obtain ⟨r, n, hassign⟩ := taskAssign_single htasks hmode hfree he
    obtain ⟨_, _, x, heq, htask, hothers⟩ :=
      assignTask_queued (r := r) (c := { s.comb with passed := n, tasks := [] }) k hidle ⟨rfl, rfl⟩ hroom
    exact ⟨hraster, hworking, hidle, havoid, _, congrArg Host.Outcome.next (hassign.trans heq), rfl, htask, hothers, rfl, rfl⟩
  · obtain ⟨c, hassign, hprog, hagain', hnext'⟩ := ceAssign_start hp hw hidle hnext hagain h144
    obtain ⟨_, _, x, heq, htask, hothers⟩ := assignTask_queued (r := s.regs) (ceTask p 1 0) hidle hprog hroom
    refine ⟨_, congrArg Host.Outcome.next (hassign.trans heq), htask, ?_, hagain', hothers⟩
    cases p <;> exact hnext'
  · obtain ⟨c, hset, hprog, -⟩ := setCeNext_frame p (n + 1) s
    have hassign := ceAssign_block hp hw hidle hnext hagain hdone hn hown
    have hnext' : ceNext (setCeNext p (n + 1) s) p = some (n + 1) := ceNext_setCeNext _ _ _
    rw [hset] at hassign hnext'
    obtain ⟨_, _, x, heq, htask, hothers⟩ := assignTask_queued (r := s.regs)
      (ceTask p 2 ((n : Int) - passMargin s p)) hidle hprog hroom
    refine ⟨_, congrArg Host.Outcome.next (hassign.trans heq), htask, ?_, hothers⟩
    cases p <;> exact hnext'
  · intro e c on s hw x fresh back
    have cleared {t : State} {j : Fin 148} {y : Engine} (hy : y.gen = (s.eng[j]).gen)
        (h : t.eng[j] = engCleared (engImage s j) y) : fresh t j := by
      obtain ⟨hregs, hpc, hlmem, -, htask, hgen⟩ := engCleared_values (engImage s j) y
      simp only [fresh, h]
      exact ⟨hregs, hpc, hlmem, htask, hgen.trans (by rw [hy])⟩
    have failed {t : State} (h : EngineFailed e s t) :
        fresh t e ∧ (∀ k, engTask x = some k → back t k) ∧ ∀ k : Fin 148, k ≠ e → t.eng[k] = s.eng[k] := by
      obtain ⟨⟨y, hy, heng⟩, hothers, hback⟩ := h
      exact ⟨cleared hy heng, hback, hothers⟩
    clear_value fresh back
    refine ⟨fun hb hp => ⟨?_, ?_⟩, fun k hk hfirst hpc => ?_, fun hp htest hpart hpc how code hcode => ?_, fun hp => ?_,
      fun hb hp => ?_⟩
    · have hfail : EngineFailed e s (raise 67 (engInfo e) 0 (engReset e s)) := by
        obtain ⟨hengine, hothers, hback⟩ : EngineFailed e s (engReset e s) :=
          .of_reset (fun _ => ⟨rfl, rfl, rfl, rfl⟩) rfl rfl rfl fun _ _ => rfl
        exact ⟨by rwa [raise_eng], by rwa [raise_eng], by rwa [raise_comb]⟩
      obtain ⟨⟨_, _, hframe⟩, hsteady, -⟩ := engResetWith_effect id e s
      obtain ⟨hfresh, hback, hothers⟩ := failed hfail
      refine ⟨_, congrArg Host.Outcome.next ((barWrite_open _ s hb.1 hb.2).trans (if_pos hp)), hfresh, hback,
        pending_raise (by decide) (by decide) (hsteady.wf hw), hothers, ?_⟩
      rw [raise_dram, engReset, hframe]
    · obtain ⟨⟨_, _, hframe⟩, -, hsame⟩ :=
        combCheck_effect s e (setRegBits (Machine.engBase e + 4) 1 1 (Bits.b2n on) s)
      obtain ⟨hbit, hkept⟩ := setOffline_reg (e := e) on hw
      have hset : RegsWf (setRegBits (Machine.engBase e + 4) 1 1 (Bits.b2n on) s) := setReg_wf _ _ _ hw
      have hreg (j : Fin 148) := hsame hset (engBase j + 4) (by simp) (by have := engBase_range j; omega)
        (by have := engBase_range j; omega)
      refine ⟨_, congrArg Host.Outcome.next ((barWrite_open _ s hb.1 hb.2).trans (if_pos hp)), by rw [hframe]; rfl, ?_, fun j hj => ?_,
        by rw [hframe]; rfl⟩
      · rwa [regN, hreg]
      · rw [hreg]
        exact hkept _ fun h => hj (engBase_injective (by omega))
    · obtain ⟨⟨hfail, -, hraised, hrecord⟩, h69⟩ := watchdog_effect hw hk hfirst
      obtain ⟨hfresh, hback, hothers⟩ := failed hfail
      rw [Nat.mod_eq_of_lt hpc] at hrecord
      exact ⟨_, rfl, hfresh, hback k hk, hrecord, hraised, h69, hothers⟩
    · have hgoes : code < 256 ∧ exec (.taskWatchdog ⟨e, how⟩) s = .next (partFault e code s) := by
        simp only [List.mem_cons, Prod.mk.injEq, List.not_mem_nil, or_false] at hcode
        obtain ⟨rfl, rfl⟩ | ⟨rfl, rfl⟩ | ⟨rfl, rfl⟩ := hcode <;> exact ⟨by decide, rfl⟩
      obtain ⟨hlt, hexec⟩ := hgoes
      have hruns : partFault e code s = engFault e false code s := if_pos (by rw [hp, htest]; rfl)
      obtain ⟨hfail, -, hraised, hrecord⟩ := engFault_part hlt hw hpart
      obtain ⟨hfresh, hback, hothers⟩ := failed hfail
      refine ⟨_, hexec.trans (congrArg Host.Outcome.next hruns), hfresh, hback, hraised, ?_, hothers⟩
      rw [hrecord]
      simp only [Bits.b2n]
      omega
    · obtain ⟨heng, hdram, hreg⟩ := eccCorrected_effect hp hw
      exact ⟨_, rfl, heng, hreg, hdram⟩
    · obtain ⟨u, hreset, heq⟩ := combReset_effect c s
      obtain ⟨-, -, hgen, hsteady, hcleared, hkept⟩ := hreset
      refine ⟨_, congrArg Host.Outcome.next ((barWrite_open _ s hb.1 hb.2).trans (if_pos hp)), ?_⟩
      rw [heq]
      refine ⟨?_, pending_raise (by decide) (by decide) (hsteady.wf hw), fun j h144 hj => cleared rfl ?_, fun j hj => ?_⟩
      · rw [raise_comb, ← hgen]
        simp
      · rw [raise_eng]
        exact hcleared j ⟨h144, hj⟩
      · rw [raise_eng]
        exact hkept j hj
end

section
/-!
PROOFS. The check of a finished tile, the installation of a hive fill, and the flush of the hive cache (O12).
-/

namespace Sys2Proof.Machine

set_option Elab.async false

variable {s t u : State} {w : Write} {b : BTile} {col seg : Nat}

/-! ### STAGE_SLOW_N and the tiles held -/

/-- The check of STAGE_SLOW_N changes the line and registers by its events. -/
theorem slowCheck_frame (s : State) :
    ∃ r v b, slowCheck s = { s with regs := r, evt := v, seq := { s.seq with slow := b } } := by
  obtain h | ⟨b, h⟩ := slowCheck_cases s
  · exact ⟨_, _, s.seq.slow, h⟩
  · exact ⟨_, _, b, h.trans (raise_frame _ _ _ _)⟩

/-- A tile found stands in its column and segment. -/
theorem tileAt_place (h : tileAt s col seg = some b) : b.col = col ∧ b.seg = seg := by
  have hb := List.find?_some h
  simpa using hb

/-- The tile of a place after it has been changed. -/
theorem tileAt_updTile {f : BTile → BTile} (hf : ∀ x, (f x).col = x.col ∧ (f x).seg = x.seg) (h : tileAt s col seg = some b) :
    tileAt (updTile col seg f s) col seg = some (f b) := by
  let here (x : BTile) : Bool := x.col == col && x.seg == seg
  have hsame : (here ∘ fun x => if here x then f x else x) = here := by
    funext x
    obtain ⟨hcol, hseg⟩ := hf x
    simp only [Function.comp]
    split
    · simp only [here, hcol, hseg]
    · rfl
  have hb : here b = true := List.find?_some h
  change List.find? here (List.map (fun x => if here x then f x else x) s.bel.tiles) = _
  rw [List.find?_map, hsame]
  exact (congrArg (Option.map _) h).trans (congrArg some (if_pos hb))

theorem tileReleased_of_tileAt (h : tileAt s col seg = some b) : tileReleased s col seg = b.released := by
  rw [tileReleased, h]

/-! ### A finished tile is checked (R32, R33, R131) -/

/-- The check of a tile that still waits for it compares its signature with that of the forage. -/
theorem tileCheck_clean (hw : s.job.write = some w) (hb : tileAt s col seg = some b) (hrel : b.released = false)
    (hnever : b.never = false) : tileCheck col seg .clean s =
      if forageSig s w.f col seg = some (Check.crc32c (tileId w.f.pass col seg w.f.stripe) (tileBytes b.rows))
      then releaseTile col seg s else failTile w b s := by
  unfold tileCheck
  rw [hw, hb]
  dsimp only
  rw [hrel, hnever, Bool.or_self, if_neg Bool.false_ne_true]
  rfl

/-- A tile that passes is released. -/
theorem releaseTile_effect (h : tileAt s col seg = some b) : tileReleased (releaseTile col seg s) col seg = true ∧
    (releaseTile col seg s).eng = s.eng ∧ (releaseTile col seg s).dram = s.dram ∧ (releaseTile col seg s).job = s.job := by
  have hreleased := tileAt_updTile (f := fun x => { x with released := true }) (fun _ => ⟨rfl, rfl⟩) h
  unfold releaseTile
  extract_lets s1 mine
  obtain ⟨_, _, _, hslow⟩ := slowCheck_frame { s1 with comb := { s1.comb with lists := s1.comb.lists.filter (fun l => !mine l) } }
  rw [hslow]
  exact ⟨tileReleased_of_tileAt hreleased, rfl, rfl, rfl⟩

/-- The record of a mismatch writes its own registers. -/
theorem mismatchRecord_effect (id engine : Nat) (second : Bool) (s : State) :
    (∃ r, mismatchRecord id engine second s = { s with regs := r }) ∧ Steady s (mismatchRecord id engine second s) ∧
      (RegsWf s → SameRegsBut [0x05C010, 0x05C014, 0x05C018] s (mismatchRecord id engine second s)) := by
  have hstep {x : State} (off v : Nat) (ho : 0x010060 ≤ off) : Steady x (setRegN off v x) := .setReg (.inr ho)
  unfold mismatchRecord setReg64
  refine ⟨⟨_, rfl⟩, ((hstep 0x05C010 _ (by decide)).trans (hstep _ _ (by decide))).trans (hstep _ _ (by decide)),
    fun hw off hoff _ _ => ?_⟩
  simp only [List.mem_cons, List.not_mem_nil, or_false, not_or] at hoff
  obtain ⟨h1, h2, h3⟩ := hoff
  have hw1 := (hstep (x := s) 0x05C010 id (by decide)).wf hw
  have hw2 := (hstep (0x05C010 + 4) (id / 4294967296) (by decide)).wf hw1
  refine (reg_setReg _ _ off _ hw2).trans ((if_neg h3).trans ?_)
  exact (reg_setReg _ _ off _ hw1).trans ((if_neg h2).trans ((reg_setReg s _ off _ hw).trans (if_neg h1)))

/-- The state in which a mismatch of a tile has been recorded, counted and reported. -/
def mismatchNoted (w : Write) (b : BTile) (event counter : Nat) (s : State) : State :=
  raise event b.engine w.seq (count counter 1
    (mismatchRecord (tileId w.f.pass b.col b.seg w.f.stripe) b.engine b.second s))

theorem mismatchNoted_effect (w : Write) (b : BTile) {event counter : Nat} (hu : RegMap.usedSource event = true)
    (he : event < 256) (hc : counter = 0x05C000 ∨ counter = 0x05C004) (hw : RegsWf s) :
    (∃ r v, mismatchNoted w b event counter s = { s with regs := r, evt := v }) ∧
      Pending (mismatchNoted w b event counter s) event ∧
      reg (mismatchNoted w b event counter s) counter = Bits.satAdd (reg s counter) 1 := by
  obtain ⟨⟨r, hframe⟩, hsteady, hsame⟩ :=
    mismatchRecord_effect (tileId w.f.pass b.col b.seg w.f.stripe) b.engine b.second s
  unfold mismatchNoted
  have hw1 := hsteady.wf hw
  have hcount : RegsWf (count counter 1 (mismatchRecord (tileId w.f.pass b.col b.seg w.f.stripe) b.engine b.second s)) :=
    regsWf_count hw1
  refine ⟨by rw [raise_frame, hframe]; exact ⟨_, _, rfl⟩, pending_raise hu he hcount, ?_⟩
  rw [sameRegsBut_raise [] he hcount counter (by simp) (by omega) (by omega), reg_count _ _ _ 1 hw1, if_pos rfl,
    hsame hw counter (by simp; omega) (by omega) (by omega)]

/-- The task of a second render (R131). -/
def secondRender (b : BTile) : Task :=
  { pass := .write, mode := 3, col := b.col, seg := b.seg, margin := false, second := true, avoid := [b.engine],
    faulted := [] }

theorem failTile_first_eq (hsecond : b.second = false) (hused : b.used = []) :
    let u := mismatchNoted w b 88 0x05C000 s
    failTile w b s = { u with
      bel := { u.bel with tiles := u.bel.tiles.filter (fun x => !(x.col == b.col && x.seg == b.seg)) },
      comb := { u.comb with tasks := u.comb.tasks ++ [secondRender b] } } := by
  unfold failTile mismatchNoted
  dsimp only
  rw [hsecond, if_neg Bool.false_ne_true, hused, List.foldl_nil]
  rfl

/-- A first mismatch: the tile leaves the bellows, and a second render by another engine is ordered. -/
theorem failTile_first (hb : tileAt s col seg = some b) (hsecond : b.second = false) (hused : b.used = [])
    (hw : RegsWf s) : tileAt (failTile w b s) col seg = none ∧ Pending (failTile w b s) 88 ∧
      secondRender b ∈ (failTile w b s).comb.tasks ∧
      reg (failTile w b s) 0x05C000 = Bits.satAdd (reg s 0x05C000) 1 ∧ (failTile w b s).eng = s.eng ∧
      (failTile w b s).dram = s.dram ∧ (failTile w b s).job = s.job := by
  obtain ⟨hcol, hseg⟩ := tileAt_place hb
  obtain ⟨⟨r, v, hframe⟩, hpend, hcount⟩ :=
    mismatchNoted_effect w b (event := 88) (counter := 0x05C000) (by decide) (by decide) (.inl rfl) hw
  rw [failTile_first_eq hsecond hused]
  refine ⟨?_, hpend, by simp, hcount, by rw [hframe], by rw [hframe], by rw [hframe]⟩
  refine List.find?_eq_none.mpr fun x hx => ?_
  have hother := (List.mem_filter.mp hx).2
  rw [hcol, hseg] at hother
  exact fun hp => by simp [hp] at hother

/-- A cause that stands before a later flash waits at the sequencer, when no other does (R33, R204). -/
theorem addCause_ahead {c : Cause} {f : Nat} (hw : s.job.write = some w) (hend : w.ending = none) (hcauses : w.causes = [])
    (hflash : c.flash = some f) (hf : w.next < f) :
    addCause c s = { s with job := { s.job with write := some { w with causes := [c] } } } := by
  have hlive : writeLive s = true := by simp [writeLive, hw, hend]
  have hset : setWrite (fun x => { x with causes := x.causes ++ [c] }) s =
      { s with job := { s.job with write := some { w with causes := [c] } } } := by
    unfold setWrite
    rw [hw, Option.map_some, hcauses, List.nil_append]
  have hdue : dueCauses { w with causes := [c] } = [] := by
    simp [dueCauses, hflash, hf]
  rw [addCause, hlive, if_pos rfl, hset]
  unfold haltCheck
  dsimp only
  rw [hdue, hend]
  rfl

/-- The cause that halts a write at a second mismatch (R33). -/
def secondMismatch (s : State) (w : Write) (b : BTile) : Cause :=
  { code := 2, flash := neverFlash s w b.seg, arg0 := tileId w.f.pass b.col b.seg w.f.stripe, arg1 := b.engine, axis := 0,
    status := 0xA }

theorem failTile_second_eq (hsecond : b.second = true) : failTile w b s = addCause (secondMismatch s w b)
    (updTile b.col b.seg (fun x => { x with never := true }) (mismatchNoted w b 89 0x05C004 s)) := by
  unfold failTile mismatchNoted
  dsimp only
  rw [hsecond, if_pos rfl]
  rfl

/-- A second mismatch: the tile is never released, and the write halts before the first flash that gathers from it. -/
theorem failTile_second (hwrite : s.job.write = some w) (hb : tileAt s col seg = some b) (hsecond : b.second = true)
    (hrel : b.released = false) (hend : w.ending = none) (hcauses : w.causes = [])
    (hnext : w.next < firstGather w.f.dir w.f.named seg) (hst : s.seq.st ≠ 1) (hw : RegsWf s) :
    Pending (failTile w b s) 89 ∧ tileReleased (failTile w b s) col seg = false ∧
      (∃ v, (failTile w b s).job.write = some v ∧ v.ending = none ∧ ∃ c, c ∈ v.causes ∧ c.code = 2 ∧
        c.flash = some (firstGather w.f.dir w.f.named seg)) ∧
      (failTile w b s).eng = s.eng ∧ (failTile w b s).dram = s.dram := by
  obtain ⟨hcol, hseg⟩ := tileAt_place hb
  obtain ⟨⟨r, v, hframe⟩, hpend, -⟩ :=
    mismatchNoted_effect w b (event := 89) (counter := 0x05C004) (by decide) (by decide) (.inr rfl) hw
  have hnever : neverFlash s w b.seg = some (firstGather w.f.dir w.f.named seg) := by
    simp [neverFlash, hst, hseg]
  have htile : tileAt (updTile col seg (fun x => { x with never := true }) (mismatchNoted w b 89 0x05C004 s)) col seg =
      some { b with never := true } := by
    refine tileAt_updTile (fun _ => ⟨rfl, rfl⟩) ?_
    rw [hframe]
    exact hb
  rw [failTile_second_eq hsecond, hcol, hseg,
    addCause_ahead (w := w) (by rw [updTile_job, hframe]; exact hwrite) hend hcauses hnever hnext]
  exact ⟨hpend, (tileReleased_of_tileAt htile).trans hrel,
    ⟨_, rfl, hend, secondMismatch s w b, List.mem_singleton_self _, rfl, hnever⟩, by rw [hframe]; rfl, by rw [hframe]; rfl⟩

/-! ### A completed fill (R346, R347) -/

/-- From `s` to `t` entries have left the hive cache or bytes have entered its log: module DRAM, the log and the count of
evictions. -/
structure HiveWritten (s t : State) : Prop where
  frame : ∃ r d l, t = { s with regs := r, dram := d, hive := { s.hive with log := l } }
  wf : RegsWf s → RegsWf t
  regs : RegsWf s → SameRegsBut [0x110048] s t

theorem HiveWritten.trans (h : HiveWritten s t) (k : HiveWritten t u) : HiveWritten s u := by
  obtain ⟨⟨_, _, _, rfl⟩, hwf, hregs⟩ := h
  obtain ⟨⟨_, _, _, rfl⟩, kwf, kregs⟩ := k
  exact ⟨⟨_, _, _, rfl⟩, fun hw => kwf (hwf hw), fun hw => (hregs hw).trans (kregs (hwf hw))⟩

theorem HiveWritten.refl : HiveWritten s s := ⟨⟨_, _, _, rfl⟩, id, fun _ _ _ _ _ => rfl⟩

theorem HiveWritten.dramWrite (a : Nat) (b : Bytes) (s : State) : HiveWritten s (dramWrite a b s) :=
  ⟨⟨_, _, _, rfl⟩, id, fun _ _ _ _ _ => rfl⟩

theorem HiveWritten.hiveEvict (bucket way : Nat) (s : State) : HiveWritten s (hiveEvict bucket way s) :=
  ⟨⟨_, _, _, rfl⟩, fun hw => regsWf_count (s := wayClear bucket way s) hw,
    fun hw => sameRegsBut_count (s := wayClear bucket way s) _ _ hw⟩

theorem HiveWritten.foldl {α : Type} {f : State → α → State} (hf : ∀ t x, HiveWritten t (f t x)) (l : List α) (s : State) :
    HiveWritten s (l.foldl f s) := by
  induction l generalizing s with
  | nil => exact .refl
  | cons x l ih => exact (hf s x).trans (ih _)

theorem HiveWritten.logWrite (p : Nat) (b : Bytes) (s : State) : HiveWritten s (logWrite p b s) := by
  induction b generalizing p s with
  | nil => exact .refl
  | cons x b ih => exact (HiveWritten.dramWrite _ _ s).trans (ih _ _)

/-- A bucket has four ways. -/
theorem wayFor_lt (s : State) (bucket : Nat) : wayFor s bucket < 4 := by
  have hfound {p : Nat → Bool} {n : Nat} (h : (List.range 4).find? p = some n) : n < 4 :=
    List.mem_range.mp (List.mem_of_find?_eq_some h)
  unfold wayFor
  split
  · next h => exact hfound h
  · cases h : (List.range 4).find? (fun w => !Bits.bit (wayFlags s bucket w) 1) with
    | none => decide
    | some n => exact hfound h

/-- A fill installed: its entry stands in the log at the log pointer and in a way of its bucket (R346). -/
theorem installFill_effect (f : Fill) (entry : Bytes) (hw : RegsWf s) :
    (installFill f entry s).comb = s.comb ∧ (installFill f entry s).eng = s.eng ∧ (installFill f entry s).job = s.job ∧
      reg (installFill f entry s) 0x110044 = Bits.satAdd (reg s 0x110044) 1 ∧
      (installFill f entry s).hive.ptr = Bits.roundUp (s.hive.ptr + entry.length) 256 % logSize s ∧
      ∃ way, way < 4 ∧ (s.hive.ptr, entry.length, hiveBucket s f.hash, way) ∈ (installFill f entry s).hive.log := by
  unfold installFill
  extract_lets p s1 s2 bucket way s3 bytes s4
  have h2 : HiveWritten s s2 := (HiveWritten.foldl (fun t _ => .hiveEvict _ _ t) _ s).trans (.logWrite _ _ _)
  have h3 : HiveWritten s2 s3 := by
    by_cases hv : Bits.bit (wayFlags s2 bucket way) 0 = true
    · rw [show s3 = hiveEvict bucket way s2 from if_pos hv]
      exact .hiveEvict _ _ _
    · rw [show s3 = s2 from if_neg hv]
      exact .refl
  obtain ⟨hframe, hwf, hregs⟩ : HiveWritten s s4 := (h2.trans h3).trans (.dramWrite _ _ _)
  have hbucket : bucket = hiveBucket s f.hash := by
    obtain ⟨_, _, _, hs2⟩ := h2.frame
    change hiveBucket s2 f.hash = _
    rw [hs2]
    rfl
  have hway : way < 4 := wayFor_lt s2 bucket
  clear_value s4 way bucket
  obtain ⟨_, _, _, rfl⟩ := hframe
  refine ⟨rfl, rfl, rfl, ?_, rfl, way, hway, ?_⟩
  · refine (reg_count _ _ _ 1 (hwf hw)).trans ((if_pos rfl).trans ?_)
    exact congrArg (Bits.satAdd · 1) (hregs hw 0x110044 (by decide) (by decide) (by decide))
  · rw [← hbucket]
    exact List.mem_append_right _ (List.mem_singleton_self _)

/-- The oldest fill leaves its buffer, and is installed or not (R346). -/
theorem fillInstall_cons {f : Fill} {rest : List Fill} (h : s.comb.fills = f :: rest) :
    let off : State := { s with comb := { s.comb with fills := rest } }
    let entry := compress 2 f.width f.xOff f.yOff 0 f.key f.hash.toNat f.rows
    fillInstall s = if s.hive.on = false ∨ regBits s 0x110020 23 16 * 1024 < entry.length ∨ logSize s < entry.length ∨
      hiveHas off f.key = true then off else installFill f entry off := by
  intro off entry
  unfold fillInstall
  rw [h]
  refine if_congr ?_ rfl rfl
  simp only [Bool.or_eq_true, Bool.not_eq_true', decide_eq_true_eq, or_assoc]
  rfl

/-! ### A flush (R347) -/

/-- A byte that no entry of a sparse map lists. -/
theorem get_of_notMem {α : Type} [DecidableEq α] {d : Nat → α} {l : List (Nat × α)} {k : Nat} (h : k ∉ l.map Prod.fst) :
    Sparse.get d l k = d k := by
  induction l with
  | nil => rfl
  | cons x l ih =>
    obtain ⟨a, v⟩ := x
    simp only [List.map_cons, List.mem_cons, not_or] at h
    obtain ⟨hne, hrest⟩ := h
    rw [Sparse.get, if_neg hne]
    exact ih hrest

/-- VALID cleared in a FLAGS byte. -/
def flagCleared (s : State) (a : Nat) : State := dramWrite a [BitVec.ofNat 8 ((dramByte s a).toNat / 2 * 2)] s

theorem flagCleared_byte (h : DramWf s) (a j : Nat) : dramByte (flagCleared s a) j =
    if j = a then BitVec.ofNat 8 ((dramByte s a).toNat / 2 * 2) else dramByte s j := by
  refine (dramByte_write s a j _ h).trans ?_
  by_cases hj : j = a
  · subst hj
    simp
  · rw [dif_neg (by simp; omega), if_neg hj]

/-- VALID is clear in a FLAGS byte that was cleared, and every other byte is as before. -/
theorem foldl_flagCleared (l : List Nat) (h : DramWf s) :
    (∃ d, l.foldl flagCleared s = { s with dram := d }) ∧
      (∀ a, a ∉ l → dramByte (l.foldl flagCleared s) a = dramByte s a) ∧
      ∀ a, a ∈ l → Bits.bit (dramByte (l.foldl flagCleared s) a).toNat 0 = false := by
  induction l generalizing s with
  | nil => exact ⟨⟨_, rfl⟩, fun _ _ => rfl, fun a ha => by simp at ha⟩
  | cons x l ih =>
    obtain ⟨⟨d, hd⟩, hkept, hcleared⟩ := ih (s := flagCleared s x) (dramWrite_wf s x _ h)
    refine ⟨⟨d, hd⟩, fun a ha => ?_, fun a ha => ?_⟩
    · rw [List.mem_cons, not_or] at ha
      obtain ⟨hne, hrest⟩ := ha
      exact (hkept a hrest).trans ((flagCleared_byte h x a).trans (if_neg hne))
    · by_cases hl : a ∈ l
      · exact hcleared a hl
      · obtain rfl : a = x := (List.mem_cons.mp ha).resolve_right hl
        have hbyte : dramByte (l.foldl flagCleared (flagCleared s a)) a =
            BitVec.ofNat 8 ((dramByte s a).toNat / 2 * 2) :=
          (hkept a hl).trans ((flagCleared_byte h a a).trans (if_pos rfl))
        have hlt : (dramByte s a).toNat / 2 * 2 < 256 := by have := (dramByte s a).isLt; omega
        rw [List.foldl_cons, hbyte, BitVec.toNat_ofNat, Nat.mod_eq_of_lt hlt]
        simp [Bits.bit]

theorem mem_flagAddrs {a : Nat} : a ∈ flagAddrs s ↔ a ∈ s.dram.map Prod.fst ∧ s.hive.base ≤ a ∧
    a < s.hive.base + indexSize s ∧ (a - s.hive.base) % 16 = 10 := by
  simp [flagAddrs, and_assoc]

/-- A flush: the log is empty, VALID is clear in every way, and the rest of module DRAM is as before. -/
theorem hiveFlush_clears (hw : RegsWf s) (hd : DramWf s) :
    (hiveFlush s).hive.log = [] ∧ (hiveFlush s).hive.ptr = 0 ∧ Pending (hiveFlush s) 218 ∧ (hiveFlush s).eng = s.eng ∧
      (hiveFlush s).job = s.job ∧
      (∀ bucket way, bucket < 2 ^ s.hive.log2 → way < 4 → Bits.bit (wayFlags (hiveFlush s) bucket way) 0 = false) ∧
      ∀ a, a < s.hive.base ∨ s.hive.base + indexSize s ≤ a → dramByte (hiveFlush s) a = dramByte s a := by
  obtain ⟨⟨d, hframe⟩, hkept, hcleared⟩ := foldl_flagCleared (flagAddrs s) hd
  have heq : hiveFlush s = raise 218 0 0 { (flagAddrs s).foldl flagCleared s with
    hive := { ((flagAddrs s).foldl flagCleared s).hive with ptr := 0, log := [] } } := rfl
  generalize (flagAddrs s).foldl flagCleared s = u at hframe hkept hcleared heq
  have hbyte (a : Nat) : dramByte (hiveFlush s) a = dramByte u a := by
    rw [heq, dramByte, raise_dram]
    rfl
  have hhive : (hiveFlush s).hive = { s.hive with ptr := 0, log := [] } := by rw [heq, raise_hive, hframe]
  refine ⟨by rw [hhive], by rw [hhive], ?_, by rw [heq, raise_eng, hframe], by rw [heq, raise_job, hframe],
    fun bucket way hb hway => ?_, fun a ha => ?_⟩
  · rw [heq]
    refine pending_raise (by decide) (by decide) ?_
    rw [hframe]
    exact hw
  · have haddr : wayAddr (hiveFlush s) bucket way = s.hive.base + 64 * bucket + 16 * way := by rw [wayAddr, hhive]
    rw [wayFlags, haddr, hbyte]
    by_cases hl : s.hive.base + 64 * bucket + 16 * way + 10 ∈ flagAddrs s
    · exact hcleared _ hl
    · rw [hkept _ hl, dramByte, get_of_notMem]
      · simp [dramDefault, Bits.bit]
      · exact fun hlisted => hl (mem_flagAddrs.mpr ⟨hlisted, by omega, by unfold indexSize; omega, by omega⟩)
  · rw [hbyte, hkept a fun hl => ?_]
    obtain ⟨-, hlo, hhi, -⟩ := mem_flagAddrs.mp hl
    omega

end Sys2Proof.Machine

open Sys2Proof Sys2Proof.Machine in
/-- Settles O12: the outcome of a tile check by its signature and its render, of a fill by the cache, and of a flush. -/
theorem bellowsAndHive : Obligations.BellowsAndHive := by
  refine ⟨?_, ?_, fun s hb hw hd => ?_⟩
  · intro col seg s w b hwrite hb hrel hnever hw sig
    refine ⟨fun hsig => ?_, fun hsig hsecond hused => ?_, fun hsig hsecond hend hcauses hnext hst => ?_⟩
    · obtain ⟨hreleased, heng, hdram, hjob⟩ := releaseTile_effect hb
      exact ⟨_, congrArg Host.Outcome.next ((tileCheck_clean hwrite hb hrel hnever).trans (if_pos hsig)), hreleased, heng,
        hdram, hjob⟩
    · obtain ⟨hcol, hseg⟩ := tileAt_place hb
      obtain ⟨hgone, hpend, htask, hcount, heng, hdram, hjob⟩ := failTile_first (w := w) hb hsecond hused hw
      exact ⟨_, congrArg Host.Outcome.next ((tileCheck_clean hwrite hb hrel hnever).trans (if_neg hsig)), hgone, hpend,
        ⟨secondRender b, htask, by rw [← hcol]; rfl, by rw [← hseg]; rfl, rfl, rfl, List.mem_singleton_self _⟩, hcount, heng,
        hdram, hjob⟩
    · exact ⟨_, congrArg Host.Outcome.next ((tileCheck_clean hwrite hb hrel hnever).trans (if_neg hsig)),
        failTile_second hwrite hb hsecond hrel hend hcauses hnext hst hw⟩
  · intro f rest s hfills hw entry off
    refine ⟨fun hleave => ?_, fun hon hlen hlog hnew => ?_⟩
    · exact congrArg Host.Outcome.next ((fillInstall_cons hfills).trans (if_pos hleave))
    · have hinstalls : ¬ (s.hive.on = false ∨ regBits s 0x110020 23 16 * 1024 < entry.length ∨ logSize s < entry.length ∨
          hiveHas off f.key = true) := by
        simp [hon, hnew, hlen, hlog]
      obtain ⟨hcomb, heng, hjob, hcount, hptr, hinstalled⟩ := installFill_effect (s := off) f entry hw
      exact ⟨_, congrArg Host.Outcome.next ((fillInstall_cons hfills).trans (if_neg hinstalls)), by rw [hcomb], heng, hjob,
        hcount, hptr, hinstalled⟩
  · exact ⟨_, congrArg Host.Outcome.next (barWrite_open _ s hb.1 hb.2), hiveFlush_clears hw hd⟩
end

section
/-!
PROOFS. A part of the write path that is reset halts the write (R25, R41, R301): whatever follows, the power state stays
and the write stays halted or is over. One lemma for each operation, `h.f` being the operation `f` after what `h` speaks of.
-/

namespace Sys2Proof.Machine

set_option Elab.async false

variable {s t u : State}

/-- No write executes, or one that has its halt or its last flash behind it. -/
def Halted (s : State) : Prop := ∀ w, s.job.write = some w → w.ending.isSome = true

/-- From `s` to `t` the power state is kept, and a write that has halted stays halted or ends. -/
structure Settles (s t : State) : Prop where
  power : t.power = s.power
  halted : Halted s → Halted t

theorem Halted.of_write (h : Halted s) (hw : t.job.write = s.job.write) : Halted t := fun w he => h w (by rwa [← hw])

theorem Halted.of_none (h : s.job.write = none) : Halted s := fun w he => by simp [h] at he

theorem Settles.refl : Settles s s := ⟨rfl, id⟩

theorem Settles.trans (h : Settles s t) (k : Settles t u) : Settles s u :=
  ⟨k.power.trans h.power, fun hs => k.halted (h.halted hs)⟩

/-- A change that touches neither the power state nor the write. -/
theorem Settles.same (h : Settles s t) (hp : u.power = t.power := by with_reducible rfl)
    (hw : u.job.write = t.job.write := by with_reducible rfl) : Settles s u :=
  h.trans ⟨hp, fun ht => ht.of_write hw⟩

/-- The end of the write. -/
theorem Settles.ended (h : Settles s t) (hp : u.power = t.power) (hw : u.job.write = none) : Settles s u :=
  ⟨hp.trans h.power, fun _ => .of_none hw⟩

theorem Settles.ite {c : Prop} [Decidable c] (h : Settles s t) (k : Settles s u) : Settles s (if c then t else u) := by
  split <;> assumption

theorem Settles.foldl {α : Type} {l : List α} {f : State → α → State} (h : Settles s t)
    (hf : ∀ {t x}, Settles s t → Settles s (f t x)) : Settles s (l.foldl f t) := by
  induction l generalizing t with
  | nil => exact h
  | cons x l ih => exact ih (hf h)

/-! ### Events, the line, the link -/

theorem Settles.raise {src info cseq} (h : Settles s t) : Settles s (raise src info cseq t) :=
  h.same (raise_power _ _ _ _) (by rw [raise_job])

theorem Settles.slowCheck (h : Settles s t) : Settles s (slowCheck t) := by
  obtain ⟨_, _, _, hs⟩ := slowCheck_frame t
  exact h.same (by rw [hs]) (by rw [hs])

theorem Settles.send {o} (h : Settles s t) : Settles s (send o t) := h.same rfl rfl
theorem Settles.count {o n} (h : Settles s t) : Settles s (count o n t) := h.same rfl rfl

/-- A change of the write that leaves its ending. -/
theorem Settles.setWrite {f : Write → Write} (h : Settles s t) (hf : ∀ w, (f w).ending = w.ending) :
    Settles s (setWrite f t) := by
  refine h.trans ⟨rfl, fun ht w he => ?_⟩
  obtain ⟨v, hv, rfl⟩ := Option.map_eq_some_iff.mp he
  rw [hf]
  exact ht v hv

theorem Settles.refreshFrontier (h : Settles s t) : Settles s (refreshFrontier t) := by
  unfold Machine.refreshFrontier
  split
  · exact h
  · split
    · exact h.ite (h.same (u := { t with blk := { t.blk with unsure := true } })).raise
    · exact h.same

theorem Settles.sendAll {b} (h : Settles s t) : Settles s (sendAll b t) := h.foldl fun k => k.send
theorem Settles.idleAll {n} (h : Settles s t) : Settles s (idleAll n t) := h.foldl fun k => k.send

theorem Settles.sendStripeEnd {halted} (h : Settles s t) : Settles s (sendStripeEnd halted t) :=
  (h.idleAll.ite h).sendAll

theorem Settles.beginDrain {halted} (h : Settles s t) : Settles s (beginDrain halted t) := by
  unfold Machine.beginDrain
  extract_lets s1 s2
  have h1 : Settles s s1 := h.sendStripeEnd.ite h
  have h2 : Settles s s2 := h1.setWrite fun _ => rfl
  exact h2.same.ite h2

theorem Settles.enterRest (h : Settles s t) : Settles s (enterRest t) := (h.foldl fun k => k.send).same.raise

theorem Settles.linkHeld (h : Settles s t) : Settles s (linkHeld t) := h.same rfl rfl

/-! ### What is cleared when a write halts or ends -/

theorem Settles.dropPass {p} (h : Settles s t) : Settles s (dropPass p t) := by
  unfold Machine.dropPass
  exact h.same

theorem Settles.endWalk (h : Settles s t) : Settles s (endWalk t) := by
  unfold Machine.endWalk stopRuns
  exact h.same

theorem Settles.captureEnd {q} (h : Settles s t) : Settles s (captureEnd q t) :=
  Settles.ite (Settles.raise (h.same rfl rfl)) h

theorem Settles.haltCleared {q} (h : Settles s t) : Settles s (haltCleared q t) := by
  unfold Machine.haltCleared
  exact h.dropPass.endWalk.captureEnd.same

theorem Settles.writeCleared {q} (h : Settles s t) : Settles s (writeCleared q t) := by
  unfold Machine.writeCleared
  exact h.dropPass.endWalk.captureEnd.ended rfl rfl

theorem Settles.finish {q e} (h : Settles s t) : Settles s (finish q e t) :=
  h.same (finish_power _ _ _) (finish_job _ _ _).1

theorem Settles.budgetNote {e c q} (h : Settles s t) : Settles s (budgetNote e c q t) := h.count.raise.ite h

theorem Settles.freeSlot {f} (h : Settles s t) : Settles s (freeSlot f t) := by
  unfold Machine.freeSlot
  exact h.same

theorem Settles.stepDown (h : Settles s t) : Settles s (stepDown t) :=
  (h.same (u := { t with thm := { t.thm with step := throttleTarget t } })).raise.ite h

theorem Settles.waitingTdc (h : Settles s t) : Settles s (waitingTdc t) := by
  unfold Machine.waitingTdc
  split
  · exact h.same rfl rfl
  · exact h

/-! ### Engines -/

theorem Settles.engReset {e} (h : Settles s t) : Settles s (engReset e t) := by
  obtain ⟨_, _, _, _, hframe⟩ := (EnginesReset.engReset e t).frame
  exact h.same (by rw [hframe]) (by rw [hframe])

theorem Settles.combCheck {b e} (h : Settles s t) : Settles s (combCheck b e t) := h.raise.ite h

theorem Settles.testBegin {e} (h : Settles s t) : Settles s (testBegin t e) :=
  (h.engReset.same (u := updEng e _ (Machine.engReset e t)) rfl rfl).combCheck

theorem Settles.waitingTests (h : Settles s t) : Settles s (waitingTests t) := h.foldl fun k => k.testBegin

theorem Settles.combReset {c} (h : Settles s t) : Settles s (combReset c t) :=
  ((h.foldl fun k => k.engReset).same (u := { (combEngines c.val).foldl (fun t e => Machine.engReset e t) t with
    comb := _ })).raise

/-! ### The end of a write -/

theorem Settles.abortLive (h : Settles s t) : Settles s (abortLive t) := by
  unfold Machine.abortLive
  extract_lets s1 _ s2 s3
  have h1 : Settles s s1 := h.foldl fun k => k.finish
  have h2 : Settles s s2 := by
    unfold s2
    split
    · exact Settles.raise (h1.same rfl rfl)
    · exact h1
  exact h2.dropPass.same

theorem Settles.endWrite (h : Settles s t) : Settles s (endWrite t) := by
  unfold Machine.endWrite
  split
  · exact h
  · extract_lets _ _ s0 s1 s2 s3
    have h0 : Settles s s0 := h.same
    have h1 : Settles s s1 := h0.finish.budgetNote
    have h2 : Settles s s2 := h1.freeSlot.raise.ite h1
    have h3 : Settles s s3 := h2.writeCleared.slowCheck.stepDown
    exact h3.abortLive.ite h3.waitingTests.waitingTdc

theorem Settles.endDrain {final} (h : Settles s t) : Settles s (endDrain final t) := by
  unfold Machine.endDrain
  extract_lets _ s1 s2 _ s3
  have h1 : Settles s s1 := h.same
  have h2 : Settles s s2 := h1.raise.ite h1.raise.count
  have h3 : Settles s s3 := (h2.enterRest.ite h2.same).ite h2
  exact h3.endWrite

theorem Settles.drainCheck (h : Settles s t) : Settles s (drainCheck t) := h.endDrain.ite h

/-! ### A cause halts the write -/

/-- A write that halts now has its ending, and drains. -/
theorem haltNow_settled (c : Cause) (s : State) : (haltNow c s).power = s.power ∧ Halted (haltNow c s) := by
  unfold haltNow
  extract_lets q s1 k s2 _ s3 s4 s5
  have hended : Halted s1 := fun w he => by
    obtain ⟨v, -, rfl⟩ := Option.map_eq_some_iff.mp he
    rfl
  have h3 : Settles s1 s3 := Settles.same (t := s1) .refl rfl rfl
  have h5 : Settles s1 s5 := h3.raise.raise.ite h3.raise
  obtain ⟨hpower, hhalted⟩ := (h5.raise (src := 135) (info := 0) (cseq := q)).haltCleared (q := q)
    |>.beginDrain (halted := true) |>.refreshFrontier.slowCheck
  exact ⟨hpower, hhalted hended⟩

/-- The check for a cause: nothing happens, or the write halts. -/
theorem haltCheck_cases (s : State) : haltCheck s = s ∨ (haltCheck s).power = s.power ∧ Halted (haltCheck s) := by
  unfold haltCheck
  split
  · exact .inl rfl
  · split
    · exact .inl rfl
    · split
      · next c _ =>
        obtain ⟨hpower, hhalted⟩ := haltNow_settled c s
        obtain ⟨kpower, khalted⟩ := Settles.drainCheck (s := haltNow c s) .refl
        exact .inr ⟨kpower.trans hpower, khalted hhalted⟩
      · exact .inl rfl

theorem lowestCause_some {l : List Cause} (h : l ≠ []) : ∃ c, lowestCause l = some c := by
  cases l with
  | nil => exact absurd rfl h
  | cons c r =>
    rw [lowestCause]
    split
    · exact ⟨c, rfl⟩
    · exact ⟨_, (apply_ite some _ _ _).symm⟩

theorem halted_of_not_live (h : writeLive s = false) : Halted s := fun w hw => by
  simpa [writeLive, hw] using h

/-- A write that executes and has not halted does so at a cause that stands at the next flash boundary. -/
theorem haltCheck_halted {w : Write} (hw : s.job.write = some w) (hdue : dueCauses w ≠ []) : Halted (haltCheck s) := by
  by_cases hend : w.ending.isSome = true
  · have hsame : haltCheck s = s := by
      unfold haltCheck
      rw [hw]
      exact if_pos hend
    rw [hsame]
    intro v hv
    rwa [← Option.some.inj (hw.symm.trans hv)]
  · obtain ⟨c, hc⟩ := lowestCause_some hdue
    have hhalts : haltCheck s = drainCheck (haltNow c s) := by
      unfold haltCheck
      rw [hw]
      dsimp only
      rw [if_neg hend, hc]
    rw [hhalts]
    exact (Settles.drainCheck .refl).halted (haltNow_settled c s).2

theorem Settles.addCause {c} (h : Settles s t) : Settles s (addCause c t) := by
  refine h.trans ?_
  unfold Machine.addCause
  by_cases hlive : writeLive t = true
  · rw [if_pos hlive]
    have hset : Settles t (Machine.setWrite (fun w => { w with causes := w.causes ++ [c] }) t) :=
      Settles.refl.setWrite fun _ => rfl
    obtain hsame | ⟨hpower, hhalted⟩ := haltCheck_cases (Machine.setWrite (fun w => { w with causes := w.causes ++ [c] }) t)
    · rw [hsame]
      exact hset
    · exact ⟨hpower.trans hset.power, fun _ => hhalted⟩
  · rw [if_neg hlive]
    exact .refl

/-- The reset of a part of the write path leaves no write that has not halted (R41). -/
theorem addCause_halted {c : Cause} (hflash : c.flash = none) (htick : c.tick = none) (s : State) :
    Halted (addCause c s) := by
  unfold addCause
  by_cases hlive : writeLive s = true
  · rw [if_pos hlive]
    cases hw : s.job.write with
    | none => simp [writeLive, hw] at hlive
    | some w =>
      refine haltCheck_halted (w := { w with causes := w.causes ++ [c] }) (by simp [setWrite, hw]) ?_
      refine List.ne_nil_of_mem (a := c) (List.mem_filter.mpr ⟨by simp, ?_⟩)
      simp [hflash, htick]
  · rw [if_neg hlive]
    exact halted_of_not_live (by simpa using hlive)

end Sys2Proof.Machine
end

section
/-!
PROOFS. Quadrant and domain resets (O36): which parts of the module a reset takes, part by part and together, and the
write of `HIF.DOMAIN_RESET`.
-/

namespace Sys2Proof.Machine

set_option Elab.async false

variable {s t u : State} {v : Word}

/-! ### Parts that a reset takes (R39, R358) -/

/-- A part with a generation of its own that a reset may take: an engine, a beam map slice or a bellows stack. -/
inductive Part where
  | engine (e : Fin 148)
  | slice (n : Fin 4)
  | stack (n : Fin 4)

/-- The engines of a predicate as parts. -/
def engineParts (q : Fin 148 → Prop) : Part → Prop
  | .engine e => q e
  | _ => False

/-- The parts of a quadrant die (R358). -/
def quadrantParts (n : Fin 4) : Part → Prop
  | .engine k => (k.val < 144 ∧ k.val / 36 = n.val) ∨ k.val = 144 + n.val
  | .slice m => m = n
  | .stack m => m = n

/-- From `s` to `t` each part of `p` has been reset once and the other parts are as before; beside them only records, the
queues of the schedulers, the link, and registers by counts and events have changed. -/
structure PartsReset (p : Part → Prop) (s t : State) : Prop where
  frame : ∃ r v o j w x c b l k, t = { s with
    regs := r, evt := v, out := o, journal := j, power := w, eng := x, comb := c, bmu := b, bel := l, blk := k }
  steady : Steady s t
  programs : t.comb.re = s.comb.re ∧ t.comb.ce = s.comb.ce
  engines : ∀ e, (p (.engine e) → t.eng[e] = engCleared (engImage s e) (s.eng[e])) ∧
    (¬ p (.engine e) → t.eng[e] = s.eng[e])
  slices : ∀ n : Fin 4, (p (.slice n) → (t.bmu.slices[n]).codes = [] ∧ (t.bmu.slices[n]).gen = (s.bmu.slices[n]).gen + 1) ∧
    (¬ p (.slice n) → t.bmu.slices[n] = s.bmu.slices[n])
  tiles : ∀ b, b ∈ t.bel.tiles → b ∈ s.bel.tiles ∧ ∀ n : Fin 4, p (.stack n) → b.col / 10 ≠ n.val

/-- A reset of parts leaves the write alone. -/
theorem PartsReset.job {p : Part → Prop} (h : PartsReset p s t) : t.job = s.job := by
  obtain ⟨_, _, _, _, _, _, _, _, _, _, rfl⟩ := h.frame
  rfl

/-- A change that takes no part. -/
theorem PartsReset.none {r v o j w c k} (hsteady : Steady s t)
    (hprog : t.comb.re = s.comb.re ∧ t.comb.ce = s.comb.ce)
    (hframe : t = { s with regs := r, evt := v, out := o, journal := j, power := w, comb := c, blk := k }) :
    PartsReset (fun _ => False) s t := by
  refine ⟨⟨r, v, o, j, w, _, c, _, _, k, hframe⟩, hsteady, hprog, fun _ => ⟨False.elim, fun _ => ?_⟩,
    fun _ => ⟨False.elim, fun _ => ?_⟩, fun b hb => ⟨?_, fun _ => False.elim⟩⟩
  · rw [hframe]
  · rw [hframe]
  · rwa [hframe] at hb

theorem PartsReset.raise {src info cseq : Nat} (hu : RegMap.usedSource src = true) (hs : src < 256) :
    PartsReset (fun _ => False) s (raise src info cseq s) :=
  .none (.raise hu hs) (by rw [raise_comb]; exact ⟨rfl, rfl⟩) (raise_frame src info cseq s)

theorem PartsReset.congr {p q : Part → Prop} (h : PartsReset p s t) (hpq : ∀ x, p x ↔ q x) : PartsReset q s t := by
  rwa [← funext fun x => propext (hpq x)]

theorem PartsReset.trans {p q : Part → Prop} (h : PartsReset p s t) (k : PartsReset q t u) (hpq : ∀ x, p x → ¬ q x) :
    PartsReset (fun x => p x ∨ q x) s u := by
  refine ⟨?_, h.steady.trans k.steady, ⟨k.programs.1.trans h.programs.1, k.programs.2.trans h.programs.2⟩, fun e => ?_,
    fun n => ?_, fun b hb => ?_⟩
  · obtain ⟨_, _, _, _, _, _, _, _, _, _, rfl⟩ := h.frame
    obtain ⟨_, _, _, _, _, _, _, _, _, _, rfl⟩ := k.frame
    exact ⟨_, _, _, _, _, _, _, _, _, _, rfl⟩
  · obtain ⟨hreset, hkept⟩ := h.engines e
    obtain ⟨kreset, kkept⟩ := k.engines e
    refine ⟨fun hpart => ?_, fun hnone => (kkept fun hq => hnone (.inr hq)).trans (hkept fun hp => hnone (.inl hp))⟩
    obtain hp | hq := hpart
    · rw [kkept (hpq _ hp), hreset hp]
    · rw [kreset hq, engImage_congr h.programs, hkept fun hp => hpq _ hp hq]
  · obtain ⟨hreset, hkept⟩ := h.slices n
    obtain ⟨kreset, kkept⟩ := k.slices n
    refine ⟨fun hpart => ?_, fun hnone => (kkept fun hq => hnone (.inr hq)).trans (hkept fun hp => hnone (.inl hp))⟩
    obtain hp | hq := hpart
    · rw [kkept (hpq _ hp)]
      exact hreset hp
    · rw [← hkept fun hp => hpq _ hp hq]
      exact kreset hq
  · obtain ⟨hbt, hbq⟩ := k.tiles b hb
    obtain ⟨hbs, hbp⟩ := h.tiles b hbt
    exact ⟨hbs, fun n hn => hn.elim (hbp n) (hbq n)⟩

/-- A change that takes no part, after a reset. -/
theorem PartsReset.andThen {p : Part → Prop} (h : PartsReset p s t) (k : PartsReset (fun _ => False) t u) :
    PartsReset p s u := (h.trans k fun _ _ => id).congr fun _ => or_iff_left id

/-! ### The reset of each part -/

theorem EnginesReset.parts {q : Fin 148 → Prop} (h : EnginesReset q s t) : PartsReset (engineParts q) s t := by
  obtain ⟨⟨r, v, x, c, hframe⟩, hprog, -, hsteady, hreset, hkept⟩ := h
  refine ⟨⟨r, v, _, _, _, x, c, _, _, _, hframe⟩, hsteady, hprog, fun e => ⟨hreset e, hkept e⟩,
    fun n => ⟨False.elim, fun _ => ?_⟩, fun b hb => ⟨?_, fun n => False.elim⟩⟩
  · rw [hframe]
  · rwa [hframe] at hb

theorem combReset_parts (c : Fin 12) (s : State) :
    PartsReset (engineParts fun k => k.val < 144 ∧ k.val / 12 = c.val) s (combReset c s) ∧
      (RegsWf s → Pending (combReset c s) 68) := by
  obtain ⟨u, hreset, heq⟩ := combReset_effect c s
  rw [heq]
  let y : State := { u with comb := { u.comb with gen := u.comb.gen.set c (u.comb.gen[c] + 1) } }
  have hgen : PartsReset (fun _ => False) u y := .none (.of_regs rfl) ⟨rfl, rfl⟩ rfl
  have hy := hreset.parts.andThen hgen
  exact ⟨hy.andThen (.raise (by decide) (by decide)),
    fun hw => pending_raise (by decide) (by decide) (hy.steady.wf hw)⟩

theorem correctionReset_parts (n : Fin 4) (s : State) :
    PartsReset (engineParts fun k => k.val = 144 + n.val) s (correctionReset n s) :=
  (EnginesReset.engReset _ s).parts.congr fun x => by
    cases x <;> simp [engineParts, Fin.ext_iff]

theorem sliceReset_parts (n : Fin 4) (s : State) :
    PartsReset (· = .slice n) s (sliceReset n.val s) ∧ (RegsWf s → Pending (sliceReset n.val s) 112) := by
  let y : State := { s with bmu := { s.bmu with
    slices := upd s.bmu.slices n.val (fun x : Slice => { x with gen := x.gen + 1, codes := [] }) } }
  have hy : Steady s y := .of_regs rfl
  have hparts : PartsReset (· = .slice n) s y := by
    refine ⟨⟨_, _, _, _, _, _, _, _, _, _, rfl⟩, hy, ⟨rfl, rfl⟩, fun e => ⟨fun h => by simp at h, fun _ => rfl⟩, fun m => ?_,
      fun b hb => ⟨hb, fun m hm => by simp at hm⟩⟩
    have hslice : y.bmu.slices[m] = if n = m then { s.bmu.slices[m] with gen := (s.bmu.slices[m]).gen + 1, codes := [] }
        else s.bmu.slices[m] := upd_fin _ _ _ _
    rw [hslice]
    refine ⟨fun hm => ?_, fun hm => if_neg fun hnm => hm (by rw [hnm])⟩
    rw [if_pos (Part.slice.inj hm).symm]
    exact ⟨rfl, rfl⟩
  exact ⟨hparts.andThen (.raise (by decide) (by decide)), fun hw => pending_raise (by decide) (by decide) (hy.wf hw)⟩

theorem stackReset_parts (n : Fin 4) (s : State) :
    PartsReset (· = .stack n) s (stackReset n.val s) ∧ (RegsWf s → Pending (stackReset n.val s) 211) := by
  let y : State := { s with bel := { s.bel with
    tiles := s.bel.tiles.filter (fun t => stackOf t.col != n.val), gen := upd s.bel.gen n.val (· + 1) } }
  have hy : Steady s y := .of_regs rfl
  have hparts : PartsReset (· = .stack n) s y := by
    refine ⟨⟨_, _, _, _, _, _, _, _, _, _, rfl⟩, hy, ⟨rfl, rfl⟩, fun e => ⟨fun h => by simp at h, fun _ => rfl⟩,
      fun m => ⟨fun h => by simp at h, fun _ => rfl⟩, fun b hb => ?_⟩
    obtain ⟨hmem, hstack⟩ := List.mem_filter.mp hb
    refine ⟨hmem, fun m hm => ?_⟩
    obtain rfl := Part.stack.inj hm
    simpa [stackOf] using hstack
  exact ⟨hparts.andThen (.raise (by decide) (by decide)), fun hw => pending_raise (by decide) (by decide) (hy.wf hw)⟩

/-! ### A port of the link (R234) -/

theorem markAll_frame (ws : List Nat) (s : State) :
    (∃ r v l, markAll ws s = { s with regs := r, evt := v, blk := { s.blk with lanes := l } }) ∧ Steady s (markAll ws s) := by
  induction ws generalizing s with
  | nil => exact ⟨⟨_, _, _, rfl⟩, .refl⟩
  | cons w ws ih =>
    obtain ⟨⟨r, v, l, hframe⟩, hsteady⟩ : (∃ r v l, markAbsent w s = { s with
        regs := r, evt := v, blk := { s.blk with lanes := l } }) ∧ Steady s (markAbsent w s) := by
      unfold markAbsent
      split
      · exact ⟨⟨_, _, _, rfl⟩, .refl⟩
      · have habsent : Steady s (updLane w (fun l => { l with absent := true, lock := false }) s) := .of_regs rfl
        exact ⟨⟨_, _, _, raise_frame _ _ _ _⟩, habsent.trans (.raise (by decide) (by decide))⟩
    obtain ⟨⟨r', v', l', hrest⟩, hrests⟩ := ih (markAbsent w s)
    exact ⟨⟨r', v', l', by rw [markAll, List.foldl_cons, ← markAll, hrest, hframe]⟩, hsteady.trans hrests⟩

/-- Without a write the reset of a part of the write path halts nothing. -/
theorem addCause_idle {c : Cause} (hw : s.job.write = none) : addCause c s = s :=
  if_neg (by simp [writeLive, hw])

/-- A port whose generations have advanced, with event 175. -/
def portAdvanced (p : Nat) (s : State) : State :=
  raise 175 (laneOf p 0) (wseq s)
    { s with blk := { s.blk with gen := s.blk.gen + 1, portGen := upd s.blk.portGen p (· + 1) } }

theorem portReset_idle_eq (p : Nat) (hw : s.job.write = none) :
    portReset p s = linkHeld (markAll (portLanes p) (portAdvanced p s)) := by
  obtain ⟨⟨_, _, _, hframe⟩, -⟩ := markAll_frame (portLanes p) (portAdvanced p s)
  have hnone : (markAll (portLanes p) (portAdvanced p s)).job.write = none := by
    rw [hframe, portAdvanced, raise_job]
    exact hw
  have heq : portReset p s = drainCheck (refreshFrontier (linkHeld
      (addCause (plainCause 3) (markAll (portLanes p) (portAdvanced p s))))) := rfl
  rw [heq, addCause_idle hnone]
  generalize markAll (portLanes p) (portAdvanced p s) = z at hnone
  have hlink : (linkHeld z).job.write = none := hnone
  have hfront : refreshFrontier (linkHeld z) = linkHeld z := if_pos (by rw [hlink]; rfl)
  have hdrain : draining (linkHeld z) = false := by simp [draining, hlink]
  rw [hfront, drainCheck, hdrain, Bool.false_and, if_neg Bool.false_ne_true]

/-- A port reset while no write executes: its lanes are absent, both generations advance, and the link is held. -/
theorem portReset_idle (p : Nat) (hw : s.job.write = none) :
    (∃ r v l, portReset p s = { s with regs := r, evt := v, blk := { s.blk with
      lanes := l, gen := s.blk.gen + 1, portGen := upd s.blk.portGen p (· + 1), st := 9, atSpare := false,
      waking := false } }) ∧
      Steady s (portReset p s) ∧ (RegsWf s → Pending (portReset p s) 175) := by
  let y : State := { s with blk := { s.blk with gen := s.blk.gen + 1, portGen := upd s.blk.portGen p (· + 1) } }
  have hy : Steady s y := .of_regs rfl
  have hraise : Steady y (portAdvanced p s) := .raise (by decide) (by decide)
  have hframe : portAdvanced p s = { y with regs := (portAdvanced p s).regs, evt := (portAdvanced p s).evt } :=
    raise_frame _ _ _ y
  have hpend (hw : RegsWf s) : Pending (portAdvanced p s) 175 := pending_raise (by decide) (by decide) (hy.wf hw)
  rw [portReset_idle_eq p hw]
  generalize portAdvanced p s = z at *
  obtain ⟨⟨r, v, l, hmarked⟩, hmarks⟩ := markAll_frame (portLanes p) z
  have hheld (x : State) : Steady x (linkHeld x) := .of_regs rfl
  have hlast := hmarks.trans (hheld _)
  refine ⟨⟨r, v, l, ?_⟩, (hy.trans hraise).trans hlast, fun hw => ?_⟩
  · rw [hmarked, hframe]
    rfl
  · exact hlast.pending (hraise.wf (hy.wf hw)) 175 (by decide) (hpend hw)

theorem portReset_parts (p : Nat) (hw : s.job.write = none) : PartsReset (fun _ => False) s (portReset p s) := by
  obtain ⟨⟨r, v, l, hframe⟩, hsteady, -⟩ := portReset_idle p hw
  exact .none hsteady (by rw [hframe]; exact ⟨rfl, rfl⟩) hframe

/-! ### The record of a reset (R358) -/

theorem exportLog_frame (kind : Nat) (b : Bytes) (s : State) : ∃ o, exportLog kind b s = { s with out := o } := by
  unfold exportLog
  split <;> exact ⟨_, rfl⟩

theorem journalPut_frame (x : JRec) (s : State) : ∃ o j, journalPut x s = { s with out := o, journal := j } := by
  obtain ⟨o, ho⟩ := exportLog_frame 1 { x with rseq := nextRseq s }.bytes
    { s with journal := { x with rseq := nextRseq s } :: s.journal.take (journalRing - 1) }
  exact ⟨o, _, ho⟩

theorem journalCopies_frame (n : Nat) (s : State) :
    ∃ r v o j, journalCopies n s = { s with regs := r, evt := v, out := o, journal := j } := by
  induction n generalizing s with
  | zero => exact ⟨_, _, _, _, rfl⟩
  | succ n ih =>
    unfold journalCopies
    split
    · next x _ =>
      let y : JRec := { x with
        body := Bits.slice x.body 0 28 ++ Bits.natLe (Bits.setBits (Bits.field x.body 28 4) 1 1 1) 4 }
      obtain ⟨o, j, hput⟩ := journalPut_frame y s
      obtain ⟨r, v, o', j', hrest⟩ := ih (raise 17 0 0 (journalPut y s))
      exact ⟨r, v, o', j', by rw [hrest, raise_frame, hput]⟩
    · exact ⟨_, _, _, _, rfl⟩

/-- The record of a reset is journalled, and the power state names the reset. -/
theorem resetRecord_effect (kind detail : Nat) (s : State) :
    (∃ r v o j, resetRecord kind detail s = { s with
      regs := r, evt := v, out := o, journal := j,
      power := { s.power with lastKind := kind, lastDetail := detail } }) ∧
      Steady s (resetRecord kind detail s) ∧ ∃ x, x ∈ (resetRecord kind detail s).journal ∧ x.kind = 6 := by
  obtain ⟨x, hhead, hkind⟩ := journalAdd_head (s := s) (kind := 6) (opcode := 0) (status := 0) (cause := 0) (cseq := 0)
    (detail := 0) (body := Bits.natLe (kind + 256 * detail) 2)
  refine ⟨?_, ⟨fun hw => (resetRecord_regs hw).1, fun hw k hk hp => journalAdd_keepsPending hk hw hp⟩,
    x, List.mem_of_mem_head? hhead, hkind⟩
  obtain ⟨r, v, o, j, hcopies⟩ := journalCopies_frame (s.job.live.length + 1) s
  unfold resetRecord journalAdd
  extract_lets y
  obtain ⟨o', j', hput⟩ := journalPut_frame y (journalCopy s)
  rw [hput, journalCopy, hcopies]
  exact ⟨_, _, _, _, rfl⟩

theorem resetRecord_parts (kind detail : Nat) (s : State) :
    PartsReset (fun _ => False) s (resetRecord kind detail s) := by
  obtain ⟨⟨r, v, o, j, hframe⟩, hsteady, -⟩ := resetRecord_effect kind detail s
  exact .none hsteady (by rw [hframe]; exact ⟨rfl, rfl⟩) hframe

/-! ### Resets of several units one after the other -/

/-- Units of four reset in the order of a list, each with its own parts and its own event. -/
theorem foldl_parts {parts : Fin 4 → Part → Prop} {f : Fin 4 → State → State} {src : Nat}
    (hdisjoint : ∀ n m x, parts n x → parts m x → n = m)
    (hf : ∀ n (t : State), t.job.write = none → PartsReset (parts n) t (f n t) ∧ (RegsWf t → Pending (f n t) src))
    {l : List (Fin 4)} (hl : l.Nodup) (hw : s.job.write = none) :
    PartsReset (fun x => ∃ n ∈ l, parts n x) s (l.foldl (fun t n => f n t) s) ∧
      (RegsWf s → l ≠ [] → Pending (l.foldl (fun t n => f n t) s) src) := by
  induction l generalizing s with
  | nil =>
    have hnone : PartsReset (fun _ => False) s s := .none .refl ⟨rfl, rfl⟩ rfl
    exact ⟨hnone.congr fun x => by simp, fun _ h => absurd rfl h⟩
  | cons n l ih =>
    obtain ⟨hn, hrest⟩ := List.nodup_cons.mp hl
    obtain ⟨hparts, hpend⟩ := hf n s hw
    obtain ⟨hparts', hpend'⟩ := ih hrest (s := f n s) (by rw [hparts.job]; exact hw)
    refine ⟨(hparts.trans hparts' ?_).congr fun x => by simp, fun hwf _ => ?_⟩
    · rintro x hx ⟨m, hm, hmx⟩
      exact hn (hdisjoint n m x hx hmx ▸ hm)
    · cases l with
      | nil => exact hpend hwf
      | cons m l => exact hpend' (hparts.steady.wf hwf) (by simp)

/-! ### A quadrant die (R358 kind 4) -/

theorem quadrantParts_disjoint (n m : Fin 4) (x : Part) (hn : quadrantParts n x) (hm : quadrantParts m x) : n = m := by
  apply Fin.ext
  cases x <;> simp only [quadrantParts] at hn hm <;> omega

/-- The three combs of a quadrant. -/
theorem quadrantCombs_parts (n : Fin 4) (s : State) :
    let t := [0, 1, 2].foldl (fun t i => combReset (Fin.ofNat 12 (3 * n.val + i)) t) s
    PartsReset (engineParts fun k => k.val < 144 ∧ k.val / 36 = n.val) s t ∧ (RegsWf s → Pending t 68) := by
  have hcomb (i : Nat) (hi : i < 3) (x : State) :
      PartsReset (engineParts fun k => k.val < 144 ∧ k.val / 12 = 3 * n.val + i) x
        (combReset (Fin.ofNat 12 (3 * n.val + i)) x) ∧
      (RegsWf x → Pending (combReset (Fin.ofNat 12 (3 * n.val + i)) x) 68) := by
    have hval : (Fin.ofNat 12 (3 * n.val + i)).val = 3 * n.val + i := Nat.mod_eq_of_lt (by omega)
    have h := combReset_parts (Fin.ofNat 12 (3 * n.val + i)) x
    rwa [hval] at h
  obtain ⟨h0, -⟩ := hcomb 0 (by decide) s
  obtain ⟨h1, -⟩ := hcomb 1 (by decide) (combReset (Fin.ofNat 12 (3 * n.val + 0)) s)
  obtain ⟨h2, hpend⟩ := hcomb 2 (by decide)
    (combReset (Fin.ofNat 12 (3 * n.val + 1)) (combReset (Fin.ofNat 12 (3 * n.val + 0)) s))
  have h01 := h0.trans h1 fun x => by
    cases x <;> simp [engineParts]
    omega
  have h012 := h01.trans h2 fun x => by
    cases x <;> simp [engineParts]
    omega
  refine ⟨h012.congr fun x => ?_, fun hw => hpend (h01.steady.wf hw)⟩
  cases x <;> simp [engineParts]
  omega

/-- The numbers of the four units of a kind. -/
theorem four_eq_finRange : [0, 1, 2, 3] = (List.finRange 4).map Fin.val := rfl

/-- The four ports of a quadrant, while no write executes. -/
theorem quadrantPorts_parts (n : Fin 4) (hw : s.job.write = none) :
    let t := [0, 1, 2, 3].foldl (fun t i => portReset (4 * n.val + i) t) s
    PartsReset (fun _ => False) s t ∧ (RegsWf s → Pending t 175) := by
  rw [four_eq_finRange, List.foldl_map]
  obtain ⟨hparts, hpend⟩ := foldl_parts (parts := fun _ _ => False) (f := fun i t => portReset (4 * n.val + i.val) t)
    (fun _ _ _ h => h.elim) (fun i t ht => by
      obtain ⟨-, -, hpend⟩ := portReset_idle (4 * n.val + i.val) ht
      exact ⟨portReset_parts _ ht, hpend⟩) (List.nodup_finRange 4) hw
  exact ⟨hparts.congr fun x => by simp, fun hwf => hpend hwf (by decide)⟩

/-- A quadrant die that is reset while no write executes. -/
theorem quadrantReset_parts (n : Fin 4) (hw : s.job.write = none) :
    PartsReset (quadrantParts n) s (quadrantReset n s) ∧
      (RegsWf s → Pending (quadrantReset n s) 68 ∧ Pending (quadrantReset n s) 112 ∧ Pending (quadrantReset n s) 175 ∧
        Pending (quadrantReset n s) 211) := by
  have hrecord := resetRecord_parts 4 n.val s
  have hidle : partReset (resetRecord 4 n.val s) = resetRecord 4 n.val s := addCause_idle (by rw [hrecord.job]; exact hw)
  unfold quadrantReset
  rw [hidle]
  dsimp only
  obtain ⟨hcombs, h68⟩ := quadrantCombs_parts n (resetRecord 4 n.val s)
  generalize hc : [0, 1, 2].foldl (fun t i => combReset (Fin.ofNat 12 (3 * n.val + i)) t) (resetRecord 4 n.val s) = c at *
  have hcorrection := correctionReset_parts n c
  obtain ⟨hslice, h112⟩ := sliceReset_parts n (correctionReset n c)
  obtain ⟨hstack, h211⟩ := stackReset_parts n (sliceReset n.val (correctionReset n c))
  generalize hb : correctionReset n c = b at *
  have h1 := hrecord.trans hcombs fun _ h => h.elim
  have h2 := h1.trans hcorrection fun x => by cases x <;> simp [engineParts]; omega
  have h3 := h2.trans hslice fun x => by cases x <;> simp [engineParts]
  have h4 := h3.trans hstack fun x => by cases x <;> simp [engineParts]
  obtain ⟨hports, h175⟩ := quadrantPorts_parts n (s := stackReset n.val (sliceReset n.val b)) (by rw [h4.job]; exact hw)
  refine ⟨(h4.andThen hports).congr fun x => ?_, fun hwf => ⟨?_, ?_, ?_, ?_⟩⟩
  · cases x <;> simp [engineParts, quadrantParts]
  · have hrest := ((hcorrection.steady.trans hslice.steady).trans hstack.steady).trans hports.steady
    exact hrest.pending (h1.steady.wf hwf) 68 (by decide) (h68 (hrecord.steady.wf hwf))
  · exact (hstack.steady.trans hports.steady).pending (h3.steady.wf hwf) 112 (by decide) (h112 (h2.steady.wf hwf))
  · exact h175 (h4.steady.wf hwf)
  · exact hports.steady.pending (h4.steady.wf hwf) 211 (by decide) (h211 (h3.steady.wf hwf))

/-- The quadrants that a write of `HIF.DOMAIN_RESET` names. -/
def namedQuads (v : Word) : List (Fin 4) := (List.finRange 4).filter (fun n => Bits.bit v.toNat (16 + n.val))

/-- The quadrants of a list reset in turn. -/
def quadrantsReset (l : List (Fin 4)) (s : State) : State := l.foldl (fun t n => quadrantReset n t) s

theorem mem_namedQuads {v : Word} {n : Fin 4} : n ∈ namedQuads v ↔ Bits.bit v.toNat (16 + n.val) = true := by
  simp [namedQuads]

/-- The quadrants of a list, reset while no write executes. -/
theorem quadrantsReset_parts {l : List (Fin 4)} (hl : l.Nodup) (hw : s.job.write = none) :
    PartsReset (fun x => ∃ n ∈ l, quadrantParts n x) s (quadrantsReset l s) := by
  obtain ⟨hparts, -⟩ := foldl_parts (src := 68) quadrantParts_disjoint (fun n t ht => by
    obtain ⟨hquad, hpend⟩ := quadrantReset_parts n ht
    exact ⟨hquad, fun hwf => (hpend hwf).1⟩) hl hw
  exact hparts

theorem quadrantsReset_pending {l : List (Fin 4)} (hl : l.Nodup) (hne : l ≠ []) (hw : s.job.write = none) (hwf : RegsWf s)
    {src : Nat} (hsrc : src ∈ [68, 112, 175, 211]) : Pending (quadrantsReset l s) src := by
  obtain ⟨-, hpend⟩ := foldl_parts (src := src) quadrantParts_disjoint (fun n t ht => by
    obtain ⟨hquad, hpend⟩ := quadrantReset_parts n ht
    refine ⟨hquad, fun hwf => ?_⟩
    obtain ⟨h68, h112, h175, h211⟩ := hpend hwf
    simp only [List.mem_cons, List.not_mem_nil, or_false] at hsrc
    rcases hsrc with rfl | rfl | rfl | rfl
    exacts [h68, h112, h175, h211]) hl hw
  exact hpend hwf hne

/-! ### The write halts, and the power state names the reset -/

theorem Settles.partReset (h : Settles s t) : Settles s (partReset t) := h.addCause

theorem partReset_halted (s : State) : Halted (partReset s) := addCause_halted rfl rfl s

theorem Settles.sliceReset {n} (h : Settles s t) : Settles s (sliceReset n t) := Settles.raise (h.same rfl rfl)
theorem Settles.stackReset {n} (h : Settles s t) : Settles s (stackReset n t) := Settles.raise (h.same rfl rfl)
theorem Settles.correctionReset {n} (h : Settles s t) : Settles s (correctionReset n t) := h.engReset

theorem Settles.markAll {ws} (h : Settles s t) : Settles s (markAll ws t) := by
  obtain ⟨⟨_, _, _, hframe⟩, -⟩ := markAll_frame ws t
  exact h.same (by rw [hframe]) (by rw [hframe])

theorem Settles.portAdvanced {p} (h : Settles s t) : Settles s (portAdvanced p t) := by
  unfold Machine.portAdvanced
  exact h.same.raise

theorem portReset_eq (p : Nat) (s : State) : portReset p s = drainCheck (refreshFrontier (linkHeld
    (addCause (plainCause 3) (markAll (portLanes p) (portAdvanced p s))))) := rfl

/-- A port reset, whatever executes: the power state stays and a write halts. -/
theorem portReset_settled (p : Nat) (s : State) : Settles s (portReset p s) ∧ Halted (portReset p s) := by
  have hmarked : Settles s (markAll (portLanes p) (portAdvanced p s)) := Settles.refl.portAdvanced.markAll
  rw [portReset_eq]
  generalize markAll (portLanes p) (portAdvanced p s) = z at *
  have hrest : Settles (addCause (plainCause 3) z) (drainCheck (refreshFrontier (linkHeld (addCause (plainCause 3) z)))) :=
    Settles.refl.linkHeld.refreshFrontier.drainCheck
  exact ⟨hmarked.addCause.trans hrest, hrest.halted (addCause_halted rfl rfl z)⟩

theorem Settles.portReset {p} (h : Settles s t) : Settles s (portReset p t) := h.trans (portReset_settled p t).1

theorem quadrantReset_settled (n : Fin 4) (s : State) :
    Settles (resetRecord 4 n.val s) (quadrantReset n s) ∧ Halted (quadrantReset n s) := by
  have hrest : Settles (partReset (resetRecord 4 n.val s)) (quadrantReset n s) := by
    unfold quadrantReset
    extract_lets s1 s2 s3
    have h2 : Settles s1 s2 := Settles.refl.foldl fun k => k.combReset
    have h3 : Settles s1 s3 := h2.correctionReset.sliceReset.stackReset
    exact h3.foldl fun k => k.portReset
  exact ⟨(Settles.partReset .refl).trans hrest, hrest.halted (partReset_halted _)⟩

theorem resetRecord_power (kind detail : Nat) (s : State) :
    (resetRecord kind detail s).power = { s.power with lastKind := kind, lastDetail := detail } := by
  simp [resetRecord]

theorem quadrantReset_power (n : Fin 4) (s : State) :
    (quadrantReset n s).power = { s.power with lastKind := 4, lastDetail := n.val } := by
  obtain ⟨⟨hpower, -⟩, -⟩ := quadrantReset_settled n s
  rw [hpower, resetRecord_power]

theorem quadrantsReset_cons (n : Fin 4) (l : List (Fin 4)) (s : State) :
    quadrantsReset (n :: l) s = quadrantsReset l (quadrantReset n s) := by
  rw [quadrantsReset, List.foldl_cons, quadrantsReset]

theorem quadrantsReset_on (l : List (Fin 4)) (s : State) : (quadrantsReset l s).power.on = s.power.on := by
  unfold quadrantsReset
  refine foldl_keeps (fun t => t.power.on) (fun t n => ?_) l s
  rw [quadrantReset_power]

theorem quadrantsReset_halted {l : List (Fin 4)} (hl : l ≠ []) (s : State) : Halted (quadrantsReset l s) := by
  induction l generalizing s with
  | nil => exact absurd rfl hl
  | cons n l ih =>
    rw [quadrantsReset_cons]
    obtain ⟨-, hhalted⟩ := quadrantReset_settled n s
    generalize quadrantReset n s = z at hhalted
    cases l with
    | nil => exact hhalted
    | cons m l => exact ih (by simp) z

/-- The last quadrant reset is the one that `GLB.LAST_RESET` names. -/
theorem quadrantsReset_last {l : List (Fin 4)} {q : Fin 4} (hl : l.Pairwise (· < ·)) (hq : q ∈ l)
    (hlast : ∀ r ∈ l, r ≤ q) (s : State) :
    (quadrantsReset l s).power.lastKind = 4 ∧ (quadrantsReset l s).power.lastDetail = q.val := by
  induction l generalizing s with
  | nil => simp at hq
  | cons n l ih =>
    obtain ⟨hn, hrest⟩ := List.pairwise_cons.mp hl
    rw [quadrantsReset_cons]
    have hpower := quadrantReset_power n s
    generalize quadrantReset n s = z at hpower
    cases l with
    | nil =>
      obtain rfl : q = n := by simpa using hq
      rw [quadrantsReset, List.foldl_nil, hpower]
      exact ⟨rfl, rfl⟩
    | cons m l =>
      have hql : q ∈ m :: l := (List.mem_cons.mp hq).resolve_left fun hqn =>
        absurd (hlast m (by simp)) (not_le.mpr (hqn ▸ hn m (by simp)))
      exact ih hrest hql (fun r hr => hlast r (List.mem_cons_of_mem _ hr)) z

/-! ### One domain (R358 kind 5) -/

/-- From `s` to `t` only what the reset of a domain's units may touch has changed. -/
def UnitsOnly (s t : State) : Prop := ∃ r v x c b l a q k, t = { s with
  regs := r, evt := v, eng := x, comb := c, bmu := b, bel := l, axes := a, seq := q, blk := k }

theorem slowCheck_steady (s : State) : Steady s (slowCheck s) := by
  obtain h | ⟨b, h⟩ := slowCheck_cases s
  · rw [h]
    exact .refl
  · have hline : Steady s { s with seq := { s.seq with slow := b } } := .of_regs rfl
    rw [h]
    exact hline.trans (.raise (by cases b <;> decide) (by cases b <;> decide))

/-- STG reset while no write executes: axes and sequencer anew, with event 140; STAGE_SLOW_N may follow (R189, R209). -/
theorem stageReset_idle (hw : s.job.write = none) :
    (∃ r v q, stageReset s = { s with regs := r, evt := v, axes := Vector.ofFn (axisReset s), seq := q } ∧
      q.expose = false ∧ q.ref = s.seq.ref) ∧ (RegsWf s → Pending (stageReset s) 140) := by
  let y : State := { axesReset s with
    seq := { State.reset.seq with gen := s.seq.gen + 1, ref := s.seq.ref, slow := s.seq.slow } }
  have heq : stageReset s = slowCheck (raise 140 0 (wseq s) y) := by
    rw [stageReset, partReset, addCause_idle hw]
    rfl
  have hy : Steady s y := .of_regs rfl
  have hraise : Steady y (raise 140 0 (wseq s) y) := .raise (by decide) (by decide)
  have hframe := raise_frame 140 0 (wseq s) y
  have hpend (hwf : RegsWf s) : Pending (raise 140 0 (wseq s) y) 140 :=
    pending_raise (by decide) (by decide) (hy.wf hwf)
  rw [heq]
  generalize raise 140 0 (wseq s) y = z at *
  obtain ⟨r, v, b, hslow⟩ := slowCheck_frame z
  refine ⟨⟨r, v, { z.seq with slow := b }, ?_, ?_, ?_⟩, fun hwf => ?_⟩
  · rw [hslow, hframe]
    rfl
  · rw [hframe]
    rfl
  · rw [hframe]
  · exact (slowCheck_steady z).pending (hraise.wf (hy.wf hwf)) 140 (by decide) (hpend hwf)

theorem doseReset_parts (hw : s.job.write = none) :
    let t := (List.finRange 4).foldl (fun t n => sliceReset n.val (correctionReset n t)) s
    PartsReset (fun x => ∃ n : Fin 4, engineParts (fun k => k.val = 144 + n.val) x ∨ x = .slice n) s t ∧
      (RegsWf s → Pending t 112) := by
  obtain ⟨hparts, hpend⟩ := foldl_parts (src := 112)
    (parts := fun n x => engineParts (fun k => k.val = 144 + n.val) x ∨ x = .slice n)
    (f := fun n t => sliceReset n.val (correctionReset n t))
    (fun n m x hn hm => by
      apply Fin.ext
      cases x <;> simp [engineParts] at hn hm <;> omega)
    (fun n t _ => by
      have hcorrection := correctionReset_parts n t
      obtain ⟨hslice, hpend⟩ := sliceReset_parts n (correctionReset n t)
      exact ⟨hcorrection.trans hslice fun x => by cases x <;> simp [engineParts],
        fun hwf => hpend (hcorrection.steady.wf hwf)⟩) (List.nodup_finRange 4) hw
  exact ⟨hparts.congr fun x => by simp, fun hwf => hpend hwf (by decide)⟩

theorem stacksReset_parts (hw : s.job.write = none) :
    let t := [0, 1, 2, 3].foldl (fun t n => stackReset n t) s
    PartsReset (fun x => ∃ n : Fin 4, x = .stack n) s t ∧ (RegsWf s → Pending t 211) := by
  rw [four_eq_finRange, List.foldl_map]
  obtain ⟨hparts, hpend⟩ := foldl_parts (src := 211) (parts := fun n x => x = .stack n)
    (f := fun n t => stackReset n.val t) (fun n m x hn hm => Part.stack.inj (hn.symm.trans hm))
    (fun n t _ => stackReset_parts n t) (List.nodup_finRange 4) hw
  exact ⟨hparts.congr fun x => by simp, fun hwf => hpend hwf (by decide)⟩

theorem doseReset_frame (l : List (Fin 4)) (s : State) :
    ∃ r v x c b, l.foldl (fun t n => sliceReset n.val (correctionReset n t)) s = { s with
      regs := r, evt := v, eng := x, comb := c, bmu := b } := by
  induction l generalizing s with
  | nil => exact ⟨_, _, _, _, _, rfl⟩
  | cons n l ih =>
    rw [List.foldl_cons]
    obtain ⟨_, _, _, _, hcorrection⟩ := (EnginesReset.engReset ⟨144 + n.val, by omega⟩ s).frame
    obtain ⟨_, _, _, _, _, hrest⟩ := ih (sliceReset n.val (correctionReset n s))
    rw [hrest, sliceReset, raise_frame, correctionReset, hcorrection]
    exact ⟨_, _, _, _, _, rfl⟩

theorem stacksReset_frame (l : List (Fin 4)) (s : State) :
    ∃ r v b, l.foldl (fun t n => stackReset n.val t) s = { s with regs := r, evt := v, bel := b } := by
  induction l generalizing s with
  | nil => exact ⟨_, _, _, rfl⟩
  | cons n l ih =>
    rw [List.foldl_cons]
    obtain ⟨_, _, _, hrest⟩ := ih (stackReset n.val s)
    rw [hrest, stackReset, raise_frame]
    exact ⟨_, _, _, rfl⟩

theorem combReset_frame (c : Fin 12) (s : State) :
    ∃ r v x y, combReset c s = { s with regs := r, evt := v, eng := x, comb := y } := by
  obtain ⟨u, hreset, heq⟩ := combReset_effect c s
  obtain ⟨_, _, _, _, hframe⟩ := hreset.frame
  rw [heq, raise_frame, hframe]
  exact ⟨_, _, _, _, rfl⟩

/-- Engine `k` is in `t` as its reset leaves it (R236, R39). -/
def EngineFresh (s t : State) (k : Fin 148) : Prop :=
  (∀ r, getG (t.eng[k]) r = 0) ∧ (t.eng[k]).pc = progEntry (engImage s k) ∧ (t.eng[k]).held = none ∧
    (t.eng[k]).gen = (s.eng[k]).gen + 1

theorem PartsReset.fresh {p : Part → Prop} {k : Fin 148} (h : PartsReset p s t) (hk : p (.engine k)) : EngineFresh s t k := by
  obtain ⟨hreset, -⟩ := h.engines k
  obtain ⟨hregs, hpc, -, hheld, -, hgen⟩ := engCleared_values (engImage s k) (s.eng[k])
  rw [EngineFresh, hreset hk]
  exact ⟨hregs, hpc, hheld, hgen⟩

theorem PartsReset.engine_kept {p : Part → Prop} {k : Fin 148} (h : PartsReset p s t) (hk : ¬ p (.engine k)) :
    t.eng[k] = s.eng[k] := by
  obtain ⟨-, hkept⟩ := h.engines k
  exact hkept hk

theorem PartsReset.slice_reset {p : Part → Prop} {n : Fin 4} (h : PartsReset p s t) (hn : p (.slice n)) :
    (t.bmu.slices[n]).codes = [] ∧ (t.bmu.slices[n]).gen = (s.bmu.slices[n]).gen + 1 := by
  obtain ⟨hreset, -⟩ := h.slices n
  exact hreset hn

/-- What the reset of domain `d` takes and what it leaves (R358). -/
def DomainTaken (d : Nat) (s t : State) : Prop :=
  if d = 3 then t.eng = s.eng ∧ t.bmu = s.bmu ∧ t.bel = s.bel ∧ t.seq.expose = false ∧ t.seq.ref = s.seq.ref ∧
    (∀ a : Fin 4, (t.axes[a]).count = 0 ∧ (t.axes[a]).referenced = false) ∧ Pending t 140
  else if d = 4 then t.axes = s.axes ∧ t.bel = s.bel ∧ Pending t 112 ∧
    (∀ q : Fin 4, (t.bmu.slices[q]).codes = [] ∧ (t.bmu.slices[q]).gen = (s.bmu.slices[q]).gen + 1) ∧
    (∀ k : Fin 148, 144 ≤ k.val → EngineFresh s t k) ∧ (∀ k : Fin 148, k.val < 144 → t.eng[k] = s.eng[k])
  else if d = 5 then t.axes = s.axes ∧ t.bmu = s.bmu ∧ t.eng = s.eng ∧ Pending t 211 ∧ (∀ b, b ∈ t.bel.tiles → 40 ≤ b.col)
  else if d < 20 then t.axes = s.axes ∧ t.bmu = s.bmu ∧ t.bel = s.bel ∧ t.blk = s.blk ∧ Pending t 68 ∧
    (∀ k : Fin 148, 8 + k.val / 12 = d → EngineFresh s t k) ∧ (∀ k : Fin 148, 8 + k.val / 12 ≠ d → t.eng[k] = s.eng[k])
  else t.axes = s.axes ∧ t.bmu = s.bmu ∧ t.bel = s.bel ∧ t.eng = s.eng ∧ t.blk.gen = s.blk.gen + 1 ∧ t.blk.st = 9 ∧
    (∀ p : Fin 16, t.blk.portGen[p] = s.blk.portGen[p] + (if p.val + 32 = d then 1 else 0)) ∧ Pending t 175

theorem stageReset_taken (hw : s.job.write = none) (hwf : RegsWf s) :
    UnitsOnly s (stageReset s) ∧ DomainTaken 3 s (stageReset s) := by
  obtain ⟨⟨r, v, q, hframe, hexpose, href⟩, hpend⟩ := stageReset_idle hw
  have hpend := hpend hwf
  generalize stageReset s = t at *
  subst hframe
  refine ⟨⟨_, _, _, _, _, _, _, _, _, rfl⟩, ?_⟩
  rw [DomainTaken, if_pos rfl]
  refine ⟨rfl, rfl, rfl, hexpose, href, fun a => ?_, hpend⟩
  simp [axisReset, axisSettings]

theorem dose_taken (hw : s.job.write = none) (hwf : RegsWf s) :
    UnitsOnly s (domainUnits 4 s) ∧ DomainTaken 4 s (domainUnits 4 s) := by
  have heq : domainUnits 4 s = (List.finRange 4).foldl (fun t n => sliceReset n.val (correctionReset n t)) s := by
    rw [domainUnits, partReset, addCause_idle hw]
    rfl
  obtain ⟨hparts, hpend⟩ := doseReset_parts hw
  obtain ⟨r, v, x, c, b, hframe⟩ := doseReset_frame (List.finRange 4) s
  have hpend := hpend hwf
  rw [← heq] at hparts hpend hframe
  generalize domainUnits 4 s = t at *
  refine ⟨⟨_, _, _, _, _, _, _, _, _, hframe⟩, ?_⟩
  rw [DomainTaken, if_neg (by decide), if_pos rfl]
  refine ⟨by rw [hframe], by rw [hframe], hpend, fun q => hparts.slice_reset ⟨q, .inr rfl⟩, fun k hk => ?_, fun k hk => ?_⟩
  · exact hparts.fresh ⟨⟨k.val - 144, by omega⟩, .inl (show k.val = 144 + (k.val - 144) by omega)⟩
  · refine hparts.engine_kept ?_
    rintro ⟨n, hn | hn⟩
    · exact absurd (show k.val = 144 + n.val from hn) (by omega)
    · exact Part.noConfusion hn

theorem bellows_taken (hw : s.job.write = none) (hwf : RegsWf s) :
    UnitsOnly s (domainUnits 5 s) ∧ DomainTaken 5 s (domainUnits 5 s) := by
  have heq : domainUnits 5 s = [0, 1, 2, 3].foldl (fun t n => stackReset n t) s := by
    rw [domainUnits, partReset, addCause_idle hw]
    rfl
  obtain ⟨hparts, hpend⟩ := stacksReset_parts hw
  obtain ⟨r, v, b, hframe⟩ := stacksReset_frame (List.finRange 4) s
  rw [← List.foldl_map (f := Fin.val) (g := fun t n => stackReset n t), ← four_eq_finRange] at hframe
  have hpend := hpend hwf
  rw [← heq] at hparts hpend hframe
  generalize domainUnits 5 s = t at *
  refine ⟨⟨_, _, _, _, _, _, _, _, _, hframe⟩, ?_⟩
  rw [DomainTaken, if_neg (by decide), if_neg (by decide), if_pos rfl]
  refine ⟨by rw [hframe], by rw [hframe], by rw [hframe], hpend, fun b hb => ?_⟩
  obtain ⟨-, hstack⟩ := hparts.tiles b hb
  by_contra hcol
  exact hstack ⟨b.col / 10, by omega⟩ ⟨_, rfl⟩ rfl

theorem combDomain_taken (c : Fin 12) (hwf : RegsWf s) :
    UnitsOnly s (combReset c s) ∧ DomainTaken (c.val + 8) s (combReset c s) := by
  obtain ⟨hparts, hpend⟩ := combReset_parts c s
  obtain ⟨r, v, x, y, hframe⟩ := combReset_frame c s
  have hpend := hpend hwf
  generalize combReset c s = t at *
  refine ⟨⟨_, _, _, _, _, _, _, _, _, hframe⟩, ?_⟩
  rw [DomainTaken, if_neg (by omega), if_neg (by omega), if_neg (by omega), if_pos (by omega)]
  refine ⟨by rw [hframe], by rw [hframe], by rw [hframe], by rw [hframe], hpend, fun k hk => ?_, fun k hk => ?_⟩
  · exact hparts.fresh (show k.val < 144 ∧ k.val / 12 = c.val by omega)
  · exact hparts.engine_kept fun (h : k.val < 144 ∧ k.val / 12 = c.val) => hk (by omega)

theorem portDomain_taken (p : Fin 16) (hw : s.job.write = none) (hwf : RegsWf s) :
    UnitsOnly s (portReset p.val s) ∧ DomainTaken (p.val + 32) s (portReset p.val s) := by
  obtain ⟨⟨r, v, l, hframe⟩, -, hpend⟩ := portReset_idle p.val hw
  have hpend := hpend hwf
  generalize portReset p.val s = t at *
  refine ⟨⟨_, _, _, _, _, _, _, _, _, hframe⟩, ?_⟩
  rw [DomainTaken, if_neg (by omega), if_neg (by omega), if_neg (by omega), if_neg (by omega)]
  subst hframe
  refine ⟨rfl, rfl, rfl, rfl, rfl, rfl, fun m => ?_, hpend⟩
  refine (upd_fin s.blk.portGen p m (· + 1)).trans ?_
  by_cases hm : p = m
  · rw [if_pos hm, if_pos (by rw [hm])]
  · rw [if_neg hm, if_neg fun h => hm (Fin.ext (by omega))]
    exact (BitVec.add_zero _).symm

theorem resettable_iff {d : Nat} :
    resettable d = true ↔ (3 ≤ d ∧ d ≤ 5) ∨ (8 ≤ d ∧ d ≤ 19) ∨ (32 ≤ d ∧ d ≤ 47) := by
  simp [resettable, or_assoc]

/-- The units of a domain that may be reset, while no write executes. -/
theorem domainUnits_taken {d : Nat} (hd : resettable d = true) (hw : s.job.write = none) (hwf : RegsWf s) :
    UnitsOnly s (domainUnits d s) ∧ DomainTaken d s (domainUnits d s) := by
  obtain hd | ⟨hlo, hhi⟩ | ⟨hlo, hhi⟩ := resettable_iff.mp hd
  · obtain rfl | rfl | rfl : d = 3 ∨ d = 4 ∨ d = 5 := by omega
    exacts [stageReset_taken hw hwf, dose_taken hw hwf, bellows_taken hw hwf]
  · obtain ⟨c, rfl⟩ : ∃ c : Fin 12, d = c.val + 8 := ⟨⟨d - 8, by omega⟩, by simp; omega⟩
    have heq : domainUnits (c.val + 8) s = combReset c s := by
      rw [domainUnits, if_neg (by omega), if_neg (by omega), if_neg (by omega), if_pos (by omega), Nat.add_sub_cancel]
      exact congrArg (combReset · s) (Fin.ext (Nat.mod_eq_of_lt c.isLt))
    rw [heq]
    exact combDomain_taken c hwf
  · obtain ⟨p, rfl⟩ : ∃ p : Fin 16, d = p.val + 32 := ⟨⟨d - 32, by omega⟩, by simp; omega⟩
    have heq : domainUnits (p.val + 32) s = portReset p.val s := by
      rw [domainUnits, if_neg (by omega), if_neg (by omega), if_neg (by omega), if_neg (by omega), Nat.add_sub_cancel]
    rw [heq]
    exact portDomain_taken p hw hwf

/-! ### The write of a domain reset halts (R41) -/

theorem stageReset_settled (s : State) : Settles (partReset s) (stageReset s) := by
  unfold stageReset
  extract_lets s1
  have hunits : Settles (partReset s) { s1 with
      seq := { State.reset.seq with gen := s.seq.gen + 1, ref := s.seq.ref, slow := s1.seq.slow } } := ⟨rfl, id⟩
  exact hunits.raise.slowCheck

/-- A part of the write path stands in the domain (R41, R358): STG, DOSE, the bellows or a port. -/
def OnPath (d : Nat) : Prop := d = 3 ∨ d = 4 ∨ d = 5 ∨ 20 ≤ d

theorem domainUnits_halted (d : Nat) (s : State) (h : OnPath d ∨ Halted s) : Halted (domainUnits d s) := by
  unfold domainUnits
  by_cases h3 : d = 3
  · rw [if_pos h3]
    exact (stageReset_settled s).halted (partReset_halted s)
  rw [if_neg h3]
  by_cases h4 : d = 4
  · rw [if_pos h4]
    exact (Settles.refl.foldl fun k => k.correctionReset.sliceReset).halted (partReset_halted s)
  rw [if_neg h4]
  by_cases h5 : d = 5
  · rw [if_pos h5]
    exact (Settles.refl.foldl fun k => k.stackReset).halted (partReset_halted s)
  rw [if_neg h5]
  by_cases h20 : d < 20
  · rw [if_pos h20]
    refine (Settles.combReset .refl).halted (h.resolve_left ?_)
    rintro (hd | hd | hd | hd) <;> omega
  · rw [if_neg h20]
    obtain ⟨-, hhalted⟩ := portReset_settled (d - 32) s
    exact hhalted

theorem oneDomainReset_halted (d : Nat) (s : State) (h : (OnPath d ∧ resettable d = true) ∨ Halted s) :
    Halted (oneDomainReset d s) := by
  unfold oneDomainReset
  by_cases hd : resettable d = true
  · rw [if_pos hd]
    refine domainUnits_halted d _ (h.imp And.left fun hs => hs.of_write ?_)
    rw [(resetRecord_parts 5 d s).job]
  · rw [if_neg hd]
    have hreg : Settles s (setRegN 0x17001C (2 ^ 31 + d) s) := ⟨rfl, id⟩
    exact hreg.raise.halted (h.resolve_left fun hd' => hd hd'.2)

/-! ### A refusal (R362) -/

theorem domainRefused_effect {d : Nat} (hd : d < 64) (hwf : RegsWf s) :
    (∃ r e, domainRefused d s = { s with regs := r, evt := e }) ∧ Raised [232] s (domainRefused d s) ∧
      regN (domainRefused d s) 0x17001C = 2 ^ 31 + d ∧ SameRegsBut [0x17001C] s (domainRefused d s) := by
  let y : State := setRegN 0x17001C (2 ^ 31 + d) s
  have hreg (off : Nat) : reg y off = if off = 0x17001C then BitVec.ofNat 32 (2 ^ 31 + d) else reg s off :=
    reg_setReg s 0x17001C off _ hwf
  have hy : RegsWf y := setReg_wf s 0x17001C _ hwf
  have hkept : Raised [] s y := raised_nil fun off _ hhi => by rw [hreg, if_neg (by omega)]
  refine ⟨⟨_, _, raise_frame _ _ _ y⟩, hkept.trans (raised_raise (by decide) (by decide) hy), ?_, fun off h1 h2 h3 => ?_⟩
  · rw [regN, domainRefused, reg_raise y 232 d 0 _ hy (by decide) (by decide), hreg, if_pos rfl, BitVec.toNat_ofNat]
    omega
  · rw [domainRefused, sameRegsBut_raise (src := 232) [] (by decide) hy off (by simp) h2 h3, hreg,
      if_neg fun h => h1 (by simp [h])]

/-! ### The write of `HIF.DOMAIN_RESET` -/

theorem namedQuads_sorted (v : Word) : (namedQuads v).Pairwise (· < ·) := (List.pairwise_lt_finRange 4).filter _

theorem namedQuads_nodup (v : Word) : (namedQuads v).Nodup := (List.nodup_finRange 4).filter _

theorem namedQuads_nil (h : ∀ q : Fin 4, ¬ Bits.bit v.toNat (16 + q.val) = true) : namedQuads v = [] :=
  List.eq_nil_iff_forall_not_mem.mpr fun q hq => h q (mem_namedQuads.mp hq)

theorem key_eq (v : Word) : Bits.bits v.toNat 31 24 = v.toNat / 2 ^ 24 :=
  Nat.mod_eq_of_lt (by have := v.isLt; omega)

theorem domainField_eq (v : Word) : Bits.bits v.toNat 5 0 = v.toNat % 64 := by
  rw [Bits.bits, Nat.pow_zero, Nat.div_one]
  rfl

theorem domainResetWrite_unkeyed (h : v.toNat / 2 ^ 24 ≠ 0x9D) : domainResetWrite v s = s := by
  rw [domainResetWrite, key_eq, if_pos h]

/-- A write with the key: the quadrants named, then the domain. -/
theorem domainResetWrite_keyed (h : v.toNat / 2 ^ 24 = 0x9D) : domainResetWrite v s =
    if Bits.bit v.toNat 15 then oneDomainReset (v.toNat % 64) (quadrantsReset (namedQuads v) s)
    else quadrantsReset (namedQuads v) s := by
  rw [domainResetWrite, key_eq, domainField_eq, if_neg (not_not.mpr h), quadrantsReset, namedQuads]

theorem exec_quadReset (v : Word) (s : State) : exec (.quadReset v) s = .next (hifWrite (domainResetWrite v) s) := rfl

theorem exec_domainReset (v : Word) (s : State) : exec (.domainReset v) s = .next (hifWrite (domainResetWrite v) s) := rfl

theorem hifWrite_closed {f : State → State} (h : ¬ HostOpen s) : hifWrite f s = s := if_neg h

/-! ### One write as two: first the quadrants, then the domain -/

theorem bit_eq_testBit (n k : Nat) : Bits.bit n k = n.testBit k := by
  rw [Bits.bit, Nat.testBit_eq_decide_div_mod_eq]
  rfl

theorem bit_and (v m : Word) (k : Nat) : Bits.bit (v &&& m).toNat k = (Bits.bit v.toNat k && Bits.bit m.toNat k) := by
  simp only [bit_eq_testBit, BitVec.toNat_and, Nat.testBit_and]

/-- A field under a mask that covers it. -/
theorem bits_and_mask {m : Word} {hi lo : Nat} (hm : ∀ i, i < hi + 1 - lo → m.getLsbD (i + lo) = true) :
    Bits.bits (v &&& m).toNat hi lo = Bits.bits v.toNat hi lo := by
  refine Nat.eq_of_testBit_eq fun i => ?_
  rw [testBit_bits, testBit_bits, BitVec.testBit_toNat, BitVec.testBit_toNat]
  by_cases hi' : i < hi + 1 - lo
  · simp [hm i hi']
  · simp [hi']

/-- The quadrants alone: the domain's bit masked out. -/
theorem domainResetWrite_quads (h : v.toNat / 2 ^ 24 = 0x9D) :
    domainResetWrite (v &&& 0xFF0F0000) s = quadrantsReset (namedQuads v) s := by
  have hkey : (v &&& 0xFF0F0000).toNat / 2 ^ 24 = 0x9D := by
    rw [← key_eq, bits_and_mask (by decide), key_eq, h]
  have hbit : Bits.bit (v &&& 0xFF0F0000).toNat 15 = false := by
    rw [bit_and]
    exact Bool.and_false _
  have hnamed : namedQuads (v &&& 0xFF0F0000) = namedQuads v := by
    refine List.filter_congr fun q _ => ?_
    have hmask : ∀ q : Fin 4, Bits.bit (0xFF0F0000 : Word).toNat (16 + q.val) = true := by decide
    rw [bit_and, hmask q, Bool.and_true]
  rw [domainResetWrite_keyed hkey, hbit, if_neg Bool.false_ne_true, hnamed]

/-- The domain alone: the quadrants' bits masked out. -/
theorem domainResetWrite_domain (h : v.toNat / 2 ^ 24 = 0x9D) (h15 : Bits.bit v.toNat 15 = true) :
    domainResetWrite (v &&& 0xFF00803F) s = oneDomainReset (v.toNat % 64) s := by
  have hkey : (v &&& 0xFF00803F).toNat / 2 ^ 24 = 0x9D := by
    rw [← key_eq, bits_and_mask (by decide), key_eq, h]
  have hbit : Bits.bit (v &&& 0xFF00803F).toNat 15 = true := by
    rw [bit_and, h15]
    rfl
  have hnamed : namedQuads (v &&& 0xFF00803F) = [] := namedQuads_nil fun q => by
    have hmask : ∀ q : Fin 4, Bits.bit (0xFF00803F : Word).toNat (16 + q.val) = false := by decide
    rw [bit_and, hmask q, Bool.and_false]
    exact Bool.false_ne_true
  rw [domainResetWrite_keyed hkey, hbit, if_pos rfl, hnamed, ← domainField_eq, bits_and_mask (by decide), domainField_eq,
    quadrantsReset, List.foldl_nil]

/-- The quadrants named, without a domain. -/
theorem domainReset_quads (hopen : HostOpen s) (hkey : v.toNat / 2 ^ 24 = 0x9D) (h15 : Bits.bit v.toNat 15 = false) :
    hifWrite (domainResetWrite v) s = quadrantsReset (namedQuads v) s := by
  rw [hifWrite_open _ s hopen, domainResetWrite_keyed hkey, h15, if_neg Bool.false_ne_true]

/-- The quadrants named, then the domain. -/
theorem domainReset_both (hopen : HostOpen s) (hkey : v.toNat / 2 ^ 24 = 0x9D) (h15 : Bits.bit v.toNat 15 = true) :
    hifWrite (domainResetWrite v) s = oneDomainReset (v.toNat % 64) (quadrantsReset (namedQuads v) s) := by
  rw [hifWrite_open _ s hopen, domainResetWrite_keyed hkey, if_pos h15]

/-- A domain without a quadrant. -/
theorem domainReset_alone (hopen : HostOpen s) (hkey : v.toNat / 2 ^ 24 = 0x9D) (h15 : Bits.bit v.toNat 15 = true)
    (hnone : ∀ q : Fin 4, ¬ Bits.bit v.toNat (16 + q.val) = true) :
    hifWrite (domainResetWrite v) s = oneDomainReset (v.toNat % 64) s := by
  rw [domainReset_both hopen hkey h15, namedQuads_nil hnone, quadrantsReset, List.foldl_nil]

/-- A write of both resets is the write of its quadrants followed by that of its domain. -/
theorem domainReset_split (hkey : v.toNat / 2 ^ 24 = 0x9D) (h15 : Bits.bit v.toNat 15 = true)
    (ht : exec (.quadReset (v &&& 0xFF0F0000)) s = .next t) :
    exec (.domainReset (v &&& 0xFF00803F)) t = .next (hifWrite (domainResetWrite v) s) := by
  rw [exec_quadReset] at ht
  obtain rfl := Host.Outcome.next.inj ht
  rw [exec_domainReset]
  by_cases hopen : HostOpen s
  · have hstill : HostOpen (quadrantsReset (namedQuads v) s) := by
      rw [HostOpen, quadrantsReset_on]
      exact hopen
    rw [hifWrite_open _ s hopen, domainResetWrite_quads hkey, hifWrite_open _ _ hstill, domainResetWrite_domain hkey h15,
      domainReset_both hopen hkey h15]
  · rw [hifWrite_closed hopen, hifWrite_closed hopen, hifWrite_closed hopen]

/-- A write of the register that resets a part of the write path leaves no write that has not halted (R41). -/
theorem domainReset_halted (hopen : HostOpen s) (hkey : v.toNat / 2 ^ 24 = 0x9D)
    (hpath : (∃ q : Fin 4, Bits.bit v.toNat (16 + q.val) = true) ∨ (Bits.bit v.toNat 15 = true ∧
      (v.toNat % 64 = 3 ∨ v.toNat % 64 = 4 ∨ v.toNat % 64 = 5 ∨ (32 ≤ v.toNat % 64 ∧ v.toNat % 64 < 48)))) :
    Halted (hifWrite (domainResetWrite v) s) := by
  have hquads (h : ∃ q : Fin 4, Bits.bit v.toNat (16 + q.val) = true) : Halted (quadrantsReset (namedQuads v) s) := by
    obtain ⟨q, hq⟩ := h
    exact quadrantsReset_halted (List.ne_nil_of_mem (mem_namedQuads.mpr hq)) s
  cases h15 : Bits.bit v.toNat 15 with
  | false =>
    rw [domainReset_quads hopen hkey h15]
    exact hquads (hpath.resolve_right fun ⟨h, _⟩ => by simp [h15] at h)
  | true =>
    rw [domainReset_both hopen hkey h15]
    refine oneDomainReset_halted _ _ (hpath.symm.imp (fun ⟨_, hd⟩ => ⟨?_, resettable_iff.mpr (by omega)⟩) hquads)
    unfold OnPath
    omega

/-! ### What one write does while no write executes -/

/-- What no reset of quadrants or of a domain touches. -/
def SameBeside (s t : State) : Prop :=
  t.dram = s.dram ∧ t.mem = s.mem ∧ t.power.on = s.power.on ∧ t.dma = s.dma ∧ t.tim = s.tim ∧ t.sec = s.sec ∧
    t.hif = s.hif ∧ t.pending = s.pending

theorem quadrantsReset_beside {l : List (Fin 4)} (hl : l.Nodup) (hw : s.job.write = none) :
    let t := quadrantsReset l s
    SameBeside s t ∧ t.axes = s.axes ∧ t.seq = s.seq ∧ t.job.live = s.job.live := by
  have hon := quadrantsReset_on l s
  have hparts := quadrantsReset_parts hl hw
  generalize quadrantsReset l s = t at *
  obtain ⟨_, _, _, _, _, _, _, _, _, _, rfl⟩ := hparts.frame
  exact ⟨⟨rfl, rfl, hon, rfl, rfl, rfl, rfl, rfl⟩, rfl, rfl, rfl⟩

theorem quadrantsReset_named {l : List (Fin 4)} {q : Fin 4} (hl : l.Nodup) (hw : s.job.write = none) (hwf : RegsWf s)
    (hq : q ∈ l) : let t := quadrantsReset l s
    (t.bmu.slices[q]).codes = [] ∧ (t.bmu.slices[q]).gen = (s.bmu.slices[q]).gen + 1 ∧
      (∀ k, quadrantParts q (.engine k) → EngineFresh s t k) ∧ (∀ b, b ∈ t.bel.tiles → b.col / 10 ≠ q.val) ∧
      Pending t 68 ∧ Pending t 112 ∧ Pending t 175 ∧ Pending t 211 := by
  have hparts := quadrantsReset_parts hl hw
  have hpend {src : Nat} (hsrc : src ∈ [68, 112, 175, 211]) := quadrantsReset_pending hl (List.ne_nil_of_mem hq) hw hwf hsrc
  obtain ⟨hcodes, hgen⟩ := hparts.slice_reset ⟨q, hq, rfl⟩
  refine ⟨hcodes, hgen, fun k hk => hparts.fresh ⟨q, hq, hk⟩, fun b hb => ?_, hpend (by simp), hpend (by simp),
    hpend (by simp), hpend (by simp)⟩
  obtain ⟨-, hstack⟩ := hparts.tiles b hb
  exact hstack q ⟨q, hq, rfl⟩

theorem quadrantsReset_unnamed {l : List (Fin 4)} {q : Fin 4} (hl : l.Nodup) (hw : s.job.write = none) (hq : q ∉ l) :
    let t := quadrantsReset l s
    t.bmu.slices[q] = s.bmu.slices[q] ∧ ∀ k, quadrantParts q (.engine k) → t.eng[k] = s.eng[k] := by
  have hparts := quadrantsReset_parts hl hw
  have hnone {x : Part} (hx : quadrantParts q x) : ¬ ∃ n ∈ l, quadrantParts n x := by
    rintro ⟨n, hn, hnx⟩
    exact hq (quadrantParts_disjoint q n x hx hnx ▸ hn)
  obtain ⟨-, hslice⟩ := hparts.slices q
  exact ⟨hslice (hnone rfl), fun k hk => hparts.engine_kept (hnone hk)⟩

/-- A domain that may be reset, while no write executes. -/
theorem oneDomainReset_taken {d : Nat} (hd : resettable d = true) (hw : s.job.write = none) (hwf : RegsWf s) :
    let t := oneDomainReset d s
    SameBeside s t ∧ t.power.lastKind = 5 ∧ t.power.lastDetail = d ∧ (∃ r, r ∈ t.journal ∧ r.kind = 6) ∧
      DomainTaken d s t := by
  obtain ⟨⟨r, e, o, j, hframe⟩, hsteady, x, hx, hkind⟩ := resetRecord_effect 5 d s
  obtain ⟨honly, htaken⟩ := domainUnits_taken (s := resetRecord 5 d s) hd (by rw [hframe]; exact hw) (hsteady.wf hwf)
  rw [oneDomainReset, if_pos hd]
  generalize domainUnits d (resetRecord 5 d s) = t at *
  generalize resetRecord 5 d s = z at *
  subst hframe
  obtain ⟨_, _, _, _, _, _, _, _, _, hunits⟩ := honly
  refine ⟨?_, ?_, ?_, ⟨x, ?_, hkind⟩, htaken⟩
  · rw [hunits]
    exact ⟨rfl, rfl, rfl, rfl, rfl, rfl, rfl, rfl⟩
  · rw [hunits]
  · rw [hunits]
  · rw [hunits]
    exact hx

end Sys2Proof.Machine

open Sys2Proof Sys2Proof.Machine in
/-- Settles O36: each reset takes its parts once, in the order of the write, and the parts of two resets are disjoint; a
write that executes halts at the first part of its path that is reset. -/
theorem domainResets : Obligations.DomainResets := by
  unfold Obligations.DomainResets
  intro v s hwf n both fresh same named inQuad
  have hboth {t : State} {P : Host.Outcome State Fault Refusal → Prop} (ht : hifWrite (domainResetWrite v) s = t)
      (hP : P (.next t)) : both P := by
    rw [← ht] at hP
    exact ⟨hP, hP⟩
  clear_value both
  refine ⟨fun hnot => ?_, fun hkey hopen hidle => ⟨fun h15 => ?_, fun h15 hnone => ?_⟩, fun hkey h15 t ht => ?_,
    fun hopen _ _ _ hkey hpath => ?_⟩
  · refine hboth ?_ rfl
    by_cases hopen : HostOpen s
    · exact (hifWrite_open _ s hopen).trans (domainResetWrite_unkeyed (hnot.resolve_right (not_not.mpr hopen)))
    · exact hifWrite_closed hopen
  · have hnodup := namedQuads_nodup v
    obtain ⟨hbeside, haxes, hseq, hjobs⟩ := quadrantsReset_beside hnodup hidle
    refine hboth (domainReset_quads hopen hkey h15)
      ⟨_, rfl, hbeside, haxes, hseq, hjobs, fun hnone => ?_, fun q hq hlast => ?_, fun q hq => ?_, fun q hq => ?_⟩
    · rw [namedQuads_nil hnone]
      rfl
    · exact quadrantsReset_last (namedQuads_sorted v) (mem_namedQuads.mpr hq)
        (fun r hr => hlast r (mem_namedQuads.mp hr)) s
    · exact quadrantsReset_named hnodup hidle hwf (mem_namedQuads.mpr hq)
    · exact quadrantsReset_unnamed hnodup hidle fun hmem => hq (mem_namedQuads.mp hmem)
  · have hwrite := domainReset_alone hopen hkey h15 hnone
    refine ⟨fun hrefused => ?_, fun hallowed => ?_⟩
    · have hd : ¬ resettable (n % 64) = true := fun h => hrefused (resettable_iff.mp h)
      obtain ⟨⟨r, e, hframe⟩, hraised, hreg, hregs⟩ := domainRefused_effect (Nat.mod_lt n (by decide)) hwf
      refine hboth (hwrite.trans (if_neg hd)) ⟨_, rfl, ?_, hraised, hreg, hregs⟩
      rw [hframe]
    · exact hboth hwrite ⟨_, rfl, oneDomainReset_taken (resettable_iff.mpr hallowed) hidle hwf⟩
  · exact hboth rfl (domainReset_split hkey h15 ht).symm
  · have hhalted : Halted (hifWrite (domainResetWrite v) s) := domainReset_halted hopen hkey hpath
    refine hboth rfl ⟨_, rfl, ?_⟩
    cases hres : (hifWrite (domainResetWrite v) s).job.write with
    | none => exact .inl rfl
    | some x => exact .inr ⟨x, rfl, hhalted x hres⟩
end

section
/-!
PROOFS. A fault of the stream (R80): a forage fails and its walk stays as it is; a write halts at its next flash boundary and its
walk begins again (R25, R205, R301). What a record that has been taken leaves of the state it made.
-/

namespace Sys2Proof.Machine

variable {s t u : State} {c : Cause} {p : Pass} {pos : RecPos} {n code page off : Nat}

/-! ### What a halt of the write leaves -/

/-- From `s` to `t` module DRAM, the live commands, the acknowledgements and the causes of the write are kept, of the registers
only STG.HALT_INFO and the count of a capture are written, and a walk at its start stays there. -/
structure HaltKeeps (s t : State) : Prop where
  dram : t.dram = s.dram
  live : t.job.live = s.job.live
  ports : t.blk.ports = s.blk.ports
  causes : t.job.write.map (·.causes) = s.job.write.map (·.causes)
  walk : s.intake.expW = Exp.start → t.intake.expW = Exp.start
  steady : Steady s t
  regs : RegsWf s → SameRegsBut [0x0C002C, 0x0D014C] s t

theorem HaltKeeps.trans (h : HaltKeeps s t) (k : HaltKeeps t u) : HaltKeeps s u :=
  ⟨k.dram.trans h.dram, k.live.trans h.live, k.ports.trans h.ports, k.causes.trans h.causes, fun hs => k.walk (h.walk hs),
    h.steady.trans k.steady, fun hw => (h.regs hw).trans (k.regs (h.steady.wf hw))⟩

/-- A change of other fields. -/
theorem HaltKeeps.same (h : HaltKeeps s t) (hd : u.dram = t.dram := by with_reducible rfl)
    (hl : u.job.live = t.job.live := by with_reducible rfl) (hp : u.blk.ports = t.blk.ports := by with_reducible rfl)
    (hc : u.job.write = t.job.write := by with_reducible rfl) (hx : u.intake = t.intake := by with_reducible rfl)
    (hr : u.regs = t.regs := by with_reducible rfl) : HaltKeeps s u :=
  h.trans ⟨hd, hl, hp, by rw [hc], fun hs => by rwa [hx], .of_regs hr, fun _ _ _ _ _ => by rw [reg, hr, reg]⟩

theorem HaltKeeps.refl : HaltKeeps s s := ⟨rfl, rfl, rfl, rfl, id, .refl, fun _ _ _ _ _ => rfl⟩

theorem HaltKeeps.ite {q : Prop} [Decidable q] (h : HaltKeeps s t) (k : HaltKeeps s u) :
    HaltKeeps s (if q then t else u) := by
  split <;> assumption

theorem HaltKeeps.foldl {α : Type} {l : List α} {f : State → α → State} (h : HaltKeeps s t)
    (hf : ∀ {t x}, HaltKeeps s t → HaltKeeps s (f t x)) : HaltKeeps s (l.foldl f t) := by
  induction l generalizing t with
  | nil => exact h
  | cons x l ih => exact ih (hf h)

theorem HaltKeeps.raise {src info cseq} (h : HaltKeeps s t) (hu : RegMap.usedSource src = true := by decide)
    (hs : src < 256 := by decide) : HaltKeeps s (raise src info cseq t) :=
  h.trans ⟨raise_dram _ _ _ _, by rw [raise_job], by rw [raise_blk], by rw [raise_job], fun hx => by rwa [raise_intake],
    .raise hu hs, fun hw => sameRegsBut_raise _ hs hw⟩

/-- One of the two registers is written. -/
theorem HaltKeeps.setRegN {o v} (h : HaltKeeps s t) (ho : o ∈ [0x0C002C, 0x0D014C] := by decide)
    (hp : 0x010060 ≤ o := by decide) : HaltKeeps s (setRegN o v t) := by
  refine h.trans ⟨rfl, rfl, rfl, rfl, id, .setReg (.inr hp), fun hw off hoff _ _ => ?_⟩
  rw [Machine.setRegN, reg_setReg _ _ _ _ hw]
  exact if_neg (ne_of_mem_of_not_mem ho hoff).symm

theorem HaltKeeps.setWrite {f : Write → Write} (h : HaltKeeps s t) (hf : ∀ w, (f w).causes = w.causes) :
    HaltKeeps s (setWrite f t) := by
  refine h.trans ⟨rfl, rfl, rfl, ?_, id, .of_regs rfl, fun _ _ _ _ _ => rfl⟩
  rw [Machine.setWrite, Option.map_map]
  exact Option.map_congr fun w _ => hf w

theorem HaltKeeps.slowCheck (h : HaltKeeps s t) : HaltKeeps s (slowCheck t) := by
  obtain hc | ⟨b, hc⟩ := slowCheck_cases t
  · rwa [hc]
  · rw [hc]
    have hslow : HaltKeeps s { t with seq := { t.seq with slow := b } } := h.same
    exact hslow.raise (by cases b <;> decide) (by cases b <;> decide)

theorem HaltKeeps.refreshFrontier (h : HaltKeeps s t) : HaltKeeps s (refreshFrontier t) := by
  unfold Machine.refreshFrontier
  split
  · exact h
  · split
    · exact h.ite (h.same (u := { t with blk := { t.blk with unsure := true } })).raise
    · exact h.same

theorem HaltKeeps.send {o} (h : HaltKeeps s t) : HaltKeeps s (send o t) := h.same rfl rfl rfl rfl rfl rfl

theorem HaltKeeps.sendStripeEnd {halted} (h : HaltKeeps s t) : HaltKeeps s (sendStripeEnd halted t) := by
  have hidle : HaltKeeps s (idleAll 2 t) := h.foldl fun k => k.send
  exact (hidle.ite h).foldl fun k => k.send

theorem HaltKeeps.beginDrain {halted} (h : HaltKeeps s t) : HaltKeeps s (beginDrain halted t) := by
  unfold Machine.beginDrain
  extract_lets s1 s2
  have h1 : HaltKeeps s s1 := h.sendStripeEnd.ite h
  have h2 : HaltKeeps s s2 := h1.setWrite fun _ => rfl
  exact h2.same.ite h2

theorem HaltKeeps.dropPass {p} (h : HaltKeeps s t) : HaltKeeps s (dropPass p t) := by
  unfold Machine.dropPass
  exact h.same

/-- The walk of the write starts again. -/
theorem HaltKeeps.endWalk (h : HaltKeeps s t) : HaltKeeps s (endWalk t) :=
  h.trans ⟨rfl, rfl, rfl, rfl, fun _ => rfl, .of_regs rfl, fun _ _ _ _ _ => rfl⟩

theorem HaltKeeps.captureEnd {q} (h : HaltKeeps s t) : HaltKeeps s (captureEnd q t) := by
  have hcleared : HaltKeeps s { t with bmu := { t.bmu with armed := false, capOwner := 0 } } := h.same
  exact hcleared.setRegN.raise.ite h

theorem HaltKeeps.haltCleared {q} (h : HaltKeeps s t) : HaltKeeps s (haltCleared q t) := by
  unfold Machine.haltCleared
  exact h.dropPass.endWalk.captureEnd.same

theorem haltCleared_walk (q : Nat) (s : State) : (haltCleared q s).intake.expW = Exp.start :=
  (HaltKeeps.captureEnd (q := q) (.refl (s := endWalk (dropPass .write s)))).walk rfl

/-- A halt changes what its parts change, and the walk of the write begins again. -/
theorem haltNow_keeps (c : Cause) (s : State) : HaltKeeps s (haltNow c s) ∧ (haltNow c s).intake.expW = Exp.start := by
  unfold haltNow
  extract_lets q s1 k s2 _ s3 s4 s5
  have h1 : HaltKeeps s s1 := .setWrite .refl fun _ => rfl
  have h2 : HaltKeeps s s2 := h1.setRegN
  have h3 : HaltKeeps s s3 := h2.same
  have h5 : HaltKeeps s s5 := h3.raise.raise.ite h3.raise
  have hcleared : HaltKeeps s (haltCleared q (raise 135 0 q s5)) := h5.raise.haltCleared
  have hafter : HaltKeeps (haltCleared q (raise 135 0 q s5)) _ := .slowCheck (.refreshFrontier (.beginDrain (halted := true) .refl))
  exact ⟨hcleared.trans hafter, hafter.walk (haltCleared_walk q _)⟩

/-! ### The halt at a cause of the next flash boundary -/

/-- Where no port has sent FINAL the drain does not end (R231). -/
theorem drainCheck_waits (h : ∀ n : Fin 16, (s.blk.ports[n]).final = none) : drainCheck s = s := by
  have hport : ∀ q, ((portAck s q).final).isSome = false := fun q => by
    unfold portAck
    by_cases hq : q < 16
    · rw [List.getD_eq_getElem _ _ (by simpa using hq)]
      simpa using h ⟨q, hq⟩
    · rw [List.getD_eq_default _ _ (by simpa using hq)]
      rfl
  have hfinal : allFinal s = false := by
    unfold allFinal
    cases ports.filter (counted s) with
    | nil => rfl
    | cons q r => simp [hport q]
  rw [drainCheck, hfinal, Bool.and_false]
  rfl

/-- The write has halted with the cause `c` among those that reached it, its walk has begun again, and nothing else of note has
changed. -/
structure HaltedBy (c : Cause) (s t : State) : Prop where
  dram : t.dram = s.dram
  live : t.job.live = s.job.live
  walk : t.intake.expW = Exp.start
  steady : Steady s t
  regs : RegsWf s → SameRegsBut [0x0C002C, 0x0D014C] s t
  write : ∃ w, t.job.write = some w ∧ w.ending.isSome = true ∧ c ∈ w.causes

/-- A cause for the next flash boundary halts a write that executes; while no port has sent FINAL its drain goes on. -/
theorem addCause_haltedBy (hflash : c.flash = none) (htick : c.tick = none) (hlive : writeLive s = true)
    (hports : ∀ n : Fin 16, (s.blk.ports[n]).final = none) : HaltedBy c s (addCause c s) := by
  have hhalted := addCause_halted hflash htick s
  cases hw : s.job.write with
  | none => simp [writeLive, hw] at hlive
  | some w =>
    let z := setWrite (fun w => { w with causes := w.causes ++ [c] }) s
    let v : Write := { w with causes := w.causes ++ [c] }
    have hz : z.job.write = some v := by simp [z, v, setWrite, hw]
    have hset : Steady s z := .of_regs rfl
    have hend : w.ending.isSome = false := by simpa [writeLive, hw] using hlive
    obtain ⟨d, hd⟩ := lowestCause_some (l := dueCauses v)
      (List.ne_nil_of_mem (a := c) (List.mem_filter.mpr ⟨by simp [v], by simp [hflash, htick]⟩))
    obtain ⟨hkeeps, hwalk⟩ := haltNow_keeps d z
    have hadd : addCause c s = haltNow d z := by
      have hcheck : haltCheck z = drainCheck (haltNow d z) := by
        rw [haltCheck, hz]
        simp [hd, v, Option.isSome_eq_false_iff.mp hend]
      rw [addCause, if_pos hlive]
      exact hcheck.trans (drainCheck_waits fun n => by rw [hkeeps.ports]; exact hports n)
    rw [hadd] at hhalted ⊢
    obtain ⟨x, hx, hcauses⟩ := Option.map_eq_some_iff.mp (hkeeps.causes.trans (congrArg _ hz))
    exact ⟨hkeeps.dram, hkeeps.live, hwalk, hset.trans hkeeps.steady, hkeeps.regs, x, hx, hhalted x hx, by simp [hcauses, v]⟩

/-! ### A stream fault (R80) -/

/-- The cause with which a stream fault reaches a write. -/
def faultCause (code page off : Nat) : Cause :=
  { code := 0, flash := none, arg0 := page, arg1 := off, axis := 0, status := 6, dcode := code, dsource := 2 }

/-- Event 35 is pending and the fault registers of the intake hold a code, a page and an offset (03). -/
def FaultNoted (code page off : Nat) (t : State) : Prop :=
  Pending t 35 ∧ reg t 0x040044 = BitVec.ofNat 32 code ∧ reg t 0x040048 = BitVec.ofNat 32 page ∧
    reg t 0x040050 = BitVec.ofNat 32 off

/-- The fault registers written and event 35 raised, before the command of the pass ends. -/
def faultShown (p : Pass) (code page off : Nat) (s : State) : State :=
  raise 35 0 (passSeq s p) (faultRegs code page off s)

theorem faultShown_frame (p : Pass) (code page off : Nat) (s : State) :
    ∃ r v, faultShown p code page off s = { s with regs := r, evt := v } :=
  ⟨_, _, raise_frame _ _ _ _⟩

theorem faultShown_noted (hwf : RegsWf s) :
    RegsWf (faultShown p code page off s) ∧ FaultNoted code page off (faultShown p code page off s) := by
  have h1 : RegsWf (setRegN 0x040044 code s) := setReg_wf _ _ _ hwf
  have h2 : RegsWf (setRegN 0x040048 page (setRegN 0x040044 code s)) := setReg_wf _ _ _ h1
  have h3 : RegsWf (setReg64 0x040048 page (setRegN 0x040044 code s)) := setReg_wf _ _ _ h2
  have h4 : RegsWf (faultRegs code page off s) := setReg_wf _ _ _ h3
  have hkept {o : Nat} (ho : 0x010060 ≤ o) :
      reg (faultShown p code page off s) o = reg (faultRegs code page off s) o :=
    reg_raise _ _ _ _ _ h4 (by omega) (by omega)
  have hread (o : Nat) : reg (faultRegs code page off s) o =
      if o = 0x040050 then BitVec.ofNat 32 off else if o = 0x04004C then BitVec.ofNat 32 (page / 4294967296)
      else if o = 0x040048 then BitVec.ofNat 32 page else if o = 0x040044 then BitVec.ofNat 32 code else reg s o := by
    rw [faultRegs, setRegN, reg_setReg _ _ _ _ h3, setReg64, setRegN, reg_setReg _ _ _ _ h2, setRegN,
      reg_setReg _ _ _ _ h1, setRegN, reg_setReg _ _ _ _ hwf]
  refine ⟨raise_wf _ _ _ _ h4, pending_raise (by decide) (by decide) h4, ?_, ?_, ?_⟩ <;>
    exact (hkept (by decide)).trans ((hread _).trans rfl)

/-- What is noted stays noted where only the registers of a halt are written. -/
theorem FaultNoted.keep (h : FaultNoted code page off s) (hwf : RegsWf s) (hsteady : Steady s t)
    (hregs : SameRegsBut [0x0C002C, 0x0D014C] s t) : FaultNoted code page off t := by
  obtain ⟨hpending, hcode, hpage, hoff⟩ := h
  have hkept {o : Nat} (ho : o ∉ [0x0C002C, 0x0D014C]) (hp : 0x010060 ≤ o) : reg t o = reg s o :=
    hregs o ho (by omega) (by omega)
  exact ⟨hsteady.pending hwf _ (by decide) hpending, (hkept (by decide) (by decide)).trans hcode,
    (hkept (by decide) (by decide)).trans hpage, (hkept (by decide) (by decide)).trans hoff⟩

/-- A forage that a stream fault ends. -/
def forageFailed (code page off : Nat) (f : Forage) : Forage :=
  { f with fail := f.fail.or (some (6, code, 2, 0, page, off)) }

/-- A stream fault of a forage marks it failed, and changes nothing else but the registers and events. -/
theorem streamFault_forage (code page off : Nat) (s : State) : ∃ r v, streamFault .forage code page off s =
    { s with regs := r, evt := v, job := { s.job with forage := s.job.forage.map (forageFailed code page off) } } := by
  obtain ⟨r, v, h⟩ := faultShown_frame .forage code page off s
  exact ⟨r, v, (congrArg (failPass .forage 6 code 2 page off) h).trans rfl⟩

/-- A stream fault of a write that executes halts it. -/
theorem streamFault_write (hlive : writeLive s = true) (hports : ∀ n : Fin 16, (s.blk.ports[n]).final = none) :
    HaltedBy (faultCause code page off) (faultShown .write code page off s) (streamFault .write code page off s) := by
  obtain ⟨r, v, h⟩ := faultShown_frame .write code page off s
  exact addCause_haltedBy (c := faultCause code page off) rfl rfl (by rw [h]; exact hlive) (by rw [h]; exact hports)

/-- After a stream fault the command of the pass is over. -/
theorem streamFault_stops : passGoes (streamFault p code page off s) p = false := by
  cases p with
  | forage =>
    obtain ⟨r, v, h⟩ := streamFault_forage code page off s
    rw [h]
    cases s.job.forage with
    | none => simp [passGoes]
    | some f => cases hfail : f.fail <;> simp [passGoes, forageFailed, hfail]
  | write =>
    have hhalted : Halted (streamFault .write code page off s) := addCause_halted (c := faultCause code page off) rfl rfl _
    have hlive : writeLive (streamFault .write code page off s) = false := by
      unfold writeLive
      split
      · next w hw => simpa using hhalted w hw
      · rfl
    simp [passGoes, hlive]

theorem writeLive_of_passGoes (h : passGoes s .write = true) : writeLive s = true := by
  simp only [passGoes, Bool.and_eq_true] at h
  exact h.2

theorem forage_of_passGoes (h : passGoes s .forage = true) : ∃ f, s.job.forage = some f ∧ f.fail = none := by
  cases hf : s.job.forage with
  | none => simp [passGoes, hf] at h
  | some f =>
    simp only [passGoes, hf, Bool.and_eq_true, Option.isNone_iff_eq_none] at h
    exact ⟨f, rfl, h.2⟩

/-- From `s` to `t` module DRAM and the live commands are kept, and while the pass goes on so are its walk, the decompressors,
the engines and the schedulers' stores. -/
structure WalkKeeps (p : Pass) (s t : State) : Prop where
  dram : t.dram = s.dram
  live : t.job.live = s.job.live
  kept : p = .forage ∨ writeLive t = true → t.intake = s.intake ∧ t.eng = s.eng ∧ t.comb = s.comb

theorem WalkKeeps.refl : WalkKeeps p s s := ⟨rfl, rfl, fun _ => ⟨rfl, rfl, rfl⟩⟩

theorem streamFault_keeps (hgoes : passGoes s p = true) (hports : p = .write → ∀ n : Fin 16, (s.blk.ports[n]).final = none) :
    WalkKeeps p s (streamFault p code page off s) := by
  cases p with
  | forage =>
    obtain ⟨r, v, h⟩ := streamFault_forage code page off s
    rw [h]
    exact ⟨rfl, rfl, fun _ => ⟨rfl, rfl, rfl⟩⟩
  | write =>
    obtain ⟨r, v, h⟩ := faultShown_frame .write code page off s
    obtain ⟨hdram, hlive, -, -, -, w, hw, hend, -⟩ := streamFault_write (code := code) (page := page) (off := off)
      (writeLive_of_passGoes hgoes) (hports rfl)
    rw [h] at hdram hlive
    refine ⟨hdram, hlive, fun hgoes => ?_⟩
    simp [writeLive, hw, Option.isSome_iff_ne_none.mp hend] at hgoes

/-! ### What follows a record (R101, R456) -/

theorem lookAhead_stopped (h : passGoes s p = false) : lookAhead p s = s := by
  simp [lookAhead, h]

/-- What the unit meets next changes nothing or ends the command. -/
theorem lookAhead_cases (p : Pass) (s : State) : lookAhead p s = s ∨ passGoes s p = true ∧
    ∃ code page off, lookAhead p s = streamFault p code page off s := by
  by_cases hgoes : passGoes s p = true
  · suffices h : lookAhead p s = s ∨ ∃ code page off, lookAhead p s = streamFault p code page off s from
      h.imp_right fun h => ⟨hgoes, h⟩
    have hfault (code page off : Nat) : streamFault p code page off s = s ∨
        ∃ c q o, streamFault p code page off s = streamFault p c q o s := .inr ⟨_, _, _, rfl⟩
    unfold lookAhead
    extract_lets x
    split
    · exact .inl rfl
    · split
      · exact .inl rfl
      · split
        · exact hfault ..
        · split
          · exact hfault ..
          · split
            · split <;> exact hfault ..
            · split
              · exact .inl rfl
              · split
                · exact .inl rfl
                · split
                  · exact .inl rfl
                  · exact hfault ..
  · exact .inl (lookAhead_stopped (by simpa using hgoes))

theorem lookAhead_keeps (hports : p = .write → ∀ n : Fin 16, (s.blk.ports[n]).final = none) :
    WalkKeeps p s (lookAhead p s) := by
  obtain h | ⟨hgoes, _, _, _, h⟩ := lookAhead_cases p s
  · rw [h]
    exact .refl
  · rw [h]
    exact streamFault_keeps hgoes hports

/-- A record that has been taken: what follows it changes nothing or ends the command. -/
theorem passed_keeps (pos : RecPos) (n : Nat) (hports : p = .write → ∀ n : Fin 16, (s.blk.ports[n]).final = none) :
    WalkKeeps p s (passed p pos n s) := by
  have hfault (code page off : Nat) (hgoes : passGoes s p = true) :
      WalkKeeps p s (lookAhead p (streamFault p code page off s)) := by
    rw [lookAhead_stopped streamFault_stops]
    exact streamFault_keeps hgoes hports
  unfold passed
  extract_lets q s1
  unfold s1
  split
  · next hcond =>
    have hgoes : passGoes s p = true := by
      rw [Bool.and_eq_true] at hcond
      exact hcond.2
    split
    · split
      · exact hfault _ _ _ hgoes
      · split
        · exact hfault _ _ _ hgoes
        · exact lookAhead_keeps hports
    · exact lookAhead_keeps hports
  · exact lookAhead_keeps hports

end Sys2Proof.Machine
end

section
/-!
PROOFS. Faults of stream records (O52): when a record is taken, and which breach ends the command.
-/

namespace Sys2Proof.Machine

variable {s : State} {p : Pass} {pos : RecPos} {ops : Bytes} {op : Nat}

/-! ### When a record is taken (R61, R62) -/

section Take
variable {α : Type} {read : Reader α} {run : α → State → State}

theorem takeRecord_away (h : recordHere s p pos op ops = false) : takeRecord p pos op read ops run s = s := by
  simp [takeRecord, h]

theorem take_operandMax (hlen : ops.length < 65535) : ops.take operandMax = ops :=
  List.take_of_length_le (Nat.le_of_lt hlen)

/-- A record whose operands are whole does what it stands for. -/
theorem takeRecord_whole {v : α} (h : recordHere s p pos op ops = true ∧ ops.length < 65535) (hread : read ops = .ok (v, [])) :
    takeRecord p pos op read ops run s = run v s := by
  obtain ⟨hhere, hlen⟩ := h
  rw [takeRecord, take_operandMax hlen, hread]
  simp [hhere, operandMax, Nat.le_of_lt hlen]

/-- A breach of R61 is a fault where the record begins. -/
theorem takeRecord_breach {code : Nat} (h : recordHere s p pos op ops = true ∧ ops.length < 65535) (hcode : code ≠ 0)
    (hread : read ops = .error code) : takeRecord p pos op read ops run s = streamFault p code pos.page pos.off s := by
  obtain ⟨hhere, hlen⟩ := h
  rw [takeRecord, take_operandMax hlen, hread]
  simp [hhere, cutShort, hcode]
end Take

theorem passGoes_of_recordHere (h : recordHere s p pos op ops = true) : passGoes s p = true := by
  simp only [recordHere, Bool.and_eq_true] at h
  exact h.1.1

/-! ### Records inside a cell (R63, R84) -/

section Cell
variable {run : OpenCell → State → State} {c : OpenCell} {rest : List OpenCell}

theorem inCell_open (hheader : (passExp s p).header = true) (henter : (passExp s p).enter = [])
    (hstack : (passExp s p).stack = c :: rest) : inCell p pos run s = run c s := by
  simp [inCell, hheader, henter, hstack]

/-- Outside every cell, or where the index names another record, the place is wrong. -/
theorem inCell_closed (h : (passExp s p).header = false ∨ (passExp s p).enter ≠ [] ∨ (passExp s p).stack = []) :
    inCell p pos run s = streamFault p (wrongPlace (passExp s p)) pos.page pos.off s := by
  unfold inCell
  extract_lets x
  split
  · next c r hheader henter hstack => simp [x, hheader, henter, hstack] at h
  · rfl

theorem wrongPlace_eq (x : Exp) : wrongPlace x = if x.header = true ∧ x.enter ≠ [] then 0x24 else 0x12 := by
  simp [wrongPlace, List.isEmpty_eq_false_iff]
end Cell

/-! ### Breaches of a record (R67 to R79, R84) -/

/-- A primitive that breaches its own validity is a fault before its points are judged (R456). -/
theorem addShape_fault {n code : Nat} {c : OpenCell} {a : Int × Int} {fault : Option Nat} {exts : List Nat} {sh : Shape}
    {post : OpenCell → OpenCell} (h : fault = some code) :
    addShape p pos n c a fault exts sh post s = streamFault p code pos.page pos.off s := by
  subst h
  rfl

theorem curveFault_count {n : Nat} {segs : List (Seg × (Int × Int))} {bad : Bool} (h : n < 2 ∨ 4096 < n) :
    curveFault n segs bad = some 0x15 := if_pos (by simpa using h)

theorem curveFault_segment {n k : Nat} {segs : List (Seg × (Int × Int))} {bad : Bool} (hlow : 2 ≤ n) (hhigh : n ≤ 4096)
    (h : segs.findSome? (fun g => segFault g.1 g.2) = some k) : curveFault n segs bad = some k := by
  simp [curveFault, Nat.not_lt.mpr hlow, Nat.not_lt.mpr hhigh, h]

theorem curveFault_arcs {n : Nat} {segs : List (Seg × (Int × Int))} {bad : Bool} (hlow : 2 ≤ n) (hhigh : n ≤ 4096)
    (hsegs : ∀ g, g ∈ segs → segFault g.1 g.2 = none) (h : bad = true ∨ ∀ g, g ∈ segs → g.1.arc = false) :
    curveFault n segs bad = some 0x15 := by
  have hnone : segs.findSome? (fun g => segFault g.1 g.2) = none := List.findSome?_eq_none_iff.mpr hsegs
  have hbad : (bad || !segs.any (fun g => g.1.arc)) = true := by
    obtain rfl | h := h
    · rfl
    · simp only [Bool.or_eq_true, Bool.not_eq_true', List.any_eq_false, Bool.not_eq_true]
      exact .inr h
  simp only [curveFault, Nat.not_lt.mpr hlow, Nat.not_lt.mpr hhigh, hnone, hbad]
  rfl

/-- An ORIENT above 7 is a fault wherever the reference stands (R71). -/
theorem placeRecord_orient {n id o cols rows : Nat} {d va vb : Int × Int} (h : 8 ≤ o) :
    placeRecord p pos n id o d cols rows va vb s = streamFault p 0x12 pos.page pos.off s :=
  if_pos (Nat.pos_iff_ne_zero.mp (Nat.div_pos h (by decide)))

/-- An ORIENT that is defined is passed over. -/
theorem orient_defined {o : Nat} (h : o < 8) : ¬ o / 8 ≠ 0 := by simpa using Nat.div_eq_of_lt h

theorem placeRecord_closed {n id o cols rows : Nat} {d va vb : Int × Int} (ho : o < 8)
    (h : (passExp s p).header = false ∨ (passExp s p).enter ≠ [] ∨ (passExp s p).stack = []) :
    placeRecord p pos n id o d cols rows va vb s = streamFault p (wrongPlace (passExp s p)) pos.page pos.off s := by
  rw [placeRecord, if_neg (orient_defined ho), inCell_closed h]

/-- A reference that names no cell it may place (R69, R457). -/
theorem placeRecord_noCell {n id o cols rows : Nat} {d va vb : Int × Int} {c : OpenCell} {rest : List OpenCell} (ho : o < 8)
    (hheader : (passExp s p).header = true) (henter : (passExp s p).enter = []) (hstack : (passExp s p).stack = c :: rest)
    (hnone : placeable s c pos id = none) :
    placeRecord p pos n id o d cols rows va vb s = streamFault p 0x13 pos.page pos.off s := by
  rw [placeRecord, if_neg (orient_defined ho), inCell_open hheader henter hstack]
  simp only [hnone]

theorem polyOk_count {n : Nat} {l : List (Int × Int)} (h : n < 3 ∨ 4096 < n) : ¬ polyOk n l = true := by
  simp only [polyOk, Bool.and_eq_true, decide_eq_true_eq]
  omega

theorem polyMOk_count {n : Nat} {l : List (Int × Int)} (h : n < 4 ∨ 4096 < n ∨ n % 2 = 1) : ¬ polyMOk n l = true := by
  simp only [polyMOk, Bool.and_eq_true, decide_eq_true_eq, beq_iff_eq]
  omega

/-- A reference to no cell, or to the cell it stands in, places none (R69). -/
theorem placeable_none {c : OpenCell} {id : Nat} (h : id = 0 ∨ id = c.at_.cell.id) : placeable s c pos id = none := by
  obtain rfl | rfl := h <;> simp [placeable]

theorem headerRecord_form {n v f id : Nat} (h : pos ≠ ⟨0, 0⟩ ∨ v ≠ 1 ∨ 1 < f) :
    headerRecord p pos n (v, f, id) s = streamFault p 0x12 pos.page pos.off s :=
  if_pos (by simpa [or_assoc] using h)

/-- A TOP that the cell index does not hold (R64). -/
theorem headerRecord_noTop {n v f id : Nat} (hpos : pos = ⟨0, 0⟩) (hv : v = 1) (hf : f ≤ 1)
    (hheader : (passExp s p).header = false) (hnone : ∀ e, e ∈ boundCells s → e.id ≠ id) :
    headerRecord p pos n (v, f, id) s = streamFault p 0x25 pos.page pos.off s := by
  have hfind : (boundCells s).find? (fun e => e.id == id) = none := List.find?_eq_none.mpr fun e he => by simpa using hnone e he
  simp [headerRecord, hpos, hv, Nat.not_lt.mpr hf, hheader, hfind]

/-- A CELL_BEGIN outside every cell, where no placement waits, is a definition behind the top cell. -/
theorem cellBeginRecord_outside {n : Nat} {v : Nat × Box} (hheader : (passExp s p).header = true)
    (henter : (passExp s p).enter = []) (hstack : (passExp s p).stack = []) :
    cellBeginRecord p pos n v s = defineCell p pos n v s := by
  simp [cellBeginRecord, hheader, henter, hstack]

theorem cellBeginRecord_inside {n : Nat} {v : Nat × Box} {c : OpenCell} {rest : List OpenCell}
    (henter : (passExp s p).enter = []) (hstack : (passExp s p).stack = c :: rest) :
    cellBeginRecord p pos n v s = streamFault p 0x12 pos.page pos.off s := by
  simp [cellBeginRecord, henter, hstack]

/-- Where the index names the place of a definition, it must agree with it (R84). -/
theorem defineCell_disagrees {n : Nat} {v : Nat × Box} {e : CellEnt} (he : e ∈ boundCells s) (hpage : e.beginPage = pos.page)
    (hoff : e.beginOff = pos.off) (h : e.id ≠ v.1 ∨ e.box ≠ v.2) :
    defineCell p pos n v s = streamFault p 0x24 pos.page pos.off s := by
  refine if_pos (List.any_eq_true.mpr ⟨e, List.mem_filter.mpr ⟨he, ?_⟩, ?_⟩)
  · simp [hpage, hoff]
  · simpa using h

/-- The index names no cell at a position. -/
def Unnamed (s : State) (pos : RecPos) : Prop :=
  ∀ e, e ∈ boundCells s → e.beginPage = pos.page → e.beginOff ≠ pos.off

theorem defineCell_unnamed {n : Nat} {v : Nat × Box} (h : Unnamed s pos) : defineCell p pos n v s =
    if v.1 = 0 ∨ 16777215 < v.1 ∨ (∃ e, e ∈ boundCells s ∧ e.id = v.1) ∨ v.1 ∈ (passExp s p).extra then
      streamFault p 0x13 pos.page pos.off s
    else if v.2.x1 < v.2.x0 ∨ v.2.y1 < v.2.y0 then streamFault p 0x14 pos.page pos.off s
    else openDefinition p pos n
      { id := v.1, depth := 0, beginPage := pos.page, beginOff := pos.off, count := 0,
        endPage := (boundPages s).length - 1, box := v.2 } false s := by
  have hhere : (boundCells s).filter (fun e => e.beginPage == pos.page && e.beginOff == pos.off) = [] :=
    List.filter_eq_nil_iff.mpr fun e he => by simpa using h e he
  rw [defineCell, hhere]
  simp [or_assoc]

/-- A CELL_END that the index does not name (R84). -/
theorem cellEndRecord_disagrees {c : OpenCell} {rest : List OpenCell} (hheader : (passExp s p).header = true)
    (henter : (passExp s p).enter = []) (hstack : (passExp s p).stack = c :: rest) (hindexed : c.indexed = true)
    (h : c.count + 1 ≠ c.at_.cell.count ∨ pos.page ≠ c.at_.cell.endPage) :
    cellEndRecord p pos s = streamFault p 0x24 pos.page pos.off s := by
  rw [cellEndRecord, inCell_open hheader henter hstack]
  refine if_pos ?_
  obtain h | h := h <;> simp [hindexed, h]

/-! ### How a fault ends the command of a pass (R80) -/

/-- A fault where a record begins ends the command: the forage keeps its walk and fails, the write halts and its walk begins
again. -/
theorem streamFault_ends {code page off : Nat} (hwf : RegsWf s) (hgoes : passGoes s p = true)
    (hports : p = .write → ∀ n : Fin 16, (s.blk.ports[n]).final = none) :
    let t := streamFault p code page off s
    FaultNoted code page off t ∧ t.dram = s.dram ∧ t.job.live = s.job.live ∧
      (p = .forage → passExp t p = passExp s p ∧ t.eng = s.eng ∧
        ∃ g, t.job.forage = some g ∧ g.fail = some (6, code, 2, 0, page, off)) ∧
      (p = .write → passExp t p = Exp.start ∧ ∃ w c, t.job.write = some w ∧ w.ending.isSome = true ∧ c ∈ w.causes ∧
        c.status = 6 ∧ c.dcode = code ∧ c.dsource = 2) := by
  intro t
  obtain ⟨hwf', hnoted⟩ := faultShown_noted (p := p) (code := code) (page := page) (off := off) hwf
  obtain ⟨hdram, hlive, hkept⟩ := streamFault_keeps (code := code) (page := page) (off := off) hgoes hports
  cases p with
  | forage =>
    obtain ⟨f, hf, hfail⟩ := forage_of_passGoes hgoes
    obtain ⟨hintake, heng, -⟩ := hkept (.inl rfl)
    obtain ⟨r, v, hframe⟩ := streamFault_forage code page off s
    refine ⟨hnoted, hdram, hlive, fun _ => ⟨congrArg Intake.expF hintake, heng, forageFailed code page off f, ?_, ?_⟩, nofun⟩
    · rw [show t = _ from hframe]
      simp [hf]
    · simp [forageFailed, hfail]
  | write =>
    obtain ⟨-, -, hwalk, hsteady, hregs, w, hw, hend, hcause⟩ := streamFault_write (code := code) (page := page) (off := off)
      (writeLive_of_passGoes hgoes) (hports rfl)
    exact ⟨hnoted.keep hwf' hsteady (hregs hwf'), hdram, hlive, nofun, fun _ =>
      ⟨hwalk, w, faultCause code page off, hw, hend, hcause, rfl, rfl, rfl⟩⟩

end Sys2Proof.Machine

open Sys2Proof Sys2Proof.Machine in
/-- Settles O52: a breach is the fault of the operation that a record runs, and a fault ends the command of its pass. -/
theorem recordFaults : Obligations.RecordFaults := by
  unfold Obligations.RecordFaults
  intro p pos ops s hwf hports x records here faults
  have ends {op code : Nat} {i : Instr} {u : State} (hhere : here op) (hexec : exec i s = .next u)
      (hu : u = streamFault p code pos.page pos.off s) : faults i code := by
    obtain ⟨⟨hpending, hcode, hpage, hoff⟩, hrest⟩ := streamFault_ends hwf (passGoes_of_recordHere hhere.1) hports
    exact ⟨_, hexec.trans (congrArg _ hu), hpending, hcode, hpage, hoff, hrest⟩
  refine ⟨?_, ?_, ?_, ?_, ?_, ?_, ?_, ?_⟩
  · intro op i hmem haway
    simp only [records, List.mem_cons, Prod.mk.injEq, List.not_mem_nil, or_false] at hmem
    rcases hmem with ⟨rfl, rfl⟩ | ⟨rfl, rfl⟩ | ⟨rfl, rfl⟩ | ⟨rfl, rfl⟩ | ⟨rfl, rfl⟩ | ⟨rfl, rfl⟩ | ⟨rfl, rfl⟩ | ⟨rfl, rfl⟩ |
      ⟨rfl, rfl⟩ | ⟨rfl, rfl⟩ | ⟨rfl, rfl⟩ | ⟨rfl, rfl⟩ | ⟨rfl, rfl⟩ | ⟨rfl, rfl⟩ <;>
    exact congrArg Host.Outcome.next (takeRecord_away haway)
  · exact fun hhere code hcode hread => ends hhere rfl (takeRecord_breach hhere hcode hread)
  · exact fun hhere code hcode hread => ends hhere rfl (takeRecord_breach hhere hcode hread)
  · intro op i hmem _ hhere hclosed hread
    rw [← wrongPlace_eq]
    have hplace {run : OpenCell → State → State} := inCell_closed (run := run) (pos := pos) hclosed
    obtain ⟨rfl, rfl⟩ | ⟨rfl, v, hread⟩ | ⟨rfl, v, hread⟩ | ⟨rfl, v, hread⟩ | ⟨rfl, v, hread, ho⟩ := hread
    · obtain rfl : i = .cellEnd p pos [] := by simpa [records] using hmem
      exact ends hhere rfl ((takeRecord_whole (v := ()) hhere rfl).trans hplace)
    · obtain rfl : i = .rect p pos ops := by simpa [records] using hmem
      exact ends hhere rfl ((takeRecord_whole hhere hread).trans hplace)
    · obtain rfl : i = .rectSame p pos ops := by simpa [records] using hmem
      exact ends hhere rfl ((takeRecord_whole hhere hread).trans hplace)
    · obtain rfl : i = .poly p pos ops := by simpa [records] using hmem
      exact ends hhere rfl ((takeRecord_whole hhere hread).trans hplace)
    · obtain rfl : i = .sref p pos ops := by simpa [records] using hmem
      exact ends hhere rfl ((takeRecord_whole hhere hread).trans (placeRecord_closed ho hclosed))
  · exact fun id o d hhere hread ho => ends hhere rfl ((takeRecord_whole hhere hread).trans (placeRecord_orient ho))
  · intro v f id hhere hread
    exact ⟨fun h => ends hhere rfl ((takeRecord_whole hhere hread).trans (headerRecord_form h)), fun hpos hv hf hheader hnone =>
      ends hhere rfl ((takeRecord_whole hhere hread).trans (headerRecord_noTop hpos hv hf hheader hnone))⟩
  · intro id box hhere hread hheader henter
    have hrun := takeRecord_whole (run := cellBeginRecord p pos (1 + ops.length)) hhere hread
    refine ⟨fun c rest hstack => ends hhere rfl (hrun.trans (cellBeginRecord_inside henter hstack)), fun hstack => ?_⟩
    have hdefine := hrun.trans (cellBeginRecord_outside hheader henter hstack)
    refine ⟨fun e he hpage hoff hdiffers => ends hhere rfl (hdefine.trans (defineCell_disagrees he hpage hoff hdiffers)),
      fun hunnamed => ?_⟩
    have hjudged := hdefine.trans (defineCell_unnamed hunnamed)
    refine ⟨fun hid => ends hhere rfl (hjudged.trans (if_pos hid)), fun hlow hhigh hindex hextra hbox => ?_⟩
    refine ends hhere rfl (hjudged.trans ((if_neg ?_).trans (if_pos hbox)))
    rintro (h | h | ⟨e, he, h⟩ | h)
    · exact Nat.ne_of_gt hlow h
    · exact Nat.not_lt.mpr hhigh h
    · exact hindex e he h
    · exact hextra h
  · intro c rest hheader henter hstack
    have hshape {code n : Nat} {a : OpenCell → Int × Int} {fault : OpenCell → Option Nat} {exts : List Nat} {sh : OpenCell → Shape}
        {post : OpenCell → OpenCell} (h : fault c = some code) :
        inCell p pos (fun c => addShape p pos n c (a c) (fault c) exts (sh c) post) s = streamFault p code pos.page pos.off s :=
      (inCell_open hheader henter hstack).trans (addShape_fault h)
    refine ⟨?_, ?_, ?_, ?_, ?_, ?_, ?_, ?_, ?_⟩
    · exact fun d w h hhere hread hzero => ends hhere rfl ((takeRecord_whole hhere hread).trans
        (hshape (if_pos (by simpa using hzero))))
    · exact fun d hhere hread hzero => ends hhere rfl ((takeRecord_whole hhere hread).trans (hshape (if_pos hzero)))
    · exact fun d m n k l hhere hread hzero => ends hhere rfl ((takeRecord_whole hhere hread).trans
        (hshape (if_pos (by simpa using hzero))))
    · exact fun d m n k l hhere hread hzero => ends hhere rfl ((takeRecord_whole hhere hread).trans
        (hshape (if_pos (by simpa using hzero))))
    · exact fun n d l hhere hread hcount => ends hhere rfl ((takeRecord_whole hhere hread).trans
        (hshape (if_neg (polyOk_count hcount))))
    · exact fun n d l hhere hread hcount => ends hhere rfl ((takeRecord_whole hhere hread).trans
        (hshape (if_neg (polyMOk_count hcount))))
    · intro n d l bad hhere hread a
      have hcurve {code : Nat} (h : curveFault n (curveSegs a a l) bad = some code) : faults (.curve p pos ops) code :=
        ends hhere rfl ((takeRecord_whole hhere hread).trans (hshape h))
      exact ⟨fun hcount => hcurve (curveFault_count hcount), fun k hlow hhigh hsegs => hcurve (curveFault_segment hlow hhigh hsegs),
        fun hlow hhigh hsegs harcs => hcurve (curveFault_arcs hlow hhigh hsegs harcs)⟩
    · intro id o d hhere hread ho hid
      exact ends hhere rfl ((takeRecord_whole hhere hread).trans
        (placeRecord_noCell ho hheader henter hstack (placeable_none hid)))
    · rintro hhere rfl hindexed hdiffers
      exact ends hhere rfl ((takeRecord_whole (v := ()) hhere rfl).trans
        (cellEndRecord_disagrees hheader henter hstack hindexed hdiffers))
end

section
/-!
PROOFS. Primitives and the tile lists (O53): what a record that is taken makes of the walk, and the entries it adds.
-/

namespace Sys2Proof.Machine

variable {s t u : State} {p : Pass} {pos : RecPos} {n : Nat} {c : OpenCell} {rest : List OpenCell}

/-! ### The walk after a change of it -/

@[simp] theorem passExp_updExp (p : Pass) (f : Exp → Exp) (s : State) : passExp (updExp p f s) p = f (passExp s p) := by
  cases p <;> rfl

@[simp] theorem updExp_dec (p : Pass) (f : Exp → Exp) (s : State) : (updExp p f s).intake.dec = s.intake.dec := by
  cases p <;> rfl

theorem updExp_updExp (p : Pass) (f g : Exp → Exp) (s : State) : updExp p g (updExp p f s) = updExp p (fun x => g (f x)) s := by
  cases p <;> rfl

theorem passExp_of_intake (h : t.intake = u.intake) : passExp t p = passExp u p := by
  unfold passExp
  rw [h]

@[simp] theorem posAfter_updExp (f : Exp → Exp) (s : State) : posAfter (updExp p f s) pos n = posAfter s pos n := by
  cases p <;> rfl

/-- From `s` to `t` a record has been taken: while its pass goes on the walk is `y`, and the decompressors, the engines and the
schedulers' stores are as before. -/
structure RecordTaken (p : Pass) (y : Exp) (s t : State) : Prop where
  dram : t.dram = s.dram
  live : t.job.live = s.job.live
  walk : p = .forage ∨ writeLive t = true →
    passExp t p = y ∧ t.intake.dec = s.intake.dec ∧ t.eng = s.eng ∧ t.comb = s.comb

theorem updExp_taken (p : Pass) (f : Exp → Exp) (s : State) : RecordTaken p (f (passExp s p)) s (updExp p f s) :=
  ⟨by simp, by simp, fun _ => by simp⟩

/-- A record that makes the walk `y` and is passed over. -/
theorem passed_taken {f : Exp → Exp} {y : Exp} (pos : RecPos) (n : Nat)
    (hports : p = .write → ∀ n : Fin 16, (s.blk.ports[n]).final = none) (hy : f (passExp s p) = y) :
    RecordTaken p y s (passed p pos n (updExp p f s)) := by
  obtain ⟨hdram, hlive, hkept⟩ := passed_keeps (s := updExp p f s) pos n (by simpa using hports)
  refine ⟨by simpa using hdram, by simpa using hlive, fun hgoes => ?_⟩
  obtain ⟨hintake, heng, hcomb⟩ := hkept hgoes
  exact ⟨(passExp_of_intake hintake).trans (by simpa using hy), by simp [hintake], by simpa using heng, by simpa using hcomb⟩

/-! ### Entries of the tile lists (R103, R106, R322) -/

/-- The other pass. -/
def otherPass (p : Pass) : Pass := if p = .write then .forage else .write

/-- The lists of a pass with entries added. -/
def listsWith (s : State) (p : Pass) (xs : List ((Int × Int) × LEntry)) : List TList :=
  xs.foldl (addTo p) (passExp s p).lists

/-- Entries that make no list too long, and for which LIST has room, are written. -/
theorem writeEntries_fits {xs : List ((Int × Int) × LEntry)} {run : State → State}
    (hshort : ∀ l, l ∈ listsWith s p xs → listBytes l ≤ 16777216)
    (hroom : xs ≠ [] → listUnits (listsWith s p xs) + listUnits (passExp s (otherPass p)).lists + listUnits s.comb.lists ≤ listRoom s) :
    writeEntries p xs run s = run (updExp p (fun x => { x with lists := listsWith s p xs }) s) := by
  have hfind : (listsWith s p xs).find? (fun l => decide (16777216 < listBytes l)) = none :=
    List.find?_eq_none.mpr fun l hl => by simpa using hshort l hl
  unfold writeEntries
  rw [show List.foldl (addTo p) (passExp s p).lists xs = listsWith s p xs from rfl]
  simp only [hfind]
  refine if_neg fun hfull => ?_
  simp only [Bool.and_eq_true, Bool.not_eq_true', List.isEmpty_eq_false_iff, decide_eq_true_eq] at hfull
  obtain ⟨hxs, hfull⟩ := hfull
  refine absurd (hroom hxs) (Nat.not_le.mpr ?_)
  cases p
  · exact hfull
  · rw [Nat.add_comm (listUnits (listsWith s .write xs))]
    exact hfull

/-- The points of a primitive that R68 and R70 allow in an open cell: in range, also where they are placed, and in its box. -/
def PointFine (c : OpenCell) (q : Int × Int) : Prop :=
  pointOk q = true ∧ pointOk (placePoint c.at_.orient (c.at_.tx, c.at_.ty) q) = true ∧ boxHolds c.at_.cell.box q = true

/-- The entries that a primitive with the box `b` adds: one for each tile of the window that the box meets. -/
def shapeEntries (s : State) (p : Pass) (c : OpenCell) (b : Box) (e : LEntry) : List ((Int × Int) × LEntry) :=
  (if c.placed = true then passTiles s p b else []).map (fun k => (k, e))

theorem listsWith_shapeEntries (s : State) (p : Pass) (c : OpenCell) (b : Box) (e : LEntry) :
    listsWith s p (shapeEntries s p c b e) =
      (if c.placed = true then passTiles s p b else []).foldl (fun l k => addTo p l (k, e)) (passExp s p).lists :=
  List.foldl_map

/-- A valid primitive adds its entries and moves the current point (R67, R101 to R103). -/
theorem addShape_taken {a : Int × Int} {exts : List Nat} {sh : Shape} {post : OpenCell → OpenCell} {b : Box} {e : LEntry}
    (hports : p = .write → ∀ n : Fin 16, (s.blk.ports[n]).final = none) (hstack : (passExp s p).stack = c :: rest)
    (hexts : exts.all extentOk = true) (hfine : ∀ q, q ∈ shapePoints sh → PointFine c q)
    (he : shapeEntry c.at_.orient (c.at_.tx, c.at_.ty) sh = e) (hbox : entryBox e = some b)
    (hshort : ∀ l, l ∈ listsWith s p (shapeEntries s p c b e) → listBytes l ≤ 16777216)
    (hroom : listUnits (listsWith s p (shapeEntries s p c b e)) + listUnits (passExp s (otherPass p)).lists +
      listUnits s.comb.lists ≤ listRoom s) :
    RecordTaken p
      { passExp s p with
        lists := listsWith s p (shapeEntries s p c b e),
        stack := post { c with cur := a, count := c.count + 1, next := posAfter s pos n } :: rest }
      s (addShape p pos n c a none exts sh post s) := by
  have hrange : (exts.all extentOk && (shapePoints sh).all pointOk &&
      (shapePoints sh).all (fun q => pointOk (placePoint c.at_.orient (c.at_.tx, c.at_.ty) q))) = true := by
    simp only [Bool.and_eq_true, List.all_eq_true]
    exact ⟨⟨List.all_eq_true.mp hexts, fun q hq => (hfine q hq).1⟩, fun q hq => (hfine q hq).2.1⟩
  have hinside : (shapePoints sh).all (boxHolds c.at_.cell.box) = true :=
    List.all_eq_true.mpr fun q hq => (hfine q hq).2.2
  unfold addShape
  simp only [hrange, hinside, he, hbox, Bool.not_true, Bool.false_eq_true, if_false]
  rw [show List.map _ _ = shapeEntries s p c b e from rfl, writeEntries_fits hshort fun _ => hroom, updOpen, updExp_updExp]
  exact passed_taken pos n hports (by simp only [hstack])

end Sys2Proof.Machine

open Sys2Proof Sys2Proof.Machine in
/-- Settles O53: each valid primitive is one addition to the lists, with the vertices of its record. -/
theorem recordShapes : Obligations.RecordShapes := by
  unfold Obligations.RecordShapes
  intro p pos ops s c rest hports x here anchor place fine adds hheader henter hstack
  have adding {i : Instr} {d : Int × Int} {points : List (Int × Int)} {e : LEntry} {b : Box} {w h : Nat} {exts : List Nat}
      {fault : OpenCell → Option Nat} {shape : OpenCell → Shape} {post : OpenCell → OpenCell} {u v : State}
      (hexec : exec i s = .next u) (htaken : u = v)
      (hcell : v = inCell p pos (fun c => addShape p pos (1 + ops.length) c (anchorOf c d) (fault c) exts (shape c) post) s)
      (hfault : fault c = none) (hexts : exts.all extentOk = true) (hpoints : shapePoints (shape c) = points)
      (he : shapeEntry c.at_.orient (c.at_.tx, c.at_.ty) (shape c) = e) (hbox : entryBox e = some b)
      (hpost : post { c with cur := anchor d, count := c.count + 1, next := posAfter s pos (1 + ops.length) } =
        { c with cur := anchor d, count := c.count + 1, next := posAfter s pos (1 + ops.length), lastW := w, lastH := h }) :
      adds i d points e b w h := by
    subst hpoints
    intro hfine hshort hroom
    rw [← listsWith_shapeEntries] at hshort hroom ⊢
    have hrun : u = addShape p pos (1 + ops.length) c (anchorOf c d) none exts (shape c) post s := by
      rw [htaken, hcell, inCell_open hheader henter hstack, hfault]
    obtain ⟨hdram, hlive, hwalk⟩ := addShape_taken hports hstack hexts hfine he hbox hshort hroom
    refine ⟨_, hexec.trans (congrArg _ hrun), hdram, hlive, fun hgoes => ?_⟩
    obtain ⟨hexp, hdec, heng, hcomb⟩ := hwalk hgoes
    rw [hexp]
    exact ⟨rfl, congrArg (· :: rest) hpost, henter, hheader, rfl, hdec, heng, hcomb⟩
  have extent {k : Nat} (hk : k < 2 ^ 31) : extentOk k = true := decide_eq_true (Nat.le_of_lt_succ hk)
  refine ⟨?_, ?_, ?_, ?_, ?_, ?_, ?_⟩
  · intro d w h hhere hread hw hw' hh hh' a b
    exact adding (i := .rect p pos ops) rfl (takeRecord_whole hhere hread) rfl (if_neg (by simp [hw.ne', hh.ne']))
      (by simp [extent hw', extent hh']) rfl rfl rfl rfl
  · intro d hhere hread hw a b
    exact adding (i := .rectSame p pos ops) rfl (takeRecord_whole hhere hread) rfl (if_neg hw) rfl rfl rfl rfl rfl
  · intro d k wb dxt wt hhere hread hk hsum hk' hwb hwt a pts
    exact adding (i := .trapH p pos ops) rfl (takeRecord_whole hhere hread) rfl (if_neg (by simp; omega))
      (by simp [extent hk', extent hwb, extent hwt]) rfl rfl rfl rfl
  · intro d k hl dyr hr hhere hread hk hsum hk' hhl hhr a pts
    exact adding (i := .trapV p pos ops) rfl (takeRecord_whole hhere hread) rfl (if_neg (by simp; omega))
      (by simp [extent hk', extent hhl, extent hhr]) rfl rfl rfl rfl
  · intro n d l hhere hread hok pts
    exact adding (i := .poly p pos ops) rfl (takeRecord_whole hhere hread) rfl (if_pos hok) rfl rfl rfl rfl rfl
  · intro n d l hhere hread hok pts
    exact adding (i := .polyM p pos ops) rfl (takeRecord_whole hhere hread) rfl (if_pos hok) rfl rfl rfl rfl rfl
  · intro n d l hhere hread hok a segs placed
    exact adding (i := .curve p pos ops) rfl (takeRecord_whole hhere hread) rfl hok rfl rfl rfl rfl rfl
end

section
/-!
PROOFS. Cells, references, header and end of stream in the walk (O54): what each record that stands makes of it.
-/

namespace Sys2Proof.Machine

variable {s t u : State} {p : Pass} {pos : RecPos} {n : Nat} {c : OpenCell} {rest : List OpenCell}

/-! ### Header, NOP and end of stream (R63 to R65) -/

/-- The placement of the top cell (R69). -/
def topPlacement (e : CellEnt) : Placement := { cell := e, orient := 0, tx := 0, ty := 0, bracket := none }

/-- A valid STREAM_HEADER enters the top cell. -/
theorem headerRecord_taken {f : Nat} {e : CellEnt} (hports : p = .write → ∀ n : Fin 16, (s.blk.ports[n]).final = none)
    (hpos : pos = ⟨0, 0⟩) (hf : f ≤ 1) (hheader : (passExp s p).header = false)
    (hfind : (boundCells s).find? (fun y => y.id == e.id) = some e) :
    RecordTaken p
      { passExp s p with
        header := true, negative := f == 1, top := e.id, enter := [topPlacement e], next := posAfter s pos n }
      s (headerRecord p pos n (1, f, e.id) s) := by
  have hform : ¬ (decide (pos ≠ ⟨0, 0⟩) || decide ((1 : Nat) ≠ 1) || decide (1 < f)) = true := by
    simp [hpos, Nat.not_lt.mpr hf]
  unfold headerRecord
  extract_lets x
  rw [if_neg hform, if_neg (by simp [x, hheader])]
  simp only [hfind]
  exact passed_taken pos n hports rfl

theorem nopRecord_inside (hports : p = .write → ∀ n : Fin 16, (s.blk.ports[n]).final = none)
    (hheader : (passExp s p).header = true) (henter : (passExp s p).enter = []) (hstack : (passExp s p).stack = c :: rest) :
    RecordTaken p
      { passExp s p with stack := { c with count := c.count + 1, next := posAfter s pos 1 } :: rest }
      s (nopRecord p pos s) := by
  simp only [nopRecord, hheader, henter, hstack]
  exact passed_taken pos 1 hports (by simp only [hheader, henter, hstack])

theorem nopRecord_outside (hports : p = .write → ∀ n : Fin 16, (s.blk.ports[n]).final = none)
    (hheader : (passExp s p).header = true) (henter : (passExp s p).enter = []) (hstack : (passExp s p).stack = []) :
    RecordTaken p { passExp s p with next := posAfter s pos 1 } s (nopRecord p pos s) := by
  simp only [nopRecord, hheader, henter, hstack]
  exact passed_taken pos 1 hports (by simp only [hheader, henter, hstack])

theorem streamEndRecord_taken (hheader : (passExp s p).header = true) (henter : (passExp s p).enter = [])
    (hstack : (passExp s p).stack = []) (htop : (passExp s p).topDone = true) (hpage : pos.page + 1 = (boundPages s).length)
    (hnops : onlyNops s p (posAfter s pos n) = true) :
    RecordTaken p { passExp s p with ended := true, next := posAfter s pos n } s
      (streamEndRecord p pos n ((boundCells s).length + (passExp s p).extra.length) s) := by
  unfold streamEndRecord
  rw [if_neg (by simp [hheader, henter, hstack]), if_neg (by simp [hpage, htop, hnops])]
  exact updExp_taken p (fun x => { x with ended := true, next := posAfter s pos n }) s

/-! ### Cells (R67, R69, R70, R84, R109) -/

/-- No entry is written where a placement stands in no bracket (R105). -/
theorem writeEntries_none {run : State → State} (hshort : ∀ l, l ∈ (passExp s p).lists → listBytes l ≤ 16777216) :
    writeEntries p [] run s = run (updExp p (fun x => { x with lists := (passExp s p).lists }) s) :=
  writeEntries_fits (xs := []) hshort (fun h => absurd rfl h)

/-- The CELL_BEGIN of the placement that waits opens its cell. -/
theorem cellBeginRecord_taken {pl : Placement} {more : List Placement}
    (hports : p = .write → ∀ n : Fin 16, (s.blk.ports[n]).final = none)
    (hheader : (passExp s p).header = true) (henter : (passExp s p).enter = pl :: more) (hbracket : pl.bracket = none)
    (hshort : ∀ l, l ∈ (passExp s p).lists → listBytes l ≤ 16777216) :
    RecordTaken p
      { passExp s p with
        enter := [],
        stack := { at_ := pl, cur := (0, 0), lastW := 0, lastH := 0, count := 1, depth := 1, next := posAfter s pos n, rest := more,
                   placed := true, indexed := true } :: (passExp s p).stack }
      s (cellBeginRecord p pos n (pl.cell.id, pl.cell.box) s) := by
  simp only [cellBeginRecord, hheader, henter, hbracket]
  rw [if_neg (by simp), writeEntries_none hshort, updExp_updExp]
  exact passed_taken pos n hports (by simp only [hheader])

/-- A definition that the index does not hold, with an identifier and a box of its own, is valid (R69, R70). -/
theorem defineCell_valid {id : Nat} {box : Box} (hunnamed : Unnamed s pos) (hlow : 0 < id) (hhigh : id ≤ 16777215)
    (hindex : ∀ e, e ∈ boundCells s → e.id ≠ id) (hextra : id ∉ (passExp s p).extra) (hx : box.x0 ≤ box.x1)
    (hy : box.y0 ≤ box.y1) : defineCell p pos n (id, box) s = openDefinition p pos n
      { id := id, depth := 0, beginPage := pos.page, beginOff := pos.off, count := 0, endPage := (boundPages s).length - 1,
        box := box } false s := by
  rw [defineCell_unnamed hunnamed, if_neg, if_neg (by simp [hx, hy])]
  rintro (h | h | ⟨e, he, h⟩ | h)
  · exact Nat.ne_of_gt hlow h
  · exact Nat.not_lt.mpr hhigh h
  · exact hindex e he h
  · exact hextra h

/-- A definition behind the top cell is opened with nothing of it placed (R84; log 109). -/
theorem openDefinition_taken (e : CellEnt) (hports : p = .write → ∀ n : Fin 16, (s.blk.ports[n]).final = none) :
    RecordTaken p
      { passExp s p with
        extra := e.id :: (passExp s p).extra,
        stack := [{ at_ := topPlacement e, cur := (0, 0), lastW := 0, lastH := 0, count := 1, depth := 1, next := posAfter s pos n,
                    rest := [], placed := false, indexed := false }] }
      s (openDefinition p pos n e false s) :=
  passed_taken pos n hports rfl

/-- A CELL_END that the index agrees with closes the innermost cell. -/
theorem cellEndRecord_taken (hports : p = .write → ∀ n : Fin 16, (s.blk.ports[n]).final = none)
    (hheader : (passExp s p).header = true) (henter : (passExp s p).enter = []) (hstack : (passExp s p).stack = c :: rest)
    (hagrees : c.indexed = true → c.count + 1 = c.at_.cell.count ∧ pos.page = c.at_.cell.endPage ∧ c.depth = c.at_.cell.depth)
    (hbracket : c.at_.bracket = none) (hshort : ∀ l, l ∈ (passExp s p).lists → listBytes l ≤ 16777216) :
    RecordTaken p
      { passExp s p with
        stack := rest, enter := c.rest, topDone := (passExp s p).topDone || rest.isEmpty,
        next := if rest.isEmpty = true then posAfter s pos 1 else (passExp s p).next }
      s (cellEndRecord p pos s) := by
  have hindex : ¬ (c.indexed && (decide (c.count + 1 ≠ c.at_.cell.count) || decide (pos.page ≠ c.at_.cell.endPage) ||
      decide (c.depth ≠ c.at_.cell.depth))) = true := fun h => by
    rw [Bool.and_eq_true] at h
    obtain ⟨hcount, hpage, hdepth⟩ := hagrees h.1
    simp [hcount, hpage, hdepth] at h
  rw [cellEndRecord, inCell_open hheader henter hstack]
  simp only [hbracket]
  rw [if_neg hindex, writeEntries_none hshort, updExp_updExp]
  exact passed_taken pos 1 hports (by simp only [hstack, List.drop_one, List.tail_cons])

/-! ### References (R69, R71 to R74, R101, R102, R457) -/

/-- Origin of copy (i, j) of an array (R73). -/
def copyAt (a va vb : Int × Int) (i j : Nat) : Int × Int := (a.1 + i * va.1 + j * vb.1, a.2 + i * va.2 + j * vb.2)

@[simp] theorem copyAt_first (a va vb : Int × Int) : copyAt a va vb 0 0 = a := by simp [copyAt]

/-- A copy of a cell whose origin and box R68 and R70 allow in an open cell. -/
def CopyFits (c : OpenCell) (o : Nat) (e : CellEnt) (q : Int × Int) : Prop :=
  pointOk q = true ∧ pointOk (placePoint c.at_.orient (c.at_.tx, c.at_.ty) q) = true ∧
    boxInside c.at_.cell.box (placeBox o q e.box) = true

/-- The placement of a copy in the top cell's system (R72, R105). -/
def copyPlaced (s : State) (p : Pass) (outer : Placement) (e : CellEnt) (o : Nat) (q : Int × Int) : Placement :=
  let t := placePoint outer.orient (outer.tx, outer.ty) q
  { cell := e, orient := composeOrient outer.orient o, tx := t.1, ty := t.2,
    bracket := bracketTile s p (placeBox (composeOrient outer.orient o) t e.box) }

/-- The tiles of the window that a copy meets. -/
def copyTiles (s : State) (p : Pass) (outer : Placement) (e : CellEnt) (o : Nat) (q : Int × Int) : List (Int × Int) :=
  passTiles s p (placeBox (composeOrient outer.orient o) (placePoint outer.orient (outer.tx, outer.ty) q) e.box)

/-- A copy as a placement, where it meets a tile of the window. -/
def copyEntered (s : State) (p : Pass) (outer : Placement) (e : CellEnt) (o : Nat) (q : Int × Int) : Option Placement :=
  if copyTiles s p outer e o q = [] then none else some (copyPlaced s p outer e o q)

theorem copies_eq (s : State) (p : Pass) (outer : Placement) (e : CellEnt) (o : Nat) (a : Int × Int) (cols rows : Nat)
    (va vb : Int × Int) : copies s p outer e o a cols rows va vb =
      (List.range rows).flatMap (fun j => (List.range cols).filterMap (fun i =>
        copyEntered s p outer e o (copyAt a va vb i j))) := by
  unfold copies copyEntered
  simp only [List.isEmpty_iff, List.bind_eq_flatMap, List.pure_def, ← List.map_eq_flatMap, List.flatMap_map, List.filterMap_map]
  rfl

/-- The placements entered are those of the copies that meet a tile of the window (R101, R102). -/
theorem mem_copies {outer pl : Placement} {e : CellEnt} {o cols rows : Nat} {a va vb : Int × Int} :
    pl ∈ copies s p outer e o a cols rows va vb ↔ ∃ i j, i < cols ∧ j < rows ∧ copyTiles s p outer e o (copyAt a va vb i j) ≠ [] ∧
      pl = copyPlaced s p outer e o (copyAt a va vb i j) := by
  simp only [copies_eq, List.mem_flatMap, List.mem_filterMap, List.mem_range, copyEntered, Option.ite_none_left_eq_some,
    Option.some.injEq]
  constructor
  · rintro ⟨j, hj, i, hi, htiles, rfl⟩
    exact ⟨i, j, hi, hj, htiles, rfl⟩
  · rintro ⟨i, j, hi, hj, htiles, rfl⟩
    exact ⟨j, hj, i, hi, htiles, rfl⟩

/-- The one copy of an SREF. -/
theorem copies_one (s : State) (p : Pass) (outer : Placement) (e : CellEnt) (o : Nat) (a : Int × Int) :
    copies s p outer e o a 1 1 (0, 0) (0, 0) = (copyEntered s p outer e o a).toList := by
  rw [copies_eq]
  cases h : copyEntered s p outer e o a <;> simp [h]

/-- A reference that names a cell whose copies fit enters those of them that the window needs. -/
theorem placeRecord_taken {id o cols rows : Nat} {d va vb : Int × Int} {e : CellEnt}
    (hports : p = .write → ∀ n : Fin 16, (s.blk.ports[n]).final = none) (ho : o < 8)
    (hheader : (passExp s p).header = true) (henter : (passExp s p).enter = []) (hstack : (passExp s p).stack = c :: rest)
    (hcell : placeable s c pos id = some e) (hcols : 0 < cols ∧ cols < 2 ^ 20) (hrows : 0 < rows ∧ rows < 2 ^ 20)
    (hfits : ∀ i j, i < cols → j < rows → CopyFits c o e (copyAt (anchorOf c d) va vb i j))
    (hdepth : (passExp s p).stack.length < 16) :
    RecordTaken p
      { passExp s p with
        enter := if c.placed then copies s p c.at_ e o (anchorOf c d) cols rows va vb else [],
        stack := { c with
          cur := anchorOf c d, count := c.count + 1, depth := max c.depth (e.depth + 1), next := posAfter s pos n } :: rest }
      s (placeRecord p pos n id o d cols rows va vb s) := by
  have hcorners : ∀ q, q ∈ [copyAt (anchorOf c d) va vb 0 0, copyAt (anchorOf c d) va vb (cols - 1) 0,
      copyAt (anchorOf c d) va vb 0 (rows - 1), copyAt (anchorOf c d) va vb (cols - 1) (rows - 1)] → CopyFits c o e q := by
    simp only [List.mem_cons, List.not_mem_nil, or_false]
    rintro q (rfl | rfl | rfl | rfl) <;> exact hfits _ _ (by omega) (by omega)
  rw [placeRecord, if_neg (orient_defined ho), inCell_open hheader henter hstack]
  extract_lets _ a corner ends
  have hcount : ¬ (decide (cols = 0) || decide (1048575 < cols) || decide (rows = 0) || decide (1048575 < rows)) = true := by
    simp only [Bool.or_eq_true, decide_eq_true_eq]
    omega
  have hrange : ends.all (fun q => pointOk q && pointOk (placePoint c.at_.orient (c.at_.tx, c.at_.ty) q)) = true :=
    List.all_eq_true.mpr fun q hq => Bool.and_eq_true _ _ ▸ ⟨(hcorners q hq).1, (hcorners q hq).2.1⟩
  have hbox : ends.all (fun q => boxInside c.at_.cell.box (placeBox o q e.box)) = true :=
    List.all_eq_true.mpr fun q hq => (hcorners q hq).2.2
  simp only [hcell, if_neg hcount, hrange, hbox, Nat.not_le.mpr hdepth, Bool.not_true, Bool.false_eq_true, if_false, decide_false,
    Bool.false_and]
  rw [updOpen, updExp_updExp]
  exact passed_taken pos n hports (by simp only [hstack]; rfl)

end Sys2Proof.Machine

open Sys2Proof Sys2Proof.Machine in
/-- Settles O54: each record that stands is one change of the walk, and nothing else changes while the pass goes on. -/
theorem recordWalk : Obligations.RecordWalk := by
  unfold Obligations.RecordWalk
  intro p pos ops s hports x here after goes
  have going {i : Instr} {P : Exp → Prop} {u v : State} {y : Exp} (hexec : exec i s = .next u) (hrun : u = v)
      (htaken : RecordTaken p y s v) (hP : P y) (hhanded : y.handed = x.handed) (hpages : y.pages = x.pages) : goes i P := by
    subst hrun
    obtain ⟨hdram, hlive, hwalk⟩ := htaken
    refine ⟨u, hexec, hdram, hlive, fun hgoes => ?_⟩
    obtain ⟨hexp, hrest⟩ := hwalk hgoes
    rw [hexp]
    exact ⟨hP, hhanded, hpages, hrest⟩
  clear_value goes
  refine ⟨?_, ?_, ?_, ?_, ?_, ?_, ?_, ?_, ?_⟩
  · intro f e hhere hpos hread hf hheader hfind
    refine going (i := .streamHeader p pos ops) rfl (takeRecord_whole hhere hread)
      (headerRecord_taken hports hpos hf hheader hfind) ?_ rfl rfl
    exact ⟨rfl, rfl, rfl, rfl, rfl, rfl⟩
  · intro pl more hhere hheader henter hread hbracket hshort
    refine going (i := .cellBegin p pos ops) rfl (takeRecord_whole hhere hread)
      (cellBeginRecord_taken hports hheader henter hbracket hshort) ?_ rfl rfl
    exact ⟨rfl, rfl, _, rfl, rfl, rfl, rfl, rfl, rfl, rfl, rfl, rfl⟩
  · intro id box hhere hheader henter hstack hread hunnamed hlow hhigh hindex hextra hx hy
    refine going (i := .cellBegin p pos ops) rfl ((takeRecord_whole hhere hread).trans
      ((cellBeginRecord_outside hheader henter hstack).trans (defineCell_valid hunnamed hlow hhigh hindex hextra hx hy)))
      (openDefinition_taken _ hports) ?_ rfl rfl
    exact ⟨henter, rfl, rfl, _, rfl, rfl, rfl, rfl, rfl, rfl, rfl, rfl, rfl⟩
  · rintro c rest hhere rfl hheader henter hstack hagrees hbracket hshort
    refine going (i := .cellEnd p pos []) rfl (takeRecord_whole (v := ()) hhere rfl)
      (cellEndRecord_taken hports hheader henter hstack hagrees hbracket hshort) ?_ rfl rfl
    refine ⟨rfl, rfl, rfl, ?_, fun hrest => ?_⟩
    · rintro rfl
      exact ⟨Bool.or_true _, rfl⟩
    · simp [hrest, x]
  · rintro c rest hhere rfl hheader henter hstack
    refine going (i := .nopRecord p pos []) rfl (takeRecord_whole (v := ()) hhere rfl)
      (nopRecord_inside hports hheader henter hstack) ?_ rfl rfl
    exact ⟨rfl, rfl, henter⟩
  · rintro hhere rfl hheader henter hstack
    refine going (i := .nopRecord p pos []) rfl (takeRecord_whole (v := ()) hhere rfl)
      (nopRecord_outside hports hheader henter hstack) ?_ rfl rfl
    rfl
  · intro hhere hread hheader henter hstack htop hpage hnops
    refine going (i := .streamEnd p pos ops) rfl (takeRecord_whole hhere hread)
      (streamEndRecord_taken hheader henter hstack htop hpage hnops) ?_ rfl rfl
    exact ⟨rfl, rfl, rfl⟩
  · intro c rest id o d e hhere hread ho hheader henter hstack hcell a t box ha ht hbox hdepth
    have hfits : ∀ i j, i < 1 → j < 1 → CopyFits c o e (copyAt (anchorOf c d) (0, 0) (0, 0) i j) := fun i j hi hj => by
      obtain rfl : i = 0 := by omega
      obtain rfl : j = 0 := by omega
      rw [copyAt_first]
      exact ⟨ha, ht, hbox⟩
    refine going (i := .sref p pos ops) rfl (takeRecord_whole hhere hread)
      (placeRecord_taken hports ho hheader henter hstack hcell (by decide) (by decide) hfits hdepth) ?_ rfl rfl
    rw [copies_one]
    refine ⟨rfl, rfl, ?_, fun htiles hplaced => ⟨copyPlaced s p c.at_ e o a, ?_, rfl, rfl, rfl, rfl⟩⟩
    · rintro (htiles | hplaced)
      · have hnone : copyEntered s p c.at_ e o (anchorOf c d) = none := if_pos htiles
        simp [hnone]
      · simp [hplaced]
    · have hsome : copyEntered s p c.at_ e o (anchorOf c d) = some (copyPlaced s p c.at_ e o a) := if_neg htiles
      simp [hplaced, hsome]
  · intro c rest id o d e m n va vb hhere hread ho hheader henter hstack hcell hm hm' hn hn' at_ hfits hdepth
    refine going (i := .aref p pos ops) rfl (takeRecord_whole hhere hread)
      (placeRecord_taken hports ho hheader henter hstack hcell ⟨hm, hm'⟩ ⟨hn, hn'⟩ hfits hdepth) ?_ rfl rfl
    refine ⟨rfl, rfl, fun pl hpl => ?_, fun i j hi hj hplaced htiles => ?_⟩
    · by_cases hplaced : c.placed = true
      · rw [if_pos hplaced] at hpl
        obtain ⟨i, j, hi, hj, -, rfl⟩ := mem_copies.mp hpl
        exact ⟨rfl, rfl, i, j, hi, hj, rfl⟩
      · rw [if_neg hplaced] at hpl
        exact absurd hpl List.not_mem_nil
    · refine ⟨copyPlaced s p c.at_ e o (at_ i j), ?_, rfl⟩
      rw [if_pos hplaced]
      exact mem_copies.mpr ⟨i, j, hi, hj, htiles, rfl⟩
end

section
/-!
PROOFS. Decoding of pages (O51, first half): when a decompressor takes a page, and what becomes of one that is not there, fails its
check, is malformed, or decodes (R49, R54, R80, R92, R96, R97).
-/

namespace Sys2Proof.Machine

variable {s t : State} {p : Pass} {d : Fin 4} {page : Nat} {r : Run} {e : PageEnt} {f : Frame}

/-! ### When a decompressor takes a page -/

theorem memoryOff_eq_false : memoryOff s = false ↔ ∀ g, g < 4 → groupOpen s g = true := by
  simp only [memoryOff, List.any_eq_false, Bool.not_eq_true', Bool.not_eq_false]
  refine ⟨fun h g hg => h g ?_, fun h g hg => h g ?_⟩
  · interval_cases g <;> decide
  · simp only [List.mem_cons, List.not_mem_nil, or_false] at hg
    omega

theorem memoryBad_eq_false : memoryBad s = false ↔ ∀ n : Fin 16, (s.mem.ch[n]).st ≠ 6 ∧ (s.mem.ch[n]).st ≠ 7 := by
  simp only [memoryBad, List.any_eq_false, Bool.or_eq_true, beq_iff_eq, not_or]
  refine ⟨fun h n => h _ (by simp), fun h c hc => ?_⟩
  obtain ⟨n, hn, rfl⟩ := List.getElem_of_mem hc
  simpa using h ⟨n, by simpa using hn⟩

/-- A pass can decode pages: its command goes on, CORE has power and module DRAM works. -/
def DecodeGoes (s : State) (p : Pass) : Prop :=
  passGoes s p = true ∧ powered s 2 = true ∧ (∀ g, g < 4 → groupOpen s g = true) ∧
    ∀ n : Fin 16, (s.mem.ch[n]).st ≠ 6 ∧ (s.mem.ch[n]).st ≠ 7

theorem decodeGoes_iff : DecodeGoes s p ↔
    (!passGoes s p || !powered s 2 || memoryOff s || memoryBad s) = false := by
  simp only [DecodeGoes, ← memoryOff_eq_false, ← memoryBad_eq_false, Bool.or_eq_false_iff, Bool.not_eq_false', and_assoc]

theorem pageDecode_stays (h : (boundPages s)[page]? = none ∨ ¬ DecodeGoes s p) : pageDecode d p page s = s := by
  unfold pageDecode
  split
  · rfl
  · next e he =>
    rw [decodeGoes_iff, Bool.not_eq_false] at h
    exact if_pos (h.resolve_left (by simp [he]))

theorem pageDecode_refuses (hrun : runGoes s d p page = false) (hentry : isEntry s p page = false)
    (hbad : (p, page) ∉ s.intake.bad) : pageDecode d p page s = s := by
  have hnot : s.intake.bad.contains (p, page) = false := by simpa using hbad
  unfold pageDecode
  split
  · rfl
  · simp only [hrun, hentry, hnot, Bool.false_eq_true, if_false, Bool.not_false, Bool.and_self, if_true, ite_self]

/-- A decompressor changed to what it is. -/
theorem updDec_same {g : Dec → Dec} (h : g (s.intake.dec[d]) = s.intake.dec[d]) : updDec d g s = s := by
  have hdec : upd s.intake.dec d.val g = s.intake.dec := by
    refine Vector.ext fun i hi => ?_
    rw [upd_get]
    split
    · next hd =>
      subst hd
      exact h
    · rfl
  rw [updDec, hdec]

theorem saveDue_none (h : ∀ k : Fin 4, (s.intake.dec[k]).saving = none) : saveDue s = s :=
  List.foldl_fixed' (fun k => by unfold saveDec; rw [h k]) _

/-- With no state to save, a decompressor with the run of the page, or one without a run at an entry point, takes it. -/
theorem pageDecode_takes (he : (boundPages s)[page]? = some e) (hgoes : DecodeGoes s p) (hbad : (p, page) ∉ s.intake.bad)
    (hsaving : ∀ k : Fin 4, (s.intake.dec[k]).saving = none)
    (htakes : runGoes s d p page = true ∨ (s.intake.dec[d]).run = none ∧ isEntry s p page = true) :
    pageDecode d p page s = takePage d (runFor s d p page) e s := by
  have hstop : (if runGoes s d p page = true then s else updDec d stopDec s) = s := by
    obtain h | ⟨h, -⟩ := htakes
    · exact if_pos h
    · rw [updDec_same (by rw [stopDec, h]), ite_self]
  have hstands : (!runGoes s d p page && !isEntry s p page) = false := by
    obtain h | ⟨-, h⟩ := htakes <;> simp [h]
  rw [decodeGoes_iff] at hgoes
  unfold pageDecode
  simp only [he, hgoes, hbad, hstands, hstop, saveDue_none hsaving, hsaving d, List.contains_eq_mem, decide_false, Bool.false_eq_true,
    if_false, Option.isSome_none]

theorem runFor_of_idle (h : (s.intake.dec[d]).run = none) : runFor s d p page = entryRun s p page := by
  rw [runFor, h]

theorem runFor_content (h : (s.intake.dec[d]).run = some r) :
    (runFor s d p page).content = if r.pass = p ∧ r.next = page then r.content else [] := by
  rw [runFor, h]
  by_cases hown : r.pass = p ∧ r.next = page
  · simp only [hown, beq_self_eq_true, Bool.and_self, if_true, and_self]
  · rw [if_neg hown]
    exact congrArg Run.content (if_neg (by simpa using hown))

theorem runFor_pass_next (s : State) (d : Fin 4) (p : Pass) (page : Nat) :
    (runFor s d p page).pass = p ∧ (runFor s d p page).next = page := by
  unfold runFor
  split
  · split
    · next h => simpa using h
    · exact ⟨rfl, rfl⟩
  · exact ⟨rfl, rfl⟩

/-! ### A page that is not there (R92, R96) -/

theorem upd_own {α : Type} {n : Nat} (v : Vector α n) (i : Fin n) (g : α → α) : (upd v i.val g)[i] = g v[i] :=
  (upd_fin v i i g).trans (if_pos rfl)

theorem upd_other {α : Type} {n : Nat} {v : Vector α n} {i j : Fin n} {g : α → α} (h : j ≠ i) : (upd v i.val g)[j] = v[j] :=
  (upd_fin v i j g).trans (if_neg h.symm)

/-- What a decompressor leaves alone where no page decodes and no write ends. -/
def DecodeKeeps (s t : State) : Prop :=
  t.eng = s.eng ∧ t.comb = s.comb ∧ t.bel = s.bel ∧ t.seq = s.seq ∧ t.blk = s.blk ∧ t.job.write = s.job.write ∧
    t.pending = s.pending

theorem DecodeKeeps.trans {u : State} (h : DecodeKeeps s t) (k : DecodeKeeps t u) : DecodeKeeps s u := by
  obtain ⟨heng, hcomb, hbel, hseq, hblk, hwrite, hpending⟩ := h
  obtain ⟨keng, kcomb, kbel, kseq, kblk, kwrite, kpending⟩ := k
  exact ⟨keng.trans heng, kcomb.trans hcomb, kbel.trans hbel, kseq.trans hseq, kblk.trans hblk, kwrite.trans hwrite,
    kpending.trans hpending⟩

/-- A decompressor as it waits for the next page of a run. -/
def waitingDec (r : Run) (x : Dec) : Dec := { x with st := 5, run := some { r with pin := none } }

theorem decWaits_cases (d : Fin 4) (r : Run) (s : State) : decWaits d r s = updDec d (waitingDec r) s ∨
    decWaits d r s = raise 38 0 (wseq s) (count 0x040034 1 (updDec d (waitingDec r) s)) := by
  unfold decWaits
  extract_lets was again s1
  split
  · exact .inr rfl
  · exact .inl rfl

/-- A wait changes the decompressor, and may raise event 38. -/
theorem decWaits_frame (d : Fin 4) (r : Run) (s : State) : ∃ g v, decWaits d r s =
    { s with regs := g, evt := v, intake := { s.intake with dec := upd s.intake.dec d.val (waitingDec r) } } := by
  obtain h | h := decWaits_cases d r s
  · exact ⟨_, _, h⟩
  · exact ⟨_, _, h.trans (raise_frame _ _ _ _)⟩

theorem decWaits_steady (d : Fin 4) (r : Run) (s : State) : Steady s (decWaits d r s) := by
  have hdec : Steady s (updDec d (waitingDec r) s) := .of_regs rfl
  obtain h | h := decWaits_cases d r s
  · rwa [h]
  · rw [h]
    exact (hdec.trans (.count (by decide))).trans (.raise (by decide) (by decide))

theorem decWaits_keeps (d : Fin 4) (r : Run) (s : State) :
    let t := decWaits d r s
    DecodeKeeps s t ∧ t.dram = s.dram ∧ t.intake.frames = s.intake.frames ∧ t.intake.dec[d] = waitingDec r (s.intake.dec[d]) ∧
      ∀ k : Fin 4, k ≠ d → t.intake.dec[k] = s.intake.dec[k] := by
  intro t
  obtain ⟨g, v, hshape⟩ := decWaits_frame d r s
  rw [show t = _ from hshape]
  exact ⟨⟨rfl, rfl, rfl, rfl, rfl, rfl, rfl⟩, rfl, rfl, upd_own .., fun k hk => upd_other hk⟩

theorem takePage_absent (h : frameOf s r.next = none) : takePage d r e s = decWaits d r s := by
  rw [takePage, h]

theorem takePage_resident (hf : frameOf s r.next = some f) (hst : f.st = .resident) :
    takePage d r e s = decodeFrame d r f e s := by
  simp [takePage, hf, hst]

theorem pageDecode_resident (he : (boundPages s)[page]? = some e) (hgoes : DecodeGoes s p) (hbad : (p, page) ∉ s.intake.bad)
    (hsaving : ∀ k : Fin 4, (s.intake.dec[k]).saving = none) (hf : frameOf s page = some f) (hst : f.st = .resident)
    (htakes : runGoes s d p page = true ∨ (s.intake.dec[d]).run = none ∧ isEntry s p page = true) :
    pageDecode d p page s = decodeFrame d (runFor s d p page) f e s :=
  (pageDecode_takes he hgoes hbad hsaving htakes).trans (takePage_resident (by rwa [(runFor_pass_next s d p page).2]) hst)

/-! ### A page in its frame (R54, R56 to R58, R456) -/

/-- The image of a page in its frame. -/
def frameImage (s : State) (f : Frame) (e : PageEnt) : Bytes := dramRead s (frameAddr s f.idx) e.len

/-- A frame whose image fails its check is dropped, and the decompressor waits for the page. -/
theorem decodeFrame_failed (h : imageOk (frameImage s f e) r.next = false) :
    decodeFrame d r f e s = decWaits d r (raise 34 0 0 (count 0x04002C 1 (dropFrame f.idx s))) := by
  unfold frameImage at h
  simp [decodeFrame, h]

/-- A page that failed its check leaves event 34, its frame FREE, and the decompressor waiting. -/
theorem decodeFrame_drops (hwf : RegsWf s) (h : imageOk (frameImage s f e) r.next = false) :
    let t := decodeFrame d r f e s
    DecodeKeeps s t ∧ t.dram = s.dram ∧ Pending t 34 ∧ (∀ g, g ∈ t.intake.frames ↔ g ∈ s.intake.frames ∧ g.idx ≠ f.idx) ∧
      (t.intake.dec[d]).st = 5 := by
  intro t
  have hcount : RegsWf (count 0x04002C 1 (dropFrame f.idx s)) := regsWf_count hwf
  have hraised := raise_frame 34 0 0 (count 0x04002C 1 (dropFrame f.idx s))
  have hwf' := raise_wf _ 34 0 0 hcount
  have hpending := pending_raise (src := 34) (info := 0) (cseq := 0) (by decide) (by decide) hcount
  have ht : t = _ := decodeFrame_failed h
  generalize raise 34 0 0 (count 0x04002C 1 (dropFrame f.idx s)) = u at ht hraised hwf' hpending
  obtain ⟨hkept, hram, hframes, hdec, -⟩ := decWaits_keeps d r u
  obtain ⟨ukept, uram, uframes⟩ : DecodeKeeps s u ∧ u.dram = s.dram ∧ u.intake.frames = (dropFrame f.idx s).intake.frames := by
    rw [hraised]
    exact ⟨⟨rfl, rfl, rfl, rfl, rfl, rfl, rfl⟩, rfl, rfl⟩
  rw [ht]
  refine ⟨ukept.trans hkept, hram.trans uram, (decWaits_steady d r u).pending hwf' 34 (by decide) hpending, fun g => ?_,
    congrArg Dec.st hdec⟩
  rw [hframes, uframes]
  exact List.mem_filter.trans (and_congr_right' bne_iff_ne)

/-- The history with which a page is decoded, where the chain begins there or the run holds the page before. -/
def pageHistory (r : Run) (e : PageEnt) : Bytes := if e.restart then [] else r.content

theorem decodeFrame_malformed {x : PageFault} (hok : imageOk (frameImage s f e) r.next = true)
    (hchain : e.restart = true ∨ r.content ≠ [])
    (hpage : decodePage (frameImage s f e) r.next (boundPages s).length e.len e.restart e.last (pageHistory r e) = .error x) :
    decodeFrame d r f e s = streamFault r.pass x.1 r.next x.2 (updDec d (fun y => { y with st := 6, run := some r }) s) := by
  have hplain : (e.restart || !r.content.isEmpty) = true := by simpa using hchain
  unfold frameImage pageHistory at *
  simp only [decodeFrame, hok, hplain, hpage]
  rfl

/-- A malformed page ends a forage with the fault (R49, R456). -/
theorem decodeFrame_ends {code off : Nat} (hwf : RegsWf s) (hp : r.pass = .forage) (hgoes : passGoes s .forage = true)
    (hok : imageOk (frameImage s f e) r.next = true) (hchain : e.restart = true ∨ r.content ≠ [])
    (hpage : decodePage (frameImage s f e) r.next (boundPages s).length e.len e.restart e.last (pageHistory r e) =
      .error (code, off)) :
    let t := decodeFrame d r f e s
    DecodeKeeps s t ∧ FaultNoted code r.next off t ∧
      ∃ g, t.job.forage = some g ∧ g.fail = some (6, code, 2, 0, r.next, off) := by
  intro t
  have ht : t = _ := decodeFrame_malformed (x := (code, off)) hok hchain hpage
  have hkept : DecodeKeeps s (updDec d (fun y => { y with st := 6, run := some r }) s) := ⟨rfl, rfl, rfl, rfl, rfl, rfl, rfl⟩
  have hgoes' : passGoes (updDec d (fun y => { y with st := 6, run := some r }) s) .forage = true := hgoes
  have hwf' : RegsWf (updDec d (fun y => { y with st := 6, run := some r }) s) := hwf
  generalize updDec d (fun y => { y with st := 6, run := some r }) s = u at ht hkept hgoes' hwf'
  rw [hp] at ht
  obtain ⟨hnoted, -, -, hforage, -⟩ := streamFault_ends (p := .forage) (code := code) (page := r.next) (off := off) hwf' hgoes' nofun
  obtain ⟨-, -, hfails⟩ := hforage rfl
  obtain ⟨z, v, hshape⟩ := streamFault_forage code r.next off u
  rw [ht]
  refine ⟨?_, hnoted, hfails⟩
  rw [hshape]
  exact hkept

theorem decodeFrame_decoded {c : Bytes} (hok : imageOk (frameImage s f e) r.next = true)
    (hchain : e.restart = true ∨ r.content ≠ [])
    (hpage : decodePage (frameImage s f e) r.next (boundPages s).length e.len e.restart e.last (pageHistory r e) = .ok c) :
    decodeFrame d r f e s = pageDecoded d r (pageHistory r e) (frameImage s f e) c f s := by
  have hplain : (e.restart || !r.content.isEmpty) = true := by simpa using hchain
  unfold frameImage pageHistory at *
  simp only [decodeFrame, hok, hplain, hpage]
  rfl

/-- A page that has decoded is the content of its run, and its header that of the pass (R97). No state is saved where none is
due (R98). -/
theorem pageDecoded_keeps {h image c : Bytes} (hports : r.pass = .write → ∀ n : Fin 16, (s.blk.ports[n]).final = none)
    (hperiod : Bits.bits (passCtl s r.pass) 7 4 = 0) :
    let t := pageDecoded d r h image c f s
    t.dram = s.dram ∧ (r.pass = .forage ∨ writeLive t = true → t.eng = s.eng ∧ t.comb = s.comb ∧
      (t.intake.dec[d]).st = 2 ∧ (t.intake.dec[d]).run = some (runOn r (imageRestart image) h c) ∧
      ∀ k : Fin 4, k ≠ d → t.intake.dec[k] = s.intake.dec[k]) := by
  intro t
  obtain ⟨u, hu, hblk, hdram, heng, hcomb, hdec⟩ : ∃ u, t = lookAhead r.pass u ∧ u.blk = s.blk ∧ u.dram = s.dram ∧ u.eng = s.eng ∧
      u.comb = s.comb ∧
      u.intake.dec = upd s.intake.dec d.val (fun x => { x with st := 2, run := some (runOn r (imageRestart image) h c) }) := by
    unfold t pageDecoded
    extract_lets r1 head s1 s2 k
    have hk : ¬ (decide (k ≠ 0) && decide ((r1.next - r1.chainStart) % k = 0)) = true := by simp [k, hperiod]
    have h1 : s1.blk = s.blk ∧ s1.dram = s.dram ∧ s1.eng = s.eng ∧ s1.comb = s.comb ∧
        s1.intake.dec = upd s.intake.dec d.val (fun x => { x with st := 2, run := some r1 }) := ⟨rfl, rfl, rfl, rfl, rfl⟩
    refine ⟨s2, by rw [if_neg hk], ?_⟩
    clear_value s1
    unfold s2
    split
    · exact h1
    · simpa only [updExp_blk, updExp_dram, updExp_eng, updExp_comb, updExp_dec] using h1
  obtain ⟨kdram, -, kkept⟩ := lookAhead_keeps (s := u) (p := r.pass) (by rwa [hblk])
  rw [hu]
  refine ⟨kdram.trans hdram, fun hgoes => ?_⟩
  obtain ⟨kintake, keng, kcomb⟩ := kkept hgoes
  have hown := upd_own s.intake.dec d (fun x => { x with st := 2, run := some (runOn r (imageRestart image) h c) })
  rw [kintake, hdec]
  exact ⟨keng.trans heng, kcomb.trans hcomb, congrArg Dec.st hown, congrArg Dec.run hown, fun k hk => upd_other hk⟩

end Sys2Proof.Machine
end

section
/-!
PROOFS. The hand-over of a tile list (O51, second half): the units of LIST that a list is given, its bytes there, and the task (R104
to R106, R109, R322).
-/

namespace Sys2Proof.Machine

variable {s t : State} {p : Pass} {f : Stripe} {col seg : Int} {l : TList}

/-! ### Units of LIST (R322) -/

theorem freeUnits_spec (fuel : Nat) (used : List Nat) (k n : Nat) :
    (freeUnits fuel used k n).Pairwise (· < ·) ∧ ∀ u, u ∈ freeUnits fuel used k n → k ≤ u ∧ u ∉ used := by
  induction fuel generalizing k n with
  | zero => simp [freeUnits]
  | succ fuel ih =>
    cases n with
    | zero => simp [freeUnits]
    | succ n =>
      unfold freeUnits
      split
      · obtain ⟨hrise, hfree⟩ := ih (k + 1) (n + 1)
        exact ⟨hrise, fun u hu => ⟨Nat.le_of_succ_le (hfree u hu).1, (hfree u hu).2⟩⟩
      · next hk =>
        obtain ⟨hrise, hfree⟩ := ih (k + 1) n
        refine ⟨List.pairwise_cons.mpr ⟨fun u hu => (hfree u hu).1, hrise⟩, fun u hu => ?_⟩
        obtain rfl | hu := List.mem_cons.mp hu
        · exact ⟨Nat.le_refl _, by simpa using hk⟩
        · exact ⟨Nat.le_of_succ_le (hfree u hu).1, (hfree u hu).2⟩

/-- The units given to a list rise, and no list holds one of them. -/
theorem unitsFor_spec (s : State) (n : Nat) : (unitsFor s n).Pairwise (· < ·) ∧
    ∀ m u, m ∈ s.comb.lists → u ∈ m.units → u ∉ unitsFor s n := by
  obtain ⟨hrise, hfree⟩ := freeUnits_spec ((s.comb.lists.flatMap (·.units)).length + (n + 65535) / 65536)
    (s.comb.lists.flatMap (·.units)) 0 ((n + 65535) / 65536)
  exact ⟨hrise, fun m u hm hu hmem => (hfree u hmem).2 (List.mem_flatMap.mpr ⟨m, hm, hu⟩)⟩

/-- First byte of a unit of LIST. -/
def unitAddr (s : State) (u : Nat) : Nat := s.mem.regions.list.1 * 2 ^ 30 + 65536 * u

theorem putUnits_frame (l : List Nat) (b : Bytes) (s : State) : ∃ m, putUnits l b s = { s with dram := m } := by
  induction l generalizing b s with
  | nil => exact ⟨_, rfl⟩
  | cons u l ih =>
    obtain ⟨m, h⟩ := ih (b.drop 65536) (dramWrite (unitAddr s u) (b.take 65536) s)
    exact ⟨m, h⟩

/-- Bytes outside the units written are kept. -/
theorem putUnits_outside {l : List Nat} {b : Bytes} {a : Nat} (hwf : DramWf s)
    (h : ∀ u, u ∈ l → a < unitAddr s u ∨ unitAddr s (u + 1) ≤ a) : dramByte (putUnits l b s) a = dramByte s a := by
  induction l generalizing b s with
  | nil => rfl
  | cons u l ih =>
    have hrest := ih (b := b.drop 65536) (dramWrite_wf s (unitAddr s u) (b.take 65536) hwf)
      fun v hv => h v (List.mem_cons_of_mem u hv)
    refine hrest.trans ((dramByte_write s _ a _ hwf).trans (dif_neg fun hin => ?_))
    have hu := h u List.mem_cons_self
    have hlen : (b.take 65536).length ≤ 65536 := by simp
    unfold unitAddr at hu hin
    omega

/-- Byte `j` of unit `k` is that of the bytes written in order. -/
theorem putUnits_inside {l : List Nat} {b : Bytes} {k u j : Nat} (hwf : DramWf s) (hrise : l.Pairwise (· < ·))
    (hu : l[k]? = some u) (hj : j < 65536) (hb : 65536 * k + j < b.length) :
    dramByte (putUnits l b s) (unitAddr s u + j) = b.getD (65536 * k + j) 0 := by
  induction l generalizing b s k with
  | nil => simp at hu
  | cons v l ih =>
    have hwf' := dramWrite_wf s (unitAddr s v) (b.take 65536) hwf
    obtain ⟨hfirst, hrise⟩ := List.pairwise_cons.mp hrise
    cases k with
    | zero =>
      obtain rfl : v = u := by simpa using hu
      have hkept : dramByte (putUnits (v :: l) b s) (unitAddr s v + j) =
          dramByte (dramWrite (unitAddr s v) (b.take 65536) s) (unitAddr s v + j) := by
        refine putUnits_outside hwf' fun w hw => .inl ?_
        have hlt := hfirst w hw
        change unitAddr s v + j < unitAddr s w
        unfold unitAddr
        omega
      have hlen : j < (b.take 65536).length := by simp; omega
      rw [hkept, dramByte_write s _ _ _ hwf, dif_pos (by omega), List.getD_eq_getElem _ _ (by omega)]
      simp
    | succ k =>
      have hrest := ih (b := b.drop 65536) hwf' hrise (by simpa using hu) (by simp; omega)
      refine hrest.trans ?_
      rw [List.getD_eq_getElem _ _ (by simp; omega), List.getD_eq_getElem _ _ (by omega), List.getElem_drop]
      congr 1
      omega

/-! ### Fields of a list image (R104) -/

theorem leNat_natLe (n len : Nat) : Bits.leNat (Bits.natLe n len) = n % 2 ^ (8 * len) := by
  induction len generalizing n with
  | zero => simp [Bits.natLe, Bits.leNat, Nat.mod_one]
  | succ len ih =>
    rw [Bits.natLe, Bits.leNat, ih, BitVec.toNat_ofNat, show 2 ^ (8 * (len + 1)) = 256 * 2 ^ (8 * len) by ring, Nat.mod_mul]

/-- A little-endian field behind a prefix. -/
theorem field_append (a : Bytes) (n len : Nat) (b : Bytes) :
    Bits.field (a ++ (Bits.natLe n len ++ b)) a.length len = n % 2 ^ (8 * len) := by
  have hlen := length_natLe n len
  rw [Bits.field, Bits.slice, List.drop_left, List.take_append_of_le_length (by omega), List.take_of_length_le (by omega),
    leNat_natLe]

theorem listImage_fields (s : State) (p : Pass) (f : Stripe) (l : TList) :
    Bits.field (listImage s p f l) 0 8 = passTileId s p (l.col, l.seg) % 2 ^ 64 ∧
      Bits.field (listImage s p f l) 8 4 = l.entries.length % 2 ^ 32 := by
  unfold listImage
  simp only [List.append_assoc]
  refine ⟨field_append [] _ 8 _, ?_⟩
  have h := field_append (Bits.natLe (passTileId s p (l.col, l.seg)) 8) l.entries.length 4
  rw [length_natLe] at h
  exact h _

/-! ### The hand-over (R105, R106, R109) -/

/-- When a tile's list is handed over: the pass goes on and wants the tile, no list of it has been handed over, and no cell that the
walk has still to expand meets it (log 69). -/
def ListReady (s : State) (p : Pass) (f : Stripe) (col seg : Int) : Prop :=
  passGoes s p = true ∧ tileWanted s p f col seg = true ∧ (col, seg) ∉ (passExp s p).handed ∧
    listComplete (passExp s p) (tileExtent f (col, seg)) = true

theorem listReady_iff : ListReady s p f col seg ↔ ¬ (!passGoes s p || !tileWanted s p f col seg ||
    (passExp s p).handed.contains (col, seg) || !listComplete (passExp s p) (tileExtent f (col, seg))) = true := by
  simp [ListReady, and_assoc]

/-- A walk whose list of the tile of `l` has been handed over. -/
def withoutList (l : TList) (x : Exp) : Exp :=
  { x with
    lists := x.lists.filter (fun m => !(m.col == l.col && m.seg == l.seg)), handed := (l.col, l.seg) :: x.handed }

/-- A list written to its units and queued as a task. -/
def handedOver (s : State) (p : Pass) (f : Stripe) (l : TList) : State :=
  let s1 := putUnits l.units (listImage s p f l) (updExp p (withoutList l) s)
  { s1 with comb := { s1.comb with lists := s1.comb.lists ++ [l], tasks := s1.comb.tasks ++ [listTask s p f l.col l.seg] } }

theorem tileListDone_stays (hf : passStripe s p = some f) (h : ¬ ListReady s p f col seg) : tileListDone p col seg s = s := by
  rw [listReady_iff, not_not] at h
  simp only [tileListDone, hf]
  exact if_pos h

/-- A finished list is handed over with the units it is given. -/
theorem tileListDone_ready (hf : passStripe s p = some f) (h : ListReady s p f col seg) :
    ∃ es n, tileListDone p col seg s = handedOver s p f
      { pass := p, col := col, seg := seg, entries := es, done := true, units := unitsFor s n } := by
  rw [listReady_iff] at h
  simp only [tileListDone, hf]
  exact ⟨_, _, if_neg h⟩

/-- What a hand-over changes: module DRAM, the walk's lists and tiles handed over, and the schedulers' stores. -/
theorem handedOver_frame (s : State) (p : Pass) (f : Stripe) (l : TList) : ∃ m, handedOver s p f l =
    { updExp p (withoutList l) s with
      dram := m
      comb := { s.comb with lists := s.comb.lists ++ [l], tasks := s.comb.tasks ++ [listTask s p f l.col l.seg] } } := by
  obtain ⟨m, h⟩ := putUnits_frame l.units (listImage s p f l) (updExp p (withoutList l) s)
  refine ⟨m, ?_⟩
  rw [handedOver, h]
  simp only [updExp_comb]

theorem handedOver_keeps (s : State) (p : Pass) (f : Stripe) (l : TList) :
    let t := handedOver s p f l
    t.comb.lists = s.comb.lists ++ [l] ∧ t.comb.tasks = s.comb.tasks ++ [listTask s p f l.col l.seg] ∧ t.eng = s.eng ∧
      t.job.live = s.job.live ∧ t.regs = s.regs := by
  intro t
  obtain ⟨m, h⟩ := handedOver_frame s p f l
  rw [show t = _ from h]
  exact ⟨rfl, rfl, updExp_eng .., congrArg Job.live (updExp_job ..), updExp_regs ..⟩

theorem handedOver_handed (s : State) (p : Pass) (f : Stripe) (l : TList) :
    (l.col, l.seg) ∈ (passExp (handedOver s p f l) p).handed := by
  obtain ⟨m, h⟩ := handedOver_frame s p f l
  rw [h]
  cases p <;> exact List.mem_cons_self

/-- A list that has been handed over is not handed over again. -/
theorem tileListDone_once (hf : passStripe s p = some f) :
    tileListDone p l.col l.seg (handedOver s p f l) = handedOver s p f l := by
  refine tileListDone_stays (f := f) ?_ fun hready => ?_
  · obtain ⟨m, h⟩ := handedOver_frame s p f l
    rw [h, ← hf]
    cases p <;> rfl
  · obtain ⟨-, -, hnew, -⟩ := hready
    exact hnew (handedOver_handed s p f l)

@[simp] theorem unitAddr_updExp (g : Exp → Exp) (u : Nat) : unitAddr (updExp p g s) u = unitAddr s u := by
  rw [unitAddr, updExp_mem, unitAddr]

theorem handedOver_outside {a : Nat} (hwf : DramWf s) (h : ∀ u, u ∈ l.units → a < unitAddr s u ∨ unitAddr s (u + 1) ≤ a) :
    dramByte (handedOver s p f l) a = dramByte s a := by
  have hkept := putUnits_outside (s := updExp p (withoutList l) s) (l := l.units) (b := listImage s p f l) (a := a)
    (by rwa [DramWf, updExp_dram]) (by simpa using h)
  exact hkept.trans (by rw [dramByte, updExp_dram, dramByte])

theorem handedOver_inside {k u j : Nat} (hwf : DramWf s) (hrise : l.units.Pairwise (· < ·)) (hu : l.units[k]? = some u)
    (hj : j < 65536) (hb : 65536 * k + j < (listImage s p f l).length) :
    dramByte (handedOver s p f l) (unitAddr s u + j) = (listImage s p f l).getD (65536 * k + j) 0 := by
  have hput := putUnits_inside (s := updExp p (withoutList l) s) (by rwa [DramWf, updExp_dram]) hrise hu hj hb
  rwa [unitAddr_updExp] at hput

end Sys2Proof.Machine

open Sys2Proof Sys2Proof.Machine in
/-- Settles O51: what a decompressor makes of a page follows from where the page is and what its image holds, and a list is handed
over once, to units of its own. -/
theorem pageDecodes : Obligations.PageDecodes := by
  unfold Obligations.PageDecodes
  intro d p page s hwf hdram x goes kept
  refine ⟨fun h => congrArg Host.Outcome.next (pageDecode_stays h), fun e he hgoes hbad hsaving => ⟨fun hrun hentry => ?_,
    fun hidle hentry habsent => ?_, fun f hf hst => ?_⟩, fun col seg f hf => ?_⟩
  · exact congrArg Host.Outcome.next (pageDecode_refuses hrun hentry hbad)
  · have hexec : exec (.pageDecode d p page) s = .next (decWaits d (entryRun s p page) s) := by
      refine congrArg Host.Outcome.next ((pageDecode_takes he hgoes hbad hsaving (.inr ⟨hidle, hentry⟩)).trans ?_)
      rw [runFor_of_idle hidle]
      exact takePage_absent habsent
    obtain ⟨hkept, hram, hframes, hdec, hothers⟩ := decWaits_keeps d (entryRun s p page) s
    exact ⟨_, { entryRun s p page with pin := none }, hexec, hkept, hram, hframes, congrArg Dec.st hdec, congrArg Dec.run hdec,
      rfl, rfl, rfl, rfl, hothers⟩
  · intro image hist n
    obtain ⟨hpass, hnext⟩ := runFor_pass_next s d p page
    have htake (htakes : runGoes s d p page = true ∨ x.dec[d].run = none ∧ isEntry s p page = true) :
        exec (.pageDecode d p page) s = .next (decodeFrame d (runFor s d p page) f e s) :=
      congrArg Host.Outcome.next (pageDecode_resident he hgoes hbad hsaving hf hst htakes)
    refine ⟨fun hno hruns => ?_, fun code off hok hidle hrestart hp hentry hpage => ?_,
      fun c hok hchain htakes hentry hperiod hports hpage => ?_⟩
    · exact ⟨_, htake (.inl hruns), decodeFrame_drops hwf (by rwa [hnext])⟩
    · obtain ⟨hkept, ⟨hpending, hcode, -, hoff⟩, g, hg, hfail⟩ := decodeFrame_ends (d := d) (r := runFor s d p page) (f := f) hwf
        (hpass.trans hp) (hp ▸ hgoes.1) (by rwa [hnext]) (.inl hrestart)
        (by rw [pageHistory, if_pos hrestart, hnext]; exact hpage)
      rw [hnext] at hfail
      exact ⟨_, g, htake (.inr ⟨hidle, hentry⟩), hkept, hg, hpending, fun _ _ _ => hfail, hcode, hoff⟩
    · have hcontent : hist = (runFor s d p page).content := by
        unfold hist
        split
        · next r hr => exact (runFor_content hr).symm
        · next hr => exact congrArg Run.content (runFor_of_idle hr).symm
      rw [hcontent] at hchain hpage
      have htakes' : runGoes s d p page = true ∨ x.dec[d].run = none ∧ isEntry s p page = true :=
        hentry.elim (fun h => htakes.symm.imp_right (⟨·, h⟩)) .inl
      have hdecoded := decodeFrame_decoded (d := d) (r := runFor s d p page) (f := f) (s := s) (by rwa [hnext]) hchain
        (by rw [hnext]; exact hpage)
      obtain ⟨hram, hrest⟩ := pageDecoded_keeps (d := d) (r := runFor s d p page) (f := f) (s := s)
        (h := pageHistory (runFor s d p page) e) (image := frameImage s f e) (c := c) (by rwa [hpass]) (by rwa [hpass])
      refine ⟨_, (htake htakes').trans (congrArg Host.Outcome.next hdecoded), hram, fun hlive => ?_⟩
      obtain ⟨heng, hcomb, hst, hrun, hothers⟩ := hrest (hpass.symm ▸ hlive)
      exact ⟨heng, hcomb, hst, ⟨_, hrun, hpass, congrArg (· + 1) hnext, rfl, congrArg some hnext⟩, hothers⟩
  · intro w ready
    refine ⟨fun h => congrArg Host.Outcome.next (tileListDone_stays hf h), fun h => ?_⟩
    obtain ⟨es, n, hdone⟩ := tileListDone_ready hf h
    obtain ⟨hrise, hfree⟩ := unitsFor_spec s n
    generalize hl : TList.mk p col seg es true (unitsFor s n) = l at hdone
    obtain ⟨rfl, rfl, rfl, hdone', hunits⟩ : l.pass = p ∧ l.col = col ∧ l.seg = seg ∧ l.done = true ∧ l.units = unitsFor s n := by
      subst hl
      exact ⟨rfl, rfl, rfl, rfl, rfl⟩
    have hsteps : exec (.tileListDone l.pass l.col l.seg) s = .next (handedOver s l.pass f l) := congrArg Host.Outcome.next hdone
    obtain ⟨hlists, htasks, heng, hlive, hregs⟩ := handedOver_keeps s l.pass f l
    rw [← hunits] at hrise hfree
    obtain ⟨hid, hcount⟩ := listImage_fields s l.pass f l
    refine ⟨handedOver s l.pass f l, l, listTask s l.pass f l.col l.seg, hsteps, hlists, htasks, rfl, rfl, rfl, hdone', rfl, rfl, rfl, rfl,
      fun hp => by rw [hp]; rfl, handedOver_handed s l.pass f l, congrArg Host.Outcome.next (tileListDone_once hf), heng, hlive,
      hregs, hid, hcount, hrise, hfree, fun a ha => handedOver_outside hdram ha,
      fun k u j hu hj hb => handedOver_inside hdram hrise hu hj hb⟩
end

section
/-!
PROOFS. A full journal ring (O41): the copies of INTAKE records that R311 asks for push an older record out before the FINAL
record stands.
-/

namespace Sys2Proof.Machine

variable {s t : State} {l m : List JRec} {r : JRec} {q : Nat}

/-! ### A full journal ring takes a record for its oldest -/

theorem journalPut_full (hj : s.journal = l ++ [r]) (hfull : l.length + 1 = journalRing) (x : JRec) :
    (journalPut x s).journal = { x with rseq := nextRseq s } :: l := by
  have hl : journalRing - 1 = l.length := by omega
  rw [journalPut, exportLog_journal, hj, hl, List.take_left]

theorem journalVictim_open (hj : s.journal = l ++ [r]) (hfull : l.length + 1 = journalRing) (hkind : r.kind = 1)
    (hopen : unfinished s r.cseq = true) : journalVictim s = some r := by
  have hlen : ¬ s.journal.length < journalRing := by
    rw [hj, List.length_append, List.length_singleton, hfull]
    exact lt_irrefl _
  rw [journalVictim, if_neg hlen, hj]
  simp [hkind, hopen]

/-- The copy that R311 makes of an INTAKE record. -/
def copyOf (r : JRec) : JRec :=
  { r with body := Bits.slice r.body 0 28 ++ Bits.natLe (Bits.setBits (Bits.field r.body 28 4) 1 1 1) 4 }

theorem journalCopies_succ {n : Nat} (h : journalVictim s = some r) :
    journalCopies (n + 1) s = journalCopies n (raise 17 0 0 (journalPut (copyOf r) s)) := by
  rw [journalCopies, h]
  rfl

theorem unfinished_congr (h : t.job = s.job) (q : Nat) : unfinished t q = unfinished s q := by
  rw [unfinished, h]
  rfl

/-- One copy for each INTAKE record of an unfinished command at the old end of a full ring: the copies stand first, and what was
before those records is last. -/
theorem journalCopies_full (hj : s.journal = l ++ m) (hfull : l.length + m.length = journalRing) (hopen : unfinished s q = true)
    (hm : ∀ x ∈ m, x.kind = 1 ∧ x.cseq = q) :
    ∃ c, (journalCopies m.length s).journal = c ++ l ∧ c.length = m.length ∧ ∀ x ∈ c, x.kind = 1 := by
  induction m using List.reverseRecOn generalizing s l with
  | nil => exact ⟨[], by simpa [journalCopies] using hj, rfl, by simp⟩
  | append_singleton m r ih =>
    obtain ⟨hkind, hseq⟩ := hm r (by simp)
    have hj' : s.journal = (l ++ m) ++ [r] := by rw [hj, List.append_assoc]
    have hfull' : (l ++ m).length + 1 = journalRing := by simpa [Nat.add_assoc] using hfull
    have hstep := journalCopies_succ (n := m.length) (journalVictim_open hj' hfull' hkind (by rw [hseq, hopen]))
    obtain ⟨c, hc, hlen, hkinds⟩ := ih (s := raise 17 0 0 (journalPut (copyOf r) s))
      (l := { copyOf r with rseq := nextRseq s } :: l)
      (by rw [raise_journal, journalPut_full hj' hfull', List.cons_append])
      (by simp at hfull ⊢; omega)
      (by rw [unfinished_congr ((raise_job _ _ _ _).trans (journalPut_job _ _)), hopen])
      fun y hy => hm y (by simp [hy])
    refine ⟨c ++ [{ copyOf r with rseq := nextRseq s }], ?_, by simp [hlen], fun y hy => ?_⟩
    · rw [List.length_append, List.length_singleton, hstep, hc, List.append_assoc, List.singleton_append]
    · obtain hy | hy := List.mem_append.mp hy
      · exact hkinds y hy
      · rw [List.mem_singleton.mp hy]
        exact hkind

/-- The end of a command whose own record heads a full ring of INTAKE records, as many as commands are accepted and one more: they
are all copied, and its FINAL record takes the place of that record. -/
theorem finish_full {e : End} (hj : s.journal = r :: m) (hfull : m.length + 1 = journalRing)
    (hlive : s.job.live.length + 1 = m.length) (hopen : unfinished s q = true) (hm : ∀ x ∈ m, x.kind = 1 ∧ x.cseq = q) :
    ∀ x ∈ (finish q e s).journal, x.kind = 1 ∨ x.kind = 2 := by
  obtain ⟨c, hc, hlen, hkinds⟩ := journalCopies_full (l := [r]) hj (by simp; omega) hopen hm
  have hcopied : (journalCopy s).journal = c ++ [r] := by rw [journalCopy, hlive, hc]
  intro x hx
  rw [finish_eq, complete_journal, finishRecord, journalAdd, journalPut_full hcopied (by omega)] at hx
  obtain rfl | hx := List.mem_cons.mp hx
  · exact .inr rfl
  · exact .inl (hkinds x hx)

/-! ### The state that refutes the statement -/

/-- A JOB_CLOSE of SEQ 1. -/
def closeLive : Live := { seq := 1, entry := [1, 0, 0, 0, 0, 0, 0, 0, 2], phase := .queued }

/-- The INTAKE record of the command with SEQ 1. -/
def closeIntake : JRec :=
  { rseq := 0, kind := 1, opcode := 2, status := 1, cause := 0, stamp := 0, cseq := 1, detail := 0, body := [] }

/-- A module at rest with a JOB_CLOSE first of 262 142 accepted commands, and room for one record in its journal ring, which holds
INTAKE records of unfinished commands. -/
def crowded : State :=
  { State.reset with
    power := { State.reset.power with ready := true, resetPending := false, on := BitVec.allOnes 64 },
    job := { State.reset.job with live := List.replicate 262142 closeLive },
    journal := List.replicate 262143 closeIntake }

theorem crowded_live : crowded.job.live = closeLive :: List.replicate 262141 closeLive := List.replicate_succ

theorem crowded_regsWf : RegsWf crowded := canon_reset.regs

theorem crowded_startsNext : StartsNext crowded 2 closeLive :=
  ⟨⟨[], _, crowded_live, by simp⟩, rfl, rfl, rfl, rfl, by decide⟩

theorem crowded_jobClose : jobClose crowded =
    raise 7 0 1 (finish 1 { status := 0 } (jobRecord crowded.job.id 2 1 (closeJob crowded))) := by
  have hnext : startable crowded 2 = some closeLive := by
    have hstart : nextStart crowded = some closeLive := by
      rw [nextStart, notStarted, crowded_live]
      rfl
    rw [startable, hstart]
    decide
  have hfirst : isFirstLive crowded closeLive.seq = true := by
    rw [isFirstLive, crowded_live]
    rfl
  rw [jobClose, hnext]
  exact if_pos hfirst

/-- Closing the job leaves no record of the closing. -/
theorem crowded_journal : ∀ x ∈ (jobClose crowded).journal, x.kind ≠ 7 := by
  have hroom : (closeJob crowded).journal.length < 262144 := by
    rw [show (closeJob crowded).journal = List.replicate 262143 closeIntake from rfl, List.length_replicate]
    decide
  obtain ⟨r, hr, -⟩ :
      ∃ r, (jobRecord crowded.job.id 2 1 (closeJob crowded)).journal = r :: (closeJob crowded).journal ∧ _ ∧ _ :=
    journalAdd_append hroom
  have hjob : (jobRecord crowded.job.id 2 1 (closeJob crowded)).job.live = crowded.job.live :=
    congrArg (·.live) (journalAdd_job _ _ _ _ _ _ _ _)
  intro x hx
  rw [crowded_jobClose, raise_journal] at hx
  have hkind := finish_full (m := List.replicate 262143 closeIntake) (q := 1) hr (by rw [List.length_replicate]; rfl)
    (by rw [hjob, crowded_live, List.length_cons, List.length_replicate, List.length_replicate])
    (by rw [unfinished, hjob, crowded_live, List.any_cons]; rfl)
    (fun y hy => by rw [List.eq_of_mem_replicate hy]; exact ⟨rfl, rfl⟩) x hx
  omega

end Sys2Proof.Machine

open Sys2Proof Sys2Proof.Machine in
/-- Refutes O41: the statement lets any number of commands be accepted. In `crowded` the record of the closing fills the journal
ring; before the FINAL record stands, every INTAKE record in the ring is copied (R311), and it then overwrites the record of the
closing, so that the journal holds none of kind 7. -/
theorem not_jobOpenAndClose : ¬ Obligations.JobOpenAndClose := by
  unfold Obligations.JobOpenAndClose
  intro h
  obtain ⟨-, hclose, -⟩ := h crowded closeLive crowded_regsWf
  obtain ⟨-, hends⟩ := hclose crowded_startsNext
  obtain ⟨t, hstep, -, -, -, -, -, -, -, -, -, -, -, -, x, hx, hkind, -⟩ := hends (by rw [crowded_live]; rfl)
  obtain rfl : jobClose crowded = t := Host.Outcome.next.inj hstep
  exact crowded_journal x hx hkind
end

section
/-!
PROOFS. The intake of the stripe commands (O43): what a refusal and an acceptance at intake do, which refusal an entry meets, and the
outcome of each command.
-/

namespace Sys2Proof.Machine

variable {s t : State} {b : Bytes} {e : End} {cls op q : Nat} {l : List Slot}

/-! ### The record of an entry at intake (R290) -/

theorem journalAdd_frame (kind opcode status cause cseq detail : Nat) (body : Bytes) (s : State) : ∃ g v o j,
    journalAdd kind opcode status cause cseq detail body s = { s with regs := g, evt := v, out := o, journal := j } := by
  obtain ⟨g, v, o, j, hcopies⟩ := journalCopies_frame (s.job.live.length + 1) s
  unfold journalAdd
  extract_lets r
  obtain ⟨o', j', hput⟩ := journalPut_frame r (journalCopy s)
  rw [hput, journalCopy, hcopies]
  exact ⟨_, _, _, _, rfl⟩

theorem journalAdd_steady {kind opcode status cause cseq detail : Nat} {body : Bytes} :
    Steady s (journalAdd kind opcode status cause cseq detail body s) :=
  ⟨fun hw => (journalAdd_regs hw).1, fun hw _ hk hp => journalAdd_keepsPending hk hw hp⟩

/-- The job after NEXT_SEQ has passed an entry. -/
def jobPassed (b : Bytes) (j : Job) : Job := { j with nextSeq := (entrySeq b + 1) % 2 ^ 64, atIntake := none }

/-- The state with the INTAKE record of an entry, before its completion. -/
def recorded (b : Bytes) (e : End) (s : State) : State := seqPassed b (intakeRecord b e s)

theorem recorded_frame (b : Bytes) (e : End) (s : State) : ∃ g v o j, recorded b e s =
    { s with regs := g, evt := v, out := o, journal := j, job := jobPassed b s.job } := by
  obtain ⟨g, v, o, j, h⟩ := journalAdd_frame 1 (entryOp b) e.status 0 (entrySeq b) (detailOf e.code e.source e.extra)
    (Bits.natLe (entryJob b) 4) s
  exact ⟨g, v, o, j, by rw [recorded, intakeRecord, h]; rfl⟩

theorem recorded_steady : Steady s (recorded b e s) := journalAdd_steady.trans (.of_regs rfl)

theorem recorded_regs (hw : RegsWf s) : SameRegsBut [] s (recorded b e s) := (journalAdd_regs hw).2

theorem recorded_head (b : Bytes) (e : End) (s : State) : ∃ r, (recorded b e s).journal.head? = some r ∧ r.kind = 1 ∧
    r.opcode = entryOp b ∧ r.cseq = entrySeq b ∧ r.status = e.status ∧
    r.detail = BitVec.ofNat 32 (detailOf e.code e.source e.extra) ∧ r.stamp = stamp s := by
  rw [recorded, seqPassed, updJob_journal, intakeRecord, journalAdd, journalPut, exportLog_journal]
  exact ⟨_, rfl, rfl, rfl, rfl, rfl, rfl, rfl⟩

/-! ### The completion of an entry at intake (R288, R290) -/

theorem complete_frame (c : Cpl) (s : State) : ∃ x, complete c s = { s with job := { s.job with cplQ := x } } := by
  unfold complete
  split <;> exact ⟨_, rfl⟩

/-- The completion of an entry is queued where the completion ring is enabled and the host reachable. -/
theorem intakeCompletion {u : State} (n : Nat) (hon : u.job.cplOn = s.job.cplOn) (hq : u.job.cplQ = s.job.cplQ)
    (hhif : u.hif = s.hif) (htim : u.tim = s.tim)
    (ht : t.job.cplQ = (complete (cplOf (entrySeq b) (entryOp b) n false e) u).job.cplQ) :
    if s.job.cplOn = true ∧ reachable s = true then
      ∃ c, t.job.cplQ = s.job.cplQ ++ [c] ∧ c.seq = entrySeq b ∧ c.opcode = entryOp b ∧ c.status = e.status ∧ c.code = e.code ∧
        c.source = e.source ∧ c.arg0 = e.arg0 ∧ c.arg1 = e.arg1 ∧ c.dup = false ∧ c.final = false ∧ c.stamp = stamp s
    else t.job.cplQ = s.job.cplQ := by
  have hreach : reachable u = reachable s := by rw [reachable, hhif]; rfl
  have hstamp : stamp u = stamp s := by rw [stamp, htim]; rfl
  rw [complete_cplQ, hon, hq, hreach, hstamp] at ht
  split
  · next h =>
    rw [if_pos h] at ht
    exact ⟨_, ht, rfl, rfl, rfl, rfl, rfl, rfl, rfl, rfl, rfl, rfl⟩
  · next h => rw [ht, if_neg h]

/-! ### What an outcome at intake leaves -/

/-- The entry has passed intake with the outcome `e`, the forage slots are `l`, and nothing has begun; a refused budget has raised
event 12. -/
def IntakeEnds (b : Bytes) (e : End) (l : List Slot) (s t : State) : Prop :=
  TakenIn b e s t ∧ t.job.slots = l ∧ t.job.st = s.job.st ∧ t.job.id = s.job.id ∧ t.dram = s.dram ∧ t.eng = s.eng ∧
    t.intake = s.intake ∧ t.job.write = s.job.write ∧ t.job.forage = s.job.forage ∧ (e.status = 3 → Pending t 12)

theorem IntakeEnds.withSlots (h : IntakeEnds b e l s t) (m : List Slot) :
    IntakeEnds b e m s { t with job := { t.job with slots := m } } := by
  obtain ⟨htaken, -, hrest⟩ := h
  exact ⟨htaken, rfl, hrest⟩

theorem budgetNote_steady : Steady s (budgetNote e cls q s) := by
  unfold budgetNote
  split
  · exact (Steady.count (by omega)).trans (.raise (by decide) (by decide))
  · exact .refl

theorem budgetNote_pending12 (hst : e.status = 3) (hw : RegsWf s) : Pending (budgetNote e cls q s) 12 := by
  rw [budgetNote, if_pos (by simpa using hst)]
  exact pending_raise (by decide) (by decide) ((Steady.count (by omega)).wf hw)

/-- The state in which a refused entry has its record and its completion. -/
def refusedEntry (b : Bytes) (e : End) (s : State) : State :=
  complete (cplOf (entrySeq b) (entryOp b) (newestIdx (recorded b e s)) false e) (recorded b e s)

theorem refuse_eq (b : Bytes) (e : End) (cls : Nat) (s : State) :
    refuse b e cls s = budgetNote e cls (entrySeq b) (raise 4 0 (entrySeq b) (refusedEntry b e s)) := rfl

theorem refusedEntry_steady : Steady s (refusedEntry b e s) := recorded_steady.trans (.of_regs (complete_regs _ _))

/-- An entry refused at intake (R290). -/
theorem refuse_ends (hw : RegsWf s) (hst : e.status ≠ 1) :
    IntakeEnds b e s.job.slots s (refuse b e cls s) := by
  have hwf := refusedEntry_steady (b := b) (e := e) |>.wf hw
  have hraised : RegsWf (raise 4 0 (entrySeq b) (refusedEntry b e s)) := raise_wf _ _ _ _ hwf
  have hfour : Pending (refuse b e cls s) 4 :=
    (budgetNote_steady).pending hraised 4 (by decide) (pending_raise (by decide) (by decide) hwf)
  have htwelve : e.status = 3 → Pending (refuse b e cls s) 12 := fun h => budgetNote_pending12 h hraised
  have hhead := recorded_head b e s
  obtain ⟨g, v, o, j, hframe⟩ := recorded_frame b e s
  obtain ⟨x, hx⟩ := complete_frame (cplOf (entrySeq b) (entryOp b) (newestIdx (recorded b e s)) false e) (recorded b e s)
  have hjob : (refuse b e cls s).job = { jobPassed b s.job with cplQ := x } := by
    rw [refuse_eq, budgetNote_job, raise_job, refusedEntry, hx, hframe]
  have hjournal : (refuse b e cls s).journal = (recorded b e s).journal := by
    rw [refuse_eq, budgetNote_journal, raise_journal, refusedEntry, complete_journal]
  have hcpl : (refuse b e cls s).job.cplQ =
      (complete (cplOf (entrySeq b) (entryOp b) (newestIdx (recorded b e s)) false e) (recorded b e s)).job.cplQ := by
    rw [hjob, hx]
  refine ⟨⟨by rw [hjob]; rfl, by rw [hjob]; rfl, by rwa [hjournal], ?_, ?_⟩, by rw [hjob]; rfl, by rw [hjob]; rfl,
    by rw [hjob]; rfl, ?_, ?_, ?_, by rw [hjob]; rfl, by rw [hjob]; rfl, htwelve⟩
  · rw [if_neg hst]
    exact ⟨by rw [hjob]; rfl, hfour⟩
  · exact intakeCompletion _ (by rw [hframe]; rfl) (by rw [hframe]; rfl) (by rw [hframe]) (by rw [hframe]) hcpl
  · rw [refuse_eq, budgetNote_dram, raise_dram, refusedEntry, complete_dram, hframe]
  · rw [refuse_eq, budgetNote_eng, raise_eng, refusedEntry, complete_eng, hframe]
  · rw [refuse_eq, budgetNote_intake, raise_intake, refusedEntry, complete_intake, hframe]

/-- A refused forage slot is counted (R303). -/
theorem refuse_counts (hw : RegsWf s) (hst : e.status = 3) :
    reg (refuse b e 4 s) 0x02007C = Bits.satAdd (reg s 0x02007C) 1 := by
  have hwf := refusedEntry_steady (b := b) (e := e) |>.wf hw
  have hraised : RegsWf (raise 4 0 (entrySeq b) (refusedEntry b e s)) := raise_wf _ _ _ _ hwf
  rw [refuse_eq, budgetNote, if_pos (by simpa using hst), reg_raise _ _ _ _ _ (regsWf_count hraised) (by decide) (by decide),
    reg_count _ _ _ _ hraised, if_pos rfl, reg_raise _ _ _ _ _ hwf (by decide) (by decide), reg, refusedEntry, complete_regs]
  exact congrArg (Bits.satAdd · 1) (recorded_regs hw _ (by simp) (by decide) (by decide))

/-- The state in which an accepted entry has its record and is queued, before its completion. -/
def queuedEntry (b : Bytes) (s : State) : State :=
  updJob (fun j => { j with live := j.live ++ [{ seq := entrySeq b, entry := b, phase := .queued }] })
    (recorded b { status := 1 } s)

theorem queuedEntry_frame (b : Bytes) (s : State) : ∃ g v o j, queuedEntry b s = { s with
    regs := g, evt := v, out := o, journal := j, job := { jobPassed b s.job with
      live := s.job.live ++ [{ seq := entrySeq b, entry := b, phase := .queued }] } } := by
  obtain ⟨g, v, o, j, hframe⟩ := recorded_frame b { status := 1 } s
  exact ⟨g, v, o, j, by rw [queuedEntry, hframe]; rfl⟩

/-- The completion entry of an accepted entry. -/
def acceptedCpl (b : Bytes) (s : State) : Cpl :=
  cplOf (entrySeq b) (entryOp b) (newestIdx (recorded b { status := 1 } s)) false { status := 1 }

theorem accept_eq (b : Bytes) (s : State) : accept b s = complete (acceptedCpl b s) (queuedEntry b s) := rfl

/-- An entry accepted at intake (R290). -/
theorem accept_ends (b : Bytes) (s : State) : IntakeEnds b { status := 1 } s.job.slots s (accept b s) := by
  have hhead := recorded_head b { status := 1 } s
  obtain ⟨g, v, o, j, hu⟩ := queuedEntry_frame b s
  obtain ⟨x, hx⟩ := complete_frame (acceptedCpl b s) (queuedEntry b s)
  have hjournal : (accept b s).journal = (recorded b { status := 1 } s).journal := complete_journal _ _
  have hcpl := intakeCompletion (b := b) (e := { status := 1 }) (s := s) (t := accept b s) (u := queuedEntry b s) _
    (by rw [hu]; rfl) (by rw [hu]; rfl) (by rw [hu]) (by rw [hu]) rfl
  have hjob : (accept b s).job = { jobPassed b s.job with
      live := s.job.live ++ [{ seq := entrySeq b, entry := b, phase := .queued }], cplQ := x } := by
    rw [accept_eq, hx, hu]
  exact ⟨⟨by rw [hjob]; rfl, by rw [hjob]; rfl, by rwa [hjournal], by rw [hjob]; rfl, hcpl⟩, by rw [hjob]; rfl, by rw [hjob]; rfl,
    by rw [hjob]; rfl, by rw [accept_eq, hx, hu], by rw [accept_eq, hx, hu], by rw [accept_eq, hx, hu], by rw [hjob]; rfl,
    by rw [hjob]; rfl, fun h => absurd h (by decide)⟩

/-! ### The refusal of a stripe command (R290, R303, R304) -/

/-- The opcodes of the stripe commands. -/
def StripeOp (op : Nat) : Prop := op = 5 ∨ op = 6 ∨ op = 7

theorem formatRefusal_reserved (target : Byte) (hop : StripeOp (entryOp b)) (hz : Bits.zeros b 10 2 = false) :
    formatRefusal b target = some (malformed 0x31 1) := by
  obtain h | h | h := hop <;> simp [formatRefusal, h, hz]

/-- The job is open, the entry names it, and no recovery image runs. -/
def InJob (s : State) (b : Bytes) : Prop := s.job.st = 1 ∧ entryJob b = s.job.id ∧ s.sec.recovery = false

theorem stateAllows_iff (hop : StripeOp (entryOp b)) : stateAllows s b = true ↔ InJob s b := by
  unfold stateAllows InJob
  cases s.sec.recovery <;> obtain h | h | h := hop <;> simp [h]

theorem stateRefusal_job (hop : StripeOp (entryOp b)) (hjob : ¬ InJob s b) : stateRefusal s b = some (refusedState 1) := by
  rw [← stateAllows_iff hop, Bool.not_eq_true] at hjob
  simp [stateRefusal, hjob]

theorem stateRefusal_memory (hop : StripeOp (entryOp b)) (hjob : InJob s b) :
    stateRefusal s b = if memoryBad s then some (refusedState 0x12) else none := by
  have hstripe : 3 ≤ entryOp b ∧ entryOp b ≤ 7 := by obtain h | h | h := hop <;> omega
  simp [stateRefusal, (stateAllows_iff hop).mpr hjob, hstripe]

theorem refusalOf_format {target : Byte} (h : formatRefusal b target = some e) : refusalOf s b target = some (e, 0) := by
  simp [refusalOf, h]

theorem refusalOf_state {target : Byte} (hformat : formatRefusal b target = none) (h : stateRefusal s b = some e) :
    refusalOf s b target = some (e, 0) := by
  simp [refusalOf, hformat, h]

/-- An entry without a fault of format and allowed by the job and the memory meets the budget of its class alone. -/
theorem refusalOf_budget (hop : StripeOp (entryOp b)) (hformat : formatRefusal b 0 = none) (hjob : InJob s b)
    (hready : memoryBad s = false) : refusalOf s b 0 = if entryOp b = 5 then forageBudget s b else writeBudget s b := by
  have hstate : stateRefusal s b = none := by simp [stateRefusal_memory hop hjob, hready]
  unfold refusalOf
  rw [hformat, hstate]
  obtain h | h | h := hop <;> simp [h, isWriteOp]

/-! ### The budgets (R95, R303, R304) -/

theorem forageBudget_eq (s : State) (b : Bytes) : forageBudget s b =
    if slotTaken s (entryStripe b) = false ∧ s.job.slotMax ≤ s.job.slots.length then
      some ({ status := 3, code := 0x23, source := 8 }, 4)
    else none := by
  simp [forageBudget]

/-- The right side of the speed plan of a write (R304), PLAN apart. -/
def planSide (s : State) (b : Bytes) : Nat := planRight (renderRate s) (workingNow s) (planMargin s) (entrySolo b)

/-- The left side of the speed plan of a stripe (R304), and the segment where its worst run begins. -/
def planCost (b : Bytes) (x : Slot) : Nat × Nat := qBar x (firstSegment (entryStripe b).named)

/-- The pages of a stripe fit beside the directory and the 1024 frames kept free (R95). -/
def PagesFit (s : State) (x : Slot) : Prop :=
  x.pages.eraseDups.length + directoryFrames s + 1024 ≤ s.intake.poolFrames

theorem pages_overflow_iff (s : State) (x : Slot) :
    s.intake.poolFrames - directoryFrames s - 1024 < x.pages.eraseDups.length ↔ x.pages ≠ [] ∧ ¬ PagesFit s x := by
  unfold PagesFit
  cases hp : x.pages with
  | nil => simp
  | cons p l =>
    have hpos : 0 < (p :: l).eraseDups.length := by simp [List.eraseDups_cons]
    simp only [ne_eq, reduceCtorEq, not_false_eq_true, true_and]
    omega

variable {x : Slot}

/-- A stripe without results has no budget to meet at intake (R298). -/
theorem writeBudget_none (hx : resultsOf s (entryStripe b) = none) : writeBudget s b = none := by
  rw [writeBudget, hx]

/-- Where the speed plan is met, the pages decide (R95). -/
theorem writeBudget_met (hx : resultsOf s (entryStripe b) = some x)
    (hplan : (planCost b x).1 * 128000000 ≤ planSide s b * (entryStripe b).plan) :
    (x.pages = [] ∨ PagesFit s x → writeBudget s b = none) ∧
      (x.pages ≠ [] → ¬ PagesFit s x → writeBudget s b = some ({ status := 3, code := 0x22, source := 8 }, 3)) := by
  have hmet : planMet (planCost b x).1 (planSide s b) (entryStripe b).plan = true := decide_eq_true hplan
  have hbudget : writeBudget s b =
      if s.intake.poolFrames - directoryFrames s - 1024 < x.pages.eraseDups.length then
        some ({ status := 3, code := 0x22, source := 8 }, 3) else none := by
    unfold planCost planSide at hmet
    simp only [writeBudget, hx, hmet, Bool.not_true, Bool.false_eq_true, if_false]
  rw [hbudget]
  refine ⟨fun h => if_neg fun hover => ?_, fun hpages hfit => if_pos ((pages_overflow_iff s x).mpr ⟨hpages, hfit⟩)⟩
  obtain ⟨hpages, hfit⟩ := (pages_overflow_iff s x).mp hover
  exact hfit (h.resolve_left hpages)

/-- How a write ends whose speed plan is not met: the least PLAN that meets it, and where its worst run begins. -/
def slowEnd (cost : Nat × Nat) (right : Nat) : End :=
  { status := 3, code := 0x21, source := 8, arg0 := (cost.1 * 128000000 + right - 1) / right, arg1 := cost.2 }

/-- Where the speed plan is not met, the refusal names the least PLAN that meets it (R304). -/
theorem writeBudget_slow (hx : resultsOf s (entryStripe b) = some x)
    (hplan : planSide s b * (entryStripe b).plan < (planCost b x).1 * 128000000) (hpos : 0 < planSide s b) :
    writeBudget s b = some (slowEnd (planCost b x) (planSide s b), 2) := by
  have hmet : planMet (planCost b x).1 (planSide s b) (entryStripe b).plan = false := decide_eq_false (by omega)
  have hleast : planMin s (planCost b x).1 (planSide s b) = ((planCost b x).1 * 128000000 + planSide s b - 1) / planSide s b := by
    rw [planMin, if_neg (by rintro h; simp [h] at hplan), if_neg (by omega)]
  rw [slowEnd, ← hleast]
  unfold planCost planSide at hmet ⊢
  simp only [writeBudget, hx, hmet, Bool.not_false, if_true]

/-! ### The commands (R290, R294, R303) -/

/-- The command that decides the stripe command at intake with this opcode. -/
def stripeInstr (op : Nat) : Instr := if op = 5 then .forageStripe else if op = 6 then .writeStripe else .resumeStripe

theorem exec_stripeInstr (hop : StripeOp op) :
    exec (stripeInstr op) s = .next (if op = 5 then forageIntake s else writeIntake op s) := by
  obtain rfl | rfl | rfl := hop <;> rfl

theorem foragesEnded_iff : foragesEnded s = true ↔ ∀ l, l ∈ s.job.live → entryOp l.entry ≠ 5 := by
  simp [foragesEnded]

section AtIntake
variable (hat : s.job.atIntake = some { seq := q, entry := b, phase := .queued })
include hat

theorem stripeAtIntake_other (h : entryOp b ≠ op) : stripeAtIntake s op = none := by
  rw [stripeAtIntake, hat]
  exact if_neg h

theorem stripeAtIntake_own : stripeAtIntake s (entryOp b) = some b := by
  rw [stripeAtIntake, hat]
  exact if_pos rfl

theorem forageIntake_other (h : entryOp b ≠ 5) : forageIntake s = s := by
  rw [forageIntake, stripeAtIntake_other hat h]

theorem writeIntake_other (h : entryOp b ≠ op) : writeIntake op s = s := by
  rw [writeIntake, stripeAtIntake_other hat h]

/-- A write waits at intake for the forages before it (R294). -/
theorem stripe_waits (hop : StripeOp (entryOp b)) (h : ¬ (entryOp b = 5 ∨ foragesEnded s = true)) :
    exec (stripeInstr (entryOp b)) s = .next s := by
  obtain ⟨hwrite, hforages⟩ := not_or.mp h
  rw [exec_stripeInstr hop, if_neg hwrite, writeIntake, stripeAtIntake_own hat, Bool.not_eq_true _ |>.mp hforages]
  rfl

theorem stripe_refuses (hop : StripeOp (entryOp b)) (hfree : entryOp b = 5 ∨ foragesEnded s = true)
    (h : refusalOf s b 0 = some (e, cls)) : exec (stripeInstr (entryOp b)) s =
      .next (if entryOp b = 5 then refuse b e cls s else freeNext (refuse b e cls s)) := by
  rw [exec_stripeInstr hop]
  by_cases hforage : entryOp b = 5
  · have hown := stripeAtIntake_own hat
    rw [hforage] at hown
    simp only [hforage, if_true, forageIntake, hown, h]
  · simp only [hforage, if_false, writeIntake, stripeAtIntake_own hat, hfree.resolve_left hforage, Bool.not_true,
      Bool.false_eq_true, h]

theorem stripe_accepts (hop : StripeOp (entryOp b)) (hfree : entryOp b = 5 ∨ foragesEnded s = true)
    (h : refusalOf s b 0 = none) : exec (stripeInstr (entryOp b)) s =
      .next (if entryOp b = 5 then claimSlot (entryStripe b) (entrySeq b) (accept b s) else accept b s) := by
  rw [exec_stripeInstr hop]
  by_cases hforage : entryOp b = 5
  · have hown := stripeAtIntake_own hat
    rw [hforage] at hown
    simp only [hforage, if_true, forageIntake, hown, h]
  · simp only [hforage, if_false, writeIntake, stripeAtIntake_own hat, hfree.resolve_left hforage, Bool.not_true,
      Bool.false_eq_true, h]

theorem stripe_refused (hop : StripeOp (entryOp b)) (hfree : entryOp b = 5 ∨ foragesEnded s = true) (hw : RegsWf s)
    (hst : e.status ≠ 1) (h : refusalOf s b 0 = some (e, cls)) :
    ∃ t, exec (stripeInstr (entryOp b)) s = .next t ∧ IntakeEnds b e s.job.slots s t := by
  refine ⟨_, stripe_refuses hat hop hfree h, ?_⟩
  have hends := refuse_ends (b := b) (e := e) (cls := cls) hw hst
  split
  · exact hends
  · exact hends

theorem write_accepted (hop : StripeOp (entryOp b)) (hwrite : entryOp b ≠ 5) (hfree : foragesEnded s = true)
    (h : refusalOf s b 0 = none) :
    ∃ t, exec (stripeInstr (entryOp b)) s = .next t ∧ IntakeEnds b { status := 1 } s.job.slots s t := by
  refine ⟨_, stripe_accepts hat hop (.inr hfree) h, ?_⟩
  rw [if_neg hwrite]
  exact accept_ends b s

/-- An accepted forage claims the slot of its stripe, or a new one (R303). -/
theorem forage_accepted (hop : entryOp b = 5) (h : refusalOf s b 0 = none) :
    ∃ t, exec (stripeInstr (entryOp b)) s = .next t ∧
      IntakeEnds b { status := 1 } (if slotTaken s (entryStripe b) then
        s.job.slots.map (fun x => if x.stripe == (entryStripe b).stripe && x.pass == (entryStripe b).pass then
          if x.claim = 0 then { x with claim := entrySeq b } else x else x)
        else s.job.slots ++ [claimedSlot (entryStripe b) (entrySeq b)]) s t := by
  have haccept := accept_ends b s
  obtain ⟨-, hslots, -⟩ := id haccept
  have htaken : slotTaken (accept b s) (entryStripe b) = slotTaken s (entryStripe b) := by rw [slotTaken, hslots]; rfl
  refine ⟨_, stripe_accepts hat (.inl hop) (.inl hop) h, ?_⟩
  rw [if_pos hop, claimSlot, htaken]
  split
  · rw [updSlot, hslots]
    exact haccept.withSlots _
  · rw [updJob, hslots]
    exact haccept.withSlots _
end AtIntake

end Sys2Proof.Machine

open Sys2Proof Sys2Proof.Machine in
/-- Settles O43: the first refusal that an entry meets decides it, and without one it is queued; a forage then claims its slot. -/
theorem stripeIntake : Obligations.StripeIntake := by
  unfold Obligations.StripeIntake
  intro s b q hw hat j op f own ready inJob i takes
  refine ⟨fun h => congrArg Host.Outcome.next (forageIntake_other hat h),
    fun h => congrArg Host.Outcome.next (writeIntake_other hat h), fun h => congrArg Host.Outcome.next (writeIntake_other hat h), fun hop => ?_⟩
  intro free
  have hfreeIff : free ↔ entryOp b = 5 ∨ foragesEnded s = true := or_congr_right foragesEnded_iff.symm
  have hreadyIff : ready ↔ memoryBad s = false := memoryBad_eq_false.symm
  have htaken : s.job.slots.any own = slotTaken s (entryStripe b) := rfl
  refine ⟨fun h => stripe_waits hat hop (mt hfreeIff.mpr h), fun hfree hz => ?_, fun hfree hformat => ⟨fun hjob => ?_,
    fun hjob hmem => ?_, fun hjob hready hforage => ?_, fun hjob hready hwrite => ?_⟩⟩
  · exact stripe_refused hat hop (hfreeIff.mp hfree) hw (by decide) (refusalOf_format (formatRefusal_reserved 0 hop hz))
  · exact stripe_refused hat hop (hfreeIff.mp hfree) hw (by decide) (refusalOf_state hformat (stateRefusal_job hop hjob))
  · rw [hreadyIff, Bool.not_eq_false] at hmem
    exact stripe_refused hat hop (hfreeIff.mp hfree) hw (by decide)
      (refusalOf_state hformat ((stateRefusal_memory hop hjob).trans (if_pos hmem)))
  · have hbudget : refusalOf s b 0 = _ :=
      (refusalOf_budget hop hformat hjob (hreadyIff.mp hready)).trans ((if_pos hforage).trans (forageBudget_eq s b))
    rw [htaken]
    refine ⟨fun hown => ?_, fun hown hfull => ?_, fun hown hroom => ?_⟩
    · have haccepted := forage_accepted hat hforage (hbudget.trans (if_neg (by simp [hown])))
      rw [if_pos hown] at haccepted
      simp only [ite_and]
      exact haccepted
    · have hfullBudget := hbudget.trans (if_pos ⟨hown, hfull⟩)
      refine ⟨stripe_refused hat hop (.inl hforage) hw (by decide) hfullBudget, fun t ht => ?_⟩
      have hstep := stripe_refuses hat hop (.inl hforage) hfullBudget
      obtain rfl := Host.Outcome.next.inj ((hstep.trans (congrArg _ (if_pos hforage))).symm.trans ht)
      exact refuse_counts hw rfl
    · have haccepted := forage_accepted hat hforage (hbudget.trans (if_neg fun h => absurd h.2 (Nat.not_le.mpr hroom)))
      rwa [hown, if_neg Bool.false_ne_true] at haccepted
  · have hended : foragesEnded s = true := (hfreeIff.mp hfree).resolve_left hwrite
    have hbudget : refusalOf s b 0 = writeBudget s b :=
      (refusalOf_budget hop hformat hjob (hreadyIff.mp hready)).trans (if_neg hwrite)
    have haccepts (h : writeBudget s b = none) : takes { status := 1 } j.slots :=
      write_accepted hat hop hwrite hended (hbudget.trans h)
    have hrefuses {e : End} {cls : Nat} (h : writeBudget s b = some (e, cls)) (hst : e.status ≠ 1) : takes e j.slots :=
      stripe_refused hat hop (.inr hended) hw hst (hbudget.trans h)
    refine ⟨fun hnone => haccepts (writeBudget_none (List.find?_eq_none.mpr fun x hx => ?_)), fun x hx => ?_⟩
    · simpa using fun hstripe hpass => hnone x hx (by simpa [own] using ⟨hstripe, hpass⟩)
    · intro cost right enough
      have hright : right = planSide s b := by
        have hmargin : planMargin s = regN s 0x020048 % 128 := by simp [planMargin, regBits, Bits.bits]
        rw [planSide, planRight, hmargin]
        rfl
      rw [hright]
      refine ⟨fun hplan hfit => haccepts ((writeBudget_met hx hplan).1 hfit),
        fun hplan hpages hfit => hrefuses ((writeBudget_met hx hplan).2 hpages hfit) (by decide),
        fun hplan hpos => hrefuses (writeBudget_slow hx hplan hpos) (show 3 ≠ 1 by decide)⟩
end

section
/-!
PROOFS. BIND_STREAM (O45): when it executes, the first breach of its directory, and what a binding leaves.
-/

namespace Sys2Proof.Machine

variable {s t : State} {op q n m : Nat} {l : Live} {e : End} {pages cells : Bytes}

/-! ### The command that starts next (R293) -/

/-- The command that starts next is the one the module takes up. -/
theorem startable_of_startsNext (hop : isWriteOp op = false) (h : StartsNext s op l) : startable s op = some l := by
  obtain ⟨⟨old, new, hlive, hold⟩, hphase, hentry, hready, hreset, hcore⟩ := h
  have hl : hasStarted l = false := by
    have : isWriteOp (entryOp l.entry) = false := by rwa [entryOp, hentry]
    simp [hasStarted, hphase, this]
  have hnext : nextStart s = some l := by
    rw [nextStart, notStarted, hlive, List.dropWhile_append_of_pos hold, List.dropWhile_cons_of_neg (by simp [hl])]
    rfl
  simp [startable, hnext, entryOp, hentry, hready, hreset, hcore]

/-! ### The end of a command that leaves its job as it was -/

theorem finish_jobFrame (q : Nat) (e : End) (s : State) : ∃ x, (finish q e s).job =
    { s.job with live := s.job.live.filter (fun l => l.seq != q), cplQ := x } := by
  obtain ⟨x, hx⟩ := complete_frame (cplOf q (opcodeOf s q) (newestIdx (finishRecord q e s)) true e)
    { finishRecord q e s with job := { (finishRecord q e s).job with
        live := (finishRecord q e s).job.live.filter (fun l => l.seq != q) } }
  refine ⟨x, ?_⟩
  rw [finish_eq, hx]
  simp [finishRecord]

/-- The end of a command read from states that agree in its queue, its completion ring, the link and the time. -/
theorem Ended.read {s' t' : State} (h : Ended q e s t) (hlive : s'.job.live = s.job.live) (hon : s'.job.cplOn = s.job.cplOn)
    (hq : s'.job.cplQ = s.job.cplQ) (hh : s'.hif = s.hif) (ht : s'.tim = s.tim) (hl : t'.job.live = t.job.live)
    (hc : t'.job.cplQ = t.job.cplQ) (hjournal : t'.journal = t.journal) : Ended q e s' t' := by
  have hreach : reachable s' = reachable s := by rw [reachable, hh]; rfl
  have hstamp : stamp s' = stamp s := by rw [stamp, ht]; rfl
  unfold Ended
  rw [hlive, hon, hq, hl, hc, hjournal, hreach, hstamp]
  exact h

/-- BIND_STREAM has ended and bound nothing. -/
def BindEnds (q : Nat) (e : End) (s t : State) : Prop :=
  Ended q e s t ∧ t.intake = s.intake ∧ t.job.slots = s.job.slots ∧ t.dram = s.dram ∧ t.eng = s.eng ∧ t.job.st = s.job.st

theorem finish_bindEnds {u : State} (h : ∃ g d, u = { s with regs := g, dma := d }) : BindEnds q e s (finish q e u) := by
  obtain ⟨g, d, h⟩ := h
  obtain ⟨x, hx⟩ := finish_jobFrame q e u
  have hended : Ended q e s (finish q e u) :=
    (finish_ended q e u).congr (by rw [h]) (by rw [h]) (by rw [h]) rfl rfl rfl
  exact ⟨hended, by rw [finish_intake, h], by rw [hx, h], by rw [finish_dram, h], by rw [finish_eng, h], by rw [hx, h]⟩

theorem BindEnds.after {u : State} (h : BindEnds q e s t) (hj : u.job = t.job) (hjournal : u.journal = t.journal)
    (hi : u.intake = t.intake) (hd : u.dram = t.dram) (he : u.eng = t.eng) : BindEnds q e s u := by
  obtain ⟨hended, hintake, hslots, hdram, heng, hst⟩ := h
  exact ⟨hended.congr rfl rfl rfl (by rw [hj]) (by rw [hj]) hjournal, hi.trans hintake, by rw [hj, hslots], hd.trans hdram,
    he.trans heng, by rw [hj, hst]⟩

theorem BindEnds.raise {src info cseq : Nat} (h : BindEnds q e s t) : BindEnds q e s (raise src info cseq t) :=
  h.after (raise_job _ _ _ _) (raise_journal _ _ _ _) (raise_intake _ _ _ _) (raise_dram _ _ _ _) (raise_eng _ _ _ _)

theorem BindEnds.budgetNote {f : End} {cls cseq : Nat} (h : BindEnds q e s t) : BindEnds q e s (budgetNote f cls cseq t) :=
  h.after (budgetNote_job _ _ _ _) (budgetNote_journal _ _ _ _) (budgetNote_intake _ _ _ _) (budgetNote_dram _ _ _ _)
    (budgetNote_eng _ _ _ _)

/-! ### When the tables can be read (R292, R331, R333) -/

theorem memoryFault_none (hch : ∀ c : Fin 16, (s.mem.ch[c]).st ≠ 6) (hgroups : ∀ g, g < 4 → groupOpen s g = true) :
    memoryFault s = none := by
  have hfrozen : frozenChannel s = none := by
    rw [frozenChannel, List.find?_eq_none]
    exact fun c _ => by simpa using hch c
  rw [memoryFault, hfrozen]
  exact if_neg (by rw [memoryOff_eq_false.mpr hgroups]; exact Bool.false_ne_true)

theorem tableReadable_iff : tableReadable s = true ↔ reachable s = true ∧
    ((s.dma[(11 : Fin 16)]).st < 2 ∨ (s.dma[(12 : Fin 16)]).st < 2) ∧ s.job.loadErr = none ∧
    ∀ c : Fin 16, (s.dma[c]).owner = 0 := by
  have howners : s.dma.toList.all (fun x => x.owner == 0) = true ↔ ∀ c : Fin 16, (s.dma[c]).owner = 0 := by
    rw [List.all_eq_true]
    refine ⟨fun h c => by simpa using h (s.dma[c]) (by simp), fun h x hx => ?_⟩
    obtain ⟨k, hk, rfl⟩ := List.getElem_of_mem hx
    simpa using h ⟨k, by simpa using hk⟩
  simp only [tableReadable, Bool.and_eq_true, Bool.or_eq_true, chanRuns, decide_eq_true_eq, Option.isNone_iff_eq_none, howners,
    and_assoc]

/-! ### The outcomes of the command -/

/-- The state in which the two tables of a BIND_STREAM have been read (R307). -/
def tablesRead (l : Live) (pages cells : Bytes) (s : State) : State :=
  tableMoved (Bits.field l.entry 32 8) cells.length (tableMoved (Bits.field l.entry 16 8) pages.length s)

theorem tablesRead_frame (l : Live) (pages cells : Bytes) (s : State) : ∃ d, tablesRead l pages cells s = { s with dma := d } :=
  ⟨_, rfl⟩

theorem dirFrames_eq (n m : Nat) : dirFrames n m = (16 * n + 64 * m + 1052671) / 1052672 := by
  rw [dirFrames, frameBytes, Nat.add_sub_assoc (by decide)]

/-- How BIND_STREAM ends for want of frames (R84). -/
def framesRefused : End := { status := 3, code := 0x25, source := 8 }

section Starts
variable (hstart : startable s 4 = some l)
include hstart

theorem bindStream_busy (h : ¬ (s.job.write = none ∧ s.job.forage = none)) :
    bindStream pages cells s = finish l.seq (refusedState 0x0F) s := by
  have hbusy : (s.job.write.isSome || s.job.forage.isSome) = true := by
    cases hw : s.job.write <;> cases hf : s.job.forage <;> simp [hw, hf] at h ⊢
  simp only [bindStream, hstart, hbusy, if_true]

variable (hwrite : s.job.write = none) (hforage : s.job.forage = none)
include hwrite hforage

theorem bindStream_full (h : s.intake.poolFrames < 1024 + dirFrames (Bits.field l.entry 24 8) (Bits.field l.entry 40 4)) :
    bindStream pages cells s = budgetNote framesRefused 3 l.seq (finish l.seq framesRefused s) := by
  simp only [bindStream, hstart, hwrite, hforage, Option.isSome_none, Bool.or_self, Bool.false_eq_true, if_false, h, if_true]
  rfl

variable (hroom : 1024 + dirFrames (Bits.field l.entry 24 8) (Bits.field l.entry 40 4) ≤ s.intake.poolFrames)
include hroom

theorem bindStream_waits (h : pages.length ≠ 16 * Bits.field l.entry 24 8 ∨ cells.length ≠ 64 * Bits.field l.entry 40 4 ∨
    tableReadable s = false) : bindStream pages cells s = s := by
  have hnot : (decide (pages.length ≠ 16 * Bits.field l.entry 24 8) || decide (cells.length ≠ 64 * Bits.field l.entry 40 4) ||
      !tableReadable s) = true := by simpa [or_assoc] using h
  simp only [bindStream, hstart, hwrite, hforage, Option.isSome_none, Bool.or_self, Bool.false_eq_true, if_false,
    Nat.not_lt.mpr hroom, hnot, if_true]

variable (hpages : pages.length = 16 * Bits.field l.entry 24 8) (hcells : cells.length = 64 * Bits.field l.entry 40 4)
  (hread : tableReadable s = true) (hmemory : memoryFault s = none)
include hpages hcells hread hmemory

theorem bindStream_breach (h : dirBreach pages cells = some e) : bindStream pages cells s =
    if e.status = 7 then finish l.seq e (tablesRead l pages cells s)
    else raise 35 0 l.seq (finish l.seq e (faultRegs e.code 0 e.arg1 (tablesRead l pages cells s))) := by
  simp only [bindStream, hstart, hwrite, hforage, Option.isSome_none, Bool.or_self, Bool.false_eq_true, if_false,
    Nat.not_lt.mpr hroom, ← hpages, ← hcells, ne_eq, not_true_eq_false, decide_false, hread, Bool.not_true, hmemory, h]
  rfl

theorem bindStream_binds (h : dirBreach pages cells = none) : bindStream pages cells s =
    raise 39 0 l.seq (finish l.seq { status := 0 } (bindNow pages cells (tablesRead l pages cells s))) := by
  simp only [bindStream, hstart, hwrite, hforage, Option.isSome_none, Bool.or_self, Bool.false_eq_true, if_false,
    Nat.not_lt.mpr hroom, ← hpages, ← hcells, ne_eq, not_true_eq_false, decide_false, hread, Bool.not_true, hmemory, h]
  rfl
end Starts

/-! ### The first breach of a directory (R83, R84) -/

theorem slice_slice (b : Bytes) {a k o len : Nat} (h : o + len ≤ k) :
    Bits.slice (Bits.slice b a k) o len = Bits.slice b (a + o) len := by
  rw [Bits.slice, Bits.slice, Bits.slice, List.drop_take, List.take_take, List.drop_drop, Nat.min_eq_left (by omega)]

theorem field_slice (b : Bytes) {a k o len : Nat} (h : o + len ≤ k) :
    Bits.field (Bits.slice b a k) o len = Bits.field b (a + o) len := by
  rw [Bits.field, Bits.field, slice_slice b h]

theorem byteAt_slice (b : Bytes) {a k o : Nat} (h : o < k) : Bits.byteAt (Bits.slice b a k) o = Bits.byteAt b (a + o) := by
  simp [Bits.byteAt, Bits.slice, List.getD, List.getElem?_drop, h]

theorem findSome?_range_first {α : Type} {f : Nat → Option α} {x : α} {k : Nat} (hk : k < n) (hbefore : ∀ j, j < k → f j = none)
    (hx : f k = some x) : (List.range n).findSome? f = some x := by
  obtain ⟨d, rfl⟩ := Nat.exists_eq_add_of_lt hk
  have hnone : (List.range k).findSome? f = none :=
    List.findSome?_eq_none_iff.mpr fun j hj => hbefore j (List.mem_range.mp hj)
  rw [Nat.add_assoc, Nat.add_comm d 1, ← Nat.add_assoc, List.range_add, List.range_succ, List.append_assoc, List.findSome?_append,
    hnone, List.singleton_append, List.findSome?_cons, hx]
  rfl

/-- An address that is not a multiple of 64 bytes is the first breach of its entry. -/
theorem pageBreach_misaligned {k : Nat} (h : Bits.field pages (16 * k) 8 % 64 ≠ 0) :
    pageBreach pages n k = some (dirMisaligned k) := by
  have haddr : (pageEntry pages k).addr = Bits.field pages (16 * k) 8 := field_slice pages (by decide)
  simp [pageBreach, haddr, h]

theorem dirBreach_misaligned {k : Nat} (hlen : pages.length = 16 * n) (hk : k < n)
    (hbefore : ∀ j, j < k → pageBreach pages n j = none) (h : Bits.field pages (16 * k) 8 % 64 ≠ 0) :
    dirBreach pages cells = some (dirMisaligned k) := by
  have hn : pages.length / 16 = n := by omega
  unfold dirBreach
  simp only [hn, findSome?_range_first hk hbefore (pageBreach_misaligned h), Option.some_or]

/-- The fault registers after a breach of the directory (R84). -/
theorem faultRegs_noted {code page off : Nat} (hw : RegsWf s) : RegsWf (faultRegs code page off s) ∧
    reg (faultRegs code page off s) 0x040044 = BitVec.ofNat 32 code ∧
      reg (faultRegs code page off s) 0x040050 = BitVec.ofNat 32 off := by
  have hwf : RegsWf (faultRegs code page off s) :=
    setReg_wf _ _ _ (setReg_wf _ _ _ (setReg_wf _ _ _ (setReg_wf _ _ _ hw)))
  obtain ⟨-, -, hcode, -, hoff⟩ := faultShown_noted (p := .forage) (code := code) (page := page) (off := off) hw
  have hraise {o : Nat} (ho : 0x010060 ≤ o) : reg (faultShown .forage code page off s) o = reg (faultRegs code page off s) o :=
    reg_raise _ _ _ _ _ hwf (by omega) (by omega)
  exact ⟨hwf, (hraise (by decide)).symm.trans hcode, (hraise (by decide)).symm.trans hoff⟩

/-- A breach of the directory that a code names ends the command with event 35 and its place in the fault registers. -/
theorem breachNamed_effect {u : State} (hw : RegsWf s) (hu : ∃ d, u = { s with dma := d }) :
    let t := raise 35 0 q (finish q e (faultRegs e.code 0 e.arg1 u))
    BindEnds q e s t ∧ Pending t 35 ∧ reg t 0x040044 = BitVec.ofNat 32 e.code ∧ reg t 0x040050 = BitVec.ofNat 32 e.arg1 := by
  intro t
  obtain ⟨d, rfl⟩ := hu
  have hwf : RegsWf { s with dma := d } := hw
  obtain ⟨hfault, hcode, hoff⟩ := faultRegs_noted (code := e.code) (page := 0) (off := e.arg1) hwf
  obtain ⟨hfinish, hsame⟩ := finish_regs (q := q) (e := e) hfault
  have hkept {o : Nat} (ho : 0x010060 ≤ o) : reg t o = reg (faultRegs e.code 0 e.arg1 { s with dma := d }) o :=
    (reg_raise _ _ _ _ _ hfinish (by omega) (by omega)).trans (hsame o (by simp) (by omega) (by omega))
  exact ⟨(finish_bindEnds ⟨_, d, rfl⟩).raise, pending_raise (by decide) (by decide) hfinish,
    (hkept (by decide)).trans hcode, (hkept (by decide)).trans hoff⟩

/-! ### The entries of a binding (R83) -/

theorem getElem?_map_range {α : Type} {g : Nat → α} {k : Nat} {x : α} (h : ((List.range n).map g)[k]? = some x) : x = g k := by
  obtain ⟨hk, h⟩ := List.getElem?_eq_some_iff.mp h
  simpa using h.symm

/-- The binding that two tables make. -/
def bindingOf (pages cells : Bytes) : Binding :=
  { digest := Check.crc32c (pages.length / 16) (pages ++ cells), pages := (List.range (pages.length / 16)).map (pageEntry pages),
    cells := (List.range (cells.length / 64)).map (cellEntry cells) }

theorem bindingOf_page {k : Nat} {x : PageEnt} (h : (bindingOf pages cells).pages[k]? = some x) :
    x.addr = Bits.field pages (16 * k) 8 ∧ x.len = Bits.field pages (16 * k + 8) 4 := by
  obtain rfl := getElem?_map_range h
  exact ⟨field_slice pages (by decide), field_slice pages (by decide)⟩

theorem bindingOf_cell {k : Nat} {x : CellEnt} (h : (bindingOf pages cells).cells[k]? = some x) :
    x.id = Bits.field cells (64 * k) 4 ∧ x.depth = Bits.byteAt cells (64 * k + 4) ∧
      x.beginPage = Bits.field cells (64 * k + 8) 8 ∧ x.count = Bits.field cells (64 * k + 20) 4 := by
  obtain rfl := getElem?_map_range h
  exact ⟨field_slice cells (by decide), byteAt_slice cells (by decide), field_slice cells (by decide),
    field_slice cells (by decide)⟩

/-! ### What a binding leaves (R82, R85, R87, R107, R108) -/

theorem dropReads_cur (s : State) (c : Fin 16) : ((dropReads s).dma[c]).cur = (s.dma[c]).cur := by
  unfold dropReads
  simp only [Fin.getElem_fin, Vector.getElem_map]
  split
  · split <;> rfl
  · rfl

/-- With no frame being read, no channel reads a page. -/
theorem dropReads_page (h : ∀ f, f ∈ s.intake.frames → f.st ≠ .fetching) (c : Fin 16) : ((dropReads s).dma[c]).page = none := by
  have hnone (p : Nat) : s.intake.frames.any (fun f => f.st == .fetching && f.page == p) = false := by
    rw [List.any_eq_false]
    exact fun f hf hfetch => h f hf (by simpa using (Bool.and_eq_true_iff.mp hfetch).1)
  unfold dropReads
  simp only [Fin.getElem_fin, Vector.getElem_map, hnone, Bool.false_eq_true, if_false]
  split
  · rfl
  · assumption

theorem directory_st {clock : Nat} {f : Frame} (h : f ∈ directory n clock) : f.st = .directory := by
  obtain ⟨_, -, rfl⟩ := List.mem_map.mp h
  rfl

theorem tableChan_tableMoved (host k : Nat) (s : State) : tableChan (tableMoved host k s) = tableChan s := by
  have hst : chanRuns (tableMoved host k s) 11 = chanRuns s 11 := by
    simp only [chanRuns, tableMoved, updChan, upd_fin]
    split <;> rfl
  rw [tableChan, hst]
  rfl

/-- The channel of the tables stands behind the cell index. -/
theorem tablesRead_cur (l : Live) (pages cells : Bytes) (s : State) :
    ((tablesRead l pages cells s).dma[tableChan s]).cur = Bits.field l.entry 32 8 + cells.length := by
  rw [tablesRead, tableMoved, tableChan_tableMoved, updChan_dma, upd_own]

theorem bindNow_job (pages cells : Bytes) (s : State) : (bindNow pages cells s).job = { s.job with
    slots := s.job.slots.map (rebound s.intake.bind.isSome (bindingOf pages cells).digest (pages.length / 16) (cells.length / 64)) } :=
  rfl

theorem bindNow_intake (pages cells : Bytes) (s : State) : (bindNow pages cells s).intake = { s.intake with
    bind := some (bindingOf pages cells), bad := [], dec := s.intake.dec.map idleDec,
    frames := directory (dirFrames (pages.length / 16) (cells.length / 64)) s.intake.clock } := rfl

theorem bindNow_dram (pages cells : Bytes) (s : State) :
    (bindNow pages cells s).dram = (dramWrite s.intake.poolBase (pages ++ cells) s).dram := rfl

theorem bindNow_cur (pages cells : Bytes) (s : State) (c : Fin 16) :
    ((bindNow pages cells s).dma[c]).cur = (s.dma[c]).cur := dropReads_cur _ c

theorem bindNow_page (pages cells : Bytes) (s : State) (c : Fin 16) : ((bindNow pages cells s).dma[c]).page = none :=
  dropReads_page (fun f hf => by rw [directory_st hf]; decide) c

/-- The state in which a binding has taken over and BIND_STREAM has ended. -/
def boundState (q : Nat) (pages cells : Bytes) (s : State) : State :=
  raise 39 0 q (finish q { status := 0 } (bindNow pages cells s))

section Bound
variable {v : State} (hv : ∃ d, v = { s with dma := d })
include hv

theorem boundState_ended : Ended q { status := 0 } s (boundState q pages cells v) := by
  obtain ⟨d, rfl⟩ := hv
  exact (finish_ended q { status := 0 } (bindNow pages cells { s with dma := d })).read (by rw [bindNow_job]) (by rw [bindNow_job])
    (by rw [bindNow_job]) rfl rfl (by rw [boundState, raise_job]) (by rw [boundState, raise_job]) (by rw [boundState, raise_journal])

/-- What the end of BIND_STREAM leaves. -/
theorem boundState_keeps :
    let u := boundState q pages cells v
    u.intake = { s.intake with
      bind := some (bindingOf pages cells), bad := [], dec := s.intake.dec.map idleDec,
      frames := directory (dirFrames (pages.length / 16) (cells.length / 64)) s.intake.clock } ∧
    u.dma = (bindNow pages cells v).dma ∧ u.dram = (dramWrite s.intake.poolBase (pages ++ cells) s).dram ∧ u.eng = s.eng ∧
      u.comb = s.comb ∧ u.job.st = s.job.st ∧ u.job.slots = s.job.slots.map
        (rebound s.intake.bind.isSome (bindingOf pages cells).digest (pages.length / 16) (cells.length / 64)) := by
  obtain ⟨d, rfl⟩ := hv
  intro u
  obtain ⟨x, hx⟩ := finish_jobFrame q { status := 0 } (bindNow pages cells { s with dma := d })
  rw [bindNow_job] at hx
  have hjob : u.job = _ := (raise_job _ _ _ _).trans hx
  exact ⟨(raise_intake ..).trans ((finish_intake ..).trans (bindNow_intake ..)), (raise_dma ..).trans (finish_dma ..),
    (raise_dram ..).trans ((finish_dram ..).trans (bindNow_dram ..)), (raise_eng ..).trans (finish_eng ..),
    (raise_comb ..).trans (finish_comb ..), by rw [hjob], by rw [hjob]⟩

theorem boundState_pending (hw : RegsWf s) : Pending (boundState q pages cells v) 39 := by
  obtain ⟨d, rfl⟩ := hv
  exact pending_raise (by decide) (by decide) (finish_regs (s := bindNow pages cells { s with dma := d }) hw).1

/-- The directory stands as one copy at the pool's base, and module DRAM keeps its other bytes (R84, R86). -/
theorem boundState_dram (hd : DramWf s) :
    SameDramBut s.intake.poolBase (pages ++ cells).length s (boundState q pages cells v) ∧
      ∀ a, a < (pages ++ cells).length →
        dramByte (boundState q pages cells v) (s.intake.poolBase + a) = (pages ++ cells).getD a 0 := by
  obtain ⟨-, -, hdram, -⟩ := boundState_keeps (q := q) (pages := pages) (cells := cells) hv
  have hbyte (j : Nat) : dramByte (boundState q pages cells v) j = dramByte (dramWrite s.intake.poolBase (pages ++ cells) s) j := by
    rw [dramByte, hdram]
    rfl
  refine ⟨fun j hj => ?_, fun a ha => ?_⟩
  · rw [hbyte, dramByte_write s _ _ _ hd, dif_neg (by omega)]
  · rw [hbyte, dramByte_write s _ _ _ hd, dif_pos (by omega), List.getD_eq_getElem _ _ ha]
    simp

/-- A binding that replaces an earlier one leaves no valid forage results (R82, R108). -/
theorem boundState_slots (hbound : s.intake.bind.isSome = true) :
    ∀ x, x ∈ (boundState q pages cells v).job.slots → x.valid = false := by
  obtain ⟨-, -, -, -, -, -, hslots⟩ := boundState_keeps (q := q) (pages := pages) (cells := cells) hv
  intro x hx
  rw [hslots, hbound] at hx
  obtain ⟨y, -, rfl⟩ := List.mem_map.mp hx
  simp [rebound]
end Bound

end Sys2Proof.Machine

open Sys2Proof Sys2Proof.Machine in
/-- Settles O45: the refusals and breaches end the command with nothing bound, and a directory without a breach is bound. -/
theorem streamBinding : Obligations.StreamBinding := by
  unfold Obligations.StreamBinding
  intro s l pages cells hw hd hnext q n m i need readable memory idle ends
  have hstart : startable s 4 = some l := startable_of_startsNext rfl hnext
  have hstep {u : State} (h : bindStream pages cells s = u) : exec i s = .next u := congrArg Host.Outcome.next h
  have hends {e : End} {events : List Nat} {u : State} (h : bindStream pages cells s = u) (hbind : BindEnds q e s u)
      (hevents : ∀ k, k ∈ events → Pending u k) : ends e events := by
    obtain ⟨hended, hintake, hslots, hdram, heng, hst⟩ := hbind
    exact ⟨u, hstep h, hended, hintake, hslots, hdram, heng, hst, hevents⟩
  have hneed : need = dirFrames n m := (dirFrames_eq n m).symm
  rw [hneed]
  refine ⟨fun hbusy => ?_, fun hidle hfew => ?_, fun hidle hroom => ⟨fun hwait => ?_, fun hpages hcells hreadable hmem => ?_⟩⟩
  · exact hends (bindStream_busy hstart hbusy) (finish_bindEnds ⟨_, _, rfl⟩) (by simp)
  · obtain ⟨hwrite, hforage⟩ := hidle
    refine hends (bindStream_full hstart hwrite hforage hfew) (finish_bindEnds ⟨_, _, rfl⟩).budgetNote fun k hk => ?_
    rw [List.mem_singleton.mp hk]
    exact budgetNote_pending12 rfl (finish_regs hw).1
  · obtain ⟨hwrite, hforage⟩ := hidle
    refine hstep (bindStream_waits hstart hwrite hforage hroom (hwait.imp_right fun h => h.imp_right fun h => ?_))
    rwa [← Bool.not_eq_true, tableReadable_iff]
  · obtain ⟨hwrite, hforage⟩ := hidle
    have hread : tableReadable s = true := tableReadable_iff.mpr hreadable
    have hfault : memoryFault s = none := memoryFault_none hmem.1 hmem.2
    have hbreach {e : End} (h : dirBreach pages cells = some e) :=
      bindStream_breach hstart hwrite hforage hroom hpages hcells hread hfault h
    have hmisaligned {e : End} (h : dirBreach pages cells = some e) (hst : e.status = 7) : ends e [] :=
      hends ((hbreach h).trans (if_pos hst)) (finish_bindEnds ⟨_, _, rfl⟩) (by simp)
    refine ⟨fun e h hst => hmisaligned h hst, fun e h hst => ?_,
      fun k hk hbefore haddr => hmisaligned (dirBreach_misaligned hpages hk hbefore haddr) rfl, fun h => ?_⟩
    · obtain ⟨hbind, hpending, hcode, hplace⟩ := breachNamed_effect (q := q) (e := e) hw (tablesRead_frame l pages cells s)
      have hnamed := (hbreach h).trans (if_neg hst)
      refine ⟨hends hnamed hbind fun k hk => by rwa [List.mem_singleton.mp hk], fun u hu => ?_⟩
      obtain rfl := Host.Outcome.next.inj ((hstep hnamed).symm.trans hu)
      exact ⟨hcode, hplace⟩
    · have hn : pages.length / 16 = n := by omega
      have hm : cells.length / 64 = m := by omega
      have hlen : (pages ++ cells).length = 16 * n + 64 * m := by rw [List.length_append, hpages, hcells]
      have hv := tablesRead_frame l pages cells s
      obtain ⟨hintake, hdma, -, heng, hcomb, hst, -⟩ := boundState_keeps (q := q) (pages := pages) (cells := cells) hv
      rw [hn, hm] at hintake
      obtain ⟨hram, hcopy⟩ := boundState_dram (q := q) (pages := pages) (cells := cells) hv hd
      rw [hlen] at hram hcopy
      refine ⟨boundState q pages cells (tablesRead l pages cells s), bindingOf pages cells,
        hstep (bindStream_binds hstart hwrite hforage hroom hpages hcells hread hfault h), boundState_ended hv,
        by rw [hintake], by simp [bindingOf, hn], by simp [bindingOf, hm], by simp [bindingOf, hn],
        fun k e he => bindingOf_page he, fun k e he => bindingOf_cell he, ?_, ?_, ?_, ?_, hram, hcopy,
        boundState_slots hv, heng, hcomb, hst, boundState_pending hv hw⟩
      · rw [hdma, bindNow_cur, tablesRead_cur, hcells]
      · intro c
        rw [hdma, bindNow_page]
      · rw [hintake]
        simp [directory]
      · intro f hf
        rw [hintake] at hf
        exact directory_st hf
end

section
/-!
PROOFS. Page reads (O50): when a read is issued, where its image goes, and what the first and the second failure of its check leave.
-/

namespace Sys2Proof.Machine

variable {s t u : State} {page c i : Nat} {cls : FetchClass} {p : Pass} {e : PageEnt} {f : Frame} {b : Bytes}

/-! ### When a page is read (R88, R89, R331, R333, R356) -/

/-- Pages can be read and kept: CORE and module DRAM have power and work, and the host is reachable. -/
def PagesGo (s : State) : Prop :=
  powered s 2 = true ∧ reachable s = true ∧ (∀ g, g < 4 → groupOpen s g = true) ∧
    ∀ n : Fin 16, (s.mem.ch[n]).st ≠ 6 ∧ (s.mem.ch[n]).st ≠ 7

theorem pagesGo_iff : PagesGo s ↔ pagesMove s = true := by
  simp only [PagesGo, pagesMove, ← memoryOff_eq_false, ← memoryBad_eq_false, Bool.and_eq_true, Bool.not_eq_true']
  tauto

theorem pageFetch_stays (h : (boundPages s)[page]? = none ∨ fetchPass s page cls = none ∨ ¬ PagesGo s) :
    pageFetch page cls s = s := by
  unfold pageFetch
  split
  · next e p he hp =>
    rw [pagesGo_iff, Bool.not_eq_true] at h
    have hmove : pagesMove s = false := (h.resolve_left (by simp [he])).resolve_left (by simp [hp])
    rw [hmove]
    rfl
  · rfl

/-- The state in which a read has been issued into frame `i` on channel `c`. -/
def readIssued (c i page : Nat) (cls : FetchClass) (p : Pass) (e : PageEnt) (s : State) : State :=
  updChan c (fun x => { x with st := 1, page := some page, bytes := 0, cur := e.addr })
    (count 0x040020 1 (addFrame i .fetching page cls p s))

section Fetch
variable (he : (boundPages s)[page]? = some e) (hp : fetchPass s page cls = some p) (hgo : PagesGo s)
  (hbad : (p, page) ∉ s.intake.bad) (habsent : frameOf s page = none) (hc : idlePager s = some c)
include he hp hgo hbad habsent hc

theorem pageFetch_issues (hi : freeFrame s = some i) : pageFetch page cls s = readIssued c i page cls p e s := by
  have htake : takeFrame s = some (i, s) := by rw [takeFrame, hi]
  simp only [pageFetch, he, hp, pagesGo_iff.mp hgo, hbad, habsent, hc, htake, List.contains_eq_mem, decide_false, Bool.not_true,
    Bool.or_self, Bool.false_eq_true, if_false]
  rfl

theorem pageFetch_poolWait (hi : freeFrame s = none) (hv : victim s = none) : pageFetch page cls s =
    if cls == .demandForage then count 0x02005C 1 (poolWait s) else poolWait s := by
  have htake : takeFrame s = none := by rw [takeFrame, hi, hv]; rfl
  simp only [pageFetch, he, hp, pagesGo_iff.mp hgo, hbad, habsent, hc, htake, List.contains_eq_mem, decide_false, Bool.not_true,
    Bool.or_self, Bool.false_eq_true, if_false]
end Fetch

/-! ### The channels of the pager (R88) -/

/-- What a search of the pager's channels finds is the lowest of the channels 3 to 10 that it accepts. -/
theorem pagerFind_spec {a : Nat → Bool} (h : ((List.range 8).map (3 + ·)).find? a = some c) :
    3 ≤ c ∧ c ≤ 10 ∧ a c = true ∧ ∀ k, 3 ≤ k → k < c → a k = false := by
  rw [List.find?_map, Option.map_eq_some_iff] at h
  obtain ⟨n, hn, rfl⟩ := h
  obtain ⟨ha, hmem, hfirst⟩ := List.find?_range_eq_some.mp hn
  have hlt := List.mem_range.mp hmem
  refine ⟨by omega, by omega, ha, fun k h3 hk => ?_⟩
  have hnot := hfirst (k - 3) (by omega)
  rw [Function.comp, show 3 + (k - 3) = k by omega] at hnot
  simpa using hnot

theorem idlePager_bounds (h : idlePager s = some c) : 3 ≤ c ∧ c ≤ 10 := by
  obtain ⟨h3, h10, -⟩ := pagerFind_spec h
  exact ⟨h3, h10⟩

/-- The channel that reads a page is the lowest one with it. -/
theorem pagerOf_spec (h : pagerOf s page = some c) :
    ∃ j : Fin 16, j.val = c ∧ (s.dma[j]).page = some page ∧
      ∀ k : Fin 16, 3 ≤ k.val → (s.dma[k]).page = some page → j.val ≤ k.val := by
  obtain ⟨h3, h10, hpage, hfirst⟩ := pagerFind_spec h
  have hlt : c < 16 := by omega
  refine ⟨⟨c, hlt⟩, rfl, by simpa [hlt] using hpage, fun k hk hkpage => Nat.le_of_not_lt fun hlow => ?_⟩
  have hnot := hfirst k.val hk hlow
  rw [Vector.getElem?_eq_getElem k.isLt] at hnot
  simp [← Fin.getElem_fin, hkpage] at hnot

theorem freeFrame_lt (h : freeFrame s = some i) : i < s.intake.poolFrames :=
  List.mem_range.mp (List.mem_of_find?_eq_some h)

/-! ### What a page read leaves alone -/

/-- The units and the commands that a page read leaves as they are. -/
def PagerKeeps (s t : State) : Prop :=
  t.eng = s.eng ∧ t.comb = s.comb ∧ t.bel = s.bel ∧ t.seq = s.seq ∧ t.blk = s.blk ∧ t.job.live = s.job.live ∧
    t.pending = s.pending ∧ t.journal = s.journal

theorem PagerKeeps.of_frame {g v m d x} (h : t = { s with regs := g, evt := v, dram := m, dma := d, intake := x }) :
    PagerKeeps s t := by
  rw [h]
  exact ⟨rfl, rfl, rfl, rfl, rfl, rfl, rfl, rfl⟩

theorem reg_congr (h : t.regs = u.regs) (off : Nat) : reg t off = reg u off := by rw [reg, h]; rfl

theorem raised_congr {l : List Nat} (h : t.regs = u.regs) (hu : Raised l s u) : Raised l s t := by
  intro k hk
  rw [Pending, regN, reg_congr h]
  exact hu k hk

theorem sameRegsBut_congr {l : List Nat} (h : t.regs = u.regs) (hu : SameRegsBut l s u) : SameRegsBut l s t :=
  fun off h1 h2 h3 => (reg_congr h off).trans (hu off h1 h2 h3)

/-! ### A read issued, or waiting for a frame (R88, R94) -/

theorem readIssued_regs (c i page : Nat) (cls : FetchClass) (p : Pass) (e : PageEnt) (s : State) :
    (readIssued c i page cls p e s).regs = (count 0x040020 1 s).regs := rfl

/-- A read that waits for a frame is counted and raises event 37. -/
theorem poolWait_effect (hw : RegsWf s) : PagerKeeps s (poolWait s) ∧ (poolWait s).intake = s.intake ∧
    (poolWait s).dma = s.dma ∧ RegsWf (poolWait s) ∧ Raised [37] s (poolWait s) ∧
    reg (poolWait s) 0x04003C = Bits.satAdd (reg s 0x04003C) 1 := by
  have hc : RegsWf (count 0x04003C 1 s) := regsWf_count hw
  refine ⟨.of_frame (raise_frame _ _ _ _), raise_intake _ _ _ _, raise_dma _ _ _ _, raise_wf _ _ _ _ hc,
    (raised_count (by decide) hw).trans (raised_raise (by decide) (by decide) hc), ?_⟩
  rw [poolWait, reg_raise _ _ _ _ _ hc (by decide) (by decide), reg_count _ _ _ _ hw, if_pos rfl]

/-! ### An image that passes its check (R90) -/

theorem frameOf_spec (h : frameOf s page = some f) : f ∈ s.intake.frames ∧ f.page = page := by
  refine ⟨List.mem_of_find?_eq_some h, ?_⟩
  have hf := List.find?_some h
  simp only [Bool.and_eq_true, beq_iff_eq] at hf
  exact hf.1

theorem readGoes_spec (h : readGoes s f b = true) : f.st = .fetching ∧ ∃ c, pagerOf s f.page = some c := by
  simp only [readGoes, Bool.and_eq_true, beq_iff_eq] at h
  obtain ⟨⟨⟨hst, -⟩, -⟩, hpager⟩ := h
  refine ⟨hst, ?_⟩
  split at hpager
  · next c hc => exact ⟨c, hc⟩
  · exact absurd hpager Bool.false_ne_true

theorem pagerDone_frame (page n : Nat) (s : State) : ∃ d, pagerDone page n s = { s with dma := d } := by
  unfold pagerDone
  split <;> exact ⟨_, rfl⟩

theorem mem_updFrame {F : Frame → Frame} (hf : f ∈ s.intake.frames) : F f ∈ (updFrame f.idx F s).intake.frames :=
  List.mem_map.mpr ⟨f, hf, if_pos (beq_self_eq_true _)⟩

theorem mem_touchFrame (hf : f ∈ s.intake.frames) :
    { f with used := s.intake.clock } ∈ (touchFrame f.idx s).intake.frames :=
  mem_updFrame (F := fun x => { x with used := s.intake.clock }) hf

/-- When a read ends, the channels that still read the page are above the one that has ended. -/
theorem pagerDone_channels {n : Nat} (hc : pagerOf s page = some c) (k : Fin 16) (hk : 3 ≤ k.val)
    (hpage : ((pagerDone page n s).dma[k]).page = some page) : ∃ j : Fin 16, j.val < k.val ∧ (s.dma[j]).page = some page := by
  obtain ⟨j, rfl, hj, hfirst⟩ := pagerOf_spec hc
  simp only [pagerDone, hc, updChan_dma, upd_fin] at hpage
  by_cases hjk : j = k
  · simp [hjk] at hpage
  · rw [if_neg hjk] at hpage
    exact ⟨j, Nat.lt_of_le_of_ne (hfirst k hk hpage) (fun h => hjk (Fin.ext h)), hj⟩

/-- A frame as its image becomes RESIDENT. -/
def residentFrame (clock : Nat) (f : Frame) : Frame := { f with st := .resident, retry := false, used := clock }

/-- The image of a page stands in its frame, which is RESIDENT, and its channel is free. -/
theorem pageArrives_effect (hd : DramWf s) (hf : f ∈ s.intake.frames) (hgo : readGoes s f b = true) :
    let t := pageArrives f b s
    let a := s.intake.poolBase + 1052672 * f.idx
    (∃ m d x, t = { s with dram := m, dma := d, intake := x }) ∧ residentFrame s.intake.clock f ∈ t.intake.frames ∧
      SameDramBut a b.length s t ∧ (∀ k, k < b.length → dramByte t (a + k) = b.getD k 0) ∧
      ∀ k : Fin 16, 3 ≤ k.val → (t.dma[k]).page = some f.page → ∃ j : Fin 16, j.val < k.val ∧ (s.dma[j]).page = some f.page := by
  intro t a
  obtain ⟨-, c, hc⟩ := readGoes_spec hgo
  let w := dramWrite (frameAddr s f.idx) b s
  obtain ⟨d, hdone⟩ := pagerDone_frame f.page b.length w
  have ht : t = touchFrame f.idx (updFrame f.idx (fun x => { x with st := .resident, retry := false })
      (pagerDone f.page b.length w)) := rfl
  have hbyte (j : Nat) : dramByte t j = dramByte w j := by rw [ht, hdone]; rfl
  have hdma : t.dma = (pagerDone f.page b.length w).dma := by rw [ht, hdone]; rfl
  have hpager : pagerOf w f.page = some c := hc
  refine ⟨⟨_, _, _, by rw [ht, hdone]; rfl⟩, ?_, fun j hj => ?_, fun k hk => ?_, fun k hk hpage => ?_⟩
  · rw [ht, hdone]
    have hmem := mem_updFrame (s := { w with dma := d }) (F := fun x => { x with st := .resident, retry := false }) hf
    exact mem_touchFrame hmem
  · rw [hbyte, dramByte_write s _ _ _ hd, dif_neg (by unfold frameAddr frameBytes; omega)]
  · rw [hbyte, dramByte_write s _ _ _ hd, dif_pos (by unfold frameAddr frameBytes; omega), List.getD_eq_getElem _ _ hk]
    simp [a, frameAddr, frameBytes]
  · rw [hdma] at hpage
    exact pagerDone_channels hpager k hk hpage

/-- A page image stands in its frame, which is RESIDENT, and of the channels that read the page the lowest is free. -/
def PageArrived (f : Frame) (b : Bytes) (s t : State) : Prop :=
  ∃ g, PagerKeeps s t ∧ g ∈ t.intake.frames ∧ g.page = f.page ∧ g.idx = f.idx ∧ g.st = .resident ∧
    SameDramBut (s.intake.poolBase + 1052672 * f.idx) b.length s t ∧
    (∀ k, k < b.length → dramByte t (s.intake.poolBase + 1052672 * f.idx + k) = b.getD k 0) ∧
    ∀ k : Fin 16, 3 ≤ k.val → k.val ≤ 10 → (t.dma[k]).page = some f.page →
      ∃ j : Fin 16, j.val < k.val ∧ (s.dma[j]).page = some f.page

/-- The image arrives in the same way where registers have been written before. -/
theorem pageArrives_arrived (hd : DramWf s) (hf : f ∈ s.intake.frames) (hgo : readGoes s f b = true)
    (hu : ∃ r, u = { s with regs := r }) : PageArrived f b s (pageArrives f b u) := by
  obtain ⟨r, rfl⟩ := hu
  obtain ⟨⟨m, d, y, hframe⟩, hframes, hsame, hcopy, hchannels⟩ := pageArrives_effect (s := { s with regs := r }) hd hf hgo
  exact ⟨_, .of_frame hframe, hframes, rfl, rfl, rfl, hsame, hcopy, fun k hk _ => hchannels k hk⟩

/-! ### An image that fails its check (R90, R91) -/

/-- The first failure is counted, raises event 32 and leaves the frame and its channel to the second read. -/
theorem pageFails_effect (hw : RegsWf s) (hf : f ∈ s.intake.frames) :
    let t := pageFails f s
    (∃ r v x, t = { s with regs := r, evt := v, intake := x }) ∧ { f with retry := true } ∈ t.intake.frames ∧
      reg t 0x040024 = Bits.satAdd (reg s 0x040024) 1 ∧ Raised [32] s t := by
  intro t
  let w := updFrame f.idx (fun x => { x with retry := true }) s
  have hwf : RegsWf w := hw
  have hc : RegsWf (count 0x040024 1 w) := regsWf_count hwf
  refine ⟨⟨_, _, _, raise_frame _ _ _ _⟩, ?_, ?_, ?_⟩
  · rw [show t.intake = w.intake from raise_intake _ _ _ _]
    exact mem_updFrame (F := fun x => { x with retry := true }) hf
  · rw [show t = raise 32 0 f.seq (count 0x040024 1 w) from rfl, reg_raise _ _ _ _ _ hc (by decide) (by decide),
      reg_count _ _ _ _ hwf, if_pos rfl]
    rfl
  · exact (raised_count (s := w) (by decide) hwf).trans (raised_raise (by decide) (by decide) hc)

/-- The state in which a second failure has been counted and reported, and the frame is free. -/
def pageLost (f : Frame) (s : State) : State :=
  raise 33 0 f.seq (count 0x040028 1 (pagerDone f.page 0 (dropFrame f.idx s)))

theorem pageLost_effect (hw : RegsWf s) :
    let t := pageLost f s
    (∃ r v d, t = { s with
      regs := r, evt := v, dma := d, intake := { s.intake with frames := s.intake.frames.filter (fun g => g.idx != f.idx) } }) ∧
    reg t 0x040028 = Bits.satAdd (reg s 0x040028) 1 ∧ reg t 0x040020 = reg s 0x040020 ∧ Raised [33] s t := by
  intro t
  obtain ⟨d, hdone⟩ := pagerDone_frame f.page 0 (dropFrame f.idx s)
  have hwf : RegsWf (pagerDone f.page 0 (dropFrame f.idx s)) := by
    rw [hdone]
    exact hw
  have hregs : (pagerDone f.page 0 (dropFrame f.idx s)).regs = s.regs := by
    rw [hdone]
    rfl
  have hc : RegsWf (count 0x040028 1 (pagerDone f.page 0 (dropFrame f.idx s))) := regsWf_count hwf
  have hread {o : Nat} (ho : 0x010060 ≤ o) :
      reg t o = if o = 0x040028 then Bits.satAdd (reg s o) 1 else reg s o := by
    rw [show t = raise 33 0 f.seq _ from rfl, reg_raise _ _ _ _ _ hc (by omega) (by omega), reg_count _ _ _ _ hwf, reg_congr hregs]
  have hlost : Raised [33] (pagerDone f.page 0 (dropFrame f.idx s)) t :=
    (raised_count (by decide) hwf).trans (raised_raise (by decide) (by decide) hc)
  refine ⟨⟨_, _, d, (raise_frame _ _ _ _).trans (by rw [hdone]; rfl)⟩, hread (by decide), hread (by decide), fun k hk => ?_⟩
  rw [hlost k hk, Pending, Pending, regN, regN, reg_congr hregs]

theorem waitedFor_congr (h : t.intake.dec = s.intake.dec) (p : Pass) (page : Nat) : waitedFor t p page = waitedFor s p page := by
  rw [waitedFor, h]
  rfl

/-- The page of a frame is BAD for the command that read it (R91). -/
def markBad (f : Frame) (s : State) : State :=
  { s with intake := { s.intake with bad := (f.pass, f.page) :: s.intake.bad } }

/-- A page that fails twice is marked BAD while the command that read it executes (R91). -/
theorem pageIsBad_cases (hdec : (pageLost f s).intake.dec = s.intake.dec) :
    (f.seq ≠ passSeq s f.pass → pageIsBad f s = pageLost f s) ∧
    (f.seq = passSeq s f.pass → waitedFor s f.pass f.page = false → pageIsBad f s = markBad f (pageLost f s)) := by
  have hcases : pageIsBad f s = if f.seq ≠ passSeq s f.pass then pageLost f s else
      if waitedFor (markBad f (pageLost f s)) f.pass f.page then needBad f.pass f.page (markBad f (pageLost f s))
      else markBad f (pageLost f s) := rfl
  refine ⟨fun h => hcases.trans (if_pos h), fun h hwait => hcases.trans ((if_neg (not_not.mpr h)).trans (if_neg ?_))⟩
  rw [waitedFor_congr (t := markBad f (pageLost f s)) hdec, hwait]
  exact Bool.false_ne_true

/-! ### The two reads of a page (R90) -/

theorem pageFetchDone_absent (h : frameOf s page = none) : pageFetchDone page b s = s := by
  rw [pageFetchDone, h]

theorem pageRetry_absent (h : frameOf s page = none) : pageRetry page b s = s := by
  rw [pageRetry, h]

section Read
variable (hf : frameOf s page = some f)
include hf

theorem pageFetchDone_stays (h : readGoes s f b = false ∨ f.retry = true) : pageFetchDone page b s = s := by
  simp only [pageFetchDone, hf]
  exact if_pos (by simpa using h)

theorem pageRetry_stays (h : readGoes s f b = false ∨ f.retry = false) : pageRetry page b s = s := by
  simp only [pageRetry, hf]
  exact if_pos (by simpa using h)

theorem pageFetchDone_reads (hgo : readGoes s f b = true) (h : f.retry = false) :
    pageFetchDone page b s = if imageOk b page then pageArrives f b s else pageFails f s := by
  simp only [pageFetchDone, hf, hgo, h, Bool.not_true, Bool.or_self, Bool.false_eq_true, if_false]

theorem pageRetry_reads (hgo : readGoes s f b = true) (h : f.retry = true) : pageRetry page b s =
    if imageOk b page then pageArrives f b (count 0x040020 1 s) else pageIsBad f (count 0x040020 1 s) := by
  simp only [pageRetry, hf, hgo, h, Bool.not_true, Bool.or_self, Bool.false_eq_true, if_false]
end Read

end Sys2Proof.Machine

open Sys2Proof Sys2Proof.Machine in
/-- Settles O50: a read is one frame and one channel more, a passing image is DRAM written and a frame RESIDENT, and each failure is
counted. -/
theorem pageFetches : Obligations.PageFetches := by
  unfold Obligations.PageFetches
  intro page s hw hd x moves kept
  refine ⟨fun cls h => congrArg Host.Outcome.next (pageFetch_stays h), fun cls e p c i he hp hgo hbad habsent hc hi => ?_,
    fun cls e p c he hp hgo hbad habsent hc hi hv => ?_,
    fun h b => ⟨congrArg Host.Outcome.next (pageFetchDone_absent h), congrArg Host.Outcome.next (pageRetry_absent h)⟩,
    fun f b hf h => ⟨congrArg Host.Outcome.next (pageFetchDone_stays hf (.inl h)),
      congrArg Host.Outcome.next (pageRetry_stays hf (.inl h))⟩, fun f b hf hgo => ?_⟩
  · obtain ⟨h3, h10⟩ := idlePager_bounds hc
    refine ⟨_, congrArg Host.Outcome.next (pageFetch_issues he hp hgo hbad habsent hc hi),
      ⟨rfl, rfl, rfl, rfl, rfl, rfl, rfl, rfl⟩, rfl, h3, h10, freeFrame_lt hi, ?_, sameRegsBut_congr (readIssued_regs ..) (sameRegsBut_count _ _ hw),
      raised_congr (readIssued_regs ..) (raised_count (by decide) hw), ⟨_, rfl, rfl, rfl, rfl, rfl, rfl, rfl, rfl⟩,
      fun k hk => ?_, fun k hk => ?_⟩
    · rw [reg_congr (readIssued_regs ..), reg_count _ _ _ _ hw, if_pos rfl]
    · subst hk
      rw [readIssued, updChan_dma, upd_own]
      exact ⟨rfl, rfl, rfl, rfl⟩
    · rw [readIssued, updChan_dma, Fin.getElem_fin, upd_get, if_neg (Ne.symm hk)]
      rfl
  · obtain ⟨hkept, hintake, hdma, hwf, hraised, hcount⟩ := poolWait_effect hw
    have hstep := pageFetch_poolWait he hp hgo hbad habsent hc hi hv
    by_cases hcls : (cls == .demandForage) = true
    · refine ⟨_, congrArg Host.Outcome.next (hstep.trans (if_pos hcls)), hkept, hintake, hdma,
        hraised.trans (raised_count (by decide) hwf), ?_⟩
      rw [reg_count _ _ _ _ hwf, if_neg (by decide), hcount]
    · exact ⟨_, congrArg Host.Outcome.next (hstep.trans (if_neg hcls)), hkept, hintake, hdma, hraised, hcount⟩
  · obtain ⟨hmem, rfl⟩ := frameOf_spec hf
    obtain ⟨hst, -⟩ := readGoes_spec hgo
    refine ⟨fun h => congrArg Host.Outcome.next (pageFetchDone_stays hf (.inr h)),
      fun h => congrArg Host.Outcome.next (pageRetry_stays hf (.inr h)), fun i hi hok _ => ?_, fun hfirst hno _ => ?_,
      fun hsecond hno hwait => ?_⟩
    · obtain ⟨rfl, hretry⟩ | ⟨rfl, hretry⟩ := hi
      · obtain ⟨g, harrived⟩ := pageArrives_arrived (u := s) hd hmem hgo ⟨_, rfl⟩
        exact ⟨_, g, congrArg Host.Outcome.next ((pageFetchDone_reads hf hgo hretry).trans (if_pos hok)), harrived⟩
      · obtain ⟨g, harrived⟩ := pageArrives_arrived (u := count 0x040020 1 s) hd hmem hgo ⟨_, rfl⟩
        exact ⟨_, g, congrArg Host.Outcome.next ((pageRetry_reads hf hgo hretry).trans (if_pos hok)), harrived⟩
    · obtain ⟨⟨r, v, y, hframe⟩, hframes, hcount, hraised⟩ := pageFails_effect hw hmem
      have hstep := (pageFetchDone_reads hf hgo hfirst).trans (if_neg (by simp [hno]))
      exact ⟨_, _, congrArg Host.Outcome.next hstep, PagerKeeps.of_frame hframe, by rw [hframe], hframes, rfl, hst, rfl, by rw [hframe],
        hcount, hraised⟩
    · have hwc : RegsWf (count 0x040020 1 s) := regsWf_count hw
      obtain ⟨⟨r, v, d, hlost⟩, hbad, hreads, hraised⟩ := pageLost_effect (f := f) hwc
      obtain ⟨hold, hnow⟩ := pageIsBad_cases (f := f) (s := count 0x040020 1 s) (by rw [hlost])
      have hstep := (pageRetry_reads hf hgo hsecond).trans (if_neg (by simp [hno]))
      have hframes : ∀ g, g ∈ x.frames.filter (fun g => g.idx != f.idx) ↔ g ∈ x.frames ∧ g.idx ≠ f.idx := by simp
      have hbadCount : reg (pageLost f (count 0x040020 1 s)) 0x040028 = Bits.satAdd (reg s 0x040028) 1 := by
        rw [hbad, reg_count _ _ _ _ hw, if_neg (by decide)]
      have hreadCount : reg (pageLost f (count 0x040020 1 s)) 0x040020 = Bits.satAdd (reg s 0x040020) 1 := by
        rw [hreads, reg_count _ _ _ _ hw, if_pos rfl]
      have hall : Raised [33] s (pageLost f (count 0x040020 1 s)) := (raised_count (by decide) hw).trans hraised
      by_cases hseq : f.seq = passSeq s f.pass
      · exact ⟨_, congrArg Host.Outcome.next (hstep.trans (hnow hseq (hwait hseq))),
          PagerKeeps.of_frame (by rw [hlost]; rfl), by rw [hlost]; rfl, fun _ => List.mem_cons_self, fun h => absurd hseq h,
          by rw [hlost]; exact hframes, hbadCount, hreadCount, raised_congr rfl hall⟩
      · exact ⟨_, congrArg Host.Outcome.next (hstep.trans (hold hseq)), PagerKeeps.of_frame (by rw [hlost]; rfl),
          by rw [hlost]; rfl, fun h => absurd h hseq, fun _ => by rw [hlost]; rfl, by rw [hlost]; exact hframes, hbadCount,
          hreadCount, hall⟩
end

section
/-!
PROOFS. LOAD_TABLE (O44): when a load waits or ends on a memory fault, what a table that passes its check leaves pending, and
what a rejection notes.
-/

namespace Sys2Proof.Machine

variable {s t u v w : State} {q kind : Nat} {l : Live} {e : End} {b : Bytes}

/-! ### Requests on module DRAM (R333) -/

/-- What requests on module DRAM may change: the memory groups, the registers of block MEM and the event unit. -/
structure Requested (s t : State) : Prop where
  frame : ∃ g v m, t = { s with regs := g, evt := v, mem := m }
  wf : RegsWf s → RegsWf t
  regs : RegsWf s → ∀ off, 0x110000 ≤ off ∨ 0x010060 ≤ off ∧ off < 0x100000 → reg t off = reg s off

theorem Requested.refl : Requested s s := ⟨⟨_, _, _, rfl⟩, id, fun _ _ _ => rfl⟩

theorem Requested.trans (h : Requested s t) (k : Requested t u) : Requested s u := by
  obtain ⟨⟨_, _, _, rfl⟩, hwf, hregs⟩ := h
  obtain ⟨⟨_, _, _, rfl⟩, kwf, kregs⟩ := k
  exact ⟨⟨_, _, _, rfl⟩, fun hs => kwf (hwf hs), fun hs off ho => (kregs (hwf hs) off ho).trans (hregs hs off ho)⟩

theorem Requested.mem {m : Mem} : Requested s { s with mem := m } := ⟨⟨_, _, _, rfl⟩, id, fun _ _ _ => rfl⟩

theorem Requested.count {c : Fin 16} {o n : Nat} (ho : o < 0x1000) : Requested s (count (memBase c.val + o) n s) := by
  refine ⟨⟨_, _, _, rfl⟩, fun hs => regsWf_count hs, fun hs off hoff => ?_⟩
  rw [reg_count _ _ _ _ hs, if_neg (by unfold memBase; omega)]

theorem Requested.raise {src info cseq : Nat} (hs : src < 256) : Requested s (raise src info cseq s) :=
  ⟨⟨_, _, _, raise_frame _ _ _ _⟩, fun hw => raise_wf _ _ _ _ hw, fun hw off ho => reg_raise _ _ _ _ _ hw (by omega) (by omega)⟩

theorem groupWait_requested {g : Fin 4} {c : Fin 16} : Requested s (groupWait g c.val s) := by
  unfold groupWait
  exact Requested.mem.trans (.count (by decide))

theorem groupChange_requested {g : Fin 4} {x : GroupSt} {f : MemCh → MemCh} : Requested s (updGroupCh g f (setGroup g x s)) :=
  .mem

theorem memRequest_requested (c : Fin 16) (s : State) : Requested s (memRequest c s) := by
  unfold memRequest
  extract_lets g
  split
  · exact (groupChange_requested.trans (.count (by decide))).trans (.raise (by decide))
  · split
    · unfold groupWakes
      exact groupChange_requested.trans groupWait_requested
    · exact .refl
  · exact groupWait_requested
  · exact .refl

theorem allRequests_requested (s : State) : Requested s (allRequests s) :=
  (((memRequest_requested 0 s).trans (memRequest_requested 4 _)).trans (memRequest_requested 8 _)).trans
    (memRequest_requested 12 _)

/-! ### When a load executes, waits or ends (R292, R293, R331, R333) -/

/-- The state in which a table has been read (R307). -/
def tableRead (l : Live) (b : Bytes) (s : State) : State := tableMoved (Bits.field l.entry 24 8) b.length (allRequests s)

/-- With no channel frozen, a group that is not open ends the command (R333). -/
theorem memoryFault_group (hch : ∀ c : Fin 16, (s.mem.ch[c]).st ≠ 6) (h : ¬ ∀ g, g < 4 → groupOpen s g = true) :
    memoryFault s = some { status := 0xC } := by
  have hfrozen : frozenChannel s = none := by
    rw [frozenChannel, List.find?_eq_none]
    exact fun c _ => by simpa using hch c
  rw [memoryFault, hfrozen]
  exact if_pos (by rwa [← Bool.not_eq_false, memoryOff_eq_false])

section Load
variable {run : Nat → Bytes → State → State} (hstart : startable s 3 = some l)
include hstart

theorem loadTable_waits (h : entryKind16 l.entry ≠ kind ∨ b.length ≠ Bits.field l.entry 32 4 ∨ tableReadable s = false) :
    loadTable kind run b s = s := by
  have hnot : (decide (entryKind16 l.entry ≠ kind) || decide (b.length ≠ Bits.field l.entry 32 4) || !tableReadable s) = true := by
    simpa only [Bool.or_eq_true, decide_eq_true_eq, Bool.not_eq_true', or_assoc] using h
  simp only [loadTable, hstart, hnot, if_true]

variable (hkind : entryKind16 l.entry = kind) (hlen : b.length = Bits.field l.entry 32 4) (hread : tableReadable s = true)
include hkind hlen hread

theorem loadTable_faults (h : memoryFault s = some e) : loadTable kind run b s = finish l.seq e s := by
  simp only [loadTable, hstart, hkind, hlen, hread, h, ne_eq, not_true_eq_false, decide_false, Bool.or_self, Bool.not_true,
    Bool.false_eq_true, if_false]

theorem loadTable_runs (h : memoryFault s = none) : loadTable kind run b s = run l.seq b (tableRead l b s) := by
  simp only [loadTable, hstart, hkind, ← hlen, hread, h, ne_eq, not_true_eq_false, decide_false, Bool.or_self, Bool.not_true,
    Bool.false_eq_true, if_false]
  rfl
end Load

/-- Each kind of table has its instruction (R292). -/
theorem exec_loadTable {k : Nat} {i : Instr} (h : [Instr.loadTableKernel b, .loadTableField b, .loadTableBeam b, .loadTableMask b,
    .loadTableWeight b, .loadTableRasterProgram b, .loadTableCorrectionProgram b, .loadTableLinkEq b][k]? = some i) :
    ∃ run, ∀ s, exec i s = .next (loadTable (k + 1) run b s) := by
  match k, h with
  | 0, rfl => exact ⟨loadCorrection true, fun _ => rfl⟩
  | 1, rfl => exact ⟨loadCorrection false, fun _ => rfl⟩
  | 2, rfl => exact ⟨loadBeam, fun _ => rfl⟩
  | 3, rfl => exact ⟨loadMask, fun _ => rfl⟩
  | 4, rfl => exact ⟨loadWeight, fun _ => rfl⟩
  | 5, rfl => exact ⟨loadProgram 1, fun _ => rfl⟩
  | 6, rfl => exact ⟨loadProgram 2, fun _ => rfl⟩
  | 7, rfl => exact ⟨loadEq, fun _ => rfl⟩
  | k + 8, h => exact absurd h (by simp)

/-! ### What a load leaves -/

/-- What a load changes at most, before its command ends. -/
def LoadFrame (s w : State) : Prop := ∃ g v m d p x c k,
  w = { s with regs := g, evt := v, mem := m, dma := d, pec := p, bmu := x, comb := c, cal := k }

/-- The parts of the module that a load leaves alone. -/
def LoadKeeps (s u : State) : Prop :=
  u.eng = s.eng ∧ u.dram = s.dram ∧ u.axes = s.axes ∧ u.seq = s.seq ∧ u.blk = s.blk ∧ u.sec = s.sec ∧ u.intake = s.intake ∧
    u.job.st = s.job.st ∧ u.job.slots = s.job.slots ∧ u.job.write = s.job.write ∧ u.job.forage = s.job.forage

theorem LoadFrame.trans (h : LoadFrame s v) (k : LoadFrame v w) : LoadFrame s w := by
  obtain ⟨_, _, _, _, _, _, _, _, rfl⟩ := h
  obtain ⟨_, _, _, _, _, _, _, _, rfl⟩ := k
  exact ⟨_, _, _, _, _, _, _, _, rfl⟩

theorem LoadFrame.tables {p x c k} (h : LoadFrame s v) : LoadFrame s { v with pec := p, bmu := x, comb := c, cal := k } :=
  h.trans ⟨_, _, _, _, _, _, _, _, rfl⟩

theorem finish_loadKeeps (h : LoadFrame s w) : LoadKeeps s (finish q e w) := by
  obtain ⟨x, hx⟩ := finish_jobFrame q e w
  obtain ⟨_, _, _, _, _, _, _, _, hw⟩ := h
  unfold LoadKeeps
  rw [finish_eng, finish_dram, finish_axes, finish_seq, finish_blk, finish_sec, finish_intake, hx, hw]
  exact ⟨rfl, rfl, rfl, rfl, rfl, rfl, rfl, rfl, rfl, rfl, rfl⟩

theorem finish_loadEnded (h : LoadFrame s w) : Ended q e s (finish q e w) := by
  obtain ⟨_, _, _, _, _, _, _, _, hw⟩ := h
  exact (finish_ended q e w).congr (by rw [hw]) (by rw [hw]) (by rw [hw]) rfl rfl rfl

theorem tableRead_frame (l : Live) (b : Bytes) (s : State) :
    ∃ g v m d, tableRead l b s = { s with regs := g, evt := v, mem := m, dma := d } := by
  obtain ⟨_, _, _, h⟩ := (allRequests_requested s).frame
  exact ⟨_, _, _, _, by rw [tableRead, h]; rfl⟩

theorem tableRead_tables (l : Live) (b : Bytes) (s : State) : (tableRead l b s).pec = s.pec ∧ (tableRead l b s).bmu = s.bmu ∧
    (tableRead l b s).comb = s.comb ∧ (tableRead l b s).cal = s.cal := by
  obtain ⟨_, _, _, _, h⟩ := tableRead_frame l b s
  rw [h]
  exact ⟨rfl, rfl, rfl, rfl⟩

theorem tableRead_loadFrame : LoadFrame s (tableRead l b s) := by
  obtain ⟨_, _, _, _, h⟩ := tableRead_frame l b s
  exact ⟨_, _, _, _, _, _, _, _, h⟩

/-- The registers of a load's rejection, outside block MEM, read as before the table was read. -/
theorem tableRead_regs (hw : RegsWf s) : RegsWf (tableRead l b s) ∧
    ∀ off, 0x110000 ≤ off ∨ 0x010060 ≤ off ∧ off < 0x100000 → reg (tableRead l b s) off = reg s off := by
  obtain ⟨-, hwf, hregs⟩ := allRequests_requested s
  have hsame : (tableRead l b s).regs = (allRequests s).regs := by rw [tableRead, tableMoved, updChan_regs]
  refine ⟨?_, fun off ho => (reg_congr hsame off).trans (hregs hw off ho)⟩
  rw [RegsWf, hsame]
  exact hwf hw

/-- The channel of the table stands behind it. -/
theorem tableRead_cur (l : Live) (b : Bytes) (s : State) :
    ((tableRead l b s).dma[tableChan s]).cur = Bits.field l.entry 24 8 + b.length := by
  obtain ⟨_, _, _, h⟩ := (allRequests_requested s).frame
  have hchan : tableChan (allRequests s) = tableChan s := by rw [h]; rfl
  rw [tableRead, tableMoved, hchan, updChan_dma, upd_own]

/-- A table accepted (R144, R173, R250). -/
theorem deferred_effect {p x c k} (hw : w = { tableRead l b s with pec := p, bmu := x, comb := c, cal := k }) :
    let u := finish q deferred w
    LoadKeeps s u ∧ Ended q { status := 2 } s u ∧ (u.dma[tableChan s]).cur = Bits.field l.entry 24 8 + b.length ∧
      u.pec = p ∧ u.bmu = x ∧ u.comb = c ∧ u.cal = k := by
  intro u
  have hframe : LoadFrame s w := by
    rw [hw]
    exact tableRead_loadFrame.tables
  have hdma : w.dma = (tableRead l b s).dma := by rw [hw]
  exact ⟨finish_loadKeeps hframe, finish_loadEnded hframe, by rw [finish_dma, hdma, tableRead_cur], by rw [finish_pec, hw],
    by rw [finish_bmu, hw], by rw [finish_comb, hw], by rw [finish_cal, hw]⟩

/-! ### Rejections (R142, R172, R249, R417) -/

/-- A rejection noted: the register of its code, a counter of rejected loads, and its event. -/
theorem rejectNoted_effect {code cnt src c : Nat} (hw : RegsWf s) (hcode : 0x010060 ≤ code) (hcnt : 0x010060 ≤ cnt)
    (hne : code ≠ cnt) (hu : RegMap.usedSource src = true) (hs : src < 256) :
    let t := raise src 0 q (count cnt 1 (setRegN code c s))
    RegsWf t ∧ Pending t src ∧ reg t code = BitVec.ofNat 32 c ∧ reg t cnt = Bits.satAdd (reg s cnt) 1 := by
  have hset : RegsWf (setRegN code c s) := setReg_wf _ _ _ hw
  have hcount : RegsWf (count cnt 1 (setRegN code c s)) := regsWf_count hset
  have hraise {o : Nat} (ho : 0x010060 ≤ o) : reg (raise src 0 q (count cnt 1 (setRegN code c s))) o = _ :=
    reg_raise _ _ _ _ _ hcount (by omega) (by omega)
  refine ⟨raise_wf _ _ _ _ hcount, pending_raise hu hs hcount, ?_, ?_⟩
  · rw [hraise hcode, reg_count _ _ _ _ hset, if_neg hne, setRegN, reg_setReg _ _ _ _ hw, if_pos rfl]
  · rw [hraise hcnt, reg_count _ _ _ _ hset, if_pos rfl, setRegN, reg_setReg _ _ _ _ hw, if_neg hne.symm]

/-- A set rejected by its calibration (R417). -/
theorem calRejected_effect {n c : Nat} (hw : RegsWf s) :
    RegsWf (calRejected n c q s) ∧ Pending (calRejected n c q s) 254 ∧
      (∀ k, k < 256 → Pending s k → Pending (calRejected n c q s) k) ∧
      reg (calRejected n c q s) 0x160110 = Bits.satAdd (reg s 0x160110) 1 ∧
      ∀ off, 0x010060 ≤ off → off ≠ 0x160110 → reg (calRejected n c q s) off = reg s off := by
  have hrec : RegsWf (updRec n (fun r => { r with reject := c }) s) := hw
  have hcount : RegsWf (count 0x160110 1 (updRec n (fun r => { r with reject := c }) s)) := regsWf_count hrec
  have hsteady : Steady s (calRejected n c q s) :=
    Steady.trans (t := count 0x160110 1 (updRec n (fun r => { r with reject := c }) s))
      (Steady.trans (t := updRec n (fun r => { r with reject := c }) s) (.of_regs rfl) (.count (by decide)))
      (.raise (by decide) (by decide))
  have hreg {o : Nat} (ho : 0x010060 ≤ o) :
      reg (calRejected n c q s) o = if o = 0x160110 then Bits.satAdd (reg s o) 1 else reg s o :=
    (reg_raise _ _ _ _ _ hcount (by omega) (by omega)).trans (reg_count _ _ _ _ hrec)
  exact ⟨hsteady.wf hw, pending_raise (by decide) (by decide) hcount, hsteady.pending hw, hreg (by decide),
    fun off ho hne => (hreg ho).trans (if_neg hne)⟩

theorem calRejected_frame (n c q : Nat) (s : State) : ∃ g v, calRejected n c q s = { s with
    regs := g, evt := v, cal := { s.cal with recs := upd s.cal.recs n (fun r => { r with reject := c }) } } :=
  ⟨_, _, raise_frame _ _ _ _⟩

theorem calRejected_recs (n c q : Nat) (s : State) :
    (calRejected n c q s).cal.recs = upd s.cal.recs n (fun r => { r with reject := c }) := congrArg (·.recs) (raise_cal ..)

/-- A rejected load changes registers, events and the calibration records. -/
def RejectFrame (s w : State) : Prop :=
  LoadFrame s w ∧ w.pec = s.pec ∧ w.bmu = s.bmu ∧ w.comb = s.comb ∧ w.cal.eq = s.cal.eq

theorem tableRead_rejectFrame : RejectFrame s (tableRead l b s) := by
  obtain ⟨_, _, _, _, h⟩ := tableRead_frame l b s
  exact ⟨tableRead_loadFrame, by rw [h], by rw [h], by rw [h], by rw [h]⟩

theorem RejectFrame.setReg {off : Nat} {x : Word} (h : RejectFrame s v) : RejectFrame s (setReg off x v) := by
  obtain ⟨hframe, hpec, hbmu, hcomb, heq⟩ := h
  exact ⟨hframe.trans ⟨_, _, _, _, _, _, _, _, rfl⟩, hpec, hbmu, hcomb, heq⟩

theorem RejectFrame.setRegN {off n : Nat} (h : RejectFrame s v) : RejectFrame s (setRegN off n v) := h.setReg
theorem RejectFrame.count {off n : Nat} (h : RejectFrame s v) : RejectFrame s (count off n v) := h.setReg

theorem RejectFrame.raise {src info cseq : Nat} (h : RejectFrame s v) : RejectFrame s (raise src info cseq v) := by
  obtain ⟨hframe, hpec, hbmu, hcomb, heq⟩ := h
  rw [RejectFrame, raise_pec, raise_bmu, raise_comb, raise_cal]
  exact ⟨hframe.trans ⟨_, _, _, _, _, _, _, _, raise_frame ..⟩, hpec, hbmu, hcomb, heq⟩

theorem RejectFrame.calRejected {n c : Nat} (h : RejectFrame s v) : RejectFrame s (calRejected n c q v) := by
  obtain ⟨hframe, hpec, hbmu, hcomb, heq⟩ := h
  obtain ⟨_, _, hc⟩ := calRejected_frame n c q v
  rw [hc]
  exact ⟨hframe.trans ⟨_, _, _, _, _, _, _, _, rfl⟩, hpec, hbmu, hcomb, heq⟩

/-- A load ends rejected: what is in force and pending stays. -/
def LoadRejects (i : Instr) (q code source : Nat) (s : State) (P : State → Prop) : Prop :=
  ∃ u, exec i s = .next u ∧ LoadKeeps s u ∧ Ended q { status := 6, code := code, source := source } s u ∧ u.pec = s.pec ∧
    u.bmu = s.bmu ∧ u.comb = s.comb ∧ u.cal.eq = s.cal.eq ∧ P u

theorem loadRejects_of {i : Instr} {code source : Nat} {P : State → Prop}
    (hi : exec i s = .next (finish q (malformed code source) w)) (h : RejectFrame s w)
    (hP : P (finish q (malformed code source) w)) : LoadRejects i q code source s P := by
  obtain ⟨hframe, hpec, hbmu, hcomb, heq⟩ := h
  exact ⟨_, hi, finish_loadKeeps hframe, finish_loadEnded hframe, by rw [finish_pec, hpec], by rw [finish_bmu, hbmu],
    by rw [finish_comb, hcomb], by rw [finish_cal, heq], hP⟩

/-- What the registers show before the end of a command, they show after it. -/
theorem finish_shows (hw : RegsWf w) : (∀ k, k < 256 → Pending w k → Pending (finish q e w) k) ∧
    ∀ off, 0x010060 ≤ off → reg (finish q e w) off = reg w off :=
  ⟨fun _ hk hp => finish_keepsPending hk hw hp, fun off ho => (finish_regs hw).2 off (by simp) (by omega) (by omega)⟩

/-! ### Correction tables (R142 to R144) -/

/-- A rejected correction table noted. -/
def correctionNoted (c q : Nat) (s : State) : State := raise 96 0 q (count 0x0B002C 1 (setRegN 0x0B000C c s))

theorem loadCorrection_rejects {kernel : Bool} {c : Nat} (h : (if kernel then kernelCode b else fieldCode b) = some c) :
    loadCorrection kernel q b s = finish q (malformed c 3) (correctionNoted c q s) := by
  simp only [loadCorrection, h, correctionNoted]

theorem loadKernel_accepts (h : kernelCode b = none) : loadCorrection true q b s =
    finish q deferred { s with pec := { s.pec with kernel := { s.pec.kernel with pend := some b } } } := by
  simp only [loadCorrection, if_true, h]

theorem loadField_accepts (h : fieldCode b = none) : loadCorrection false q b s =
    finish q deferred { s with pec := { s.pec with field := { s.pec.field with pend := some b } } } := by
  simp only [loadCorrection, Bool.false_eq_true, if_false, h]

theorem correctionNoted_effect {c : Nat} (hw : RegsWf s) :
    let w := correctionNoted c q (tableRead l b s)
    RejectFrame s w ∧ Pending (finish q e w) 96 ∧ reg (finish q e w) 0x0B000C = BitVec.ofNat 32 c ∧
      reg (finish q e w) 0x0B002C = Bits.satAdd (reg s 0x0B002C) 1 := by
  intro w
  obtain ⟨hread, hbefore⟩ := tableRead_regs (l := l) (b := b) hw
  obtain ⟨hwf, hpending, hcode, hcount⟩ := rejectNoted_effect (q := q) (c := c) (code := 0x0B000C) (cnt := 0x0B002C) (src := 96)
    hread (by decide) (by decide) (by decide) (by decide) (by decide)
  obtain ⟨hp, hreg⟩ := finish_shows (q := q) (e := e) hwf
  rw [hbefore _ (by decide)] at hcount
  exact ⟨tableRead_rejectFrame.setRegN.count.raise, hp 96 (by decide) hpending, (hreg _ (by decide)).trans hcode,
    (hreg _ (by decide)).trans hcount⟩

theorem correction_rejected {kernel : Bool} {i : Instr} {c : Nat} (hw : RegsWf s)
    (hi : exec i s = .next (loadCorrection kernel q b (tableRead l b s)))
    (h : (if kernel then kernelCode b else fieldCode b) = some c) :
    LoadRejects i q c 3 s (fun u => Pending u 96 ∧ reg u 0x0B000C = BitVec.ofNat 32 c ∧
      reg u 0x0B002C = Bits.satAdd (reg s 0x0B002C) 1) := by
  obtain ⟨hframe, hshown⟩ := correctionNoted_effect (l := l) (b := b) (q := q) (e := malformed c 3) (c := c) hw
  exact loadRejects_of (hi.trans (congrArg Host.Outcome.next (loadCorrection_rejects h))) hframe hshown

theorem kernelCode_length (h : b.length ≠ 384) : kernelCode b = some 8 := if_pos h

theorem fieldCode_length (h : b.length % 64 ≠ 0) : fieldCode b = some 8 :=
  if_pos fun hlen => h (by rw [hlen, Bits.roundUp, Nat.mul_mod_left])

/-! ### Beam-map tables (R172, R173) -/

/-- A rejected beam-map table noted, with the rejection of its calibration where that failed. -/
def beamMapNoted (code : Nat) (cal : Option Nat) (qty q : Nat) (s : State) : State :=
  let s1 := raise 104 0 q (count 0x0C003C 1 (setRegN 0x0C0018 code s))
  match cal with
  | some c => calRejected qty c q s1
  | none => s1

theorem beamMapReject_eq (code : Nat) (cal : Option Nat) (qty q : Nat) (s : State) :
    beamMapReject code cal qty q s = finish q (malformed code 4) (beamMapNoted code cal qty q s) := by
  cases cal <;> rfl

theorem beamMapNoted_effect {c qty : Nat} {k : Option Nat} (hw : RegsWf s) :
    let w := beamMapNoted c k qty q (tableRead l b s)
    RejectFrame s w ∧ Pending (finish q e w) 104 ∧ reg (finish q e w) 0x0C0018 = BitVec.ofNat 32 c ∧
      reg (finish q e w) 0x0C003C = Bits.satAdd (reg s 0x0C003C) 1 ∧ (k.isSome = true → Pending (finish q e w) 254) := by
  intro w
  obtain ⟨hread, hbefore⟩ := tableRead_regs (l := l) (b := b) hw
  obtain ⟨hwf, hpending, hcode, hcount⟩ := rejectNoted_effect (q := q) (c := c) (code := 0x0C0018) (cnt := 0x0C003C) (src := 104)
    hread (by decide) (by decide) (by decide) (by decide) (by decide)
  rw [hbefore _ (by decide)] at hcount
  have hframe : RejectFrame s (raise 104 0 q (count 0x0C003C 1 (setRegN 0x0C0018 c (tableRead l b s)))) :=
    tableRead_rejectFrame.setRegN.count.raise
  cases k with
  | none =>
    obtain ⟨hp, hreg⟩ := finish_shows (q := q) (e := e) hwf
    exact ⟨hframe, hp 104 (by decide) hpending, (hreg _ (by decide)).trans hcode, (hreg _ (by decide)).trans hcount, by simp⟩
  | some k =>
    obtain ⟨hwf', h254, hkeeps, -, hsame⟩ := calRejected_effect (n := qty) (c := k) (q := q) hwf
    obtain ⟨hp, hreg⟩ := finish_shows (q := q) (e := e) hwf'
    exact ⟨hframe.calRejected, hp 104 (by decide) (hkeeps 104 (by decide) hpending),
      ((hreg _ (by decide)).trans (hsame _ (by decide) (by decide))).trans hcode,
      ((hreg _ (by decide)).trans (hsame _ (by decide) (by decide))).trans hcount, fun _ => hp 254 (by decide) h254⟩

theorem beamMap_rejected {i : Instr} {c qty : Nat} {k : Option Nat} (hw : RegsWf s)
    (hi : exec i s = .next (finish q (malformed c 4) (beamMapNoted c k qty q (tableRead l b s)))) :
    LoadRejects i q c 4 s (fun u => Pending u 104 ∧ reg u 0x0C0018 = BitVec.ofNat 32 c ∧
      reg u 0x0C003C = Bits.satAdd (reg s 0x0C003C) 1 ∧ (k.isSome = true → Pending u 254)) := by
  obtain ⟨hframe, hshown⟩ := beamMapNoted_effect (l := l) (b := b) (q := q) (e := malformed c 4) (c := c) (qty := qty) (k := k) hw
  exact loadRejects_of hi hframe hshown

theorem loadBeam_accepts (h : beamCode s b = none) : loadBeam q b s =
    finish q deferred { s with bmu := { s.bmu with beam := { s.bmu.beam with pend := some b } } } := by
  simp only [loadBeam, h]

theorem loadBeam_rejects {c : Nat} {k : Option Nat} (h : beamCode s b = some (c, k)) :
    loadBeam q b s = finish q (malformed c 4) (beamMapNoted c k 0 q s) := by
  rw [← beamMapReject_eq]
  simp only [loadBeam, h]

theorem loadMask_accepts (h : maskCode s b = none) : loadMask q b s =
    finish q deferred { s with bmu := { s.bmu with mask := { s.bmu.mask with pend := some b } } } := by
  simp only [loadMask, h]

theorem loadMask_rejects {c : Nat} {k : Option Nat} (h : maskCode s b = some (c, k)) :
    loadMask q b s = finish q (malformed c 4) (beamMapNoted c k 1 q s) := by
  rw [← beamMapReject_eq]
  simp only [loadMask, h]

theorem loadWeight_accepts (h : weightCode b = none) : loadWeight q b s =
    finish q deferred { s with bmu := { s.bmu with weight := { s.bmu.weight with pend := some b } } } := by
  simp only [loadWeight, h]

theorem loadWeight_rejects {c : Nat} {k : Option Nat} (h : weightCode b = some (c, k)) :
    loadWeight q b s = finish q (malformed c 4) (beamMapNoted c k 0 q s) := by
  rw [← beamMapReject_eq]
  simp only [loadWeight, h]

theorem beamCode_tableRead : beamCode (tableRead l b s) = beamCode s := by
  obtain ⟨_, _, _, _, h⟩ := tableRead_frame l b s
  rw [h]
  rfl

theorem maskCode_tableRead : maskCode (tableRead l b s) = maskCode s := by
  obtain ⟨_, _, _, _, h⟩ := tableRead_frame l b s
  rw [h]
  rfl

theorem beamCode_length (h : b.length ≠ 1048640) : beamCode s b = some (2, none) := if_pos h
theorem maskCode_length (h : b.length ≠ 32832) : maskCode s b = some (2, none) := if_pos h
theorem weightCode_length (h : b.length ≠ 192) : weightCode b = some (2, none) := if_pos h

/-! ### Programs (R249, R250, R292) -/

/-- An image that names the other target. -/
def OtherTarget (b : Bytes) (target : Nat) : Prop := (Bits.byteAt b 3 = 1 ∨ Bits.byteAt b 3 = 2) ∧ Bits.byteAt b 3 ≠ target

/-- A rejected program noted. -/
def programNoted (c q : Nat) (s : State) : State := raise 74 0 q (setRegN 0x05C034 c s)

section Program
variable {target : Nat}

theorem loadProgram_other (h : OtherTarget b target) : loadProgram target q b s = finish q (malformed 0x34 1) s := by
  unfold loadProgram
  exact if_pos (by simpa [OtherTarget] using h)

variable (hown : ¬ OtherTarget b target)
include hown

theorem loadProgram_rejects {c : Nat} (h : progCode b target = some c) :
    loadProgram target q b s = finish q (malformed c 5) (programNoted c q s) := by
  rw [loadProgram, if_neg (by simpa [OtherTarget] using hown), h]
  rfl

theorem loadProgram_accepts (h : progCode b target = none) : loadProgram target q b s =
    finish q deferred { s with comb :=
      if target = 1 then { s.comb with re := { s.comb.re with pend := some b } }
      else { s.comb with ce := { s.comb.ce with pend := some b } } } := by
  rw [loadProgram, if_neg (by simpa [OtherTarget] using hown), h]
end Program

theorem programNoted_effect {c : Nat} (hw : RegsWf s) :
    let w := programNoted c q (tableRead l b s)
    RejectFrame s w ∧ Pending (finish q e w) 74 ∧ reg (finish q e w) 0x05C034 = BitVec.ofNat 32 c := by
  intro w
  obtain ⟨hread, -⟩ := tableRead_regs (l := l) (b := b) hw
  have hset : RegsWf (setRegN 0x05C034 c (tableRead l b s)) := setReg_wf _ _ _ hread
  have hcode : reg w 0x05C034 = BitVec.ofNat 32 c := by
    rw [show w = raise 74 0 q _ from rfl, reg_raise _ _ _ _ _ hset (by decide) (by decide), setRegN, reg_setReg _ _ _ _ hread,
      if_pos rfl]
  obtain ⟨hp, hreg⟩ := finish_shows (q := q) (e := e) (raise_wf _ 74 0 q hset)
  exact ⟨tableRead_rejectFrame.setRegN.raise, hp 74 (by decide) (pending_raise (by decide) (by decide) hset),
    (hreg _ (by decide)).trans hcode⟩

theorem program_rejected {i : Instr} {target : Nat} (hw : RegsWf s)
    (hi : exec i s = .next (loadProgram target q b (tableRead l b s))) :
    (OtherTarget b target → LoadRejects i q 0x34 1 s (fun _ => True)) ∧
      (¬ OtherTarget b target → ∀ c, progCode b target = some c →
        LoadRejects i q c 5 s (fun u => Pending u 74 ∧ reg u 0x05C034 = BitVec.ofNat 32 c)) := by
  refine ⟨fun h => ?_, fun h c hc => ?_⟩
  · exact loadRejects_of (hi.trans (congrArg Host.Outcome.next (loadProgram_other h))) tableRead_rejectFrame trivial
  · obtain ⟨hframe, hshown⟩ := programNoted_effect (l := l) (b := b) (q := q) (e := malformed c 5) (c := c) hw
    exact loadRejects_of (hi.trans (congrArg Host.Outcome.next (loadProgram_rejects h hc))) hframe hshown

/-! ### The link equalization set (R417, R422) -/

theorem loadEq_accepts (h : eqCode s b = none) :
    loadEq q b s = finish q deferred { s with cal := { s.cal with eq := some b } } := by
  simp only [loadEq, h]

theorem loadEq_rejects {c : Nat} (h : eqCode s b = some c) :
    loadEq q b s = finish q (malformed c 9) (calRejected 4 c q s) := by
  simp only [loadEq, h]

theorem eqCode_tableRead : eqCode (tableRead l b s) = eqCode s := by
  obtain ⟨_, _, _, _, h⟩ := tableRead_frame l b s
  rw [h]
  rfl

theorem eqCode_length (h : b.length ≠ 1216) : eqCode s b = some 4 := if_pos (by simp [eqLayout, h])

theorem eqRejected_effect {c : Nat} (hw : RegsWf s) :
    let w := calRejected 4 c q (tableRead l b s)
    RejectFrame s w ∧ Pending (finish q e w) 254 ∧ ((finish q e w).cal.recs[(4 : Fin 5)]).reject = c ∧
      reg (finish q e w) 0x160110 = Bits.satAdd (reg s 0x160110) 1 := by
  intro w
  obtain ⟨hread, hbefore⟩ := tableRead_regs (l := l) (b := b) hw
  obtain ⟨hwf, h254, -, hcount, -⟩ := calRejected_effect (n := 4) (c := c) (q := q) hread
  obtain ⟨hp, hreg⟩ := finish_shows (q := q) (e := e) hwf
  refine ⟨tableRead_rejectFrame.calRejected, hp 254 (by decide) h254, ?_, ?_⟩
  · rw [finish_cal, calRejected_recs]
    exact congrArg CalRec.reject (upd_own _ (4 : Fin 5) _)
  · rw [← hbefore _ (by decide)]
    exact (hreg _ (by decide)).trans hcount

end Sys2Proof.Machine

open Sys2Proof Sys2Proof.Machine in
/-- Settles O44: a load waits, ends on a memory fault, or runs the check of its kind, which leaves the set pending or rejected. -/
theorem tableLoads : Obligations.TableLoads := by
  unfold Obligations.TableLoads
  intro s l t hw hnext q kind loads readable memory others taken rejected correction beamMap program
  have hstart : startable s 3 = some l := startable_of_startsNext rfl hnext
  refine ⟨fun k i hi hwait => ?_, fun hlen hread hch hmem k i hi hkind => ?_, fun hlen hread hmem => ?_⟩
  · obtain ⟨run, hrun⟩ := exec_loadTable hi
    refine (hrun s).trans (congrArg Host.Outcome.next (loadTable_waits hstart (hwait.imp_right fun h => h.imp_right fun h => ?_)))
    rwa [← Bool.not_eq_true, tableReadable_iff]
  · obtain ⟨run, hrun⟩ := exec_loadTable hi
    have hfault : memoryFault s = some { status := 0xC } := memoryFault_group hch fun hopen => hmem ⟨hch, hopen⟩
    have hload := loadTable_faults (run := run) hstart hkind hlen (tableReadable_iff.mpr hread) hfault
    exact ⟨_, (hrun s).trans (congrArg Host.Outcome.next hload), finish_ended ..,
      finish_loadKeeps ⟨_, _, _, _, _, _, _, _, rfl⟩, finish_pec .., finish_bmu .., finish_comb ..⟩
  · have hfault : memoryFault s = none := memoryFault_none hmem.1 hmem.2
    have hexec {i : Instr} {k : Nat} {run : Nat → Bytes → State → State} (hi : exec i s = .next (loadTable k run t s))
        (hkind : kind = k) : exec i s = .next (run q t (tableRead l t s)) :=
      hi.trans (congrArg Host.Outcome.next (loadTable_runs hstart hkind hlen (tableReadable_iff.mpr hread) hfault))
    have htaken {i : Instr} {P : State → Prop} {w : State} {p x c y} (hi : exec i s = .next w)
        (hends : w = finish q deferred { tableRead l t s with pec := p, bmu := x, comb := c, cal := y })
        (hP : ∀ u : State, u.pec = p → u.bmu = x → u.comb = c → u.cal = y → P u) : taken i P := by
      obtain ⟨hkeeps, hended, hcur, hp, hx, hc, hy⟩ :=
        deferred_effect (q := q) (l := l) (b := t) (s := s) (p := p) (x := x) (c := c) (k := y) rfl
      exact ⟨_, hi.trans (congrArg Host.Outcome.next hends), hkeeps, hended, hcur, hP _ hp hx hc hy⟩
    obtain ⟨hpec, hbmu, hcomb, hcal⟩ := tableRead_tables l t s
    refine ⟨fun hk => ⟨⟨fun hcode => ?_, fun c hcode => correction_rejected hw (hexec rfl hk) hcode⟩, kernelCode_length⟩,
      fun hk => ⟨⟨fun hcode => ?_, fun c hcode => correction_rejected hw (hexec rfl hk) hcode⟩, fieldCode_length⟩,
      fun hk => ⟨⟨fun hcode => ?_, fun c y hcode => ?_⟩, beamCode_length⟩,
      fun hk => ⟨⟨fun hcode => ?_, fun c y hcode => ?_⟩, maskCode_length⟩,
      fun hk => ⟨⟨fun hcode => ?_, fun c y hcode => ?_⟩, weightCode_length⟩,
      fun hk => ⟨(program_rejected hw (hexec rfl hk)).1, fun hown hcode => ?_, (program_rejected hw (hexec rfl hk)).2⟩,
      fun hk => ⟨(program_rejected hw (hexec rfl hk)).1, fun hown hcode => ?_, (program_rejected hw (hexec rfl hk)).2⟩,
      fun hk => ⟨fun hcode => ?_, fun c hcode => ?_, eqCode_length⟩⟩
    · exact htaken (hexec rfl hk) (by rw [loadKernel_accepts hcode, hpec, hbmu, hcomb, hcal]) fun u hp hx hc hy => ⟨hp, hx, hc, hy⟩
    · exact htaken (hexec rfl hk) (by rw [loadField_accepts hcode, hpec, hbmu, hcomb, hcal]) fun u hp hx hc hy => ⟨hp, hx, hc, hy⟩
    · rw [← beamCode_tableRead (l := l) (b := t)] at hcode
      exact htaken (hexec rfl hk) (by rw [loadBeam_accepts hcode, hpec, hbmu, hcomb, hcal]) fun u hp hx hc hy => ⟨hx, hp, hc, hy⟩
    · rw [← beamCode_tableRead (l := l) (b := t)] at hcode
      exact beamMap_rejected hw ((hexec rfl hk).trans (congrArg Host.Outcome.next (loadBeam_rejects hcode)))
    · rw [← maskCode_tableRead (l := l) (b := t)] at hcode
      exact htaken (hexec rfl hk) (by rw [loadMask_accepts hcode, hpec, hbmu, hcomb, hcal]) fun u hp hx hc hy => ⟨hx, hp, hc, hy⟩
    · rw [← maskCode_tableRead (l := l) (b := t)] at hcode
      exact beamMap_rejected hw ((hexec rfl hk).trans (congrArg Host.Outcome.next (loadMask_rejects hcode)))
    · exact htaken (hexec rfl hk) (by rw [loadWeight_accepts hcode, hpec, hbmu, hcomb, hcal]) fun u hp hx hc hy => ⟨hx, hp, hc, hy⟩
    · exact beamMap_rejected hw ((hexec rfl hk).trans (congrArg Host.Outcome.next (loadWeight_rejects hcode)))
    · exact htaken (hexec rfl hk) (by rw [loadProgram_accepts hown hcode, if_pos rfl, hpec, hbmu, hcomb, hcal])
        fun u hp hx hc hy => ⟨hc, hp, hx, hy⟩
    · exact htaken (hexec rfl hk) (by rw [loadProgram_accepts hown hcode, if_neg (by decide), hpec, hbmu, hcomb, hcal])
        fun u hp hx hc hy => ⟨hc, hp, hx, hy⟩
    · rw [← eqCode_tableRead (l := l) (b := t)] at hcode
      exact htaken (hexec rfl hk) (by rw [loadEq_accepts hcode, hpec, hbmu, hcomb, hcal]) fun u hp hx hc hy => ⟨hy, hp, hx, hc⟩
    · rw [← eqCode_tableRead (l := l) (b := t)] at hcode
      obtain ⟨hframe, hshown⟩ := eqRejected_effect (l := l) (b := t) (q := q) (e := malformed c 9) (c := c) hw
      exact loadRejects_of ((hexec rfl hk).trans (congrArg Host.Outcome.next (loadEq_rejects hcode))) hframe hshown
end

section
/-!
PROOFS. The start and the end of a forage (O46): what comes into force before it, its refusals, the slot it runs on, and what
its end leaves.
-/

namespace Sys2Proof.Machine

variable {s t u : State} {q : Nat} {l : Live} {e : End} {f : Stripe} {g : Forage}

/-! ### What is in force when a forage starts (R144, R250) -/

/-- The state a forage starts in: what is pending comes into force where no write executes or waits. -/
def forageForce (s : State) : State := if s.job.write.isNone && (waitingWrite s).isNone then correctionInForce s else s

/-- The kernel table that a forage starts on. -/
def forageKernel (s : State) : Option Bytes :=
  if s.job.write.isNone && (waitingWrite s).isNone then s.pec.kernel.pend.or s.pec.kernel.cur else s.pec.kernel.cur

theorem correctionInForce_effect (hw : s.job.write = none) :
    Forced s (correctionInForce s) ∧ (correctionInForce s).pec.kernel.cur = s.pec.kernel.pend.or s.pec.kernel.cur := by
  unfold correctionInForce
  obtain ⟨f1, p1, -⟩ := kernelInForce_effect s
  obtain ⟨f2, p2, -⟩ := fieldInForce_effect (kernelInForce s)
  have f12 := f1.trans f2
  obtain ⟨hjob, -⟩ := f12.keeps
  obtain ⟨f3, p3, -⟩ := rasterInForce_effect (s := fieldInForce (kernelInForce s)) (by rw [hjob, hw])
  obtain ⟨hjob3, -⟩ := (f12.trans f3).keeps
  obtain ⟨f4, p4, -⟩ :=
    correctionProgramInForce_effect (s := programInForce true (fieldInForce (kernelInForce s))) (by rw [hjob3, hw])
  exact ⟨(f12.trans f3).trans f4, by rw [p4, p3, p2, p1]; rfl⟩

theorem forageForce_effect (s : State) : Forced s (forageForce s) ∧ (forageForce s).pec.kernel.cur = forageKernel s := by
  unfold forageForce forageKernel
  split
  · next h => exact correctionInForce_effect (by simpa using (Bool.and_eq_true_iff.mp h).1)
  · exact ⟨.refl, rfl⟩

theorem Forced.eng (h : Forced s u) : u.eng = s.eng := by
  obtain ⟨_, _, _, _, _, _, _, _, _, _, _, rfl⟩ := h.frame
  rfl

/-- Which engines work depends on their registers, their state and the power alone (R254). -/
theorem workingRaster_congr (he : u.eng = s.eng) (hp : u.power = s.power)
    (hr : ∀ e : Fin 148, reg u (engBase e + 4) = reg s (engBase e + 4)) :
    workingRaster u = workingRaster s := by
  have hworking : engWorking u = engWorking s := by
    funext e
    simp only [engWorking, engOffline, engPowered, powered, regN, hr, he, hp]
  rw [workingRaster, hworking]
  rfl

theorem Forced.workingRaster (h : Forced s u) (hw : RegsWf s) : workingRaster u = workingRaster s := by
  obtain ⟨-, -, hpower, -⟩ := h.keeps
  refine workingRaster_congr h.eng hpower fun e => h.regs hw _ ?_ ?_ ?_ <;> unfold engBase <;> split <;> simp <;> omega

/-! ### The refusals of a forage (R297) -/

/-- The domains and engines that a forage needs (R297). -/
def ForagePowers (s : State) : Prop :=
  powered s 5 = true ∧ ((forageKernel s).isSome = true → powered s 4 = true) ∧ workingRaster s ≠ 0

theorem forageRefusal_unbound (h : s.intake.bind = none) : forageRefusal (forageForce s) = some 4 := by
  obtain ⟨-, hintake, -⟩ := (forageForce_effect s).1.keeps
  exact if_pos (by rw [hintake, h]; rfl)

theorem forageRefusal_bound (hw : RegsWf s) (hcore : powered s 2 = true) (h : s.intake.bind.isSome = true) :
    (¬ ForagePowers s → forageRefusal (forageForce s) = some 5) ∧ (ForagePowers s → forageRefusal (forageForce s) = none) := by
  obtain ⟨hforced, hkernel⟩ := forageForce_effect s
  obtain ⟨-, hintake, hpower, -⟩ := hforced.keeps
  have hpowered (k : Nat) : powered (forageForce s) k = powered s k := by rw [powered, hpower]; rfl
  have hbound : (forageForce s).intake.bind.isNone = false := by rw [hintake, ← Option.not_isSome, h]; rfl
  have hfails : (!powered (forageForce s) 2 || !powered (forageForce s) 5 ||
      ((forageForce s).pec.kernel.cur.isSome && !powered (forageForce s) 4) || decide (workingRaster (forageForce s) = 0)) = true ↔
      ¬ ForagePowers s := by
    rw [hpowered, hpowered, hpowered, hkernel, hforced.workingRaster hw, hcore, ForagePowers]
    cases powered s 5 <;> cases powered s 4 <;> cases (forageKernel s).isSome <;> simp
  unfold forageRefusal
  rw [hbound]
  exact ⟨fun hno => if_pos (hfails.mpr hno), fun hyes => if_neg fun hfail => hfails.mp hfail hyes⟩

/-! ### The slot of a forage (R297, R303) -/

/-- Is a slot that of a stripe? -/
def ownSlot (f : Stripe) (x : Slot) : Bool := x.stripe == f.stripe && x.pass == f.pass

/-- No other accepted forage names the stripe. -/
def ForageAlone (f : Stripe) (q : Nat) (s : State) : Prop :=
  ∀ x, x ∈ s.job.live → x.seq ≠ q → Bits.byteAt x.entry 8 = 5 → (entryStripe x.entry).stripe ≠ f.stripe

/-- The forage slots with those of a stripe changed. -/
def slotsWith (f : Stripe) (k : Slot → Slot) (l : List Slot) : List Slot := l.map (fun x => if ownSlot f x then k x else x)

theorem slotsWith_own {k : Slot → Slot} {m : List Slot} {x : Slot} (hx : x ∈ slotsWith f k m) (ho : ownSlot f x = true) :
    ∃ y, y ∈ m ∧ x = k y := by
  obtain ⟨y, hy, rfl⟩ := List.mem_map.mp hx
  by_cases h : ownSlot f y = true
  · exact ⟨y, hy, if_pos h⟩
  · rw [if_neg h] at ho
    exact absurd ho h

theorem slotsWith_others {k : Slot → Slot} (hk : ∀ y, ownSlot f y = true → ownSlot f (k y) = true) (m : List Slot) :
    (slotsWith f k m).filter (fun x => !ownSlot f x) = m.filter (fun x => !ownSlot f x) := by
  induction m with
  | nil => rfl
  | cons y m ih =>
    rw [slotsWith, List.map_cons, List.filter_cons, List.filter_cons, ← slotsWith, ih]
    by_cases h : ownSlot f y = true
    · simp [h, hk y h]
    · simp [h]

theorem slotLost_frame (f : Stripe) (q : Nat) (s : State) : ∃ m, slotLost f q s = { s with job := { s.job with slots := m } } := by
  unfold slotLost
  split <;> exact ⟨_, rfl⟩

/-- A slot whose stripe no other accepted forage names is freed. -/
theorem slotLost_alone (h : ForageAlone f q s) : (slotLost f q s).job.slots = s.job.slots.filter (fun x => !ownSlot f x) := by
  have hnone : nextClaim s f q = none := by
    rw [nextClaim, Option.map_eq_none_iff, List.find?_eq_none]
    intro x hx
    by_cases hq : x.seq = q
    · simp [hq]
    · by_cases hop : entryOp x.entry = 5
      · simp [h x hx hq hop]
      · simp [hop]
  unfold slotLost
  rw [hnone]
  rfl

/-- The end of a command after a change of the forage slots and of what its job, its link and its time do not hold. -/
theorem finish_endedSlots (hj : ∃ m, u.job = { s.job with slots := m }) (hh : u.hif = s.hif) (ht : u.tim = s.tim) :
    Ended q e s (finish q e u) := by
  obtain ⟨m, hj⟩ := hj
  exact (finish_ended q e u).read (by rw [hj]) (by rw [hj]) (by rw [hj]) hh.symm ht.symm rfl rfl rfl

/-! ### The start of a forage (R139, R144, R297) -/

section Start
variable (hstart : startable s 5 = some l)
include hstart

theorem forageStart_waits (h : s.job.forage.isSome = true ∨ soloWrite s = true) : forageStart s = s := by
  have hbusy : (s.job.forage.isSome || soloWrite s) = true := by simpa using h
  simp only [forageStart, hstart, hbusy, if_true]

variable (hforage : s.job.forage = none) (hsolo : soloWrite s = false)
include hforage hsolo

theorem forageStart_refuses {r : Nat} (h : forageRefusal (forageForce s) = some r) : forageStart s =
    raise 11 0 l.seq (finish l.seq (refusedState r) (slotLost (entryStripe l.entry) l.seq (forageForce s))) := by
  rw [forageForce] at h ⊢
  simp only [forageStart, hstart, hforage, hsolo, Option.isSome_none, Bool.or_self, Bool.false_eq_true, if_false, h]

theorem forageStart_runs (h : forageRefusal (forageForce s) = none) : forageStart s = forageRun l (forageForce s) := by
  rw [forageForce] at h ⊢
  simp only [forageStart, hstart, hforage, hsolo, Option.isSome_none, Bool.or_self, Bool.false_eq_true, if_false, h]
end Start

/-- What a refused forage leaves. -/
theorem forageRefused_effect {r : Nat} (hw : RegsWf s) (hf : Forced s u) :
    let t := raise 11 0 q (finish q (refusedState r) (slotLost f q u))
    Ended q { status := 4, code := r, source := 8 } s t ∧ Pending t 11 ∧ t.job.forage = s.job.forage ∧ t.job.write = s.job.write ∧
      t.eng = s.eng ∧ (ForageAlone f q s → t.job.slots = s.job.slots.filter (fun x => !ownSlot f x)) := by
  intro t
  obtain ⟨hjob, -, -, -, -, htim, -, -, hhif⟩ := hf.keeps
  obtain ⟨m, hm⟩ := slotLost_frame f q u
  have hslots : (slotLost f q u).job = { s.job with slots := m } := by rw [hm, ← hjob]
  obtain ⟨c, hc⟩ := finish_jobFrame q (refusedState r) (slotLost f q u)
  have hfin : t.job = (finish q (refusedState r) (slotLost f q u)).job := raise_job ..
  have hended : Ended q (refusedState r) s (finish q (refusedState r) (slotLost f q u)) :=
    finish_endedSlots ⟨m, hslots⟩ (by rw [hm]; exact hhif) (by rw [hm]; exact htim)
  have hwf : RegsWf (slotLost f q u) := by rw [hm]; exact hf.wf hw
  refine ⟨hended.congr rfl rfl rfl (by rw [hfin]) (by rw [hfin]) (raise_journal ..),
    pending_raise (by decide) (by decide) (finish_regs hwf).1, by rw [hfin, hc, hslots], by rw [hfin, hc, hslots], ?_, fun h => ?_⟩
  · rw [raise_eng, finish_eng, hm]
    exact hf.eng
  · have halone : ForageAlone f q u := by rwa [ForageAlone, hjob]
    rw [hfin, hc, slotLost_alone halone, hjob]

/-- A slot in which a forage begins: its claim stays, and it holds the digests in force and no results. -/
def begunSlot (f : Stripe) (q : Nat) (s : State) (x : Slot) : Slot :=
  { claimedSlot f q with claim := x.claim, dig := digestsNow s, corrected := s.pec.kernel.cur.isSome }

theorem begunSlot_own (q : Nat) (s : State) (x : Slot) : ownSlot f (begunSlot f q s x) = true := by
  simp [ownSlot, begunSlot, claimedSlot]

theorem forageRun_forage (l : Live) (s : State) : ∃ g, (forageRun l s).job.forage = some g ∧ g.seq = l.seq ∧
    g.f = entryStripe l.entry ∧ g.kernel = s.pec.kernel.cur ∧ g.corrected = s.pec.kernel.cur.isSome ∧ g.dig = digestsNow s :=
  ⟨_, rfl, rfl, rfl, rfl, rfl, rfl⟩

theorem forageRun_slots (l : Live) (s : State) : (forageRun l s).job.slots =
    slotsWith (entryStripe l.entry) (begunSlot (entryStripe l.entry) l.seq s) s.job.slots := rfl

theorem forageRun_keeps (l : Live) (s : State) : let t := forageRun l s
    t.pec = s.pec ∧ t.job.live = s.job.live.map (fun x => if x.seq = l.seq then { x with phase := .running } else x) ∧
      t.intake.expF = Exp.start ∧ t.job.write = s.job.write ∧ t.eng = s.eng ∧ t.journal = s.journal ∧
      t.intake.bind = s.intake.bind := by
  refine ⟨rfl, ?_, rfl, rfl, rfl, rfl, rfl⟩
  exact List.map_congr_left fun x _ => by simp

/-! ### The end of a forage (R35, R303, R304) -/

/-- What the end of a forage leaves of the module: nothing of the forage, and the write as it was. -/
def ForageLeft (s t : State) : Prop :=
  t.job.forage = none ∧ t.job.write = s.job.write ∧ t.blk = s.blk ∧ t.seq = s.seq ∧ t.dram = s.dram ∧
    (∀ k, k ∈ t.comb.tasks → k.pass = .write) ∧ t.intake.expW = s.intake.expW

theorem dropPass_frame (p : Pass) (s : State) :
    ∃ x c, dropPass p s = { s with eng := x, comb := c } ∧ c.tasks = s.comb.tasks.filter (fun t => t.pass != p) :=
  ⟨_, _, rfl, rfl⟩

/-- What the end of a forage clears. -/
theorem forageCleared_frame (s : State) : ∃ x c i, forageCleared s =
    { s with eng := x, comb := c, intake := i, job := { s.job with forage := none } } ∧
      c.tasks = s.comb.tasks.filter (fun t => t.pass != .forage) ∧ i.expW = s.intake.expW := by
  obtain ⟨x, c, h, hc⟩ := dropPass_frame .forage s
  unfold forageCleared stopRuns
  rw [h]
  exact ⟨_, _, _, rfl, hc, rfl⟩

theorem forageCleared_left (hw : u.job.write = s.job.write) (hb : u.blk = s.blk) (hs : u.seq = s.seq) (hd : u.dram = s.dram)
    (hi : u.intake = s.intake) : ForageLeft s (forageCleared u) := by
  obtain ⟨x, c, i, h, hc, hexp⟩ := forageCleared_frame u
  rw [h]
  refine ⟨rfl, hw, hb, hs, hd, fun k hk => ?_, hexp.trans (congrArg Intake.expW hi)⟩
  rw [hc] at hk
  obtain ⟨-, hpass⟩ := List.mem_filter.mp hk
  cases hp : k.pass with
  | write => rfl
  | forage => simp [hp] at hpass

/-- The end of a command, after what served it is cleared. -/
theorem Ended.cleared (h : Ended q e s u) : Ended q e s (forageCleared u) := by
  obtain ⟨_, _, _, hu, -⟩ := forageCleared_frame u
  exact h.congr rfl rfl rfl (by rw [hu]) (by rw [hu]) (by rw [hu])

theorem forageCleared_slots (s : State) : (forageCleared s).job.slots = s.job.slots := by
  obtain ⟨_, _, _, h, -⟩ := forageCleared_frame s
  rw [h]

theorem forageCleared_regs (s : State) : (forageCleared s).regs = s.regs := by
  obtain ⟨_, _, _, h, -⟩ := forageCleared_frame s
  rw [h]

theorem ForageLeft.budgetNote {cls : Nat} (h : ForageLeft s u) : ForageLeft s (budgetNote e cls q u) := by
  rw [ForageLeft, budgetNote_job, budgetNote_blk, budgetNote_seq, budgetNote_dram, budgetNote_comb, budgetNote_intake]
  exact h

/-- A forage that fails ends, and its slot is freed or waits for the next forage of its stripe. -/
theorem forageFails_effect (hw : RegsWf s) : let t := forageFails g e s
    ForageLeft s t ∧ Ended g.seq e s t ∧
      (ForageAlone g.f g.seq s → t.job.slots = s.job.slots.filter (fun x => !ownSlot g.f x)) ∧ (e.status = 3 → Pending t 12) := by
  intro t
  obtain ⟨m, hm⟩ := slotLost_frame g.f g.seq s
  obtain ⟨hwrite, hslots⟩ := finish_job g.seq e (slotLost g.f g.seq s)
  have hended : Ended g.seq e s (finish g.seq e (slotLost g.f g.seq s)) :=
    finish_endedSlots ⟨m, by rw [hm]⟩ (by rw [hm]) (by rw [hm])
  have hwf : RegsWf (forageCleared (finish g.seq e (slotLost g.f g.seq s))) := by
    rw [RegsWf, forageCleared_regs]
    exact (finish_regs (s := slotLost g.f g.seq s) (by rw [hm]; exact hw)).1
  have hleft : ForageLeft s (forageCleared (finish g.seq e (slotLost g.f g.seq s))) :=
    forageCleared_left (by rw [hwrite, hm]) (by rw [finish_blk, hm]) (by rw [finish_seq, hm]) (by rw [finish_dram, hm])
      (by rw [finish_intake, hm])
  refine ⟨hleft.budgetNote, ?_, fun halone => ?_, fun hst => budgetNote_pending12 hst hwf⟩
  · exact hended.cleared.congr rfl rfl rfl (congrArg Job.live (budgetNote_job ..)) (congrArg Job.cplQ (budgetNote_job ..))
      (budgetNote_journal ..)
  · exact (congrArg Job.slots (budgetNote_job ..)).trans
      ((forageCleared_slots _).trans (hslots.trans (slotLost_alone halone)))

/-- The slot of a forage that has passed. -/
def heldSlot (g : Forage) (s : State) (y : Slot) : Slot :=
  { y with held := true, valid := true, pages := s.intake.expF.pages.map (·.page), claim := (nextClaim s g.f g.seq).getD 0 }

/-- PLAN_MIN of a forage at its end (R304). -/
def foragePlan (x : Slot) (s : State) : Nat := planMin s (qBar x 0).1 (planRight 100 (workingNow s) (planMargin s) false)

/-- How a forage that has passed ends. -/
def foragePassed (g : Forage) (x : Slot) (s : State) : End :=
  { status := 0, arg0 := foragePlan x s, arg1 := s.intake.expF.pages.length, stripe := g.f.stripe }

theorem foragePasses_eq {x : Slot} (h : s.intake.expF.pages.length ≤ 16777216) : foragePasses g x s =
    forageCleared (finish g.seq (foragePassed g x s) (freeNext (updSlot g.f (heldSlot g s) s))) := by
  unfold foragePasses
  extract_lets pages plan keep
  have hlen : pages.length = s.intake.expF.pages.length := List.length_map _
  rw [hlen, if_neg (by rw [pageListMax]; omega)]
  rfl

theorem foragePasses_full {x : Slot} (h : 16777216 < s.intake.expF.pages.length) : foragePasses g x s =
    forageFails g { status := 3, code := 0x23, source := 8, stripe := g.f.stripe } s :=
  if_pos (by rw [List.length_map, pageListMax]; exact h)

theorem foragePlan_eq {x : Slot} (h : 0 < 2816 * workingNow s * 100 * (regN s 0x020048 % 128)) :
    foragePlan x s = ((qBar x 0).1 * 128000000 + 2816 * workingNow s * 100 * (regN s 0x020048 % 128) - 1) /
      (2816 * workingNow s * 100 * (regN s 0x020048 % 128)) := by
  have hright : planRight 100 (workingNow s) (planMargin s) false = 2816 * workingNow s * 100 * (regN s 0x020048 % 128) := by
    simp [planRight, planMargin, regBits, Bits.bits]
  rw [foragePlan, hright, planMin]
  split
  · next hq => rw [hq, Nat.zero_mul, Nat.zero_add, Nat.div_eq_of_lt (by omega)]
  · rw [if_neg (by omega)]

/-- A forage that has passed ends with its results in its slot. -/
theorem foragePassed_effect {x : Slot} :
    let t := forageCleared (finish g.seq (foragePassed g x s) (freeNext (updSlot g.f (heldSlot g s) s)))
    ForageLeft s t ∧ Ended g.seq (foragePassed g x s) s t ∧ t.job.slots = slotsWith g.f (heldSlot g s) s.job.slots := by
  obtain ⟨hwrite, hslots⟩ := finish_job g.seq (foragePassed g x s) (freeNext (updSlot g.f (heldSlot g s) s))
  refine ⟨forageCleared_left hwrite (finish_blk ..) (finish_seq ..) (finish_dram ..) (finish_intake ..), ?_,
    (forageCleared_slots _).trans hslots⟩
  exact (finish_endedSlots (u := freeNext (updSlot g.f (heldSlot g s) s)) ⟨slotsWith g.f (heldSlot g s) s.job.slots, rfl⟩ rfl
    rfl).cleared

section End
variable (hforage : s.job.forage = some g)
include hforage

theorem forageEnd_fails {x} (h : g.fail = some x) : forageEnd s = forageFails g (failEnd g x) s := by
  simp only [forageEnd, hforage, h]

variable (hfail : g.fail = none)
include hfail

theorem forageEnd_waits (h : s.job.slots.find? (ownSlot g.f) = none ∨ forageDone s g = false) : forageEnd s = s := by
  have hslot : slotOf s g.f = s.job.slots.find? (ownSlot g.f) := rfl
  simp only [forageEnd, hforage, hfail]
  obtain h | h := h
  · rw [hslot, h]
  · split
    · rw [h]
      rfl
    · rfl

theorem forageEnd_passes {x : Slot} (hx : s.job.slots.find? (ownSlot g.f) = some x) (hdone : forageDone s g = true) :
    forageEnd s = foragePasses g x s := by
  have hslot : slotOf s g.f = some x := hx
  simp only [forageEnd, hforage, hfail, hslot, hdone, if_true]
end End

end Sys2Proof.Machine

open Sys2Proof Sys2Proof.Machine in
/-- Settles O46: a forage that starts waits, is refused or runs on its slot, and one that ends fails or leaves results there. -/
theorem forageCommands : Obligations.ForageCommands := by
  unfold Obligations.ForageCommands
  refine ⟨?_, fun s h => ?_, ?_⟩
  · intro s l hw hnext q f own fresh kernel powers refused
    have hstart : startable s 5 = some l := startable_of_startsNext rfl hnext
    obtain ⟨-, -, -, -, -, hcore⟩ := hnext
    obtain ⟨hforced, hkernel⟩ := forageForce_effect s
    refine ⟨fun h => congrArg Host.Outcome.next (forageStart_waits hstart h), fun hforage hsolo => ?_⟩
    have hrefused {r : Nat} (h : forageRefusal (forageForce s) = some r) : refused r := by
      obtain ⟨hended, hpending, hnone, hwrite, heng, hslots⟩ := forageRefused_effect (q := q) (f := f) (r := r) hw hforced
      exact ⟨_, congrArg Host.Outcome.next (forageStart_refuses hstart hforage hsolo h), hended, hpending, hnone.trans hforage,
        hwrite, heng, hslots⟩
    refine ⟨fun h => hrefused (forageRefusal_unbound h), fun hbound hno => hrefused ((forageRefusal_bound hw hcore hbound).1 hno),
      fun hbound hyes => ?_⟩
    have hrun := forageStart_runs hstart hforage hsolo ((forageRefusal_bound hw hcore hbound).2 hyes)
    obtain ⟨g, hg, hseq, hf, hgk, hcorrected, hdig⟩ := forageRun_forage l (forageForce s)
    obtain ⟨hpec, hlive, hexp, hwrite, heng, hjournal, hbind⟩ := forageRun_keeps l (forageForce s)
    obtain ⟨hjob, hintake, -, -, -, -, -, hrecords, -⟩ := hforced.keeps
    have hslots := forageRun_slots l (forageForce s)
    rw [hjob] at hslots hlive hwrite
    refine ⟨_, g, congrArg Host.Outcome.next hrun, hg, hseq, hf, hgk.trans hkernel, hcorrected.trans (by rw [hkernel]; rfl),
      by rw [hpec]; exact hkernel, hlive, fun x hx ho => ?_, ?_, hexp, hwrite, heng.trans hforced.eng, hjournal.trans hrecords,
      hbind.trans (by rw [hintake])⟩
    · rw [hslots] at hx
      obtain ⟨y, -, rfl⟩ := slotsWith_own hx ho
      exact ⟨rfl, rfl, rfl, hdig.symm⟩
    · rw [hslots]
      exact slotsWith_others (fun y _ => begunSlot_own _ _ y) _
  · exact congrArg Host.Outcome.next (by rw [forageEnd, h])
  · intro s g hw hforage own alone done
    refine ⟨fun hfail h => congrArg Host.Outcome.next (forageEnd_waits hforage hfail h), fun st code src extra a0 a1 hfail => ?_,
      fun x hfail hx hdone => ⟨fun hfits => ?_, fun hfull => ?_⟩⟩
    · obtain ⟨hleft, hended, hslots, -⟩ := forageFails_effect (g := g) (e := failEnd g (st, code, src, extra, a0, a1)) hw
      exact ⟨_, congrArg Host.Outcome.next (forageEnd_fails hforage hfail), hleft, hended, hslots⟩
    · obtain ⟨hleft, hended, hslots⟩ := foragePassed_effect (s := s) (g := g) (x := x)
      refine ⟨_, foragePlan x s,
        congrArg Host.Outcome.next ((forageEnd_passes hforage hfail hx hdone).trans (foragePasses_eq hfits)), hleft, hended, foragePlan_eq, fun y hy ho => ?_, by rw [hslots, slotsWith, List.length_map]⟩
      rw [hslots] at hy
      obtain ⟨z, -, rfl⟩ := slotsWith_own hy ho
      exact ⟨rfl, rfl, rfl⟩
    · obtain ⟨hleft, hended, hslots, hpending⟩ :=
        forageFails_effect (g := g) (e := { status := 3, code := 0x23, source := 8, stripe := g.f.stripe }) hw
      exact ⟨_, congrArg Host.Outcome.next ((forageEnd_passes hforage hfail hx hdone).trans (foragePasses_full hfull)), hleft,
        hpending rfl, hended, hslots⟩
end

section
/-!
PROOFS. The correction extension and the correction streams (O6). First what an instruction that runs leaves of its engine, and the
lanes, the accumulators and SAT after it; then the instructions.
-/

namespace Sys2Proof.Machine

variable {s : State} {i : Instr} {e : Fin 148} {x y : Engine} {m c : Fin 8} {d : Fin 32} {len slots k : Nat} {sat : List Bool}

/-! ### An instruction that runs (R267, R283) -/

/-- An engine after an instruction: its issue slots are charged and its program counter has advanced. -/
def advanced (s : State) (e : Fin 148) (len slots : Nat) (y : Engine) : Engine := charge slots { y with pc := (s.eng[e]).pc + len }

theorem advanced_held : (advanced s e len slots y).held = y.held.map (fun h => { h with slots := h.slots + slots }) := rfl

/-- An instruction with room after it advances its engine and changes nothing else. -/
theorem engineGoes_kNext {after : Engine → Prop} (hrun : exec i s = .next (kNext e len slots y s)) (hgo : EngineRuns s e len)
    (h : after (advanced s e len slots y)) : EngineGoes i s e len after := by
  obtain ⟨-, hroom⟩ := hgo
  have hnext : kNext e len slots y s = updEng e (fun _ => advanced s e len slots y) s := if_neg (Nat.not_le.mpr hroom)
  rw [hnext] at hrun
  have hown : (upd s.eng e.val (fun _ => advanced s e len slots y))[e] = advanced s e len slots y := upd_own ..
  refine ⟨_, hrun, rfl, fun j hj => (upd_fin _ _ _ _).trans (if_neg (Ne.symm hj)), ?_, ?_⟩
  · exact congrArg Engine.pc hown
  · rw [updEng_eng, hown]
    exact h

/-- An instruction that changes only its engine, and not the task it holds. -/
theorem engineStep_kPlain {f : Engine → Engine} {after : Engine → Prop} (hrun : exec i s = .next (kPlain e len slots f s))
    (hgo : EngineRuns s e len) (hheld : (f (s.eng[e])).held = (s.eng[e]).held)
    (h : after (advanced s e len slots (f (s.eng[e])))) : EngineStep i s e len slots after :=
  engineGoes_kNext (hrun.trans (congrArg Host.Outcome.next (if_pos hgo.1))) hgo
    ⟨by rw [advanced_held, hheld], h⟩

theorem kDefined_runs {run : State → State} {ok : Bool} (hok : ok = true) (hgo : kGo s e = true) :
    kDefined ok e run s = run s := by
  rw [kDefined, if_pos hgo, if_pos hok]

/-- An instruction that needs a task runs on the one held. -/
theorem kHeld_runs {run : Held → State → State} {h : Held} (hgo : kGo s e = true) (hheld : (s.eng[e]).held = some h) :
    kHeld e run s = run h s := by
  simp only [kHeld, hgo, if_true, hheld]

/-! ### Lanes, accumulators and SAT (R237, R269) -/

theorem getD_map_range {α : Type} {n l : Nat} (g : Nat → α) (z : α) (hl : l < n) : ((List.range n).map g).getD l z = g l := by
  simp [List.getD, hl]

theorem lane0_setV {f : Nat → Nat} {l : Nat} (hl : l < laneCount e) :
    lane0 (setV e m d f x) d l = if maskBit x m l then f l else lane0 x d l := by
  simp only [lane0, setV, Fin.getElem_fin, Vector.getElem_set_self]
  exact getD_map_range _ 0 hl

theorem setV_others {f : Nat → Nat} {r : Fin 32} (hr : r ≠ d) : (setV e m d f x).v[r] = x.v[r] := by
  simp only [setV, Fin.getElem_fin]
  exact Vector.getElem_set_ne _ _ fun h => hr (Fin.ext h.symm)

/-- The active lanes of a vector have taken `f`. -/
theorem vectorTakes_setV {f : Nat → Nat} :
    VectorTakes e x m d f sat (advanced s e len slots { setV e m d f x with sat := sat }) :=
  ⟨fun _ hl => lane0_setV hl, fun _ hr => setV_others hr, rfl⟩

theorem accLane_setA {f : Nat → Int} {l : Nat} (hl : l < laneCount e) :
    accLane (setA e m c f x) c l = if maskBit x m l then f l else accLane x c l := by
  simp only [accLane, setA, Fin.getElem_fin, Vector.getElem_set_self]
  exact getD_map_range _ 0 hl

theorem setA_others {f : Nat → Int} {r : Fin 8} (hr : r ≠ c) : (setA e m c f x).a[r] = x.a[r] := by
  simp only [setA, Fin.getElem_fin]
  exact Vector.getElem_set_ne _ _ fun h => hr (Fin.ext h.symm)

/-- The active lanes of an accumulator have taken `f`. -/
theorem accTakes_setA {f : Nat → Int} :
    AccTakes e x m c f sat (advanced s e len slots { setA e m c f x with sat := sat }) :=
  ⟨fun _ hl => accLane_setA hl, fun _ hr => setA_others hr, rfl⟩

theorem VectorTakes.congr {f g : Nat → Nat} (h : VectorTakes e x m d f sat y) (hf : ∀ l, l < laneCount e → g l = f l) :
    VectorTakes e x m d g sat y := by
  obtain ⟨hlanes, hrest⟩ := h
  exact ⟨fun l hl => by rw [hf l hl, hlanes l hl], hrest⟩

theorem AccTakes.congr {f g : Nat → Int} (h : AccTakes e x m c f sat y) (hf : ∀ l, l < laneCount e → g l = f l) :
    AccTakes e x m c g sat y := by
  obtain ⟨hlanes, hrest⟩ := h
  exact ⟨fun l hl => by rw [hf l hl, hlanes l hl], hrest⟩

/-- SAT after an instruction that left the masks and SAT of its engine. -/
theorem satAfter_satMark {bad : Nat → Bool} {P : Nat → Prop} (hm : y.m = x.m) (hsat : y.sat = x.sat)
    (hbad : ∀ l, bad l = true ↔ P l) : SatAfter e x m P (satMark e m bad y).sat := by
  intro l hl
  have hmask : maskBit y m l = maskBit x m l := by rw [maskBit, hm]; rfl
  rw [satMark, getD_map_range _ _ hl, hsat, hmask, Bool.or_eq_true, Bool.and_eq_true, hbad]

/-- A correction engine's accumulator saturates where a value leaves 48 bits (R268). -/
theorem satA_correction (e : Fin 4) (v : Int) : satA (ceEng e) v = Bits.clamp v (-2 ^ 47) (2 ^ 47 - 1) := by
  have hbits : accBits (ceEng e) = 48 := by simp [accBits, laneBits, ceEng]
  rw [satA, hbits]
  norm_num

theorem clamp_ne {v lo hi : Int} : Bits.clamp v lo hi ≠ v ↔ v < lo ∨ hi < v := by
  unfold Bits.clamp
  split
  · omega
  · split <;> omega

/-! ### The shapes of a result (R268, R269) -/

/-- A vector result without SAT. -/
theorem engineStep_kVec {f : Engine → Nat → Nat} {g : Nat → Nat} (hrun : exec i s = kVec e m d f s) (hgo : EngineRuns s e 1)
    (hf : ∀ l, l < laneCount e → g l = f (s.eng[e]) l) :
    EngineStep i s e 1 1 (VectorTakes e (s.eng[e]) m d g (s.eng[e]).sat) :=
  engineStep_kPlain hrun hgo rfl (VectorTakes.congr vectorTakes_setV hf)

/-- An accumulator of a correction engine that takes `f`, clamped to 48 bits, and SAT where it was clamped. -/
theorem engineStep_satA {r : Fin 4} {f : Engine → Nat → Int} {g : Nat → Int}
    (hrun : exec i s = .next (kPlain (ceEng r) 1 1 (fun x =>
      satMark (ceEng r) m (fun l => satA (ceEng r) (f x l) != f x l) (setA (ceEng r) m c (fun l => satA (ceEng r) (f x l)) x)) s))
    (hgo : EngineRuns s (ceEng r) 1) (hf : ∀ l, f (s.eng[ceEng r]) l = g l) :
    ∃ sat, SatAfter (ceEng r) (s.eng[ceEng r]) m (fun l => g l < -2 ^ 47 ∨ 2 ^ 47 - 1 < g l) sat ∧
      EngineStep i s (ceEng r) 1 1
        (AccTakes (ceEng r) (s.eng[ceEng r]) m c (fun l => Bits.clamp (g l) (-2 ^ 47) (2 ^ 47 - 1)) sat) := by
  refine ⟨_, satAfter_satMark rfl rfl fun l => ?_, engineStep_kPlain hrun hgo rfl (AccTakes.congr accTakes_setA fun l _ => ?_)⟩
  · rw [bne_iff_ne, hf, satA_correction, clamp_ne]
  · rw [hf, satA_correction]

/-! ### The correction extension (R147 to R151, R281) -/

/-- KDIV: the quotient where the divisor is positive, else the upper limit; SAT where it is not or the quotient is clamped. -/
theorem kdiv_spec (z : Int) (t lo top : Nat) :
    let quot := (t * 16384 + z.toNat / 2) / z.toNat
    (kdiv z t lo top).1 = (if z ≤ 0 then top else min (Nat.max quot lo) top) ∧
      ((kdiv z t lo top).2 = true ↔ z ≤ 0 ∨ quot < lo ∨ top < quot) := by
  intro quot
  by_cases hz : z ≤ 0
  · simp [kdiv, hz]
  · simp only [kdiv, hz, if_false, Bool.or_eq_true, decide_eq_true_eq, false_or]
    exact ⟨rfl, Iff.rfl⟩

/-! ### The correction streams (R137 to R139, R143, R278, R281, R282) -/

theorem laneCount_correction (r : Fin 4) : laneCount (ceEng r) = 64 := if_neg (by simp [ceEng])

/-- The densities that DEN.LD reads for 64 cells of a row, and which of them count as reads outside the field table. -/
def rowCells (s : State) (p : Pass) (f : Stripe) (u v : Int) : List (Nat × Bool) :=
  (List.range 64).map fun l : Nat => cellDensity s p f (u + (l : Int)) v

theorem rowCells_getD {p : Pass} {f : Stripe} {u v : Int} {l : Nat} (hl : l < 64) :
    (rowCells s p f u v).getD l (0, false) = cellDensity s p f (u + (l : Int)) v := getD_map_range _ _ hl

/-- The factors that FAC.ST writes: those of the lanes whose cells lie in the window. -/
def factorsOf (s : State) (p : Pass) (f : Stripe) (x : Engine) (d : Fin 32) (u v : Int) : List ((Int × Int) × Nat) :=
  (List.range 64).filterMap fun l : Nat =>
    if inWindow s p f (u + (l : Int)) v then some ((u + (l : Int), v), lane0 x d l) else none

theorem mem_factorsOf {p : Pass} {f : Stripe} {u v : Int} {a : Int × Int} {k : Nat} :
    (a, k) ∈ factorsOf s p f x d u v ↔
      ∃ l : Nat, l < 64 ∧ a = (u + (l : Int), v) ∧ k = lane0 x d l ∧ inWindow s p f (u + (l : Int)) v = true := by
  simp only [factorsOf, List.mem_filterMap, List.mem_range, Option.ite_none_right_eq_some, Option.some.injEq, Prod.mk.injEq]
  exact exists_congr fun l => and_congr_right fun _ =>
    ⟨fun ⟨hin, ha, hk⟩ => ⟨ha.symm, hk.symm, hin⟩, fun ⟨ha, hk, hin⟩ => ⟨hin, ha.symm, hk.symm⟩⟩

section Stream
variable {r : Fin 4} {p : Fin 32} {q : Fin 31} {h : Held} {f : Stripe} (hgo : EngineRuns s (ceEng r) 1)
include hgo

/-- A row of 64 cells loaded into a vector. -/
theorem engineGoes_row {g cells : Nat → Nat} (hrun : exec i s = .next (kNext (ceEng r) 1 1 (setV (ceEng r) 0 p g y) s))
    (hscalars : y.g = (s.eng[ceEng r]).g) (hg : ∀ l, l < 64 → g l = cells l) :
    EngineGoes i s (ceEng r) 1
      (fun y => (∀ l : Nat, l < 64 → lane0 y p l = cells l) ∧ ∀ d, getG y d = getG (s.eng[ceEng r]) d) := by
  refine engineGoes_kNext hrun hgo ⟨fun l hl => ?_, fun d => ?_⟩
  · rw [← hg l hl]
    exact lane0_setV (m := 0) (by rwa [laneCount_correction])
  · have hkept : (advanced s (ceEng r) 1 1 (setV (ceEng r) 0 p g y)).g = (s.eng[ceEng r]).g := hscalars
    rw [getG, hkept]
    rfl

variable {u v : Int} (hheld : (s.eng[ceEng r]).held = some h) (hu : (getGn (s.eng[ceEng r]) q.val).toInt = u)
  (hv : (getGn (s.eng[ceEng r]) (q.val + 1)).toInt = v)
include hheld hu hv

theorem execKDenLd_waits (hwait : densityWaits s h.task.pass u v = true) : exec (.kDenLd r p q) s = .next s := by
  subst hu hv
  exact congrArg Host.Outcome.next ((kHeld_runs hgo.1 hheld).trans (if_pos hwait))

theorem execKFldLd_runs : exec (.kFldLd r p q) s = .next (kNext (ceEng r) 1 1 (setV (ceEng r) 0 p
    (fun l => (fieldCell (passField s h.task.pass) (u + (l : Int)) v).1) (s.eng[ceEng r])) s) := by
  subst hu hv
  exact congrArg Host.Outcome.next (kHeld_runs hgo.1 hheld)

variable (hstripe : passStripe s h.task.pass = some f)
include hstripe

theorem execKDenLd_runs (hready : densityWaits s h.task.pass u v = false) : exec (.kDenLd r p q) s =
    .next (kNext (ceEng r) 1 1 (setV (ceEng r) 0 p (fun l => ((rowCells s h.task.pass f u v).getD l (0, false)).1)
      (withHeld (fun k => { k with fieldOut := k.fieldOut + ((rowCells s h.task.pass f u v).filter (·.2)).length })
        (s.eng[ceEng r]))) s) := by
  subst hu hv
  refine congrArg Host.Outcome.next ((kHeld_runs hgo.1 hheld).trans ?_)
  simp only [hstripe, hready, Bool.false_eq_true, if_false]
  rfl

theorem execKFacSt_runs
    (hfits : ∀ l : Nat, l < 64 → inWindow s h.task.pass f (u + (l : Int)) v = true → lane0 (s.eng[ceEng r]) p l ≤ 65535) :
    exec (.kFacSt r p q) s = .next (kNext (ceEng r) 1 1 (withHeld (fun k => { k with
      facs := (factorsOf s h.task.pass f (s.eng[ceEng r]) p u v).reverse ++ k.facs }) (s.eng[ceEng r])) s) := by
  have hnone : (factorsOf s h.task.pass f (s.eng[ceEng r]) p u v).any (fun c => decide (65535 < c.2)) = false := by
    rw [List.any_eq_false]
    intro c hc
    obtain ⟨l, hl, -, hk, hin⟩ := mem_factorsOf.mp hc
    simpa [hk] using hfits l hl hin
  subst hu hv
  refine congrArg Host.Outcome.next ((kHeld_runs hgo.1 hheld).trans ?_)
  simp only [hstripe]
  exact if_neg (by rw [Bool.not_eq_true]; exact hnone)
end Stream

/-- CNT.ADD of a correction engine adds to a sum of its task (R278). -/
theorem execKCntAdd_runs {r : Fin 4} {p : Fin 32} {sel : Fin 3} {h : Held} (hgo : EngineRuns s (ceEng r) 1)
    (hheld : (s.eng[ceEng r]).held = some h) (hsel : sel.val ≠ 0) :
    exec (.kCntAdd (ceEng r) p sel) s = .next (kNext (ceEng r) 1 1 (withHeld (fun k => { k with
      sums := k.sums.set sel.val (k.sums.getD sel.val 0 + (getG (s.eng[ceEng r]) p).toNat) }) (s.eng[ceEng r])) s) := by
  have hok : (isRaster (ceEng r) == (sel.val == 0)) = true := by simp [isRaster, ceEng, hsel]
  exact congrArg Host.Outcome.next ((kDefined_runs hok hgo.1).trans (kHeld_runs hgo.1 hheld))

end Sys2Proof.Machine

open Sys2Proof Sys2Proof.Machine in
/-- Settles O6: each instruction advances its engine by one word, and what it leaves there is read lane by lane. -/
theorem correctionInstructions : Obligations.CorrectionInstructions := by
  unfold Obligations.CorrectionInstructions
  refine ⟨?_, ?_⟩
  · intro e m c d a b g h p q n k s hgo z x hi tap first
    refine ⟨fun hn => ?_, ?_, ?_, ?_, ?_⟩
    · have hok : (decide (-16 ≤ n.toInt) && decide (n.toInt ≤ 16)) = true := by simpa using hn
      refine engineStep_satA (hrun := congrArg Host.Outcome.next (kDefined_runs hok hgo.1)) hgo fun l => ?_
      push_cast
      rfl
    · refine engineStep_satA (hrun := rfl) hgo fun l => ?_
      push_cast
      rfl
    · refine engineStep_kVec rfl hgo fun l _ => ?_
      simp only [Bool.and_eq_true, decide_eq_true_eq]
      rfl
    · exact engineStep_kVec rfl hgo fun l _ => rfl
    · intro t lo top quot
      have hquot (l : Nat) := kdiv_spec (accLane x c l) t lo top
      exact ⟨_, satAfter_satMark rfl rfl fun l => (hquot l).2,
        engineStep_kPlain rfl hgo rfl (VectorTakes.congr vectorTakes_setV fun l _ => (hquot l).1.symm)⟩
  · intro e p q sel h f s z x hgo hheld hstripe u v
    have hcounted (b : Held → Held) : (advanced s z 1 1 (withHeld b x)).held = some { b h with slots := (b h).slots + 1 } := by
      rw [advanced_held, withHeld, hheld]
      rfl
    refine ⟨execKDenLd_waits hgo hheld rfl rfl, fun hready => ?_, ?_, fun hfits => ?_, fun hsel => ?_⟩
    · exact engineGoes_row hgo (execKDenLd_runs hgo hheld rfl rfl hstripe hready) rfl
        fun l hl => congrArg Prod.fst (rowCells_getD hl)
    · exact engineGoes_row hgo (execKFldLd_runs hgo hheld rfl rfl) rfl fun l _ => rfl
    · refine engineGoes_kNext (execKFacSt_runs hgo hheld rfl rfl hstripe hfits) hgo ⟨_, hcounted _, fun a k => ?_⟩
      rw [List.mem_append, List.mem_reverse, mem_factorsOf]
      exact or_comm
    · refine engineGoes_kNext (execKCntAdd_runs hgo hheld hsel) hgo ⟨_, hcounted _, fun hlen => ?_⟩
      exact (List.getD_eq_getElem _ _ (by rw [List.length_set]; omega)).trans (List.getElem_set_self _)
end

section
/-!
PROOFS. Descriptor rings of DMA channels 13 to 15, and the pausing of every channel (O49).
-/

namespace Sys2Proof.Machine

variable {s t u : State} {c : Fin 16} {k : Fin 3} {f : Chan} {d data : Bytes} {n host dev len : Nat} {toHost event : Bool}

/-! ### One channel changes -/

/-- From `s` to `t` channel `c` takes `f`, and every other channel keeps its state. -/
def ChanTakes (c : Fin 16) (f : Chan) (s t : State) : Prop := t.dma[c] = f ∧ ∀ n : Fin 16, n ≠ c → t.dma[n] = s.dma[n]

theorem ChanTakes.refl : ChanTakes c s.dma[c] s s := ⟨rfl, fun _ _ => rfl⟩

theorem ChanTakes.upd (h : ChanTakes c f s t) (g : Chan → Chan) : ChanTakes c (g f) s (updChan c.val g t) := by
  obtain ⟨hown, hother⟩ := h
  exact ⟨(upd_own t.dma c g).trans (congrArg g hown), fun n hn => (upd_other hn).trans (hother n hn)⟩

/-- A change of other fields. -/
theorem ChanTakes.same (h : ChanTakes c f s t) (hd : u.dma = t.dma) : ChanTakes c f s u := by
  unfold ChanTakes
  rwa [hd]

theorem updChan_takes (g : Chan → Chan) : ChanTakes c (g s.dma[c]) s (updChan c.val g s) := ChanTakes.refl.upd g

/-- A change that leaves the channel as it is. -/
theorem updChan_self {g : Chan → Chan} (h : g s.dma[c] = s.dma[c]) : updChan c.val g s = s := by
  have hdma : upd s.dma c.val g = s.dma := by
    ext i hi
    rw [upd_get]
    split
    · next e =>
      subst e
      exact h
    · rfl
  rw [updChan, hdma]

/-! ### The doorbell (R354) -/

theorem ringLen_on (h : (s.dma[c]).on = true) : ringLen s c = 2 ^ (s.dma[c]).log2 := by
  rw [ringLen, if_pos h]

theorem execDmaTailDoorbell_open {v : Word} (hb : BarOpen s) :
    exec (.dmaTailDoorbell k v) s = .next (dmaTail (descChan k) v s) :=
  congrArg Host.Outcome.next (barWrite_open _ s hb.1 hb.2)

theorem dmaTail_outside {v : Word} (h : ringLen s c ≤ v.toNat % 1024) : dmaTail c v s = s := by
  have hi : Bits.bits v.toNat 9 0 = v.toNat % 1024 := by simp [Bits.bits]
  rw [dmaTail, hi, if_pos (by simp [h])]

theorem dmaTail_inside {v : Word} (hc : 13 ≤ c.val) (h : v.toNat % 1024 < ringLen s c) :
    dmaTail c v s = updChan c.val (fun x => { x with tail := v.toNat % 1024 }) s := by
  have hi : Bits.bits v.toNat 9 0 = v.toNat % 1024 := by simp [Bits.bits]
  rw [dmaTail, hi, if_neg (by simp; omega)]

/-! ### The checks of a descriptor (R183, R306) -/

theorem takesDesc_iff : takesDesc s c = true ↔
    (s.dma[c]).on = true ∧ (s.dma[c]).st = 0 ∧ (s.dma[c]).head ≠ (s.dma[c]).tail ∧ reachable s = true := by
  simp [takesDesc, and_assoc]

theorem descMisaligned_iff : descMisaligned (descChan k) d = true ↔
    descHost d % 64 ≠ 0 ∨ descLen d % 64 ≠ 0 ∨ (k.val ≠ 0 ∧ descDev d % 64 ≠ 0) := by
  simp [descMisaligned, descChan, or_assoc]

/-- The capture buffer of a place, and the place within it. -/
theorem captureAt_eq_some {o : Nat} : captureAt dev = some (n, o) ↔ n < 4 ∧ o < 8192 ∧ dev = 0x0C2000 + 0x4000 * n + o := by
  unfold captureAt
  simp only [Bool.and_eq_true, decide_eq_true_eq, Option.ite_none_right_eq_some, Option.some.injEq, Prod.mk.injEq]
  omega

/-- A range of the device side lies in the window of one capture buffer. -/
def InWindow (dev len : Nat) : Prop :=
  ∃ n, n < 4 ∧ 0x0C2000 + 0x4000 * n ≤ dev ∧ dev + len ≤ 0x0C2000 + 0x4000 * n + 8192

/-- A range that is not empty lies in a capture buffer just when it begins in one and does not reach past its end. -/
theorem inWindow_iff (hlen : 0 < len) : InWindow dev len ↔ ∃ n o, captureAt dev = some (n, o) ∧ o + len ≤ 8192 := by
  simp only [InWindow, captureAt_eq_some]
  constructor
  · rintro ⟨n, hn, hlow, hhigh⟩
    exact ⟨n, dev - (0x0C2000 + 0x4000 * n), by omega, by omega⟩
  · rintro ⟨n, o, ⟨hn, -, rfl⟩, hend⟩
    exact ⟨n, hn, by omega, by omega⟩

/-- What a descriptor breaks of the ranges and the reserved fields. -/
def DescOutside (k : Fin 3) (d : Bytes) : Prop :=
  descLen d = 0 ∨ 4 ≤ Bits.byteAt d 20 ∨ Bits.zeros d 21 11 = false ∨
    (k.val = 0 ∧ (descToHost d = false ∨ ¬ InWindow (descDev d) (descLen d))) ∨
    (k.val ≠ 0 ∧ (2 ^ 30 < descLen d ∨ dramSize < descDev d + descLen d))

theorem descOutside_iff : descOutside (descChan k) d = true ↔ DescOutside k d := by
  by_cases hlen : descLen d = 0
  · simp [descOutside, DescOutside, hlen]
  have hfour : Bits.byteAt d 20 / 4 ≠ 0 ↔ 4 ≤ Bits.byteAt d 20 := by omega
  by_cases hk : k.val = 0
  · have hwindow := inWindow_iff (dev := descDev d) (Nat.pos_of_ne_zero hlen)
    simp only [DescOutside, hwindow]
    cases hcap : captureAt (descDev d) with
    | none => simp [descOutside, descChan, hk, hcap]
    | some p =>
      obtain ⟨n, o⟩ := p
      have hlong : 8192 < descLen d → 8192 < o + descLen d := by omega
      simp [descOutside, descChan, hk, hcap, hlen, hfour, or_assoc, or_iff_right_of_imp hlong]
  · simp [descOutside, DescOutside, descChan, hk, hlen, hfour, or_assoc]

/-- DRAM holds channels 14 and 15 back where it does not serve the range. -/
theorem descServed_iff : descServed s (descChan k) d = true ↔ k.val = 0 ∨ rangeServed s (descDev d) (descLen d) = true := by
  simp [descServed, descChan]

/-! ### A channel takes a descriptor (R306) -/

theorem execDmaDescriptor_whole (h : d.length = 32) : exec (.dmaDescriptor k d) s = .next (dmaTake (descChan k) d s) :=
  if_pos (by simpa using h)

theorem execDmaDescriptor_illFormed (h : d.length ≠ 32) : exec (.dmaDescriptor k d) s = .fault .illFormed :=
  if_neg (by simpa using h)

/-- A channel that stops shows the error, with event 13. -/
theorem dmaStop_effect {code : Nat} (hw : RegsWf s) :
    let t := dmaStop c code s
    t = { s with regs := t.regs, evt := t.evt, dma := t.dma } ∧ Raised [13] s t ∧ SameRegsBut [] s t ∧
      ChanTakes c { s.dma[c] with st := 4, err := code } s t := by
  have hupd : RegsWf (updChan c.val (fun x => { x with st := 4, err := code }) s) := hw
  have hframe : ∃ r v e, dmaStop c code s = { s with regs := r, evt := v, dma := e } := ⟨_, _, _, raise_frame _ _ _ _⟩
  obtain ⟨r, v, e, hframe⟩ := hframe
  exact ⟨by rw [hframe], raised_raise (by decide) (by decide) hupd, sameRegsBut_raise [] (by decide) hupd,
    (updChan_takes _).same (raise_dma _ _ _ _)⟩

theorem rangeRequest_requested (dev len : Nat) (s : State) : Requested s (rangeRequest dev len s) := by
  unfold rangeRequest
  induction rangeChannels dev len generalizing s with
  | nil => exact .refl
  | cons c l ih => exact (memRequest_requested c s).trans (ih _)

/-- The channel as it takes a descriptor. -/
def descTaken (d : Bytes) (x : Chan) : Chan :=
  { x with st := 1, err := 0, bytes := 0, cur := descHost d,
           desc := some (descHost d, descDev d, descLen d, descToHost d, descEvent d) }

theorem dmaTake_idle (h : ¬ takesDesc s (descChan k) = true) : dmaTake (descChan k) d s = s := if_pos (by simpa using h)

section Take
variable (htakes : takesDesc s (descChan k) = true)
include htakes

theorem dmaTake_misaligned (hm : descMisaligned (descChan k) d = true) :
    dmaTake (descChan k) d s = dmaStop (descChan k) 1 s := by
  rw [dmaTake, if_neg (by simp [htakes]), if_pos hm]

variable (hm : ¬ descMisaligned (descChan k) d = true)
include hm

theorem dmaTake_outside (ho : DescOutside k d) : dmaTake (descChan k) d s = dmaStop (descChan k) 3 s := by
  rw [dmaTake, if_neg (by simp [htakes]), if_neg hm, if_pos (descOutside_iff.mpr ho)]

variable (ho : ¬ DescOutside k d)
include ho

theorem dmaTake_unserved (hs : ¬ descServed s (descChan k) d = true) : dmaTake (descChan k) d s = s := by
  rw [dmaTake, if_neg (by simp [htakes]), if_neg hm, if_neg (mt descOutside_iff.mp ho), if_pos (by simpa using hs)]

/-- A descriptor that passes its checks is taken; the DRAM of its range is requested. -/
theorem dmaTake_taken (hs : descServed s (descChan k) d = true) :
    let t := dmaTake (descChan k) d s
    t = { s with regs := t.regs, evt := t.evt, dma := t.dma, mem := t.mem } ∧
      ChanTakes (descChan k) (descTaken d s.dma[descChan k]) s t := by
  have hrun : dmaTake (descChan k) d s = updChan (descChan k).val (descTaken d)
      (if (descChan k).val = 13 then s else rangeRequest (descDev d) (descLen d) s) := by
    rw [dmaTake, if_neg (by simp [htakes]), if_neg hm, if_neg (mt descOutside_iff.mp ho), if_neg (by simpa using hs)]
    rfl
  have hrequest : Requested s (if (descChan k).val = 13 then s else rangeRequest (descDev d) (descLen d) s) := by
    split
    · exact .refl
    · exact rangeRequest_requested _ _ _
  obtain ⟨⟨g, v, m, hframe⟩, -, -⟩ := hrequest
  rw [hrun, hframe]
  exact ⟨rfl, updChan_takes (s := { s with regs := g, evt := v, mem := m }) _⟩
end Take

/-! ### A transfer ends (R306, R355) -/

theorem dmaEnd_idle (h : (s.dma[c]).desc = none ∨ (s.dma[c]).st ≠ 1 ∨ reachable s = false) : dmaEnd c data s = s := by
  cases hdesc : (s.dma[c]).desc with
  | none => simp only [dmaEnd, hdesc]
  | some x =>
    have hidle := h.resolve_left fun e => Option.some_ne_none x (hdesc.symm.trans e)
    simp only [dmaEnd, hdesc]
    exact if_pos (by simpa using .inl hidle)

/-- The channel as its transfer ends, in a ring of `ring` descriptors. -/
def transferDone (host len ring : Nat) (x : Chan) : Chan :=
  { x with st := 0, desc := none, bytes := len, cur := host + len, head := (x.head + 1) % ring }

/-- The state in which the data has moved and HEAD has passed the descriptor. -/
def transferred (c : Fin 16) (host dev len : Nat) (toHost : Bool) (data : Bytes) (s : State) : State :=
  updChan c.val (transferDone host len (ringLen s c)) (dmaMove c host dev len toHost data s)

section TransferEnd
variable (hdesc : (s.dma[c]).desc = some (host, dev, len, toHost, event))
include hdesc

theorem dmaEnd_short (hto : toHost = false) (hdata : data.length ≠ len) : dmaEnd c data s = s := by
  simp only [dmaEnd, hdesc]
  exact if_pos (by simp [hto, hdata])

theorem dmaEnd_ends (hst : (s.dma[c]).st = 1) (hreach : reachable s = true) (hdata : toHost = true ∨ data.length = len) :
    dmaEnd c data s = if event then raise 16 c.val 0 (transferred c host dev len toHost data s)
      else transferred c host dev len toHost data s := by
  simp only [dmaEnd, hdesc]
  refine if_neg ?_
  obtain rfl | hlen := hdata
  · simp [-Fin.getElem_fin, hst, hreach]
  · simp [-Fin.getElem_fin, hst, hreach, hlen]
end TransferEnd

/-- What the end of a transfer leaves beside its event. -/
theorem transferred_effect (hon : (s.dma[c]).on = true) (hw : DramWf s) (hdata : toHost = true ∨ data.length = len) :
    ∃ o m e, let t := { s with out := o, dram := m, dma := e }
      transferred c host dev len toHost data s = t ∧
      ChanTakes c (transferDone host len (2 ^ (s.dma[c]).log2) s.dma[c]) s t ∧
      (toHost = false → t.out = s.out ∧ SameDramBut dev len s t ∧ ∀ i, i < len → dramByte t (dev + i) = data.getD i 0) ∧
      (toHost = true → SameDram s t ∧ t.out = .toHost host (dmaSource s c dev len) :: s.out) := by
  have htakes := updChan_takes (c := c) (s := s) (transferDone host len (ringLen s c))
  rw [ringLen_on hon] at htakes
  cases toHost with
  | false =>
    have hlen : data.length = len := by simpa using hdata
    have hbyte := fun a => dramByte_write s dev a data hw
    rw [transferred, dmaMove, if_neg Bool.false_ne_true, ringLen_on hon, ← hlen, List.take_length]
    refine ⟨_, _, _, rfl, hlen ▸ htakes, fun _ => ⟨rfl, fun a ha => ?_, fun i hi => ?_⟩,
      fun h => absurd h Bool.false_ne_true⟩
    · exact (hbyte a).trans (dif_neg (by omega))
    · refine (hbyte _).trans ((dif_pos (by omega)).trans ?_)
      rw [List.getD_eq_getElem _ _ hi]
      simp
  | true =>
    rw [transferred, dmaMove, if_pos rfl, ringLen_on hon]
    exact ⟨_, _, _, rfl, htakes, fun h => absurd h.symm Bool.false_ne_true, fun _ => ⟨fun _ => rfl, rfl⟩⟩

theorem dmaSource_dram (h : c.val ≠ 13) : dmaSource s c dev len = (List.range len).map (fun i => dramByte s (dev + i)) :=
  if_neg h

/-- A raise of a used source, its state written out: registers and the event unit change, and the source is pending. -/
theorem raise_effect {src info cseq : Nat} (hu : RegMap.usedSource src = true) (hs : src < 256) (hw : RegsWf s) :
    ∃ r v, let t := { s with regs := r, evt := v }
      raise src info cseq s = t ∧ Raised [src] s t ∧ SameRegsBut [] s t ∧ RegsWf t := by
  have hframe := raise_frame src info cseq s
  exact ⟨_, _, hframe, hframe ▸ raised_raise hu hs hw, hframe ▸ sameRegsBut_raise [] hs hw,
    hframe ▸ raise_wf s src info cseq hw⟩

/-- An event raised where it is asked for. -/
theorem raisedWhen_effect {src info cseq : Nat} (b : Bool) (hu : RegMap.usedSource src = true) (hs : src < 256)
    (hw : RegsWf s) : ∃ r v, let t := { s with regs := r, evt := v }
      (if b then raise src info cseq s else s) = t ∧ Raised (if b then [src] else []) s t ∧ SameRegsBut [] s t := by
  cases b with
  | false => exact ⟨_, _, rfl, raised_nil fun _ _ _ => rfl, fun _ _ _ _ => rfl⟩
  | true =>
    obtain ⟨r, v, hraise, hraised, hsame, -⟩ := raise_effect (info := info) (cseq := cseq) hu hs hw
    exact ⟨r, v, hraise, hraised, hsame⟩

/-- What the end of a transfer leaves, event 16 raised where EVENT asks for it. -/
theorem dmaEnd_effect (hdesc : (s.dma[c]).desc = some (host, dev, len, toHost, event)) (hst : (s.dma[c]).st = 1)
    (hreach : reachable s = true) (hon : (s.dma[c]).on = true) (hr : RegsWf s) (hw : DramWf s)
    (hdata : toHost = true ∨ data.length = len) :
    let t := dmaEnd c data s
    ChanTakes c (transferDone host len (2 ^ (s.dma[c]).log2) s.dma[c]) s t ∧ Raised (if event then [16] else []) s t ∧
      SameRegsBut [] s t ∧ t = { s with regs := t.regs, evt := t.evt, out := t.out, dram := t.dram, dma := t.dma } ∧
      (toHost = false → t.out = s.out ∧ SameDramBut dev len s t ∧ ∀ i, i < len → dramByte t (dev + i) = data.getD i 0) ∧
      (toHost = true → SameDram s t ∧ t.out = .toHost host (dmaSource s c dev len) :: s.out) := by
  obtain ⟨o, m, e, hmoved, htakes, hin, hout⟩ := transferred_effect (host := host) (dev := dev) hon hw hdata
  obtain ⟨r, v, hevent, hraised, hsame⟩ := raisedWhen_effect (src := 16) (info := c.val) (cseq := 0) event (by decide)
    (by decide) (s := { s with out := o, dram := m, dma := e }) hr
  rw [dmaEnd_ends hdesc hst hreach hdata, hmoved, hevent]
  exact ⟨htakes, hraised, hsame, rfl, hin, hout⟩

/-! ### PAUSE and RESTART (R306, R307) -/

theorem execDmaRestart_open (hb : BarOpen s) : exec (.dmaRestart k) s = .next (dmaRestart (descChan k).val s) :=
  congrArg Host.Outcome.next (barWrite_open _ s hb.1 hb.2)

theorem execDmaPause_open {on : Bool} (hb : BarOpen s) : exec (.dmaPause c on) s = .next (dmaPause c.val on s) :=
  congrArg Host.Outcome.next (barWrite_open _ s hb.1 hb.2)

/-- What RESTART makes of a channel. -/
def restarted (x : Chan) : Chan :=
  if x.st = 4 then { x with st := 0, err := 0, desc := none }
  else if x.st = 5 && !x.byPower then { x with st := if x.desc.isSome || x.page.isSome then 1 else 0 }
  else x

theorem dmaRestart_eq (c : Nat) (s : State) : dmaRestart c s = updChan c restarted s := rfl

/-- A channel with PAUSE set: one that moves data begins to pause, in the name of the command `q`. -/
def pausing (q : Nat) (x : Chan) : Chan :=
  let y := { x with pause := true }
  if y.st < 2 then { y with st := 2, owner := if y.owner = 0 then q else y.owner } else y

/-- A channel with PAUSE cleared: one that pauses or is paused goes on, unless a power-down holds it. -/
def resuming (x : Chan) : Chan :=
  let y := { x with pause := false }
  if (y.st = 2 || y.st = 3) && !y.pause && !y.byPower then
    { y with st := if y.desc.isSome || y.page.isSome then 1 else 0, owner := 0 }
  else y

theorem dmaPause_on (c : Fin 16) (s : State) : let t := dmaPause c.val true s
    t = { s with dma := t.dma } ∧ ∃ q, ChanTakes c (pausing q s.dma[c]) s t :=
  ⟨rfl, _, (updChan_takes _).upd _⟩

theorem dmaPause_off (c : Fin 16) (s : State) : let t := dmaPause c.val false s
    t = { s with dma := t.dma } ∧ ChanTakes c (resuming s.dma[c]) s t :=
  ⟨rfl, (updChan_takes _).upd _⟩

theorem pausing_fields (q : Nat) (x : Chan) : let y := pausing q x
    y.pause = true ∧ y.st = (if x.st < 2 then 2 else x.st) ∧ y.desc = x.desc ∧ y.bytes = x.bytes ∧ y.page = x.page := by
  by_cases h : x.st < 2 <;> simp [pausing, h]

theorem resuming_fields (x : Chan) : let y := resuming x
    y.pause = false ∧ y.desc = x.desc ∧ y.st = (if (x.st = 2 ∨ x.st = 3) ∧ x.byPower = false then
      (if x.desc.isSome ∨ x.page.isSome then 1 else 0) else x.st) := by
  have hgoes : ((x.st = 2 || x.st = 3) && !false && !x.byPower) = true ↔ (x.st = 2 ∨ x.st = 3) ∧ x.byPower = false := by
    simp
  by_cases h : (x.st = 2 ∨ x.st = 3) ∧ x.byPower = false
  · rw [resuming, if_pos (hgoes.mpr h), if_pos h]
    exact ⟨rfl, rfl, by simp⟩
  · rw [resuming, if_neg (mt hgoes.mp h), if_neg h]
    exact ⟨rfl, rfl, rfl⟩

theorem restarted_stopped {x : Chan} (h : x.st = 4) : restarted x = { x with st := 0, err := 0, desc := none } := if_pos h

/-- A channel halted for power goes on with its transfer once the power-down is over (R364). -/
theorem restarted_halted {x : Chan} (h : x.st = 5) (hp : x.byPower = false) :
    restarted x = { x with st := if x.desc.isSome ∨ x.page.isSome then 1 else 0 } := by
  rw [restarted, if_neg (by omega), if_pos (by simp [h, hp])]
  simp

theorem restarted_same {x : Chan} (h4 : x.st ≠ 4) (h5 : x.st ≠ 5 ∨ x.byPower = true) : restarted x = x := by
  rw [restarted, if_neg h4, if_neg (by simpa [or_iff_not_imp_left] using h5)]

/-! ### A pause has drained, or has not in time (R307, R363, R364) -/

theorem countFits_iff : countFits s c n = true ↔
    ∀ host dev len toHost event, (s.dma[c]).desc = some (host, dev, len, toHost, event) → n ≤ len := by
  unfold countFits
  generalize (s.dma[c]).desc = x
  cases x with
  | none => exact ⟨nofun, fun _ => rfl⟩
  | some x =>
    obtain ⟨host, dev, len, toHost, event⟩ := x
    refine decide_eq_true_iff.trans ⟨fun h _ _ _ _ _ e => ?_, fun h => h _ _ _ _ _ rfl⟩
    cases e
    exact h

/-- The transfer under way on channel `c` writes module DRAM. -/
def IntoDram (s : State) (c : Fin 16) : Prop := ∃ host dev len event, (s.dma[c]).desc = some (host, dev, len, false, event)

/-- A channel as it stops `n` bytes into its transfer, in state `st`. -/
def stoppedAt (s : State) (c : Fin 16) (st n : Nat) : Chan :=
  { s.dma[c] with st := st, bytes := n, cur := chanStart s c n + n }

/-- The state in which a channel has stopped `n` bytes into its transfer. -/
def channelStopped (c : Fin 16) (st n : Nat) (s : State) : State :=
  pausedAt c n (updChan c.val (fun x => { x with st := st }) s)

theorem pausedAt_frame (c : Fin 16) (n : Nat) (s : State) : ∃ d f, pausedAt c n s =
    { updChan c.val (fun x => { x with bytes := n, cur := chanStart s c n + n }) s with dram := d, free := f } ∧
      (¬ IntoDram s c → d = s.dram ∧ f = s.free) := by
  unfold pausedAt
  extract_lets start s1
  split
  · next h => exact ⟨_, _, rfl, fun hnot => absurd ⟨_, _, _, _, h⟩ hnot⟩
  · exact ⟨_, _, rfl, fun _ => ⟨rfl, rfl⟩⟩

/-- The state of a channel does not tell where its transfer began. -/
theorem chanStart_updChan (st : Nat) : chanStart (updChan c.val (fun x => { x with st := st }) s) c n = chanStart s c n := by
  have hown : (updChan c.val (fun x => { x with st := st }) s).dma[c] = { s.dma[c] with st := st } := upd_own _ _ _
  unfold chanStart
  rw [hown]
  rfl

/-- A stop changes the channel, and of module DRAM only what a transfer from the host writes. -/
theorem channelStopped_effect (c : Fin 16) (st n : Nat) (s : State) : ∃ d f e,
    let t := { s with dram := d, free := f, dma := e }
    channelStopped c st n s = t ∧ ChanTakes c (stoppedAt s c st n) s t ∧
      (¬ IntoDram s c → t.dram = s.dram ∧ t.free = s.free) := by
  have hfirst := updChan_takes (c := c) (s := s) fun x => { x with st := st }
  obtain ⟨d, f, hframe, hdram⟩ := pausedAt_frame c n (updChan c.val (fun x => { x with st := st }) s)
  rw [chanStart_updChan] at hframe
  refine ⟨d, f, _, hframe, hfirst.upd _, fun hnot => hdram ?_⟩
  rintro ⟨host, dev, len, event, h⟩
  exact hnot ⟨host, dev, len, event, by rwa [hfirst.1] at h⟩

/-- A stop that is reported: beside it, one event is raised. -/
theorem stopRaised_effect {src info : Nat} (st : Nat) (hu : RegMap.usedSource src = true) (hs : src < 256) (hw : RegsWf s) :
    ∃ r v d f e, let t := { s with regs := r, evt := v, dram := d, free := f, dma := e }
      raise src info 0 (channelStopped c st n s) = t ∧ ChanTakes c (stoppedAt s c st n) s t ∧
        (¬ IntoDram s c → t.dram = s.dram ∧ t.free = s.free) ∧ Raised [src] s t ∧ SameRegsBut [] s t ∧ RegsWf t := by
  obtain ⟨d, f, e, hstop, htakes, hdram⟩ := channelStopped_effect c st n s
  obtain ⟨r, v, hraise, hraised, hsame, hwf⟩ :=
    raise_effect (info := info) (cseq := 0) hu hs (s := { s with dram := d, free := f, dma := e }) hw
  exact ⟨r, v, d, f, e, by rw [hstop, hraise], htakes, hdram, hraised, hsame, hwf⟩

theorem dmaPaused_idle (h : (s.dma[c]).st ≠ 2 ∨ ¬ countFits s c n = true) : dmaPaused c n s = s :=
  if_pos (by simpa using h)

theorem dmaHalted_idle (h : (s.dma[c]).st ≠ 2 ∨ ¬ countFits s c n = true) : dmaHalted c n s = s :=
  if_pos (by obtain h | h := h <;> simp [-Fin.getElem_fin, h])

theorem dmaHalted_unpowered (h : (s.dma[c]).byPower = false) : dmaHalted c n s = s :=
  if_pos (by simp [-Fin.getElem_fin, h])

section Stops
variable (hst : (s.dma[c]).st = 2) (hfits : countFits s c n = true)
include hst hfits

theorem dmaPaused_stops : dmaPaused c n s = raise 14 c.val 0 (channelStopped c 3 n s) :=
  if_neg (by simp [-Fin.getElem_fin, hst, hfits])

variable (hpower : (s.dma[c]).byPower = true)
include hpower

theorem dmaHalted_stops : dmaHalted c n s =
    if (s.dma[c]).owner = 0 then raise 15 c.val 0 (channelStopped c 5 n s)
    else finish (s.dma[c]).owner { status := 0xC, source := 11, arg0 := n, arg1 := c.val }
      (updChan c.val (fun x => { x with owner := 0 }) (raise 15 c.val 0 (channelStopped c 5 n s))) :=
  if_neg (by simp [-Fin.getElem_fin, hst, hfits, hpower])
end Stops

/-- What the stop of channel `c` leaves alone: the other channels, module DRAM but for a transfer from the host, the
engines, the intake and the write. -/
def StopKeeps (c : Fin 16) (s t : State) : Prop :=
  (∀ k : Fin 16, k ≠ c → t.dma[k] = s.dma[k]) ∧ (¬ IntoDram s c → t.dram = s.dram ∧ t.free = s.free) ∧ t.eng = s.eng ∧
    t.intake = s.intake ∧ t.job.write = s.job.write

/-- A stop that is reported and fails no command. -/
theorem stopRaised_keeps {src : Nat} (st : Nat) (hu : RegMap.usedSource src = true) (hs : src < 256) (hw : RegsWf s) :
    let t := raise src c.val 0 (channelStopped c st n s)
    StopKeeps c s t ∧ t.dma[c] = stoppedAt s c st n ∧ Raised [src] s t ∧ SameRegsBut [] s t ∧ t.job = s.job := by
  obtain ⟨_, _, _, _, _, hstop, ⟨hown, hother⟩, hdram, hraised, hsame, -⟩ :=
    stopRaised_effect (info := c.val) (c := c) (n := n) st hu hs hw
  rw [hstop]
  exact ⟨⟨hother, hdram, rfl, rfl, rfl⟩, hown, hraised, hsame, rfl⟩

/-- A halt for power fails the command that owns the transfer (R307). -/
theorem dmaHalted_owned (hst : (s.dma[c]).st = 2) (hfits : countFits s c n = true) (hpower : (s.dma[c]).byPower = true)
    (howner : (s.dma[c]).owner ≠ 0) (hw : RegsWf s) :
    let t := dmaHalted c n s
    StopKeeps c s t ∧ Pending t 15 ∧ t.dma[c] = { stoppedAt s c 5 n with owner := 0 } ∧
      Ended (s.dma[c]).owner { status := 0xC, source := 11, arg0 := n, arg1 := c.val } s t := by
  obtain ⟨r, v, d, f, e, hstop, htakes, hdram, hraised, -, hwf⟩ :=
    stopRaised_effect (src := 15) (info := c.val) (c := c) (n := n) 5 (by decide) (by decide) hw
  rw [dmaHalted_stops hst hfits hpower, if_neg howner, hstop]
  obtain ⟨hown, hother⟩ := htakes.upd fun x => { x with owner := 0 }
  set u := updChan c.val (fun x => { x with owner := 0 }) { s with regs := r, evt := v, dram := d, free := f, dma := e }
  refine ⟨⟨?_, ?_, finish_eng _ _ _, finish_intake _ _ _, (finish_job _ _ _).1⟩, ?_, ?_, ?_⟩
  · rwa [finish_dma]
  · rwa [finish_dram, finish_free]
  · exact finish_keepsPending (by decide) (s := u) hwf ((hraised 15 (by decide)).mpr (.inr (by simp)))
  · rwa [finish_dma]
  · exact (finish_ended _ _ u).congr rfl rfl rfl rfl rfl rfl

end Sys2Proof.Machine

open Sys2Proof Sys2Proof.Machine in
/-- Settles O49: each command of a channel in the order of its checks, and the stop of a channel within a transfer. -/
theorem dmaChannels : Obligations.DmaChannels := by
  unfold Obligations.DmaChannels
  refine ⟨?_, ?_⟩
  · intro k s hw hd c x onlyChan takes
    have htakes : takesDesc s (descChan k) = true ↔ takes := takesDesc_iff
    refine ⟨?_, ?_, ?_, ?_, ?_, ?_⟩
    · intro v hb hon _
      have hring : ringLen s (descChan k) = 2 ^ x.log2 := ringLen_on hon
      rw [execDmaTailDoorbell_open hb]
      refine ⟨fun h => congrArg _ (dmaTail_outside (by rwa [hring])), fun h => ?_⟩
      rw [dmaTail_inside (Nat.le_add_right 13 k.val) (by rwa [hring])]
      exact ⟨_, rfl, rfl, updChan_takes _⟩
    · exact fun d hlen => execDmaDescriptor_illFormed hlen
    · intro d hlen host dev len toHost misaligned window outside served stops
      have hmis : descMisaligned (descChan k) d = true ↔ misaligned := descMisaligned_iff
      have hserved : descServed s (descChan k) d = true ↔ served := descServed_iff
      have hstops (code : Nat) (h : dmaTake (descChan k) d s = dmaStop (descChan k) code s) : stops code := by
        obtain ⟨hframe, hraised, hsame, hchan⟩ := dmaStop_effect (c := descChan k) (code := code) hw
        exact ⟨_, (execDmaDescriptor_whole hlen).trans (congrArg _ h), hframe, hraised, hsame, hchan⟩
      refine ⟨fun h => ?_, fun ht hm => ?_, fun ht hm ho => ?_, fun ht hm ho hs => ?_, fun ht hm ho hs => ?_⟩
      · rw [execDmaDescriptor_whole hlen, dmaTake_idle (mt htakes.mp h)]
      · exact hstops 1 (dmaTake_misaligned (htakes.mpr ht) (hmis.mpr hm))
      · exact hstops 3 (dmaTake_outside (htakes.mpr ht) (mt hmis.mp hm) ho)
      · rw [execDmaDescriptor_whole hlen, dmaTake_unserved (htakes.mpr ht) (mt hmis.mp hm) ho (mt hserved.mp hs)]
      · obtain ⟨hframe, hchan⟩ := dmaTake_taken (htakes.mpr ht) (mt hmis.mp hm) ho (hserved.mpr hs)
        exact ⟨_, execDmaDescriptor_whole hlen, hframe, hchan⟩
    · exact fun data h => congrArg _ (dmaEnd_idle h)
    · intro data host dev len toHost event hdesc hst hreach hon
      refine ⟨fun hto hlen => congrArg _ (dmaEnd_short hdesc hto hlen), fun hdata => ?_⟩
      obtain ⟨hchan, hraised, hsame, hframe, hin, hout⟩ := dmaEnd_effect hdesc hst hreach hon hw hd hdata
      refine ⟨_, rfl, hchan, hraised, hsame, hframe, hin, fun hto => ?_⟩
      obtain ⟨hdram, hsent⟩ := hout hto
      exact ⟨hdram, _, hsent, fun hk => dmaSource_dram (Nat.ne_of_gt (by simp [c]; omega))⟩
    · intro hb
      rw [execDmaRestart_open hb, dmaRestart_eq]
      refine ⟨fun h => ⟨_, rfl, rfl, ?_⟩, fun h hp => ⟨_, rfl, rfl, ?_⟩, fun h4 h5 => ?_⟩
      · exact restarted_stopped (x := x) h ▸ updChan_takes (c := descChan k) restarted
      · exact restarted_halted (x := x) h hp ▸ updChan_takes (c := descChan k) restarted
      · exact congrArg _ (updChan_self (c := descChan k) (restarted_same h4 h5))
  · intro c s hw x fits start intoDram untouched
    have hfits (n : Nat) : countFits s c n = true ↔ fits n := countFits_iff
    refine ⟨fun hb => ?_, fun n h => ?_, fun n hst hn => ?_⟩
    · rw [execDmaPause_open hb, execDmaPause_open hb]
      obtain ⟨honFrame, q, honOwn, honOther⟩ := dmaPause_on c s
      obtain ⟨hoffFrame, hoffOwn, hoffOther⟩ := dmaPause_off c s
      refine ⟨⟨_, rfl, honFrame, honOther, ?_⟩, ⟨_, rfl, hoffFrame, hoffOther, ?_⟩⟩
      · rw [honOwn]
        exact pausing_fields q x
      · rw [hoffOwn]
        exact resuming_fields x
    · have hidle := h.imp_right (mt (hfits n).mp)
      exact ⟨congrArg _ (dmaPaused_idle hidle), congrArg _ (dmaHalted_idle hidle)⟩
    · have hcount := (hfits n).mpr hn
      refine ⟨⟨_, congrArg Host.Outcome.next (dmaPaused_stops hst hcount), stopRaised_keeps 3 (by decide) (by decide) hw⟩,
        fun hp => congrArg _ (dmaHalted_unpowered hp), fun hp ho => ?_, fun hp ho => ?_⟩
      · exact ⟨_, congrArg Host.Outcome.next ((dmaHalted_stops hst hcount hp).trans (if_pos ho)),
          stopRaised_keeps 5 (by decide) (by decide) hw⟩
      · exact ⟨_, rfl, dmaHalted_owned hst hcount hp ho hw⟩
end

section
/-!
PROOFS. The commit of a flash, the gather of a slice and the arming of a capture (O16).
-/

namespace Sys2Proof.Machine

variable {s t u : State} {w : Write} {tau : Nat} {y : Int}

/-! ### A tick that finds no cause (R200, R204) -/

theorem setWrite_self {g : Write → Write} (hw : s.job.write = some w) (hg : g w = w) : setWrite g s = s := by
  rw [setWrite, hw, Option.map_some, hg, ← hw]

theorem ticksTo_noCauses (hw : s.job.write = some w) (hc : w.causes = []) (tau : Nat) : ticksTo tau s = s := by
  simp only [ticksTo, hw, hc]
  rfl

theorem causesBy_noCauses (hw : s.job.write = some w) (hc : w.causes = []) (tau : Nat) : causesBy tau s = s := by
  refine setWrite_self hw ?_
  rw [hc, List.map_nil, ← hc]

/-- Where no check of the boundary fails, no slice is late. -/
theorem gatherLate_nil {x : Int} (h : commitCauses s w tau y x = []) : gatherLate s w w.next = [] := by
  unfold commitCauses at h
  simp only [List.append_eq_nil_iff] at h
  obtain ⟨⟨⟨⟨-, hlate⟩, -⟩, -⟩, -⟩ := h
  cases hl : gatherLate s w w.next with
  | nil => rfl
  | cons n r => simp [hl] at hlate

/-- A flash that is due and that nothing stops is committed. -/
theorem flashCommit_commits (hw : s.job.write = some w) (hdue : commitDue s w tau = some y) (hc : w.causes = [])
    (hclear : commitCauses s w tau (yCorr w.f.dir y s.seq.target) (xCorr s tau) = []) :
    flashCommit tau s = commitFlash w tau (yCorr w.f.dir y s.seq.target) (xCorr s tau) s := by
  have hcauses : dueCauses w ++ commitCauses s w tau (yCorr w.f.dir y s.seq.target) (xCorr s tau) = [] := by
    rw [hclear, dueCauses, hc]
    rfl
  have hboundary : boundary tau y s = commitFlash w tau (yCorr w.f.dir y s.seq.target) (xCorr s tau) s := by
    simp only [boundary, hw, hcauses, lowestCause]
    rw [hclear, gatherLate_nil hclear]
    rfl
  rw [flashCommit, ticksTo_noCauses hw hc]
  simp only [hw, hdue]
  rw [causesBy_noCauses hw hc, hboundary]

/-- The write of a flash that is due has not ended. -/
theorem commitDue_running (h : commitDue s w tau = some y) : w.ending = none := by
  unfold commitDue at h
  split at h
  · next hgo =>
    simp only [Bool.and_eq_true, Option.isNone_iff_eq_none] at hgo
    obtain ⟨⟨⟨⟨⟨-, hend⟩, -⟩, -⟩, -⟩, -⟩ := hgo
    exact hend
  · cases h

/-! ### What a commit sends (R206, R222 to R224) -/

theorem foldl_send {α : Type} (g : α → Output) (l : List α) (s : State) :
    l.foldl (fun t c => send (g c) t) s = { s with out := (l.map g).reverse ++ s.out } := by
  induction l generalizing s with
  | nil => rfl
  | cons c l ih =>
    rw [List.foldl_cons, ih, List.map_cons, List.reverse_cons, List.append_assoc]
    rfl

/-- Every running lane sends its frame, and nothing but what is sent changes. -/
theorem sendFrames_effect (w : Write) (f tau : Nat) (s : State) : ∃ l, sendFrames w f tau s = { s with out := l } ∧
    (∀ o, o ∈ s.out → o ∈ l) ∧ ∀ c, c ∈ ports.flatMap (carriers s) →
      .doseFrame c.1 f (tau / 256 + 7) (doseBytes s w f c.2 (tau / 256 + 7)) ∈ l := by
  have hidle : ∃ l, (if s.blk.lastSent.isSome then idleAll 2 s else s) = { s with out := l ++ s.out } := by
    split
    · exact ⟨_, foldl_send _ _ _⟩
    · exact ⟨[], rfl⟩
  obtain ⟨l, hidle⟩ := hidle
  unfold sendFrames
  rw [hidle, foldl_send]
  refine ⟨_, rfl, fun o ho => List.mem_append_right _ (List.mem_append_right _ ho), fun c hc => List.mem_append_left _ ?_⟩
  rw [List.mem_reverse]
  exact List.mem_map_of_mem hc

/-- Everything sent before stays sent. -/
theorem exportLog_sent {o : Output} {kind : Nat} {b : Bytes} (h : o ∈ s.out) : o ∈ (exportLog kind b s).out := by
  unfold exportLog
  split
  · exact List.mem_cons_of_mem _ h
  · exact h

theorem journalPut_sent {o : Output} {r : JRec} (h : o ∈ s.out) : o ∈ (journalPut r s).out := exportLog_sent h

theorem journalCopies_sent {o : Output} {n : Nat} (h : o ∈ s.out) : o ∈ (journalCopies n s).out := by
  induction n generalizing s with
  | zero => exact h
  | succ n ih =>
    unfold journalCopies
    split
    · exact ih (by rw [raise_out]; exact journalPut_sent h)
    · exact h

theorem journalAdd_sent {o : Output} {kind opcode status cause cseq detail : Nat} {body : Bytes} (h : o ∈ s.out) :
    o ∈ (journalAdd kind opcode status cause cseq detail body s).out := journalPut_sent (journalCopies_sent h)

/-! ### What a commit leaves (R200, R309) -/

/-- From `s` to `t` flash `f` is behind the sequencer: PROGRESS may be journalled, CEILING raised and STAGE_SLOW_N moved. -/
structure Progressed (s t : State) : Prop where
  write : ∀ v, s.job.write = some v → ∃ c, t.job.write = some { v with ceiling := c }
  seq : ∃ b, t.seq = { s.seq with slow := b }
  blk : t.blk = s.blk
  sent : ∀ o, o ∈ s.out → o ∈ t.out
  dram : t.dram = s.dram
  axes : t.axes = s.axes
  eng : t.eng = s.eng

theorem progress_progressed (w : Write) (f : Nat) (s : State) : Progressed s (progress w f s) := by
  unfold progress
  split
  · extract_lets c fr body
    refine ⟨fun v hv => ⟨c, ?_⟩, ⟨s.seq.slow, ?_⟩, ?_, fun o ho => journalAdd_sent ho, ?_, ?_, ?_⟩
    · simp only [setWrite, journalAdd_job, hv, Option.map_some]
    all_goals simp [setWrite]
  · exact ⟨fun v hv => ⟨v.ceiling, hv⟩, ⟨_, rfl⟩, rfl, fun _ ho => ho, rfl, rfl, rfl⟩

theorem Progressed.slowCheck (h : Progressed s t) : Progressed s (slowCheck t) := by
  obtain ⟨r, e, b, hslow⟩ := slowCheck_frame t
  obtain ⟨hwrite, ⟨a, hseq⟩, hblk, hsent, hdram, haxes, heng⟩ := h
  rw [hslow]
  exact ⟨hwrite, ⟨b, by rw [hseq]⟩, hblk, hsent, hdram, haxes, heng⟩

/-- What the commit of flash `w.next` leaves, its corrections being `y` and `x`. -/
theorem commitFlash_effect (hw : s.job.write = some w) (tau : Nat) (y x : Int) :
    let t := commitFlash w tau y x s
    t.blk.lastSent = some w.next ∧ t.seq.flash = w.next ∧
      (∃ c, t.job.write = some { w with next := w.next + 1, lastInstant := tau + 1024, ceiling := c }) ∧
      t.seq.left = s.seq.left - 1 ∧
      .defl (deflWord w.next (Bits.clamp y (-512) 512) (Bits.clamp x (-512) 512)) (tau + 1024) (w.next % 400 == 0) ∈ t.out ∧
      (∀ c, c ∈ ports.flatMap (carriers s) →
        .doseFrame c.1 w.next (tau / 256 + 7) (doseBytes s w w.next c.2 (tau / 256 + 7)) ∈ t.out) ∧
      t.dram = s.dram ∧ t.axes = s.axes ∧ t.eng = s.eng := by
  let d : Output :=
    .defl (deflWord w.next (Bits.clamp y (-512) 512) (Bits.clamp x (-512) 512)) (tau + 1024) (w.next % 400 == 0)
  obtain ⟨l, hframes, hkept, hdose⟩ := sendFrames_effect w w.next tau (send d s)
  unfold commitFlash
  dsimp only
  rw [hframes]
  generalize hu : setWrite _ _ = u
  obtain ⟨hwrite, ⟨b, hseq⟩, hblk, hsent, hdram, haxes, heng⟩ := (progress_progressed w w.next u).slowCheck
  subst hu
  refine ⟨by rw [hblk]; rfl, by rw [hseq]; rfl, hwrite _ (congrArg (Option.map _) hw), by rw [hseq]; rfl,
    hsent d (hkept d List.mem_cons_self), fun c hc => hsent _ (hdose c hc), hdram, haxes, heng⟩

/-! ### A slice gathers (R162, R164, R180, R183) -/

/-- What the notes of a gather leave alone: the slices, module DRAM and the engines. -/
structure GatherKeeps (s t : State) : Prop where
  slices : t.bmu.slices = s.bmu.slices
  dram : t.dram = s.dram
  eng : t.eng = s.eng

theorem GatherKeeps.refl : GatherKeeps s s := ⟨rfl, rfl, rfl⟩

theorem GatherKeeps.trans (h : GatherKeeps s t) (k : GatherKeeps t u) : GatherKeeps s u :=
  ⟨k.slices.trans h.slices, k.dram.trans h.dram, k.eng.trans h.eng⟩

/-- A change of other fields. -/
theorem GatherKeeps.same (h : GatherKeeps s t) (hs : u.bmu.slices = t.bmu.slices := by with_reducible rfl)
    (hd : u.dram = t.dram := by with_reducible rfl) (he : u.eng = t.eng := by with_reducible rfl) : GatherKeeps s u :=
  h.trans ⟨hs, hd, he⟩

theorem GatherKeeps.raise {src info cseq : Nat} (h : GatherKeeps s t) : GatherKeeps s (raise src info cseq t) :=
  h.same (by rw [raise_bmu]) (raise_dram _ _ _ _) (raise_eng _ _ _ _)

theorem GatherKeeps.count {off n : Nat} (h : GatherKeeps s t) : GatherKeeps s (count off n t) := h.same rfl rfl rfl

theorem GatherKeeps.setRegN {off n : Nat} (h : GatherKeeps s t) : GatherKeeps s (setRegN off n t) := h.same rfl rfl rfl

theorem GatherKeeps.setWrite {g : Write → Write} (h : GatherKeeps s t) : GatherKeeps s (setWrite g t) := h.same rfl rfl rfl

theorem GatherKeeps.raiseFirst {src info : Nat} (h : GatherKeeps s t) : GatherKeeps s (raiseFirst .write src info t) := by
  unfold Machine.raiseFirst
  dsimp only
  split
  · split
    · exact h
    · exact h.setWrite.raise
  · exact h

theorem GatherKeeps.clampRecord {f b : Nat} {high : Bool} (h : GatherKeeps s t) :
    GatherKeeps s (clampRecord f b high t) := by
  unfold Machine.clampRecord
  extract_lets newer
  split
  · exact h.same rfl rfl rfl
  · exact h

theorem GatherKeeps.clampNotes {n f : Nat} {outs : List BeamOut} (h : GatherKeeps s t) :
    GatherKeeps s (clampNotes n f outs t) := by
  unfold Machine.clampNotes
  extract_lets highs lows s1 last
  have h1 : GatherKeeps s s1 := h.count.count.count
  cases last with
  | none => exact h1
  | some p => exact h1.clampRecord.raiseFirst

theorem GatherKeeps.captureEnd {q : Nat} (h : GatherKeeps s t) : GatherKeeps s (captureEnd q t) := by
  unfold Machine.captureEnd
  split
  · exact (h.same (u := { t with bmu := _ })).setRegN.raise
  · exact h

theorem GatherKeeps.captureNote {n f : Nat} {outs : List BeamOut} (h : GatherKeeps s t) :
    GatherKeeps s (captureNote n f outs t) := by
  unfold Machine.captureNote
  extract_lets b
  split
  · split
    · exact h
    · dsimp only
      split
      · exact GatherKeeps.captureEnd (h.same rfl rfl rfl)
      · exact h.same rfl rfl rfl
  · exact h

theorem GatherKeeps.freeTiles (h : GatherKeeps s t) : GatherKeeps s (freeTiles t) := h.same rfl rfl rfl

/-- What the 65 536 beams of slice `n` yield at flash `f`. -/
def sliceOuts (s : State) (w : Write) (n f : Nat) : List BeamOut :=
  (List.range 65536).map (fun i => beamOut s w f (65536 * n + i))

/-- The codes of slice `n` for flash `f`. -/
def sliceCodes (s : State) (w : Write) (n f : Nat) : SliceCodes :=
  { flash := f, codes := (sliceOuts s w n f).map (·.code), high := (sliceOuts s w n f).any (·.high) }

theorem sliceCodes_length (s : State) (w : Write) (n f : Nat) : (sliceCodes s w n f).codes.length = 65536 := by
  rw [sliceCodes, List.length_map, sliceOuts, List.length_map, List.length_range]

theorem sliceCodes_getD (s : State) (w : Write) (n f : Nat) {i : Nat} (hi : i < 65536) :
    (sliceCodes s w n f).codes.getD i 0 = (beamOut s w f (65536 * n + i)).code := by
  rw [List.getD_eq_getElem _ _ (by rwa [sliceCodes_length])]
  simp only [sliceCodes, sliceOuts, List.getElem_map, List.getElem_range]

/-- A slice whose gather is due and finds no memory error gathers. -/
theorem sliceGather_clean {n : Fin 4} (hw : s.job.write = some w) (hend : w.ending = none)
    (hlast : (s.bmu.slices[n]).next < flashesOf w.f.segs) (hahead : (s.bmu.slices[n]).next < w.next + 16)
    (hready : sliceReady s w n.val (s.bmu.slices[n]).next = true)
    (hfail : gatherFailed w n.val (s.bmu.slices[n]).next = false) : sliceGather n .clean s = gather n w s := by
  simp only [sliceGather, hw]
  exact if_neg (by simp [-Fin.getElem_fin, hend, hready, hfail, Nat.not_le.mpr hlast, Nat.not_le.mpr hahead])

/-- The slice with the codes of one more flash. -/
def sliceTook (n : Fin 4) (c : SliceCodes) (s : State) : State :=
  { s with bmu := { s.bmu with
      slices := upd s.bmu.slices n.val (fun x => { x with next := c.flash + 1, codes := x.codes ++ [c] }) } }

/-- Where no high clamp may halt the write, a gather takes its codes, notes its clamps and its capture, and frees slots. -/
theorem gather_unclamped {n : Fin 4} (hclamp : w.clampHalt = true → ∀ i, i < 65536 →
      (beamOut s w (s.bmu.slices[n]).next (65536 * n.val + i)).high = false) :
    let f := (s.bmu.slices[n]).next
    let outs := sliceOuts s w n.val f
    gather n w s =
      freeTiles (captureNote n.val f outs (clampNotes n.val f outs (sliceTook n (sliceCodes s w n.val f) s))) := by
  have hhalt : ¬ ((sliceOuts s w n.val (s.bmu.slices[n]).next).any (·.high) && w.clampHalt) = true := by
    intro h
    obtain ⟨hany, hhalt⟩ := (Bool.and_eq_true _ _).mp h
    obtain ⟨o, ho, hhigh⟩ := List.any_eq_true.mp hany
    obtain ⟨i, hi, rfl⟩ := List.mem_map.mp ho
    rw [hclamp hhalt i (List.mem_range.mp hi)] at hhigh
    cases hhigh
  unfold gather
  extract_lets
  exact if_neg hhalt

/-- A gather puts the codes of the next flash behind those of its slice. -/
theorem gather_effect {n : Fin 4} (hclamp : w.clampHalt = true → ∀ i, i < 65536 →
      (beamOut s w (s.bmu.slices[n]).next (65536 * n.val + i)).high = false) :
    let t := gather n w s
    let f := (s.bmu.slices[n]).next
    (t.bmu.slices[n]).next = f + 1 ∧ (t.bmu.slices[n]).codes = (s.bmu.slices[n]).codes ++ [sliceCodes s w n.val f] ∧
      (∀ k : Fin 4, k ≠ n → t.bmu.slices[k] = s.bmu.slices[k]) ∧ t.dram = s.dram ∧ t.eng = s.eng := by
  rw [gather_unclamped hclamp]
  generalize hc : sliceCodes s w n.val (s.bmu.slices[n]).next = c
  have hflash : c.flash = (s.bmu.slices[n]).next := by rw [← hc, sliceCodes]
  generalize sliceOuts s w n.val (s.bmu.slices[n]).next = outs
  obtain ⟨hslices, hdram, heng⟩ :=
    ((GatherKeeps.refl (s := sliceTook n c s)).clampNotes (f := (s.bmu.slices[n]).next) (outs := outs)).captureNote
      (n := n.val) (f := (s.bmu.slices[n]).next) (outs := outs) |>.freeTiles
  have hown := upd_own s.bmu.slices n fun x => { x with next := c.flash + 1, codes := x.codes ++ [c] }
  intro t f
  have hfinal : t.bmu.slices = upd s.bmu.slices n.val fun x => { x with next := c.flash + 1, codes := x.codes ++ [c] } :=
    hslices
  rw [hfinal, hown, hflash, hc]
  exact ⟨rfl, rfl, fun k hk => upd_other hk, hdram, heng⟩

/-! ### Dose to slot code (R163, R164) -/

/-- A product that rounds to at least 1 is offset and clamped to 12 bits. -/
theorem slotCode_clamped {d w g : Nat} {o : Int} (h : 268435456 ≤ 2 * (d * w * g)) :
    ((slotCode d w g o).1 : Int) = Bits.clamp (((d * w * g + 134217728) / 268435456 : Nat) + o) 0 4095 ∧
      ((slotCode d w g o).2.2 = true ↔ 4095 < (((d * w * g + 134217728) / 268435456 : Nat) : Int) + o) := by
  have hp : slotPrime d w g ≠ 0 := by
    unfold slotPrime
    omega
  have hrange : 0 ≤ Bits.clamp (slotPrime d w g + o) 0 4095 := by
    unfold Bits.clamp
    split
    · exact le_refl 0
    · split <;> omega
  have hcode : slotCode d w g o = ((Bits.clamp (slotPrime d w g + o) 0 4095).toNat,
      decide ((slotPrime d w g : Int) + o < 0), decide (4095 < (slotPrime d w g : Int) + o)) := if_neg hp
  rw [hcode]
  exact ⟨Int.toNat_of_nonneg hrange, decide_eq_true_iff⟩

/-! ### A capture is armed (R183) -/

/-- What the write of `BMU.CAP_CTL` with ARM leaves. -/
theorem capCtl_arms {v : Word} (hw : RegsWf s) :
    let t := capCtl (v ||| 0x80000000) s
    t.bmu.armed = true ∧ t.bmu.capBeam = v.toNat % 2 ^ 18 ∧ t.bmu.capRecs = [] ∧ t.bmu.capOwner = wseq s ∧
      t.bmu.capFlash = regN s 0x0C0024 + 2 ^ 32 * (regN s 0x0C0028 % 2 ^ 16) ∧
      t = { s with regs := t.regs, bmu := t.bmu } := by
  have harm : Bits.bit (v ||| 0x80000000).toNat 31 = true := by
    rw [show (0x80000000 : Word) = BitVec.ofNat 32 (2 ^ 31) from rfl, bit_or_twoPow _ (by decide)]
    simp
  have hbeam : Bits.bits (v ||| 0x80000000).toNat 17 0 = v.toNat % 2 ^ 18 := by
    have hlow : 0x80000000 % 2 ^ 18 = 0 := rfl
    rw [Bits.bits, BitVec.toNat_or, pow_zero, Nat.div_one, Nat.or_mod_two_pow]
    exact (congrArg (v.toNat % 2 ^ 18 ||| ·) hlow).trans (Nat.or_zero _)
  obtain ⟨r, hfind, hranges, hclear, hmask⟩ : FieldAt 0x0C0020 17 0 [] := ⟨_, rfl, rfl, rfl, by decide⟩
  have hreg (off : Nat) : reg (setReg 0x0C0020 (RegMap.written r 0x0C0020 (reg s 0x0C0020) (v ||| 0x80000000)) s) off =
      if off = 0x0C0020 then RegMap.written r 0x0C0020 (reg s 0x0C0020) (v ||| 0x80000000) else reg s off :=
    reg_setReg s 0x0C0020 off _ hw
  unfold capCtl
  rw [if_pos harm, writeStored_of_find hfind]
  refine ⟨rfl, ?_, rfl, rfl, ?_, rfl⟩
  · show Bits.bits (reg _ 0x0C0020).toNat 17 0 = _
    rw [hreg, if_pos rfl, bits_written_plain hranges hclear hmask, hbeam]
  · show (reg _ 0x0C0024).toNat + 2 ^ 32 * Bits.bits (reg _ 0x0C0028).toNat 15 0 = _
    rw [hreg, hreg, if_neg (by decide), if_neg (by decide), Bits.bits, pow_zero, Nat.div_one]
    rfl

end Sys2Proof.Machine

open Sys2Proof Sys2Proof.Machine in
/-- Settles O16: a commit sends its word and frames, a gather appends its codes, and ARM arms a capture. -/
theorem codesAndFlashes : Obligations.CodesAndFlashes := by
  unfold Obligations.CodesAndFlashes
  refine ⟨?_, ?_, ?_, ?_⟩
  · intro tau y s w hw hdue hc hclear
    obtain ⟨hlast, hflash, ⟨c, hwrite⟩, hleft, hdefl, hdose, hdram, haxes, heng⟩ := commitFlash_effect hw tau
      (yCorr w.f.dir y s.seq.target) (xCorr s tau)
    exact ⟨_, congrArg Host.Outcome.next (flashCommit_commits hw hdue hc hclear), hlast, hflash,
      ⟨_, hwrite, rfl, rfl, commitDue_running (w := w) hdue⟩, hleft, hdefl, hdose, hdram, haxes, heng⟩
  · intro n s w hw hend hlast hahead hready _ hfail hclamp f
    obtain ⟨hnext, hcodes, hother, hdram, heng⟩ := gather_effect (s := s) (w := w) (n := n) hclamp
    exact ⟨_, sliceCodes s w n.val f,
      congrArg Host.Outcome.next (sliceGather_clean hw hend hlast hahead hready hfail), hnext, hcodes, rfl,
      sliceCodes_length _ _ _ _, fun i hi => sliceCodes_getD _ _ _ _ hi, hother, hdram, heng⟩
  · exact fun d w g o h => slotCode_clamped h
  · intro v s hb hw
    exact ⟨_, congrArg Host.Outcome.next (barWrite_open _ s hb.1 hb.2), capCtl_arms hw⟩
end

section
/-!
PROOFS. The edges of a stage axis: a counted edge, an illegal transition, and an edge of INDEX (O13).
-/

namespace Sys2Proof.Machine

variable {s t u : State} {w : Write} {a b : Fin 4}

/-! ### One axis changes -/

@[simp] theorem updAxis_own (a : Fin 4) (f : Axis → Axis) (s : State) : (updAxis a f s).axes[a] = f s.axes[a] := upd_own _ _ _

theorem updAxis_other {f : Axis → Axis} (h : b ≠ a) : (updAxis a f s).axes[b] = s.axes[b] := upd_other h

/-- The registers of an axis window lie above those of the event unit. -/
theorem axisBase_above (a : Fin 4) : 0x010060 ≤ axisBase a := by
  unfold axisBase
  omega

/-- A register that is named may change. -/
theorem sameRegsBut_setReg {l : List Nat} {off : Nat} {v : Word} (h : off ∈ l) (hw : RegsWf s) :
    SameRegsBut l s (setReg off v s) := fun k hk _ _ => by
  rw [reg_setReg _ _ _ _ hw, if_neg (fun e => hk (by rwa [e]))]

/-- A raise changes no register of a unit. -/
theorem reg_raise_unit {src info cseq off : Nat} (hs : src < 256) (ho : 0x010060 ≤ off) (hw : RegsWf s) :
    reg (raise src info cseq s) off = reg s off := reg_raise _ _ _ _ _ hw (by omega) (by omega)

/-- Without a write no axis is in use. -/
theorem axisUsed_idle (hw : s.job.write = none) (a : Fin 4) : axisUsed s a = false := by
  simp [axisUsed, hw]

/-! ### An edge on a line (R185, R187) -/

/-- Where no cause waits for a tick, time comes to a tick and halts nothing. -/
theorem ticksTo_untimed (h : ∀ w, s.job.write = some w → ∀ c, c ∈ w.causes → c.tick = none) (tau : Nat) :
    ticksTo tau s = s := by
  unfold ticksTo
  split
  · next w hw =>
    have hnone : w.causes.any (tickCome tau) = false := by
      rw [List.any_eq_false]
      intro c hc
      simp [tickCome, h w hw c hc]
    rw [hnone, if_neg Bool.false_ne_true]
  · rfl

theorem axisEdge_active {lineB rising level once : Bool} {tau : Nat} {d : Int} (hbefore : ticksTo tau s = s)
    (hp : powered s 3 = true) (hactive : edgeActive s.axes[a] lineB rising = true)
    (hdelta : edgeDelta s.axes[a] lineB level = some d) :
    axisEdge a lineB rising tau level once s =
      if once && edgeIllegal s.axes[a] lineB level then (if lineB then s else illegalEdge a s) else countEdge a tau d s := by
  unfold axisEdge
  rw [hbefore]
  dsimp only
  rw [hp, hactive, hdelta]
  rfl

/-- What a counted edge makes of its axis: the count moves by `d`, and the reading follows while time stamps run. -/
structure AxisCounted (d : Int) (x y : Axis) (timed : Bool) : Prop where
  count : y.count = x.count + BitVec.ofInt 32 d
  referenced : y.referenced = x.referenced
  timed : timed = true → y.stale = false ∧ y.down = decide (d ≤ 0)

/-- A counted edge that is no reversal of the trigger axis after ARM changes its axis, registers and events. -/
theorem countEdge_effect (tau : Nat) (d : Int) (hquiet : s.seq.expose = false ∨ s.seq.trig ≠ a) :
    ∃ r v f y, countEdge a tau d s = { s with regs := r, evt := v, free := f, axes := upd s.axes a.val (fun _ => y) } ∧
      AxisCounted d s.axes[a] y (timing s) := by
  have hdown : (!decide (0 < d)) = decide (d ≤ 0) := by simp only [← decide_not, Int.not_lt]
  have hsilent : (s.seq.expose && s.seq.trig == a) = false := by
    rcases hquiet with h | h <;> simp [h]
  unfold countEdge
  extract_lets x c up rev n x1 x2 s1 s2
  have hx2 : AxisCounted d x x2 (timing s) := by
    unfold x2
    split
    · exact ⟨rfl, rfl, fun _ => ⟨rfl, hdown⟩⟩
    · next h => exact ⟨rfl, rfl, fun ht => absurd ht h⟩
  rw [hsilent, if_neg Bool.false_ne_true]
  split
  · exact ⟨_, _, _, x2, raise_frame _ _ _ _, hx2⟩
  · exact ⟨_, _, _, x2, rfl, hx2⟩

/-- Without a write an illegal transition is marked, counted and raised as event 128, and moves no axis (R187). -/
theorem illegalEdge_effect (hw : s.job.write = none) (hr : RegsWf s) :
    let u := illegalEdge a s
    (∃ r v, u = { s with regs := r, evt := v }) ∧ Pending u 128 ∧ Bits.bit (regN u (axisBase a + 8)) 4 = true ∧
      reg u (axisBase a + 0x28) = Bits.satAdd (reg s (axisBase a + 0x28)) 1 := by
  have habove := axisBase_above a
  let c := count (axisBase a + 0x28) 1 s
  let m := setReg (axisBase a + 8) (reg s (axisBase a + 8) ||| 0x10) c
  have hc : RegsWf c := regsWf_count hr
  have hm : RegsWf m := setReg_wf _ _ _ hc
  have heq : illegalEdge a s = raise 128 a.val (wseq s) m := by
    rw [illegalEdge, axisUsed_idle hw, Bool.false_and, if_neg Bool.false_ne_true]
  rw [heq]
  refine ⟨⟨_, _, raise_frame _ _ _ _⟩, pending_raise (by decide) (by decide) hm, ?_, ?_⟩
  · rw [regN, reg_raise_unit (by decide) (by omega) hm, reg_setReg _ _ _ _ hc, if_pos rfl]
    exact (bit_or_twoPow (j := 4) _ (by decide)).trans (by simp)
  · rw [reg_raise_unit (by decide) (by omega) hm, reg_setReg _ _ _ _ hc, if_neg (by omega), reg_count _ _ _ _ hr, if_pos rfl]

/-! ### An edge of INDEX (R193, R194) -/

/-- The state in which an edge of INDEX has latched the count and the time and has been counted. -/
def indexLatched (a : Fin 4) (s : State) : State :=
  count (axisBase a + 0x2C) 1 (setReg (axisBase a + 0x20) (stamp s) (setReg (axisBase a + 0x1C) (s.axes[a]).count s))

/-- Bits set in the status register of an axis. -/
def statusMarked (a : Fin 4) (m : Word) (s : State) : State := setReg (axisBase a + 8) (reg s (axisBase a + 8) ||| m) s

/-- The expected position nearest the count of an axis (R193). -/
def expectedAt (x : Axis) : Int := nearest x.expect.toInt x.period.toNat x.count.toInt

/-- Does the count lie within the tolerance of its expected position? -/
def IndexInside (x : Axis) : Prop := (x.count.toInt - expectedAt x).natAbs ≤ x.tol.toNat

/-- INDEX_MODE of an axis. -/
def indexMode (x : Axis) : Nat := Bits.bits x.ctl.toNat 9 8

/-- An axis whose count an index edge has corrected to `e` (R193). -/
def indexCorrected (e : Int) (x : Axis) : Axis :=
  { x with
    count := BitVec.ofInt 32 e, referenced := true,
    edges := x.edges.map (fun g => { g with count := g.count + BitVec.ofInt 32 (e - x.count.toInt) }) }

variable {rising : Bool}

theorem indexChecked_iff (x : Axis) : ((indexMode x == 1 || indexMode x == 2) &&
    !decide ((x.count.toInt - expectedAt x).natAbs ≤ x.tol.toNat)) = true ↔
      (indexMode x = 1 ∨ indexMode x = 2) ∧ ¬ IndexInside x := by
  rw [Bool.and_eq_true, Bool.or_eq_true, beq_iff_eq, beq_iff_eq, Bool.not_eq_true', decide_eq_false_iff_not, IndexInside]

/-- INDEX is watched: STG has power and the edge is the active one. -/
theorem index_active (hp : powered s 3 = true) (hrise : rising ≠ Bits.bit (s.axes[a]).ctl.toNat 4) :
    ¬ (!powered s 3 || rising == Bits.bit (s.axes[a]).ctl.toNat 4) = true := by
  rw [hp, Bool.not_true, Bool.false_or, beq_iff_eq]
  exact hrise

theorem indexEdge_outside (hp : powered s 3 = true) (hrise : rising ≠ Bits.bit (s.axes[a]).ctl.toNat 4)
    (hw : s.job.write = none) (hmode : indexMode s.axes[a] = 1 ∨ indexMode s.axes[a] = 2) (hout : ¬ IndexInside s.axes[a]) :
    indexEdge a rising s =
      raise 132 a.val (wseq s) (count (axisBase a + 0x30) 1 (statusMarked a 0x40 (indexLatched a s))) := by
  refine (if_neg (index_active hp hrise)).trans ((if_pos ((indexChecked_iff _).mpr ⟨hmode, hout⟩)).trans ?_)
  rw [axisUsed_idle hw, if_neg Bool.false_ne_true]
  rfl

theorem indexEdge_taken (hp : powered s 3 = true) (hrise : rising ≠ Bits.bit (s.axes[a]).ctl.toNat 4)
    (h : indexMode s.axes[a] ≠ 1 ∧ indexMode s.axes[a] ≠ 2 ∨ IndexInside s.axes[a]) :
    indexEdge a rising s = raise 131 a.val (wseq s) (if indexMode s.axes[a] = 2 then
      updAxis a (indexCorrected (expectedAt s.axes[a])) (statusMarked a 0x20 (indexLatched a s))
      else statusMarked a 0x20 (indexLatched a s)) := by
  have hunchecked : ¬ ((indexMode s.axes[a] = 1 ∨ indexMode s.axes[a] = 2) ∧ ¬ IndexInside s.axes[a]) :=
    fun ⟨hmode, hout⟩ => h.elim (fun hoff => hmode.elim hoff.1 hoff.2) hout
  refine (if_neg (index_active hp hrise)).trans ((if_neg (mt (indexChecked_iff _).mp hunchecked)).trans ?_)
  simp only [← beq_iff_eq (b := 2)]
  rfl

theorem indexLatched_wf (hr : RegsWf s) : RegsWf (indexLatched a s) := regsWf_count (setReg_wf _ _ _ (setReg_wf _ _ _ hr))

theorem reg_indexLatched (hr : RegsWf s) (off : Nat) : reg (indexLatched a s) off =
    if off = axisBase a + 0x2C then Bits.satAdd (reg s off) 1 else if off = axisBase a + 0x20 then stamp s
    else if off = axisBase a + 0x1C then (s.axes[a]).count else reg s off := by
  have h1 : RegsWf (setReg (axisBase a + 0x1C) (s.axes[a]).count s) := setReg_wf _ _ _ hr
  rw [indexLatched, reg_count _ _ _ _ (setReg_wf _ _ _ h1), reg_setReg _ _ _ _ h1, reg_setReg _ _ _ _ hr]
  split
  · next h => rw [if_neg (by omega), if_neg (by omega)]
  · rfl

/-- What every edge of INDEX leaves: the count and the time latched, the edge counted, no other axis, DRAM or engine changed. -/
structure IndexNoted (a : Fin 4) (s u : State) : Prop where
  latch : reg u (axisBase a + 0x1C) = (s.axes[a]).count ∧ reg u (axisBase a + 0x20) = stamp s ∧
    reg u (axisBase a + 0x2C) = Bits.satAdd (reg s (axisBase a + 0x2C)) 1
  frame : ∃ r v f, u = { s with regs := r, evt := v, axes := upd s.axes a.val f }

/-- After the latch only the status register and the counter of misses change. -/
theorem IndexNoted.of_latched (hr : RegsWf s) (hregs : SameRegsBut [axisBase a + 8, axisBase a + 0x30] (indexLatched a s) u)
    (hframe : ∃ r v f, u = { s with regs := r, evt := v, axes := upd s.axes a.val f }) : IndexNoted a s u := by
  have habove := axisBase_above a
  have hkept {o : Nat} (ho : o = 0x1C ∨ o = 0x20 ∨ o = 0x2C) : reg u (axisBase a + o) = reg (indexLatched a s) (axisBase a + o) :=
    hregs _ (by simp; omega) (by omega) (by omega)
  refine ⟨⟨?_, ?_, ?_⟩, hframe⟩
  · rw [hkept (by simp), reg_indexLatched hr, if_neg (by omega), if_neg (by omega), if_pos rfl]
  · rw [hkept (by simp), reg_indexLatched hr, if_neg (by omega), if_pos rfl]
  · rw [hkept (by simp), reg_indexLatched hr, if_pos rfl]

theorem upd_id {α : Type} {n : Nat} (v : Vector α n) (i : Fin n) : upd v i.val id = v := by
  simp [upd]

/-- An edge of INDEX outside the window (R193). -/
theorem indexMissed_effect (hr : RegsWf s) :
    let u := raise 132 a.val (wseq s) (count (axisBase a + 0x30) 1 (statusMarked a 0x40 (indexLatched a s)))
    IndexNoted a s u ∧ u.axes = s.axes ∧ Pending u 132 ∧
      reg u (axisBase a + 0x30) = Bits.satAdd (reg s (axisBase a + 0x30)) 1 := by
  have habove := axisBase_above a
  have hl : RegsWf (indexLatched a s) := indexLatched_wf hr
  have hm : RegsWf (statusMarked a 0x40 (indexLatched a s)) := setReg_wf _ _ _ hl
  have hc : RegsWf (count (axisBase a + 0x30) 1 (statusMarked a 0x40 (indexLatched a s))) := regsWf_count hm
  have hcounted : SameRegsBut [axisBase a + 8, axisBase a + 0x30] (statusMarked a 0x40 (indexLatched a s))
      (count (axisBase a + 0x30) 1 (statusMarked a 0x40 (indexLatched a s))) := sameRegsBut_setReg (by simp) hm
  refine ⟨.of_latched hr (((sameRegsBut_setReg (by simp) hl).trans hcounted).trans (sameRegsBut_raise _ (by decide) hc))
    ⟨_, _, id, by rw [upd_id]; exact raise_frame _ _ _ _⟩, raise_axes _ _ _ _,
    pending_raise (by decide) (by decide) hc, ?_⟩
  rw [reg_raise_unit (by decide) (by omega) hc, reg_count _ _ _ _ hm, if_pos rfl, statusMarked, reg_setReg _ _ _ _ hl,
    if_neg (by omega), reg_indexLatched hr, if_neg (by omega), if_neg (by omega), if_neg (by omega)]

/-- An edge of INDEX that is taken, its axis changed by `f` (R193). -/
theorem indexTaken_effect (f : Axis → Axis) (hr : RegsWf s) :
    let u := raise 131 a.val (wseq s) (updAxis a f (statusMarked a 0x20 (indexLatched a s)))
    IndexNoted a s u ∧ u.axes = upd s.axes a.val f ∧ Pending u 131 := by
  have hl : RegsWf (indexLatched a s) := indexLatched_wf hr
  have hm : RegsWf (updAxis a f (statusMarked a 0x20 (indexLatched a s))) := setReg_wf _ _ _ hl
  have hmarked : SameRegsBut [axisBase a + 8, axisBase a + 0x30] (indexLatched a s)
      (updAxis a f (statusMarked a 0x20 (indexLatched a s))) :=
    sameRegsBut_setReg (off := axisBase a + 8) (v := reg (indexLatched a s) (axisBase a + 8) ||| 0x20) (by simp) hl
  exact ⟨.of_latched hr (hmarked.trans (sameRegsBut_raise _ (by decide) hm)) ⟨_, _, f, raise_frame _ _ _ _⟩,
    raise_axes _ _ _ _, pending_raise (by decide) (by decide) hm⟩

/-- An edge of INDEX that passes its check, or that is not checked. -/
theorem indexEdge_passes (hp : powered s 3 = true) (hr : RegsWf s) (hrise : rising ≠ Bits.bit (s.axes[a]).ctl.toNat 4)
    (h : indexMode s.axes[a] ≠ 1 ∧ indexMode s.axes[a] ≠ 2 ∨ IndexInside s.axes[a]) :
    let u := indexEdge a rising s
    IndexNoted a s u ∧ Pending u 131 ∧
      u.axes = if indexMode s.axes[a] = 2 then upd s.axes a.val (indexCorrected (expectedAt s.axes[a])) else s.axes := by
  rw [indexEdge_taken hp hrise h]
  split
  · obtain ⟨hnoted, haxes, hpend⟩ := indexTaken_effect (a := a) (indexCorrected (expectedAt s.axes[a])) hr
    exact ⟨hnoted, hpend, haxes⟩
  · have hsame : updAxis a id (statusMarked a 0x20 (indexLatched a s)) = statusMarked a 0x20 (indexLatched a s) := by
      rw [updAxis, upd_id]
    obtain ⟨hnoted, haxes, hpend⟩ := indexTaken_effect (a := a) id hr
    rw [hsame, upd_id] at *
    exact ⟨hnoted, hpend, haxes⟩

/-- An edge of INDEX without a write: outside the window in a checked mode it is a miss, otherwise it is taken. -/
theorem indexEdge_effect (hp : powered s 3 = true) (hr : RegsWf s) (hrise : rising ≠ Bits.bit (s.axes[a]).ctl.toNat 4)
    (hw : s.job.write = none) :
    let mode := indexMode s.axes[a]
    let u := indexEdge a rising s
    IndexNoted a s u ∧
      (mode = 1 ∨ mode = 2 → ¬ IndexInside s.axes[a] → u.axes = s.axes ∧ Pending u 132 ∧
        reg u (axisBase a + 0x30) = Bits.satAdd (reg s (axisBase a + 0x30)) 1) ∧
      (mode ≠ 1 ∧ mode ≠ 2 ∨ IndexInside s.axes[a] → Pending u 131 ∧
        u.axes = if mode = 2 then upd s.axes a.val (indexCorrected (expectedAt s.axes[a])) else s.axes) := by
  intro mode u
  by_cases hin : mode ≠ 1 ∧ mode ≠ 2 ∨ IndexInside s.axes[a]
  · obtain ⟨hnoted, htaken⟩ := indexEdge_passes hp hr hrise hin
    exact ⟨hnoted, fun hmode hout => absurd hin fun h => h.elim (fun hoff => hmode.elim hoff.1 hoff.2) hout, fun _ => htaken⟩
  · have hmode : mode = 1 ∨ mode = 2 := by omega
    have hu : u = _ := indexEdge_outside hp hrise hw hmode fun h => hin (.inr h)
    obtain ⟨hnoted, hmissed⟩ := indexMissed_effect (a := a) hr
    rw [hu]
    exact ⟨hnoted, fun _ _ => hmissed, fun h => absurd h hin⟩

end Sys2Proof.Machine

open Sys2Proof Sys2Proof.Machine in
/-- Settles O13: an edge on a line counts or is illegal, and an edge of INDEX is latched, checked and may correct. -/
theorem stageEdges : Obligations.StageEdges := by
  unfold Obligations.StageEdges
  intro a lineB rising level tau d s x others hp hr
  refine ⟨fun hactive hdelta => ⟨fun once honce hcauses hquiet => ?_, fun hline hillegal hw => ?_⟩, fun hrise hw => ?_⟩
  · have hlegal : (once && edgeIllegal x lineB level) = false := by
      cases once
      · rfl
      · exact honce rfl
    obtain ⟨_, _, _, y, hframe, hcount, href, htimed⟩ := countEdge_effect (a := a) tau d hquiet
    refine ⟨_, congrArg Host.Outcome.next ((axisEdge_active (ticksTo_untimed hcauses tau) hp hactive hdelta).trans
      ((if_neg (by rw [hlegal]; exact Bool.false_ne_true)).trans hframe)), ?_⟩
    have hown : (upd s.axes a.val (fun _ => y))[a] = y := upd_own _ _ _
    dsimp only
    rw [hown]
    exact ⟨hcount, href, htimed, ⟨fun b hb => upd_other hb, rfl, rfl⟩, rfl⟩
  · have huntimed : ticksTo tau s = s := ticksTo_untimed (fun w h => by rw [hw] at h; cases h) tau
    subst hline
    obtain ⟨⟨r, v, hframe⟩, hpend, hbit, hcount⟩ := illegalEdge_effect (a := a) hw hr
    refine ⟨illegalEdge a s, congrArg Host.Outcome.next ((axisEdge_active huntimed hp hactive hdelta).trans
      (if_pos (by rw [hillegal]; rfl))), ?_, ?_, hpend, hbit, hcount⟩ <;> rw [hframe]
  · intro mode e inside
    obtain ⟨⟨⟨hcount, hstamp, hedges⟩, _, _, f, hframe⟩, hmissed, htaken⟩ := indexEdge_effect hp hr hrise hw
    have hothers : others (indexEdge a rising s) := by
      rw [hframe]
      exact ⟨fun b hb => upd_other hb, rfl, rfl⟩
    refine ⟨_, rfl, hcount, hstamp, hedges, hothers, fun hmode hin => ?_, fun h1 h2 => ?_, hmissed⟩
    · obtain ⟨hpend, haxes⟩ := htaken (.inr hin)
      have hown : (indexEdge a rising s).axes[a] = indexCorrected e x := by
        rw [haxes.trans (if_pos hmode)]
        exact upd_own _ _ _
      rw [hown]
      exact ⟨rfl, rfl, hpend⟩
    · obtain ⟨hpend, haxes⟩ := htaken (.inl ⟨h1, h2⟩)
      exact ⟨haxes.trans (if_neg h2), hpend⟩
end

section
/-!
PROOFS. What the host and the tool set on the stage axes, STAGE_SLOW_N, and the loss of TOOL_REF (O14).
-/

namespace Sys2Proof.Machine

variable {s : State} {a b : Fin 4} {v : Word} {r : AxisReg} {g : Reg}

/-! ### Standstill and presets (R189, R191) -/

/-- An axis at standstill: its speed is 0 and stale, its count stays (R191). -/
def atStandstill (x : Axis) : Axis :=
  { x with still := true, valid := false, stale := true, speed := 0, edges := x.edges.map (fun e => { e with n := 1 }) }

theorem standstill_begins (hmoving : (s.axes[a]).still = false) (ht : timing s = true) :
    standstill a s = raise 129 a.val (wseq s) (updAxis a atStandstill s) :=
  if_neg (by rw [hmoving, ht]; exact Bool.false_ne_true)

/-- An axis whose count has been preset (R189). -/
def axisPreset (v : Word) (x : Axis) : Axis :=
  { x with count := v, referenced := true, edges := x.edges.map (fun g => { g with count := g.count + (v - x.count) }) }

theorem presetCount_used (h : axisUsed s a = true) : presetCount a v s = raise 139 a.val (wseq s) s := if_pos h

theorem presetCount_free (h : axisUsed s a = false) : presetCount a v s = updAxis a (axisPreset v) s :=
  if_neg (by rw [h]; exact Bool.false_ne_true)

/-- A preset changes its own axis, or only registers by event 139. -/
theorem presetCount_effect (a : Fin 4) (v : Word) (hr : RegsWf s) : let u := presetCount a v s
    (∀ b : Fin 4, b ≠ a → u.axes[b] = s.axes[b]) ∧ u.dram = s.dram ∧ u.job = s.job ∧
      (axisUsed s a = false → u.axes[a] = axisPreset v s.axes[a]) ∧
      (axisUsed s a = true → u.axes = s.axes ∧ Pending u 139) := by
  cases h : axisUsed s a
  · rw [presetCount_free h]
    exact ⟨fun b hb => updAxis_other hb, rfl, rfl, fun _ => updAxis_own _ _ _, fun hused => (nomatch hused)⟩
  · rw [presetCount_used h]
    dsimp only
    rw [raise_axes, raise_dram, raise_job]
    exact ⟨fun _ _ => rfl, rfl, rfl, fun hfree => (nomatch hfree),
      fun _ => ⟨rfl, pending_raise (by decide) (by decide) hr⟩⟩

/-! ### The settings of an axis (R190) -/

/-- A setting is stored, and the axis takes it at once unless a write uses the axis (R190). -/
theorem axisCtlWrite_effect (hf : RegMap.find (axisBase a + axisRegOff r) = some g) (hr : RegsWf s) :
    let off := axisBase a + axisRegOff r
    let w := RegMap.written g off (reg s off) v
    let u := axisCtlWrite a r v s
    ((∀ b : Fin 4, b ≠ a → u.axes[b] = s.axes[b]) ∧ u.dram = s.dram ∧ u.job = s.job) ∧ reg u off = w ∧
      (axisUsed s a = false → u.axes[a] = axisSetting r w s.axes[a]) ∧ (axisUsed s a = true → u.axes = s.axes) := by
  intro off w u
  have hstored : reg (setReg off w s) off = w := by rw [reg_setReg _ _ _ _ hr, if_pos rfl]
  have hu : u = if axisUsed s a then setReg off w s else updAxis a (axisSetting r w) (setReg off w s) := by
    unfold u axisCtlWrite
    rw [writeStored_of_find hf]
    dsimp only
    rw [show reg (setReg (axisBase a + axisRegOff r) _ s) (axisBase a + axisRegOff r) = w from hstored]
  rw [hu]
  cases h : axisUsed s a
  · exact ⟨⟨fun b hb => updAxis_other hb, rfl, rfl⟩, hstored, fun _ => updAxis_own _ _ _, fun hused => (nomatch hused)⟩
  · exact ⟨⟨fun _ _ => rfl, rfl, rfl⟩, hstored, fun hfree => (nomatch hfree), fun _ => rfl⟩

/-- The writable bits and the ranges of three settings of an axis: its control, INDEX_EXPECT and STANDSTILL_US. -/
theorem find_axisCtl (a : Fin 4) : ∃ g, RegMap.find (axisBase a + axisRegOff .ctl) = some g ∧
    writeMask g (axisBase a + axisRegOff .ctl) = 0x00FF037F ∧ g.ranges = [] ∧ g.w1c = 0 := by
  fin_cases a <;> exact ⟨_, rfl, rfl, rfl, rfl⟩

theorem find_indexExpect (a : Fin 4) : ∃ g, RegMap.find (axisBase a + axisRegOff .indexExpect) = some g ∧
    writeMask g (axisBase a + axisRegOff .indexExpect) = BitVec.allOnes 32 ∧ g.ranges = [] ∧ g.w1c = 0 := by
  fin_cases a <;> exact ⟨_, rfl, rfl, rfl, rfl⟩

theorem find_standstill (a : Fin 4) : ∃ g, RegMap.find (axisBase a + axisRegOff .standstill) = some g ∧
    writeMask g (axisBase a + axisRegOff .standstill) = 0xFFFFF ∧ g.ranges = [(19, 0, 1, 1000000)] ∧ g.w1c = 0 := by
  fin_cases a <;> exact ⟨_, rfl, rfl, rfl, rfl⟩

/-- The bits above a mask of 20 bits stay. -/
theorem merge_above (old v : Word) : ((old &&& ~~~(0xFFFFF : Word)) ||| (v &&& 0xFFFFF)).toNat / 2 ^ 20 = old.toNat / 2 ^ 20 := by
  have hmask (i : Nat) : (0xFFFFF : Word).getLsbD (i + 20) = false :=
    Nat.testBit_lt_two_pow (Nat.lt_of_lt_of_le (by decide) (Nat.pow_le_pow_right (by decide) (Nat.le_add_left 20 i)))
  refine Nat.eq_of_testBit_eq fun i => ?_
  rw [Nat.testBit_div_two_pow, Nat.testBit_div_two_pow, BitVec.testBit_toNat, BitVec.testBit_toNat, BitVec.getLsbD_or,
    BitVec.getLsbD_and, BitVec.getLsbD_and, BitVec.getLsbD_not, hmask]
  by_cases hi : i + 20 < 32
  · simp [hi]
  · simp [BitVec.getLsbD_of_ge _ _ (Nat.le_of_not_lt hi)]

/-- STANDSTILL_US takes a value of 1 to 1 000 000 and keeps its old value for any other (R455). -/
theorem written_standstill {off : Nat} {old : Word} (hm : writeMask g off = 0xFFFFF) (hr : g.ranges = [(19, 0, 1, 1000000)])
    (hc : g.w1c = 0) :
    let n := v.toNat % 2 ^ 20
    (1 ≤ n → n ≤ 1000000 → RegMap.written g off old v &&& 0xFFFFF = v &&& 0xFFFFF) ∧
      (n = 0 ∨ 1000000 < n → RegMap.written g off old v = old) := by
  have hfield : Bits.bits ((old &&& ~~~(0xFFFFF : Word)) ||| (v &&& 0xFFFFF)).toNat 19 0 = v.toNat % 2 ^ 20 := by
    rw [bits_merge]
    · simp [Bits.bits]
    · decide
  rw [written_ranged hc, hm, hr]
  simp only [RegMap.ranged, hfield]
  refine ⟨fun hlow hhigh => ?_, fun hout => ?_⟩
  · rw [if_neg (by simp; omega), BitVec.ofNat_toNat, BitVec.setWidth_eq, merge_and]
  · have habove := merge_above old v
    generalize ((old &&& ~~~(0xFFFFF : Word)) ||| (v &&& 0xFFFFF)).toNat = n at habove
    have hkept : Bits.setBits n 19 0 (Bits.bits old.toNat 19 0) = old.toNat := by
      simp only [Bits.setBits, Bits.bits]
      omega
    rw [if_pos (by simp; omega), hkept, BitVec.ofNat_toNat, BitVec.setWidth_eq]

/-! ### SNAP (R190) -/

/-- The counts of some axes latched, one after another. -/
def latchCounts (l : List (Fin 4)) (s : State) : State :=
  l.foldl (fun t a => setReg (axisBase a + 0x34) (t.axes[a]).count t) s

theorem latchCounts_effect (l : List (Fin 4)) (hr : RegsWf s) : latchCounts l s = { s with regs := (latchCounts l s).regs } ∧
    (∀ off, (∀ b ∈ l, off ≠ axisBase b + 0x34) → reg (latchCounts l s) off = reg s off) ∧
    ∀ b ∈ l, reg (latchCounts l s) (axisBase b + 0x34) = (s.axes[b]).count := by
  induction l generalizing s with
  | nil => exact ⟨rfl, fun _ _ => rfl, fun _ hb => by cases hb⟩
  | cons a l ih =>
    obtain ⟨hframe, hsame, hlatched⟩ := ih (s := setReg (axisBase a + 0x34) (s.axes[a]).count s) (setReg_wf _ _ _ hr)
    have hstep : latchCounts (a :: l) s = latchCounts l (setReg (axisBase a + 0x34) (s.axes[a]).count s) := rfl
    rw [hstep]
    refine ⟨hframe, fun off hoff => ?_, fun b hb => ?_⟩
    · rw [hsame off fun b hb => hoff b (List.mem_cons_of_mem _ hb), reg_setReg _ _ _ _ hr,
        if_neg (hoff a List.mem_cons_self)]
    · by_cases hlater : b ∈ l
      · exact hlatched b hlater
      · obtain rfl : b = a := (List.mem_cons.mp hb).resolve_right hlater
        rw [hsame _ fun c hc h => hlater ?_, reg_setReg _ _ _ _ hr, if_pos rfl]
        have : b = c := by
          unfold axisBase at h
          omega
        rwa [this]

/-- SNAP latches the time and every count. -/
theorem snap_effect (hr : RegsWf s) : snap s = { s with regs := (snap s).regs } ∧ reg (snap s) 0x0D0104 = stamp s ∧
    ∀ b : Fin 4, reg (snap s) (axisBase b + 0x34) = (s.axes[b]).count := by
  obtain ⟨hframe, hsame, hlatched⟩ := latchCounts_effect (s := setReg 0x0D0104 (stamp s) s) (List.finRange 4)
    (setReg_wf _ _ _ hr)
  have hsnap : snap s = latchCounts (List.finRange 4) (setReg 0x0D0104 (stamp s) s) := rfl
  rw [hsnap]
  refine ⟨hframe, ?_, fun b => hlatched b (List.mem_finRange b)⟩
  rw [hsame _ fun b _ => by unfold axisBase; omega, reg_setReg _ _ _ _ hr, if_pos rfl]

/-! ### STAGE_SLOW_N (R209) -/

/-- With SLOW_FORCE set STAGE_SLOW_N is asserted, with event 137 where it was not. -/
theorem slowCheck_forced (hf : slowForced s = true) (hr : RegsWf s) :
    (slowCheck s).seq.slow = true ∧ (s.seq.slow = false → Pending (slowCheck s) 137) := by
  cases hslow : s.seq.slow
  · have heq : slowCheck s = raise 137 0 (wseq s) { s with seq := { s.seq with slow := true } } := by
      simp [slowCheck, hf, hslow]
    rw [heq, raise_seq]
    exact ⟨rfl, fun _ => pending_raise (by decide) (by decide) hr⟩
  · have heq : slowCheck s = s := by simp [slowCheck, hf, hslow]
    rw [heq]
    exact ⟨hslow, fun h => by cases h⟩

/-- What a write of SLOW_FORCE stores. -/
theorem written_slowForce (v old : Word) : ∃ g, RegMap.find 0x0D0110 = some g ∧
    RegMap.written g 0x0D0110 old v &&& 1 = v &&& 1 := by
  refine ⟨_, rfl, ?_⟩
  rw [written_merge rfl rfl]
  exact merge_and 1

/-- A write of SLOW_FORCE stores its bit, and STAGE_SLOW_N follows it. -/
theorem slowForce_effect (v : Word) (hr : RegsWf s) : let u := slowCheck (writeStored 0x0D0110 v s)
    reg u 0x0D0110 &&& 1 = v &&& 1 ∧ u.axes = s.axes ∧ u.dram = s.dram ∧
      (v.toNat % 2 = 1 → u.seq.slow = true ∧ (s.seq.slow = false → Pending u 137)) ∧
      (v.toNat % 2 = 0 → s.job.write = none → u.seq.slow = false) := by
  obtain ⟨g, hf, hbit⟩ := written_slowForce v (reg s 0x0D0110)
  rw [writeStored_of_find hf]
  generalize RegMap.written g 0x0D0110 (reg s 0x0D0110) v = w at hbit
  have hw : RegsWf (setReg 0x0D0110 w s) := setReg_wf _ _ _ hr
  have hstored : reg (setReg 0x0D0110 w s) 0x0D0110 = w := by rw [reg_setReg _ _ _ _ hr, if_pos rfl]
  have hforced : slowForced (setReg 0x0D0110 w s) = (v.toNat % 2 == 1) := by
    have hmod : w.toNat % 2 = v.toNat % 2 := by
      have h := congrArg BitVec.toNat hbit
      rw [BitVec.toNat_and, BitVec.toNat_and] at h
      rw [← Nat.and_one_is_mod, ← Nat.and_one_is_mod]
      exact h
    rw [slowForced, regN, hstored, Bits.bit, pow_zero, Nat.div_one, hmod]
  obtain ⟨l, -, hsignals⟩ := Signals.slowCheck (o := []) hw
  obtain ⟨_, _, _, hframe⟩ := slowCheck_frame (setReg 0x0D0110 w s)
  refine ⟨?_, by rw [hframe]; rfl, by rw [hframe]; rfl, fun hodd => ?_, fun heven hidle => ?_⟩
  · rw [hsignals.regs _ (by simp) (by decide) (by decide), hstored, hbit]
  · exact slowCheck_forced (by rw [hforced, hodd]; rfl) hw
  · exact slowCheck_released hidle (by rw [hforced, heven]; rfl)

/-! ### TOOL_REF (R192, R449) -/

/-- The state in which the loss of TOOL_REF is counted and noted, its axes stale. -/
def refLost (s : State) : State :=
  let n := min 65535 (regBits s 0x0D0154 15 0 + 1)
  { setRegBits 0x0D0154 15 0 n (setReg 0x0D0154 0x80000000 (setRegBits 0x0D0154 15 0 n s)) with
    seq := { s.seq with ref := false },
    axes := s.axes.map (fun x => { x with stale := true, edges := x.edges.map (fun e => { e with n := 0 }) }) }

/-- The link after a loss of TOOL_REF without a write: a link that is up is HELD with event 161 (log 89). -/
theorem refLoss_idle (href : s.seq.ref = true) (hw : s.job.write = none) : refLoss s =
    if s.blk.st = 0 ∨ s.blk.st = 9 then refLost s else raise 161 0 (wseq s) (linkHeld (refLost s)) := by
  have hcause : addCause (plainCause 0x0E) (refLost s) = refLost s := addCause_idle hw
  have hseq : wseq (refLost s) = wseq s := rfl
  have hfront : refreshFrontier (raise 161 0 (wseq s) (linkHeld (refLost s))) = raise 161 0 (wseq s) (linkHeld (refLost s)) :=
    if_pos (by rw [raise_job]; exact congrArg Option.isNone hw)
  have heq : refLoss s = (let t := addCause (plainCause 0x0E) (refLost s)
      if t.blk.st == 0 || t.blk.st == 9 then t else refreshFrontier (raise 161 0 (wseq t) (linkHeld t))) :=
    if_neg (by rw [href]; exact Bool.false_ne_true)
  simp only [hcause, hseq, hfront, Bool.or_eq_true, beq_iff_eq] at heq
  exact heq

theorem refLost_wf (hr : RegsWf s) : RegsWf (refLost s) := setReg_wf _ _ _ (setReg_wf _ _ _ (setReg_wf _ _ _ hr))

/-- LOST of the tool reference is set. -/
theorem refLost_noted (hr : RegsWf s) : Bits.bit (regN (refLost s) 0x0D0154) 31 = true := by
  let n := min 65535 (regBits s 0x0D0154 15 0 + 1)
  have hstored : reg (refLost s) 0x0D0154 = BitVec.ofNat 32 (Bits.setBits 0x80000000 15 0 n) := by
    have h1 : RegsWf (setRegBits 0x0D0154 15 0 n s) := setReg_wf _ _ _ hr
    have h2 : RegsWf (setReg 0x0D0154 0x80000000 (setRegBits 0x0D0154 15 0 n s)) := setReg_wf _ _ _ h1
    have hread : reg (setReg 0x0D0154 0x80000000 (setRegBits 0x0D0154 15 0 n s)) 0x0D0154 = 0x80000000 := by
      rw [reg_setReg _ _ _ _ h1, if_pos rfl]
    refine (reg_setReg _ 0x0D0154 _ _ h2).trans ((if_pos rfl).trans ?_)
    rw [regN, hread]
    rfl
  rw [regN, hstored, BitVec.toNat_ofNat, Bits.setBits, Bits.bit, beq_iff_eq]
  omega

/-- What the loss of TOOL_REF leaves without a write. -/
theorem refLoss_effect (hr : RegsWf s) (href : s.seq.ref = true) (hw : s.job.write = none) : let t := refLoss s
    t.seq.ref = false ∧ (∀ a : Fin 4, (t.axes[a]).stale = true ∧ (t.axes[a]).count = (s.axes[a]).count) ∧
      Bits.bit (regN t 0x0D0154) 31 = true ∧ (s.blk.st ≠ 0 → t.blk.st = 9) ∧ (s.blk.st = 5 → Pending t 161) ∧
      t.dram = s.dram ∧ t.eng = s.eng := by
  have haxes (a : Fin 4) : ((refLost s).axes[a]).stale = true ∧ ((refLost s).axes[a]).count = (s.axes[a]).count := by
    simp [refLost]
  have hlost : RegsWf (refLost s) := refLost_wf hr
  have hheld : RegsWf (linkHeld (refLost s)) := hlost
  rw [refLoss_idle href hw]
  split
  · next hdown =>
    have hblk : (refLost s).blk = s.blk := rfl
    dsimp only
    rw [hblk]
    exact ⟨rfl, haxes, refLost_noted hr, hdown.resolve_left, fun h => by omega, rfl, rfl⟩
  · have hreg : reg (linkHeld (refLost s)) 0x0D0154 = reg (refLost s) 0x0D0154 := rfl
    dsimp only
    rw [raise_seq, raise_axes, raise_blk, raise_dram, raise_eng, regN, reg_raise_unit (by decide) (by decide) hheld, hreg]
    exact ⟨rfl, haxes, refLost_noted hr, fun _ => rfl, fun _ => pending_raise (by decide) (by decide) hheld, rfl, rfl⟩

end Sys2Proof.Machine

open Sys2Proof Sys2Proof.Machine in
/-- Settles O14: each control by what it makes of its axis or line, and the loss of TOOL_REF by the state it notes. -/
theorem stageControl : Obligations.StageControl := by
  unfold Obligations.StageControl
  refine ⟨fun a v s hr => ⟨fun hmoving ht => ?_, fun hb => ?_⟩, fun s hr => ⟨fun href hw => ?_, rfl⟩⟩
  · have hown := updAxis_own a atStandstill s
    refine ⟨_, congrArg Host.Outcome.next (standstill_begins hmoving ht), ?_⟩
    dsimp only
    rw [raise_axes, raise_dram, raise_job, hown]
    exact ⟨rfl, rfl, rfl, rfl, pending_raise (by decide) (by decide) hr, fun b hb => updAxis_other hb, rfl, rfl⟩
  · have hwrite (f : State → State) : Host.Outcome.next (barWrite f s) = (.next (f s) : Host.Outcome State Fault Refusal) :=
      congrArg Host.Outcome.next (barWrite_open f s hb.1 hb.2)
    refine ⟨⟨_, hwrite _, ?_⟩, ⟨_, hwrite _, ?_⟩, ⟨_, hwrite _, ?_⟩, ⟨_, hwrite _, ?_⟩, ⟨_, hwrite _, snap_effect hr⟩,
      ⟨_, hwrite _, slowForce_effect v hr⟩⟩
    · obtain ⟨hother, hdram, hjob, hfree, hused⟩ := presetCount_effect a v hr
      exact ⟨⟨hother, hdram, hjob⟩, fun h => by rw [hfree h]; exact ⟨rfl, rfl⟩, hused⟩
    · obtain ⟨g, hf, hm, hranges, hclear⟩ := find_axisCtl a
      obtain ⟨hothers, hstored, hfree, hused⟩ := axisCtlWrite_effect (v := v) hf hr
      have hbits : RegMap.written g (axisBase a + axisRegOff .ctl) (reg s (axisBase a + axisRegOff .ctl)) v &&& 0x00FF037F =
          v &&& 0x00FF037F := by
        rw [written_merge hranges hclear, hm, merge_and]
      exact ⟨hothers, (congrArg (· &&& 0x00FF037F) hstored).trans hbits, fun h => by rw [hfree h]; exact hbits, hused⟩
    · obtain ⟨g, hf, hm, hranges, hclear⟩ := find_indexExpect a
      obtain ⟨hothers, hstored, hfree, hused⟩ := axisCtlWrite_effect (v := v) hf hr
      rw [written_full hm hranges hclear] at hstored hfree
      exact ⟨hothers, hstored, fun h => by rw [hfree h]; rfl, hused⟩
    · obtain ⟨g, hf, hm, hranges, hclear⟩ := find_standstill a
      obtain ⟨hothers, hstored, -⟩ := axisCtlWrite_effect (v := v) hf hr
      obtain ⟨hin, hout⟩ := written_standstill (v := v) (old := reg s (axisBase a + axisRegOff .standstill)) hm hranges hclear
      rw [← hstored] at hin hout
      exact ⟨hothers, hin, hout⟩
  · exact ⟨_, rfl, refLoss_effect hr href hw⟩
end

section
/-!
PROOFS. The words of the flash sequencer (O15).
-/

namespace Sys2Proof.Machine

variable {s : State} {w : Write}

/-! ### The word at the program counter (R195) -/

/-- A word stands ready where a program runs, no RUN is under way and the write has not ended. -/
theorem seqReady_of (hw : s.job.write = some w) (hend : w.ending = none) (hleft : s.seq.left = 0)
    (hst : s.seq.st = 1 ∨ s.seq.st = 2 ∨ s.seq.st = 3) : seqReady s = true := by
  have hlive : writeLive s = true := by simp [writeLive, hw, hend]
  simpa [seqReady, hlive, hleft, or_assoc] using hst

theorem seqAt_of {op : Nat} (hready : seqReady s = true) (hop : seqOp (seqWord s s.seq.pc) = op) : seqAt s op = true := by
  simp [seqAt, hready, hop]

/-- The axis that XSRC names. -/
theorem xAxis_eq (n : Nat) : xAxis n = if n = 0 then some 1 else if n = 1 then some 3 else none := by
  unfold xAxis
  split
  · rfl
  · rfl
  · next h0 h1 => rw [if_neg h0, if_neg h1]

/-- t(f) as a proposition (R197). -/
theorem trimOf_eq (trim f : Nat) : trimOf trim f = if 1 ≤ trim ∧ f % trim = trim - 1 then 1 else 0 := by
  simp [trimOf]

/-! ### ARM (R198, R207) -/

/-- ARM before STAGE_SLOW_N follows the lead: the setup word sent, EXPOSE_ACTIVE up, the write running. -/
def armed (w : Write) (s : State) : State :=
  let word := setupWord w s.seq.plan
  let since := match (s.axes[s.seq.trig]).edges with | e :: _ => usableAt e.t | [] => 0
  { s with
    out := .setupWord word :: s.out,
    seq := { s.seq with st := 2, expose := true, deflD := word, since := since, pc := s.seq.pc + 1 },
    job := { s.job with write := some { w with st := .running, armed := true } } }

theorem armed_of_checks (hw : s.job.write = some w) (hfails : armFails s w = none) :
    arm s = slowCheck (raise 133 0 w.seq (armed w s)) := by
  unfold arm
  rw [hw]
  dsimp only
  rw [hfails]
  simp only [armed, seqNext, setWrite, send, hw, Option.map_some] <;> rfl

/-- What ARM leaves where its checks pass. -/
theorem armed_effect (hw : s.job.write = some w) (hfails : armFails s w = none) (hr : RegsWf s) : let t := arm s
    .setupWord (setupWord w s.seq.plan) ∈ t.out ∧ t.seq.expose = true ∧ t.seq.st = 2 ∧ t.seq.pc = s.seq.pc + 1 ∧
      t.seq.deflD = setupWord w s.seq.plan ∧ t.seq.lastWord = s.seq.lastWord ∧ Pending t 133 ∧
      t.job.write = some { w with st := .running, armed := true } ∧ t.dram = s.dram ∧ t.axes = s.axes := by
  rw [armed_of_checks hw hfails]
  have hr' : RegsWf (raise 133 0 w.seq (armed w s)) := raise_wf _ _ _ _ hr
  have hpend : Pending (slowCheck (raise 133 0 w.seq (armed w s))) 133 :=
    (slowCheck_steady _).pending hr' 133 (by decide) (pending_raise (s := armed w s) (by decide) (by decide) hr)
  obtain ⟨_, _, _, hslow⟩ := slowCheck_frame (raise 133 0 w.seq (armed w s))
  have hframe := raise_frame 133 0 w.seq (armed w s)
  generalize slowCheck (raise 133 0 w.seq (armed w s)) = t at *
  rw [hframe] at hslow
  refine ⟨?_, ?_, ?_, ?_, ?_, ?_, hpend, ?_, ?_, ?_⟩ <;> rw [hslow]
  · exact List.mem_cons_self
  all_goals rfl

/-! ### END (R205, R231) -/

theorem sendStripeEnd_frame (halted : Bool) (s : State) : ∃ l, sendStripeEnd halted s = { s with out := l } := by
  have hidle : ∃ l, (if s.blk.lastSent.isSome then idleAll 2 s else s) = { s with out := l } := by
    split
    · exact ⟨_, foldl_send _ _ _⟩
    · exact ⟨_, rfl⟩
  obtain ⟨_, hidle⟩ := hidle
  rw [sendStripeEnd, hidle]
  exact ⟨_, foldl_send _ _ _⟩

/-- The begin of a drain changes what is sent, the link and the state of the write. -/
theorem beginDrain_frame (halted : Bool) (s : State) : ∃ l k, beginDrain halted s = { s with
    out := l, blk := k, job := { s.job with write := s.job.write.map (fun w => { w with st := .draining }) } } := by
  have hsent : ∃ l, (if linkRuns s then sendStripeEnd halted s else s) = { s with out := l } := by
    split
    · exact sendStripeEnd_frame halted s
    · exact ⟨_, rfl⟩
  obtain ⟨_, hsent⟩ := hsent
  unfold beginDrain
  rw [hsent]
  dsimp only
  split <;> exact ⟨_, _, rfl⟩

theorem refreshFrontier_frame (s : State) : ∃ r v k f, refreshFrontier s = { s with
    regs := r, evt := v, blk := k, job := { s.job with frontier := f } } := by
  unfold refreshFrontier
  split
  · exact ⟨_, _, _, _, rfl⟩
  · split
    · split
      · exact ⟨_, _, _, _, rfl⟩
      · exact ⟨_, _, _, _, raise_frame _ _ _ _⟩
    · exact ⟨_, _, _, _, rfl⟩

/-- What the begin of a drain leaves of module DRAM, the axes, the sequencer and the write. -/
theorem drainBegun_effect (halted : Bool) (s : State) : let t := slowCheck (refreshFrontier (beginDrain halted s))
    t.dram = s.dram ∧ t.axes = s.axes ∧ (∃ b, t.seq = { s.seq with slow := b }) ∧
      t.job.write = s.job.write.map (fun w => { w with st := .draining }) := by
  obtain ⟨_, _, hdrain⟩ := beginDrain_frame halted s
  generalize beginDrain halted s = u at *
  obtain ⟨_, _, _, _, hfront⟩ := refreshFrontier_frame u
  generalize refreshFrontier u = v at *
  obtain ⟨_, _, _, hslow⟩ := slowCheck_frame v
  rw [hslow]
  subst hfront hdrain
  exact ⟨rfl, rfl, ⟨_, rfl⟩, rfl⟩

/-- END before its drain begins: EXPOSE_ACTIVE down, event 134, the write at its own end. -/
def programEnded (s : State) : State :=
  setWrite (fun w => { w with ending := some ownEnd }) (raise 134 0 (wseq s) { s with seq := { s.seq with st := 0, expose := false } })

theorem execSeqEnd_ends (hat : seqAt s 7 = true) :
    execSeqEnd s = .next (slowCheck (drainCheck (refreshFrontier (beginDrain false (programEnded s))))) :=
  congrArg Host.Outcome.next (if_pos hat)

/-- What END leaves where no port has sent FINAL yet. -/
theorem seqEnd_effect (hw : s.job.write = some w) (hr : RegsWf s) (hports : ∀ n : Fin 16, (s.blk.ports[n]).final = none) :
    let t := slowCheck (drainCheck (refreshFrontier (beginDrain false (programEnded s))))
    t.seq.expose = false ∧ t.seq.st = 0 ∧ Pending t 134 ∧ t.dram = s.dram ∧
      (∃ v, t.job.write = some v ∧ v.st = .draining ∧ v.next = w.next) ∧ t.axes = s.axes := by
  have hseq : (programEnded s).seq = { s.seq with st := 0, expose := false } := raise_seq _ _ _ _
  have hblk : (programEnded s).blk = s.blk := raise_blk _ _ _ _
  have hwrite : (programEnded s).job.write = some { w with ending := some ownEnd } := by
    simp only [programEnded, setWrite, raise_job, hw, Option.map_some]
  have hwf : RegsWf (programEnded s) := raise_wf _ _ _ _ hr
  have hpend : Pending (programEnded s) 134 :=
    pending_raise (s := { s with seq := { s.seq with st := 0, expose := false } }) (by decide) (by decide) hr
  have hkeeps : HaltKeeps (programEnded s) (refreshFrontier (beginDrain false (programEnded s))) :=
    .refreshFrontier (.beginDrain .refl)
  rw [drainCheck_waits fun n => by rw [hkeeps.ports, hblk]; exact hports n]
  obtain ⟨hdram, haxes, ⟨b, hslow⟩, hdrained⟩ := drainBegun_effect false (programEnded s)
  rw [hwrite] at hdrained
  rw [hseq] at hslow
  dsimp only
  rw [hslow, hdram, haxes]
  exact ⟨rfl, rfl, hkeeps.slowCheck.steady.pending hwf 134 (by decide) hpend, raise_dram _ _ _ _, ⟨_, hdrained, rfl, rfl⟩,
    raise_axes _ _ _ _⟩

/-- No port has sent FINAL, said of the ports by number. -/
theorem ports_unfinished (h : ∀ p, p < 16 → (portAck s p).final = none) (n : Fin 16) : (s.blk.ports[n]).final = none := by
  simpa [portAck] using h n.val n.isLt

end Sys2Proof.Machine

open Sys2Proof Sys2Proof.Machine in
/-- Settles O15: each word by its command, which executes where the word stands at the program counter. -/
theorem sequencerWords : Obligations.SequencerWords := by
  unfold Obligations.SequencerWords
  intro s w hw hend hleft hr word n value sets hst
  have hready := seqReady_of hw hend hleft hst
  have hat {op : Nat} (h : seqOp word = op) : seqAt s op = true := seqAt_of hready h
  refine ⟨fun h => ?_, fun h => ?_, fun h => ?_, fun h => ?_, fun h => ?_, fun h hgo hfails => ?_, fun h => ?_,
    fun h hports => ?_⟩
  · exact congrArg Host.Outcome.next (if_pos (hat h))
  · rw [← xAxis_eq]
    exact congrArg Host.Outcome.next (if_pos (hat h))
  · exact congrArg Host.Outcome.next (if_pos (hat h))
  · exact congrArg Host.Outcome.next (if_pos (hat h))
  · exact congrArg Host.Outcome.next (if_pos (hat h))
  · exact ⟨_, congrArg Host.Outcome.next (if_pos (by rw [hat h, hgo]; rfl)), armed_effect hw hfails hr⟩
  · refine ⟨_, congrArg Host.Outcome.next (if_pos (hat h)), rfl, rfl, rfl, rfl, fun hfirst => ?_, fun hlater => ?_⟩
    · simp [hw, hfirst]
    · simp [hw, Nat.ne_of_gt hlater, trimOf_eq]
  · exact ⟨_, execSeqEnd_ends (hat h), seqEnd_effect hw hr (ports_unfinished hports)⟩
end

section
/-!
PROOFS. Self-calibration: how it begins, how it ends, and the copy of a last good set (O48).
-/

namespace Sys2Proof.Machine

variable {s t u w : State} {q : Nat} {l : Live} {e : End}

/-! ### The end of a calibration's command -/

/-- What a calibration may change before its command ends: registers and events, the sensors, its own bookkeeping and the free
values. -/
def CalFrame (s w : State) : Prop := ∃ f g v h k, w = { s with free := f, regs := g, evt := v, thm := h, cal := k }

/-- The units that a calibration leaves alone. -/
def CalKeeps (s t : State) : Prop :=
  t.dram = s.dram ∧ t.eng = s.eng ∧ t.blk = s.blk ∧ t.seq = s.seq ∧ t.bmu = s.bmu ∧ t.sec = s.sec

theorem finish_calEnds (h : CalFrame s w) : let t := finish q e w
    Ended q e s t ∧ CalKeeps s t ∧ t.cal = w.cal ∧ t.thm = w.thm := by
  obtain ⟨_, _, _, _, _, hw⟩ := h
  refine ⟨(finish_ended q e w).congr (by rw [hw]) (by rw [hw]) (by rw [hw]) rfl rfl rfl, ?_, finish_cal _ _ _, finish_thm _ _ _⟩
  unfold CalKeeps
  rw [finish_dram, finish_eng, finish_blk, finish_seq, finish_bmu, finish_sec, hw]
  exact ⟨rfl, rfl, rfl, rfl, rfl, rfl⟩

/-- A command of its own has a sequence number; a start's calibration has none. -/
theorem calFinish_command (hq : q ≠ 0) (e : End) (s : State) : calFinish q e s = finish q e s := if_neg hq

theorem updRec_calFrame (k : Nat) (f : CalRec → CalRec) (s : State) : CalFrame s (updRec k f s) := ⟨_, _, _, _, _, rfl⟩

/-- A calibration beside one of its target is refused, and the record keeps code 5 (R417). -/
theorem calBusy_effect (k : Fin 5) (q : Nat) (s : State) : let t := calBusy k.val q s
    Ended q { status := 4, code := 0x11, source := 8 } s t ∧ CalKeeps s t ∧ (t.cal.recs[k]).reject = 5 ∧
      (t.cal.recs[k]).good = (s.cal.recs[k]).good ∧ t.cal.tdcRun = s.cal.tdcRun ∧ t.cal.sensRun = s.cal.sensRun := by
  obtain ⟨hended, hkeeps, hcal, -⟩ := finish_calEnds (q := q) (e := refusedState 0x11)
    (updRec_calFrame k.val (fun r => { r with reject := 5 }) s)
  have hrec : (updRec k.val (fun r => { r with reject := 5 }) s).cal.recs[k] = { s.cal.recs[k] with reject := 5 } := upd_own _ _ _
  intro t
  have hcal : t.cal = (updRec k.val (fun r => { r with reject := 5 }) s).cal := hcal
  rw [hcal, hrec]
  exact ⟨hended, hkeeps, rfl, rfl, rfl, rfl⟩

/-! ### How a calibration begins (R192, R417, R419, R420) -/

theorem setPhase_live (q : Nat) (p : Phase) (s : State) : (setPhase q p s).job.live =
    s.job.live.map (fun x => if x.seq = q then { x with phase := p } else x) := by
  simp only [setPhase, beq_iff_eq]

theorem tdcBegin_eq (hl : startable s 8 = some l) : tdcBegin s =
    if entryKind16 l.entry ≠ 1 then s
    else if s.cal.tdcRun.isSome then calBusy 2 l.seq s
    else if s.job.write.isNone then startTdc l.seq (setPhase l.seq .running s)
    else if entryWait l.entry then
      if s.cal.tdcWait.isSome then calBusy 2 l.seq s
      else { setPhase l.seq .waiting s with cal := { s.cal with tdcWait := some l.seq } }
    else finish l.seq (refusedState 0x15) s := by
  rw [tdcBegin, hl]
  rfl

theorem sensorsBegin_eq (hl : startable s 8 = some l) : sensorsBegin s =
    if entryKind16 l.entry ≠ 2 then s
    else if s.cal.sensRun.isSome then calBusy 3 l.seq s
    else { setPhase l.seq .running s with cal := { s.cal with sensRun := some l.seq } } := by
  rw [sensorsBegin, hl]
  rfl

/-- A code-density test makes every axis stale and moves none (R192). -/
theorem startTdc_axes (q : Nat) (s : State) (a : Fin 4) : ((startTdc q s).axes[a]).stale = true ∧
    ((startTdc q s).axes[a]).count = (s.axes[a]).count := by
  simp [startTdc]

theorem tdcBegin_idle (hl : startable s 8 = some l) (hkind : entryKind16 l.entry = 1) (hrun : s.cal.tdcRun = none)
    (hw : s.job.write = none) : tdcBegin s = startTdc l.seq (setPhase l.seq .running s) := by
  rw [tdcBegin_eq hl, if_neg (by simp [hkind]), hrun, if_neg (by simp), hw]
  rfl

theorem tdcBegin_busy (hl : startable s 8 = some l) (hkind : entryKind16 l.entry = 1) (hrun : s.cal.tdcRun.isSome = true) :
    tdcBegin s = calBusy 2 l.seq s := by
  rw [tdcBegin_eq hl, if_neg (by simp [hkind]), if_pos hrun]

/-- Beside a write a code-density test waits for its end or is refused, as its WAIT bit asks (R419). -/
theorem tdcBegin_writing (hl : startable s 8 = some l) (hkind : entryKind16 l.entry = 1) (hrun : s.cal.tdcRun = none)
    (hw : s.job.write.isSome = true) : tdcBegin s =
      if entryWait l.entry then
        if s.cal.tdcWait.isSome then calBusy 2 l.seq s
        else { setPhase l.seq .waiting s with cal := { s.cal with tdcWait := some l.seq } }
      else finish l.seq (refusedState 0x15) s := by
  rw [tdcBegin_eq hl, if_neg (by simp [hkind]), hrun, if_neg (by simp),
    if_neg (by rw [Option.isNone_iff_eq_none]; rintro h; rw [h] at hw; cases hw)]

/-! ### A calibration set rejected or taken over (R417) -/

theorem calRejected_calFrame (k c q : Nat) (s : State) : CalFrame s (calRejected k c q s) := by
  obtain ⟨_, _, h⟩ := calRejected_frame k c q s
  exact ⟨_, _, _, _, _, h⟩

/-- A record whose set has taken over. -/
def recTaken (s : State) (set : Bytes) (r : CalRec) : CalRec :=
  { r with count := Bits.satAdd r.count 1, stamp := stamp s, good := set }

theorem calTaken_frame (k : Nat) (set : Bytes) (s : State) : ∃ g v, calTaken k set s = { s with
    regs := g, evt := v, cal := { s.cal with recs := upd s.cal.recs k (recTaken s set) } } :=
  ⟨_, _, raise_frame _ _ _ _⟩

theorem calTaken_pending {k : Nat} {set : Bytes} (hr : RegsWf s) : RegsWf (calTaken k set s) ∧ Pending (calTaken k set s) 253 :=
  ⟨raise_wf _ _ _ _ hr, pending_raise (by decide) (by decide) hr⟩

theorem CalFrame.trans (h : CalFrame s u) (k : CalFrame u w) : CalFrame s w := by
  obtain ⟨_, _, _, _, _, rfl⟩ := h
  obtain ⟨_, _, _, _, _, rfl⟩ := k
  exact ⟨_, _, _, _, _, rfl⟩

theorem calTaken_calFrame (k : Nat) (set : Bytes) (s : State) : CalFrame s (calTaken k set s) := by
  obtain ⟨_, _, h⟩ := calTaken_frame k set s
  exact ⟨_, _, _, _, _, h⟩

/-- The end of a calibration's own command keeps its bookkeeping, the sensors and the event of its outcome. -/
theorem calFinish_ends {n : Nat} (hframe : CalFrame s w) (hr : RegsWf w) (hn : n < 256) (hpend : Pending w n) (hq : q ≠ 0) :
    let t := calFinish q e w
    Ended q e s t ∧ CalKeeps s t ∧ t.cal = w.cal ∧ t.thm = w.thm ∧ Pending t n := by
  obtain ⟨hended, hkeeps, hcal, hthm⟩ := finish_calEnds (q := q) (e := e) hframe
  rw [calFinish_command hq]
  exact ⟨hended, hkeeps, hcal, hthm, finish_keepsPending hn hr hpend⟩

/-- The command of a calibration whose set is rejected: code `c` in the record of its quantity, event 254. -/
theorem calRejected_ends (k : Fin 5) (c : Nat) (hframe : CalFrame s u) (hr : RegsWf u) (hq : q ≠ 0) :
    let t := calFinish q (calRefused c) (calRejected k.val c q u)
    Ended q { status := 4, code := c, source := 9 } s t ∧ CalKeeps s t ∧
      t.cal = { u.cal with recs := upd u.cal.recs k.val (fun r => { r with reject := c }) } ∧ t.thm = u.thm ∧ Pending t 254 := by
  obtain ⟨hwf, hpend, -⟩ := calRejected_effect (q := q) (n := k.val) (c := c) hr
  obtain ⟨_, _, hrejected⟩ := calRejected_frame k.val c q u
  obtain ⟨hended, hkeeps, hcal, hthm, hpend⟩ := calFinish_ends (e := calRefused c)
    (hframe.trans (calRejected_calFrame k.val c q u)) hwf (by decide) hpend hq
  exact ⟨hended, hkeeps, hcal.trans (by rw [hrejected]), hthm.trans (by rw [hrejected]), hpend⟩

/-- The command of a calibration whose set takes over: the record of its quantity, event 253. -/
theorem calTaken_ends (k : Fin 5) (set : Bytes) (hframe : CalFrame s u) (hr : RegsWf u) (hq : q ≠ 0) :
    let t := calFinish q { status := 0 } (calTaken k.val set u)
    Ended q { status := 0 } s t ∧ CalKeeps s t ∧ t.cal = { u.cal with recs := upd u.cal.recs k.val (recTaken u set) } ∧
      t.thm = u.thm ∧ Pending t 253 := by
  obtain ⟨hwf, hpend⟩ := calTaken_pending (k := k.val) (set := set) hr
  obtain ⟨_, _, htaken⟩ := calTaken_frame k.val set u
  obtain ⟨hended, hkeeps, hcal, hthm, hpend⟩ := calFinish_ends (e := { status := 0 })
    (hframe.trans (calTaken_calFrame k.val set u)) hwf (by decide) hpend hq
  exact ⟨hended, hkeeps, hcal.trans (by rw [htaken]), hthm.trans (by rw [htaken]), hpend⟩

/-! ### The end of a code-density test (R419) -/

/-- A tap within its limits and within DEV of 20 ps, its width compared as a fraction over the 2^20 edges. -/
def TapWithin (limits : Bytes) (n : Nat) : Prop :=
  let low := Bits.field limits 16 2
  let high := Bits.field limits 18 2
  let dev := Bits.field limits 20 2
  low * 2 ^ 20 ≤ n * 6400000 ∧ n * 6400000 ≤ high * 2 ^ 20 ∧ n * 6400000 ≤ (20000 + dev) * 2 ^ 20 ∧
    20000 * 2 ^ 20 ≤ n * 6400000 + dev * 2 ^ 20

theorem tapOutside_iff {limits : Bytes} {n : Nat} : tapOutside limits n = true ↔ ¬ TapWithin limits n := by
  simp only [tapOutside, Bool.or_eq_true, decide_eq_true_eq]
  unfold TapWithin tdcEdges
  omega

variable {limits : Bytes} {hits : List Nat}

theorem tooFew_iff : (decide (hits.length ≠ 320) || decide (hits.sum < tdcEdges)) = true ↔
    hits.length ≠ 320 ∨ hits.sum < 2 ^ 20 := by
  rw [Bool.or_eq_true, decide_eq_true_eq, decide_eq_true_eq]
  rfl

theorem tdcCode_few (h : hits.length ≠ 320 ∨ hits.sum < 2 ^ 20) : tdcCode limits hits = some 3 :=
  if_pos (tooFew_iff.mpr h)

theorem tdcCode_enough (hlen : hits.length = 320) (hsum : 2 ^ 20 ≤ hits.sum) : tdcCode limits hits =
    if hits.any (tapOutside limits) then some 1 else none :=
  if_neg (mt tooFew_iff.mp (by omega))

theorem tdcCode_outside (hlen : hits.length = 320) (hsum : 2 ^ 20 ≤ hits.sum) (h : ∃ n, n ∈ hits ∧ ¬ TapWithin limits n) :
    tdcCode limits hits = some 1 := by
  obtain ⟨n, hn, hout⟩ := h
  rw [tdcCode_enough hlen hsum, if_pos (List.any_eq_true.mpr ⟨n, hn, tapOutside_iff.mpr hout⟩)]

theorem tdcCode_good (hlen : hits.length = 320) (hsum : 2 ^ 20 ≤ hits.sum) (h : ∀ n, n ∈ hits → TapWithin limits n) :
    tdcCode limits hits = none := by
  rw [tdcCode_enough hlen hsum, if_neg]
  rw [List.any_eq_true]
  rintro ⟨n, hn, hout⟩
  exact tapOutside_iff.mp hout (h n hn)

/-- The state in which the code-density test has stopped. -/
def tdcStopped (s : State) : State := { s with cal := { s.cal with tdcRun := none } }

theorem tdcStopped_calFrame (s : State) : CalFrame s (tdcStopped s) := ⟨_, _, _, _, _, rfl⟩

/-- A rejected code-density test: the last good set stays, and the record holds the code. -/
theorem tdcDone_rejects {c : Nat} (hcode : tdcCode s.cal.limits hits = some c) (hr : RegsWf s) (hq : q ≠ 0) :
    let t := tdcDone q hits s
    Ended q { status := 4, code := c, source := 9 } s t ∧ CalKeeps s t ∧ t.cal.tdcRun = none ∧
      (∀ n : Fin 5, n ≠ 2 → t.cal.recs[n] = s.cal.recs[n]) ∧ (t.cal.recs[(2 : Fin 5)]).good = (s.cal.recs[(2 : Fin 5)]).good ∧
      (t.cal.recs[(2 : Fin 5)]).reject = c ∧ Pending t 254 := by
  have heq : tdcDone q hits s = calFinish q (calRefused c) (calRejected (2 : Fin 5).val c q (tdcStopped s)) := by
    rw [tdcDone, hcode]
    rfl
  obtain ⟨hended, hkeeps, hcal, -, hpend⟩ := calRejected_ends (2 : Fin 5) c (tdcStopped_calFrame s) hr hq
  rw [heq]
  dsimp only at hcal ⊢
  rw [hcal]
  have hown : (upd (tdcStopped s).cal.recs (2 : Fin 5).val (fun r => { r with reject := c }))[(2 : Fin 5)] = _ := upd_own _ _ _
  rw [hown]
  exact ⟨hended, hkeeps, rfl, fun n hn => upd_other hn, rfl, rfl, hpend⟩

/-- A code-density test that passes: its tap widths are the last good set. -/
theorem tdcDone_takes (hcode : tdcCode s.cal.limits hits = none) (hr : RegsWf s) (hq : q ≠ 0) :
    let t := tdcDone q hits s
    Ended q { status := 0 } s t ∧ CalKeeps s t ∧ t.cal.tdcRun = none ∧
      (∀ n : Fin 5, n ≠ 2 → t.cal.recs[n] = s.cal.recs[n]) ∧
      (t.cal.recs[(2 : Fin 5)]).good = hits.flatMap (fun n => Bits.natLe (n * 6400000 / 2 ^ 20) 4) ∧
      (t.cal.recs[(2 : Fin 5)]).count = Bits.satAdd (s.cal.recs[(2 : Fin 5)]).count 1 ∧
      (t.cal.recs[(2 : Fin 5)]).stamp = stamp s ∧ Pending t 253 := by
  have heq : tdcDone q hits s = calFinish q { status := 0 } (calTaken (2 : Fin 5).val
      (hits.flatMap (fun n => Bits.natLe (n * 6400000 / 2 ^ 20) 4)) (tdcStopped s)) := by
    rw [tdcDone, hcode]
    rfl
  obtain ⟨hended, hkeeps, hcal, -, hpend⟩ := calTaken_ends (2 : Fin 5)
    (hits.flatMap (fun n => Bits.natLe (n * 6400000 / 2 ^ 20) 4)) (tdcStopped_calFrame s) hr hq
  rw [heq]
  dsimp only at hcal ⊢
  rw [hcal]
  have hown : (upd (tdcStopped s).cal.recs (2 : Fin 5).val (recTaken (tdcStopped s)
      (hits.flatMap (fun n => Bits.natLe (n * 6400000 / 2 ^ 20) 4))))[(2 : Fin 5)] = _ := upd_own _ _ _
  rw [hown]
  exact ⟨hended, hkeeps, rfl, fun n hn => upd_other hn, rfl, rfl, rfl, hpend⟩

/-! ### The end of a sensor calibration (R420) -/

variable {diodes : List Int} {counts : List Nat}

theorem sensorsCode_diodes {trims : List Int} (h : diodes.length ≠ 5 ∨ ∃ x, x ∈ diodes ∧ (x < -640 ∨ 2400 < x)) :
    sensorsCode s diodes trims = some 3 :=
  if_pos (by simpa using h)

/-- A set that passes its check holds no negative trim. -/
theorem sensorsCode_nonneg {trims : List Int} (h : sensorsCode s diodes trims = none) (x : Int) (hx : x ∈ trims) : 0 ≤ x := by
  unfold sensorsCode at h
  split at h
  · cases h
  · split at h
    · cases h
    · next hnone => exact Int.not_lt.mp fun hneg => hnone (List.any_eq_true.mpr ⟨x, hx, decide_eq_true hneg⟩)

/-- The new trim of one sensor, before it is stored (R420). -/
def trimAt (s : State) (diodes : List Int) (counts : List Nat) (k : Fin 48) : Int :=
  if k.val < 44 then newTrim s (s.thm.sensors[k]).k (counts.getD k.val 0) (diodes.getD (sensorDie k.val) 0)
  else ((s.thm.sensors[k]).n25 : Int)

theorem newTrims_eq (s : State) (diodes : List Int) (counts : List Nat) :
    newTrims s diodes counts = (List.finRange 48).map (trimAt s diodes counts) := rfl

theorem newTrim_slope {k count : Nat} {r16 : Int} (hk : k ≠ 0) :
    newTrim s k count r16 = count + ((r16 - 400) * 4096 + ((k / 2 : Nat) : Int)) / k := by
  rw [newTrim, if_neg hk, Bits.fdiv, Int.fdiv_eq_ediv_of_nonneg _ (Int.natCast_nonneg k)]

/-- The state in which the sensor calibration has stopped. -/
def sensorsStopped (s : State) : State := freeNext { s with cal := { s.cal with sensRun := none } }

theorem sensorsStopped_calFrame (s : State) : CalFrame s (sensorsStopped s) := ⟨_, _, _, _, _, rfl⟩

theorem sensorsDone_rejects {c : Nat} (hcode : sensorsCode s diodes (newTrims s diodes counts) = some c) (hr : RegsWf s)
    (hq : q ≠ 0) : let t := sensorsDone q diodes counts s
    Ended q { status := 4, code := c, source := 9 } s t ∧ t.cal.sensRun = none ∧ t.thm.sensors = s.thm.sensors ∧
      (t.cal.recs[(3 : Fin 5)]).reject = c ∧ Pending t 254 := by
  have heq : sensorsDone q diodes counts s =
      calFinish q (calRefused c) (calRejected (3 : Fin 5).val c q (sensorsStopped s)) := by
    simp only [sensorsDone, hcode]
    rfl
  obtain ⟨hended, -, hcal, hthm, hpend⟩ := calRejected_ends (3 : Fin 5) c (sensorsStopped_calFrame s) hr hq
  rw [heq]
  dsimp only at hcal hthm ⊢
  rw [hcal, hthm]
  have hown : (upd (sensorsStopped s).cal.recs (3 : Fin 5).val (fun r => { r with reject := c }))[(3 : Fin 5)] = _ := upd_own _ _ _
  rw [hown]
  exact ⟨hended, rfl, rfl, rfl, hpend⟩

/-- The sensors with new trims. -/
def trimmedSensors (s : State) (n25 : List Nat) : Vector Sensor 48 :=
  Vector.ofFn (fun n : Fin 48 => { s.thm.sensors[n] with n25 := n25.getD n.val (s.thm.sensors[n]).n25 })

/-- A set measured without a write takes over at once. -/
theorem sensorsDone_takes (hcode : sensorsCode s diodes (newTrims s diodes counts) = none) (hw : s.job.write = none)
    (hr : RegsWf s) (hq : q ≠ 0) : let t := sensorsDone q diodes counts s
    Ended q { status := 0 } s t ∧ t.cal.sensRun = none ∧ Pending t 253 ∧
      t.thm.sensors = trimmedSensors s ((newTrims s diodes counts).map Int.toNat) := by
  let v : State := { sensorsStopped s with
    cal := { (sensorsStopped s).cal with trims := none },
    thm := { s.thm with sensors := trimmedSensors s ((newTrims s diodes counts).map Int.toNat) } }
  let set := trimBytes (sensorsStopped s) ((newTrims s diodes counts).map Int.toNat)
  have heq : sensorsDone q diodes counts s = calFinish q { status := 0 } (calTaken (3 : Fin 5).val set v) := by
    simp only [sensorsDone, hcode, hw]
    rfl
  have hframe : CalFrame s v := ⟨_, _, _, _, _, rfl⟩
  obtain ⟨hended, -, hcal, hthm, hpend⟩ := calTaken_ends (3 : Fin 5) set hframe hr hq
  rw [heq]
  dsimp only at hcal hthm ⊢
  rw [hcal, hthm]
  exact ⟨hended, rfl, hpend, rfl⟩

/-- A set measured beside a write waits for the next stripe boundary (R416). -/
theorem sensorsDone_waits (hcode : sensorsCode s diodes (newTrims s diodes counts) = none) (hw : s.job.write.isSome = true)
    (hq : q ≠ 0) : let t := sensorsDone q diodes counts s
    Ended q { status := 0 } s t ∧ t.cal.sensRun = none ∧ t.thm = s.thm ∧ t.cal.trims.isSome = true := by
  let v : State := { sensorsStopped s with
    cal := { (sensorsStopped s).cal with trims := some ((newTrims s diodes counts).map Int.toNat) } }
  have heq : sensorsDone q diodes counts s = finish q { status := 0 } v := by
    rw [← calFinish_command hq]
    simp only [sensorsDone, hcode, hw]
    rfl
  have hframe : CalFrame s v := ⟨_, _, _, _, _, rfl⟩
  obtain ⟨hended, -, hcal, hthm⟩ := finish_calEnds (q := q) (e := { status := 0 }) hframe
  rw [heq]
  dsimp only at hcal hthm ⊢
  rw [hcal, hthm]
  exact ⟨hended, rfl, rfl, rfl⟩

/-- The trims after a calibration: the power stage keeps its own, every other sensor takes its new one. -/
theorem trimmedSensors_n25 (hcode : sensorsCode s diodes (newTrims s diodes counts) = none) (k : Fin 48) :
    (((trimmedSensors s ((newTrims s diodes counts).map Int.toNat))[k]).n25 : Int) = trimAt s diodes counts k := by
  have hmem : trimAt s diodes counts k ∈ newTrims s diodes counts := List.mem_map_of_mem (List.mem_finRange k)
  have hn25 : ((trimmedSensors s ((newTrims s diodes counts).map Int.toNat))[k]).n25 = (trimAt s diodes counts k).toNat := by
    simp [trimmedSensors, newTrims_eq]
  rw [hn25]
  exact Int.toNat_of_nonneg (sensorsCode_nonneg hcode _ hmem)

/-! ### Which calibration an end belongs to -/

theorem calEnd_tdc (h : s.cal.tdcRun = some q) : calEnd (.tdc hits) s = tdcDone q hits s := by
  rw [calEnd, h]

theorem calEnd_tdc_none (h : s.cal.tdcRun = none) : calEnd (.tdc hits) s = s := by
  rw [calEnd, h]

theorem calEnd_sensors (h : s.cal.sensRun = some q) : calEnd (.sensors diodes counts) s = sensorsDone q diodes counts s := by
  rw [calEnd, h]

theorem calEnd_sensors_none (h : s.cal.sensRun = none) : calEnd (.sensors diodes counts) s = s := by
  rw [calEnd, h]

/-! ### The copy of a last good set (R416) -/

theorem goodSet_rec {k : Nat} {n : Fin 5} (h : n.val = k) : goodSet s k = (s.cal.recs[n]).good := by
  subst h
  simp [goodSet]

theorem copyBegin_eq (s : State) : let k := regN s 0x160100 % 8
    let dst := regN s 0x160104 + 2 ^ 32 * regN s 0x160108
    copyBegin s = if s.cal.copy.isSome = true ∨ 4 < k ∨ dst % 64 ≠ 0 ∨ dramSize < dst + (goodSet s k).length then s
      else { s with cal := { s.cal with copy := some (dst, goodSet s k) } } := by
  have hk : regBits s 0x160100 2 0 = regN s 0x160100 % 8 := by
    rw [regBits, Bits.bits, pow_zero, Nat.div_one]
    rfl
  have hdst : reg64 s 0x160104 = regN s 0x160104 + 2 ^ 32 * regN s 0x160108 := rfl
  unfold copyBegin
  rw [hk, hdst]
  simp only [Bool.or_eq_true, decide_eq_true_eq, or_assoc]

/-- A copy of the quantity `k` begins where none runs and its destination is aligned and fits. -/
theorem copyBegin_starts {n : Fin 5} (hn : n.val = regN s 0x160100 % 8) (hfree : s.cal.copy = none)
    (halign : (regN s 0x160104 + 2 ^ 32 * regN s 0x160108) % 64 = 0)
    (hfits : regN s 0x160104 + 2 ^ 32 * regN s 0x160108 + (s.cal.recs[n]).good.length ≤ dramSize) :
    copyBegin s = { s with cal := { s.cal with
      copy := some (regN s 0x160104 + 2 ^ 32 * regN s 0x160108, (s.cal.recs[n]).good) } } := by
  have hlast : regN s 0x160100 % 8 ≤ 4 := hn ▸ Nat.le_of_lt_succ n.isLt
  rw [copyBegin_eq, goodSet_rec hn, if_neg]
  rw [hfree]
  rintro (h | h | h | h)
  · cases h
  all_goals omega

theorem copyEnd_idle (h : s.cal.copy = none) : copyEnd s = s := by
  rw [copyEnd, h]

/-- A copy that ends while memory serves it has written its bytes and nothing else. -/
theorem copyEnd_effect {dst : Nat} {b : Bytes} (hcopy : s.cal.copy = some (dst, b)) (hd : DramWf s)
    (hgroups : ∀ g, g < 4 → groupOpen s g = true)
    (hchannels : ∀ k : Fin 16, (s.mem.ch[k]).st ≠ 6 ∧ (s.mem.ch[k]).st ≠ 7) : let t := copyEnd s
    t.cal = { s.cal with copy := none } ∧ SameDramBut dst b.length s t ∧
      (∀ i, i < b.length → dramByte t (dst + i) = b.getD i 0) ∧
      t = { s with regs := t.regs, evt := t.evt, dram := t.dram, mem := t.mem, cal := t.cal } := by
  have hserved : ¬ (memoryOff s || memoryBad s) = true := by
    rw [memoryOff_eq_false.mpr hgroups, memoryBad_eq_false.mpr hchannels]
    exact Bool.false_ne_true
  have heq : copyEnd s = dramWrite dst b (rangeRequest dst b.length { s with cal := { s.cal with copy := none } }) := by
    rw [copyEnd, hcopy]
    exact if_neg hserved
  obtain ⟨_, _, _, hframe⟩ := (rangeRequest_requested dst b.length { s with cal := { s.cal with copy := none } }).frame
  rw [heq, hframe]
  have hbyte (j : Nat) := dramByte_write (rangeRequest dst b.length { s with cal := { s.cal with copy := none } }) dst j b
    (by rw [hframe]; exact hd)
  rw [hframe] at hbyte
  refine ⟨rfl, fun j hj => ?_, fun i hi => ?_, rfl⟩
  · rw [hbyte, dif_neg (by omega)]
    rfl
  · rw [hbyte, dif_pos (by omega)]
    simp [hi]

end Sys2Proof.Machine

open Sys2Proof Sys2Proof.Machine in
/-- Settles O48: a calibration by its command and its end, and the copy by its begin and its end. -/
theorem selfCalibration : Obligations.SelfCalibration := by
  unfold Obligations.SelfCalibration
  intro s hr c sent running busy stepOk
  refine ⟨fun l hl => ?_, fun hrun h => ?_, fun hrun d n => ?_, fun q h hrun hq => ?_, fun q d n hrun hq => ?_, fun hb => ?_,
    fun hcopy => ?_, fun dst b hcopy hd hgroups hchannels => ?_⟩
  · have hl : startable s 8 = some l := startable_of_startsNext rfl hl
    refine ⟨fun hkind => ?_, fun hkind => ?_, fun hkind => ⟨fun hrun => ?_, fun hrun => ⟨fun hw => ?_, fun hw hwait hfree => ?_,
      fun hw hwait hfull => ?_, fun hw hwait => ?_⟩⟩, fun hkind => ⟨fun hrun => ?_, fun hrun => ?_⟩⟩
    · exact congrArg Host.Outcome.next ((tdcBegin_eq hl).trans (if_pos hkind))
    · exact congrArg Host.Outcome.next ((sensorsBegin_eq hl).trans (if_pos hkind))
    · exact ⟨_, congrArg Host.Outcome.next (tdcBegin_busy hl hkind hrun), calBusy_effect 2 l.seq s⟩
    · exact ⟨_, congrArg Host.Outcome.next (tdcBegin_idle hl hkind hrun hw), setPhase_live _ _ _, ⟨rfl, rfl, rfl, rfl, rfl, rfl⟩,
        rfl, startTdc_axes l.seq _⟩
    · refine ⟨_, congrArg Host.Outcome.next ((tdcBegin_writing hl hkind hrun hw).trans ((if_pos hwait).trans (if_neg ?_))),
        ⟨rfl, rfl, rfl, rfl, rfl, rfl⟩, rfl, hrun, rfl, setPhase_live _ _ _⟩
      exact Option.not_isSome_iff_eq_none.mpr hfree
    · exact ⟨_, congrArg Host.Outcome.next ((tdcBegin_writing hl hkind hrun hw).trans ((if_pos hwait).trans (if_pos hfull))),
        calBusy_effect 2 l.seq s⟩
    · refine ⟨_, congrArg Host.Outcome.next ((tdcBegin_writing hl hkind hrun hw).trans (if_neg ?_)), finish_ended _ _ _,
        finish_cal _ _ _⟩
      rw [entryWait, hwait]
      exact Bool.false_ne_true
    · exact ⟨_, congrArg Host.Outcome.next ((sensorsBegin_eq hl).trans ((if_neg (not_not.mpr hkind)).trans (if_pos hrun))),
        calBusy_effect 3 l.seq s⟩
    · refine ⟨_, congrArg Host.Outcome.next ((sensorsBegin_eq hl).trans ((if_neg (not_not.mpr hkind)).trans (if_neg ?_))),
        setPhase_live _ _ _, ⟨rfl, rfl, rfl, rfl, rfl, rfl⟩, rfl, rfl, rfl⟩
      exact Option.not_isSome_iff_eq_none.mpr hrun
  · exact congrArg Host.Outcome.next (calEnd_tdc_none hrun)
  · exact congrArg Host.Outcome.next (calEnd_sensors_none hrun)
  · have hend : exec (.calibrationEnd (.tdc h)) s = .next (tdcDone q h s) := congrArg Host.Outcome.next (calEnd_tdc hrun)
    refine ⟨fun hfew => ?_, fun hlen hsum hout => ?_, fun hlen hsum hgood => ?_⟩
    · exact ⟨_, hend, tdcDone_rejects (tdcCode_few hfew) hr hq⟩
    · exact ⟨_, hend, tdcDone_rejects (tdcCode_outside hlen hsum hout) hr hq⟩
    · exact ⟨_, hend, tdcDone_takes (tdcCode_good hlen hsum hgood) hr hq⟩
  · have hend : exec (.calibrationEnd (.sensors d n)) s = .next (sensorsDone q d n s) :=
      congrArg Host.Outcome.next (calEnd_sensors hrun)
    refine ⟨fun hbad => ⟨_, hend, sensorsDone_rejects (sensorsCode_diodes hbad) hr hq⟩, fun hcode hw => ?_,
      fun hcode hw => ⟨_, hend, sensorsDone_waits hcode hw hq⟩⟩
    obtain ⟨hended, hstopped, hpend, hsensors⟩ := sensorsDone_takes hcode hw hr hq
    have htrim (k : Fin 48) := trimmedSensors_n25 hcode k
    rw [← hsensors] at htrim
    refine ⟨_, hend, hended, hstopped, hpend, fun k hk => ?_, fun k hk hslope => ?_⟩
    · have hown := htrim k
      rw [trimAt, if_neg (by omega)] at hown
      exact Int.ofNat_inj.mp hown
    · rw [htrim, trimAt, if_pos hk, newTrim_slope hslope]
  · intro k dst
    have hgo : exec .calCopyGo s = .next (copyBegin s) := congrArg Host.Outcome.next (barWrite_open _ s hb.1 hb.2)
    refine ⟨fun hbad => ?_, fun n hn hfree halign hfits => ?_⟩
    · rw [hgo, copyBegin_eq, if_pos hbad]
    · rw [hgo, copyBegin_starts hn hfree halign hfits]
  · exact congrArg Host.Outcome.next (copyEnd_idle hcopy)
  · exact ⟨_, rfl, copyEnd_effect hcopy hd hgroups hchannels⟩
end
